-- ==== Sys2Proof/Word.lean ====
section
/-! DEFINITION. The word types of the device and their plainest arithmetic (R5). -/

namespace Sys2Proof

/-- A byte (scope chapter, data units). -/
abbrev Byte := BitVec 8
/-- A 32-bit word. -/
abbrev Word := BitVec 32
/-- A 64-bit double word. -/
abbrev DWord := BitVec 64
/-- The 64 data bytes of a line, byte k in bits [8k+7:8k]. -/
abbrev Line := BitVec 512
/-- A byte string, lowest address first. -/
abbrev Bytes := List Byte
/-- A sparse table: what the table holds at each listed key; every other key holds the table's default. -/
abbrev Tbl (α : Type) := List (Nat × α)

end Sys2Proof
end

