-- ==== Sys2Proof/Syntax.lean ====
section
/-! DEFINITION. The commands the device takes: one constructor per row of the opcode table, with the row's operands.
The operands give what the outside (a host, a board, a partner, fabric logic) or an analog front end decides; what the
device decides is in the meanings. A mailbox command carries the mailbox, the slot and the request payload. -/

namespace Sys2Proof

/-- The rails of the first row of R433. -/
inductive BrownRail where
  | vccMarl | vccAux
  deriving DecidableEq, Repr

/-- The board reference inputs (R425). -/
inductive RefClk where
  | sysclk | laneref | mgmtRefclk | xlref
  deriving DecidableEq, Repr

/-- What trips: an on-die sensor, or a Kaolin stack (R440). -/
inductive TripSrc where
  | sensor (i : Fin 64) | stack (p : Fin 4)
  deriving DecidableEq, Repr

/-- The TAP instructions (R459); every other code acts as BYPASS. -/
inductive TapInstr where
  | bypass | idcode | samplePreload | extest | extestPulse | extestTrain | clamp | highz | other (code : Nat)
  deriving DecidableEq, Repr

/-- The masters of the scratchpad (R330). -/
inductive SpdMaster where
  | core | endpoint | silt
  deriving DecidableEq, Repr

/-- What reads an uncorrectable scratchpad word of banks 4 to 7 (R332). -/
inductive SpdVictim where
  | none | slot (m : Fin 24) (i : Fin 8) | job (id : Fin 65536)
  deriving DecidableEq, Repr

/-- The message classes of Silt (R174). -/
inductive Cls where
  | req | snp | rsp | dat
  deriving DecidableEq, Repr

/-- A check-value unit: unit u of a Loam die, or unit m of the Marl die (R268, R288). -/
inductive CrcUnitId where
  | loam (pos : Fin 4) (u : Fin 64) | marl (m : Fin 8)
  deriving DecidableEq, Repr

/-- A register a REGISTER_WRITE names: in a function's BAR0, in Silt register space, among the SPD registers of the
management complex, or in a debug session's block. -/
inductive RegAddr where
  | bar (f : Fin 17) (off : Nat)
  | silt (addr : Nat)
  | spd (off : Nat)
  | dbg (session : Fin 65536) (off : Nat)
  deriving DecidableEq, Repr

/-- A Silt packet: the routing header of R181 field by field, the header payload and the data flits. -/
structure Packet where
  dst : Nat
  src : Nat
  cls : Cls
  epoch : Bool
  plot : Nat
  key : Nat
  op : Nat
  status : Nat
  tag : Nat
  panic : Bool
  poison : Bool
  locked : Bool
  ctx : Nat
  track : Bool
  addr : Nat
  hdr : BitVec 384
  data : List Line
  deriving DecidableEq, Repr

/-- A packet on the network: where it is, and the output code of the input it came in by (R204). -/
structure Flight where
  pkt : Packet
  node : Nat
  inCode : Nat
  deriving DecidableEq, Repr

/-- What training finds on a die-link group: its lanes out of service, and whether its forwarded clock failed (R209). -/
structure GroupTest where
  group : Fin 128
  oos : BitVec 33
  clockLost : Bool
  deriving DecidableEq, Repr

/-- A request at an NAU's fabric request port (R290). -/
structure NauReq where
  op : Nat
  addr : Nat
  lines : Nat
  mask : DWord
  locked : Bool
  tag : Nat
  value : Word
  data : List Line
  panicIn : Bool
  deriving DecidableEq, Repr

/-- One access at a block RAM port (R271, R272): word address in the port's shape, and the word written if it writes. -/
structure BramAcc where
  addr : Nat
  wr : Option (BitVec 72)
  deriving DecidableEq, Repr

/-- What the frame scanner's code finds in a frame it reads: the bad bits of the 4,225 bits of R298, or more than it
can correct. -/
inductive ScanFound where
  | none | correctable (bits : List (Fin 4225)) | uncorrectable
  deriving DecidableEq, Repr

/-- A message unit a port hands its decoder (R100). -/
structure MsgUnit where
  engine : Fin 2
  cls : Nat
  bits : BitVec 512
  len : Fin 65
  poison : Bool
  attached : Option (List Line)
  deriving DecidableEq, Repr

/-- A partner's transmitter request (R69): a preset, or coefficients (pre, main, post). -/
inductive PresetReq where
  | preset (n : Nat) | coeff (pre main post : Nat)
  deriving DecidableEq, Repr

/-- A range that the host programs into an HDM decoder of a link (R79): enabled, base and size in the host's addresses, and the
decoded address of its base. -/
structure HdmRange where
  on : Bool
  base : Nat
  size : Nat
  target : Nat
  deriving DecidableEq, Repr

/-- A PCIe or CXL.io transaction at a coherent port (R75): the link of the switch group the bridges route it to, or none
when it ends at the shell; its payload words, the bytes a read asks for, the HDM decoder it programs, if any, and its tag of 10 or 14
bits (R78). -/
structure Tlp where
  toLink : Option (Fin 16)
  words : List Word
  readLen : Nat
  hdm : Option (Fin 8 × HdmRange)
  tag : Fin 16384 := 0
  deriving DecidableEq, Repr

/-- What the lanes show in a step of a link's training (R74): those on which the partner's training sets arrive (bit k: lane k of the
link), and those whose receive polarity is inverted. -/
structure TrainLanes where
  lanes : BitVec 16
  inverted : BitVec 16
  deriving DecidableEq, Repr

/-- What equalization and the partner show in it (R69, R76): for each lane of the link, how many of the four phases completed and the eyes that
its error sampler measured under the presets tried; and what the partner advertises: its highest rate, flit mode, CXL. -/
structure TrainEq where
  phases : List (Fin 5)
  eyes : List (List Nat)
  partnerRate : Fin 8
  partnerFlit : Bool
  partnerCxl : Bool
  deriving DecidableEq, Repr

/-- A step of a link's training (R69, R74, R76): with the above, the rate tried, and whether the lanes arrive in reversed order. -/
structure TrainStep extends TrainLanes, TrainEq where
  rate : Fin 8
  reversed : Bool
  deriving DecidableEq, Repr

/-- A flit received on a link (R82): whether its CRC fails after FEC, and the FEC symbols corrected on each lane. -/
structure FlitSeen where
  link : Fin 16
  crcFail : Bool
  corrected : List Nat
  deriving DecidableEq, Repr

/-- Power states of a link (R78): active, L1, or its substate L1.1. -/
inductive LinkPower where
  | active | l1 | l11
  deriving DecidableEq, Repr

/-- What comes with a reach lane's packet (R87): the control mask, the FEC mode's corrected and uncorrected codewords. -/
structure ReachSeen where
  mask : Word
  corrected : Nat
  uncorrected : Nat
  deriving DecidableEq, Repr

/-- A partner's request to an endpoint or upstream link (R75, R78): configuration space, DOE discovery of the index-th protocol, or
another DOE protocol. -/
inductive CfgReq where
  | config | discovery (index : Fin 256) | doe
  deriving DecidableEq, Repr

/-- The commands. -/
inductive Instr where
  /-- POR_N_ASSERT (R431). -/
  | porNAssert (lowUs : Nat)
  /-- POR_N_RELEASE (R429). -/
  | porNRelease (bootSrc : BitVec 2)
  /-- LOAM_RESET_RELEASE (R39). -/
  | loamResetRelease (synthBad : List (Fin 4)) (groups : List GroupTest)
  /-- OHMYX_START (R429). -/
  | ohmyxStart (kaolinBad : List (Fin 4))
  /-- MAILBOX_READY (R429). -/
  | mailboxReady
  /-- BROWN_OUT (R433). -/
  | brownOut (rail : BrownRail)
  /-- LOAM_RAIL_LOW (R433). -/
  | loamRailLow (pos : Fin 4)
  /-- VBATT_LOW (R58). -/
  | vbattLow
  /-- RAIL_OUT_OF_LIMITS (R433). -/
  | railOutOfLimits (monitor : Fin 32) (mv : Nat)
  /-- REFCLK_LOSS (R427). -/
  | refclkLoss (input : RefClk)
  /-- THERMAL_WARNING (R440). -/
  | thermalWarning (sensor : Fin 64) (mc : Int)
  /-- THERMAL_CLAMP (R440). -/
  | thermalClamp (sensor : Fin 56)
  /-- CLAMP_END (R440). -/
  | clampEnd (pos : Fin 4)
  /-- THERMAL_TRIP (R441). -/
  | thermalTrip (src : TripSrc)
  /-- VID_RAMP_STEP (R436). -/
  | vidRampStep (pos : Fin 4)
  /-- VOLTAGE_DRIFT (R436). -/
  | voltageDrift (pos : Fin 4)
  /-- TAMPER (R59). -/
  | tamper
  /-- SYNTH_LOCK_LOSS (R38). -/
  | synthLockLoss (pos : Fin 4)
  /-- TAP_INSTRUCTION (R460). -/
  | tapInstruction (inst : TapInstr)
  /-- TAP_RESET (R460). -/
  | tapReset
  /-- BRD_EVT_INPUT (R381). -/
  | brdEvtInput (i : Fin 2)
  /-- MBX_DOORBELL (R339). -/
  | mbxDoorbell (m : Fin 17) (value : Word)
  /-- MBX_ACK (R338). -/
  | mbxAck (m : Fin 17) (value : Word)
  /-- SLOT_ZEROIZED (R338). -/
  | slotZeroized (m : Fin 17) (slot : Fin 8)
  /-- MCTP_REQUEST (R334). -/
  | mctpRequest (pecOk : Bool) (header : BitVec 128) (payload : Bytes)
  /-- SET_ENDPOINT_ID (R334). -/
  | setEndpointId (eid : Byte)
  /-- GET_ENDPOINT_ID (R334). -/
  | getEndpointId
  /-- GET_MCTP_VERSION_SUPPORT (R334). -/
  | getMctpVersionSupport (msgType : Byte)
  /-- GET_MESSAGE_TYPE_SUPPORT (R334). -/
  | getMessageTypeSupport
  /-- UART_FRAME (R335). -/
  | uartFrame (frame : Bytes)
  /-- MONITOR_FRAME (R406). -/
  | monitorFrame (header : BitVec 128) (payload : Bytes)
  /-- TURN (R345). -/
  | turn (us : Nat)
  /-- PK_OP_COMPLETE (R345). -/
  | pkOpComplete
  /-- SATURATION (R350). -/
  | saturation
  /-- MGMT_WATCHDOG_EXPIRY (R328). -/
  | mgmtWatchdogExpiry
  /-- LOCKSTEP_MISMATCH (R328). -/
  | lockstepMismatch
  /-- SCRATCHPAD_UNCORRECTABLE (R328). -/
  | scratchpadUncorrectable (word : Fin 524288) (victim : SpdVictim)
  /-- MANAGEMENT_RESTART_DONE (R329). -/
  | managementRestartDone
  /-- FLR (R91). -/
  | flr (f : Fin 17)
  /-- VF_DISABLE (R91). -/
  | vfDisable (numVfs : Fin 17)
  /-- ENDPOINT_HOT_RESET (R434). -/
  | endpointHotReset
  /-- FW_PIECE_TIMEOUT (R360). -/
  | fwPieceTimeout
  /-- SPD_BANK_OWNER_WRITE (R330). -/
  | spdBankOwnerWrite (bank : Fin 8) (v : Word)
  /-- SPD_SET_ALIAS_WRITE (R331). -/
  | spdSetAliasWrite (master : SpdMaster) (word : Fin 524288) (v : Word)
  /-- SPD_CLEAR_ALIAS_WRITE (R331). -/
  | spdClearAliasWrite (master : SpdMaster) (word : Fin 524288) (v : Word)
  /-- SPD_ERR_READ (R332). -/
  | spdErrRead
  /-- SPD_CNT_CLR (R332). -/
  | spdCntClr (v : Word)
  /-- MBX_ERR_READ (R343). -/
  | mbxErrRead (m : Fin 17)
  /-- MBX_CNT_CLR (R343). -/
  | mbxCntClr (m : Fin 17) (v : Word)
  /-- REGISTER_WRITE (R6). -/
  | registerWrite (a : RegAddr) (v : Word)
  /-- CAPS (R357). -/
  | caps (m : Fin 24) (slot : Fin 8) (p : Bytes)
  /-- ID_CERT (R357). -/
  | idCert (m : Fin 24) (slot : Fin 8) (p : Bytes)
  /-- JOB_STATUS (R357). -/
  | jobStatus (m : Fin 24) (slot : Fin 8) (p : Bytes)
  /-- JOB_CANCEL (R349). -/
  | jobCancel (m : Fin 24) (slot : Fin 8) (p : Bytes)
  /-- JOB_LIST (R358). -/
  | jobList (m : Fin 24) (slot : Fin 8) (p : Bytes)
  /-- CFG_LOAD (R316). -/
  | cfgLoad (m : Fin 24) (slot : Fin 8) (p : Bytes)
  /-- CFG_CLEAR (R296). -/
  | cfgClear (m : Fin 24) (slot : Fin 8) (p : Bytes)
  /-- CFG_STATUS (R360). -/
  | cfgStatus (m : Fin 24) (slot : Fin 8) (p : Bytes)
  /-- CFG_STORE (R312). -/
  | cfgStore (m : Fin 24) (slot : Fin 8) (p : Bytes)
  /-- CFG_ERASE (R312). -/
  | cfgErase (m : Fin 24) (slot : Fin 8) (p : Bytes)
  /-- CFG_BOOT_SET (R312). -/
  | cfgBootSet (m : Fin 24) (slot : Fin 8) (p : Bytes)
  /-- CFG_DIR (R359). -/
  | cfgDir (m : Fin 24) (slot : Fin 8) (p : Bytes)
  /-- CFG_READBACK (R323). -/
  | cfgReadback (m : Fin 24) (slot : Fin 8) (p : Bytes)
  /-- CFG_SCAN_STATUS (R360). -/
  | cfgScanStatus (m : Fin 24) (slot : Fin 8) (p : Bytes)
  /-- FW_UPDATE (R327). -/
  | fwUpdate (m : Fin 24) (slot : Fin 8) (p : Bytes)
  /-- FW_ACTIVATE (R327). -/
  | fwActivate (m : Fin 24) (slot : Fin 8) (p : Bytes)
  /-- PROFILE_LOAD (R143). -/
  | profileLoad (m : Fin 24) (slot : Fin 8) (p : Bytes)
  /-- PROFILE_SWAP (R144). -/
  | profileSwap (m : Fin 24) (slot : Fin 8) (p : Bytes)
  /-- PROFILE_UNLOAD (R146). -/
  | profileUnload (m : Fin 24) (slot : Fin 8) (p : Bytes)
  /-- PROFILE_READ (R359). -/
  | profileRead (m : Fin 24) (slot : Fin 8) (p : Bytes)
  /-- PROFILE_STATS (R138). -/
  | profileStats (m : Fin 24) (slot : Fin 8) (p : Bytes)
  /-- HOME_MAP_SET (R97). -/
  | homeMapSet (m : Fin 24) (slot : Fin 8) (p : Bytes)
  /-- HOME_MAP_READ (R359). -/
  | homeMapRead (m : Fin 24) (slot : Fin 8) (p : Bytes)
  /-- AGENT_BIND (R104). -/
  | agentBind (m : Fin 24) (slot : Fin 8) (p : Bytes)
  /-- AGENT_READ (R359). -/
  | agentRead (m : Fin 24) (slot : Fin 8) (p : Bytes)
  /-- PCE_SF_ASSIGN (R106). -/
  | pceSfAssign (m : Fin 24) (slot : Fin 8) (p : Bytes)
  /-- PCE_REMAP (R96). -/
  | pceRemap (m : Fin 24) (slot : Fin 8) (p : Bytes)
  /-- PCE_STATUS (R117). -/
  | pceStatus (m : Fin 24) (slot : Fin 8) (p : Bytes)
  /-- PLOT_CREATE (R48). -/
  | plotCreate (m : Fin 24) (slot : Fin 8) (p : Bytes)
  /-- PLOT_CHANGE (R363). -/
  | plotChange (m : Fin 24) (slot : Fin 8) (p : Bytes)
  /-- PLOT_DESTROY (R52). -/
  | plotDestroy (m : Fin 24) (slot : Fin 8) (p : Bytes)
  /-- PLOT_RESET (R51). -/
  | plotReset (m : Fin 24) (slot : Fin 8) (p : Bytes)
  /-- PLOT_BLANK_ZEROING_DONE (R363). -/
  | plotBlankZeroingDone (m : Fin 24) (slot : Fin 8) (p : Bytes)
  /-- PLOT_LOAD (R317). -/
  | plotLoad (m : Fin 24) (slot : Fin 8) (p : Bytes)
  /-- PLOT_STATUS (R361). -/
  | plotStatus (m : Fin 24) (slot : Fin 8) (p : Bytes)
  /-- FLOW_CONFIG (R157). -/
  | flowConfig (m : Fin 24) (slot : Fin 8) (p : Bytes)
  /-- FLOW_STATUS (R156). -/
  | flowStatus (m : Fin 24) (slot : Fin 8) (p : Bytes)
  /-- SLOT_LEND (R161). -/
  | slotLend (m : Fin 24) (slot : Fin 8) (p : Bytes)
  /-- SLOT_RECLAIM (R161). -/
  | slotReclaim (m : Fin 24) (slot : Fin 8) (p : Bytes)
  /-- GRN_CONFIG (R168). -/
  | grnConfig (m : Fin 24) (slot : Fin 8) (p : Bytes)
  /-- GRN_STATUS (R169). -/
  | grnStatus (m : Fin 24) (slot : Fin 8) (p : Bytes)
  /-- KEY_IMPORT (R62). -/
  | keyImport (m : Fin 24) (slot : Fin 8) (p : Bytes)
  /-- KEY_DROP (R63). -/
  | keyDrop (m : Fin 24) (slot : Fin 8) (p : Bytes)
  /-- ATTEST (R64). -/
  | attest (m : Fin 24) (slot : Fin 8) (p : Bytes)
  /-- VAULT_STATUS (R365). -/
  | vaultStatus (m : Fin 24) (slot : Fin 8) (p : Bytes)
  /-- FUSE_PROG (R57). -/
  | fuseProg (m : Fin 24) (slot : Fin 8) (p : Bytes)
  /-- BBRAM_KEY_WRITE (R57). -/
  | bbramKeyWrite (m : Fin 24) (slot : Fin 8) (p : Bytes)
  /-- BBRAM_CLEAR (R58). -/
  | bbramClear (m : Fin 24) (slot : Fin 8) (p : Bytes)
  /-- TAMPER_CLEAR (R59). -/
  | tamperClear (m : Fin 24) (slot : Fin 8) (p : Bytes)
  /-- MEM_READ (R367). -/
  | memRead (m : Fin 24) (slot : Fin 8) (p : Bytes)
  /-- MEM_WRITE (R367). -/
  | memWrite (m : Fin 24) (slot : Fin 8) (p : Bytes)
  /-- KAO_CONFIG (R367). -/
  | kaoConfig (m : Fin 24) (slot : Fin 8) (p : Bytes)
  /-- KAO_STATUS (R367). -/
  | kaoStatus (m : Fin 24) (slot : Fin 8) (p : Bytes)
  /-- KAO_MAP_SET (R230). -/
  | kaoMapSet (m : Fin 24) (slot : Fin 8) (p : Bytes)
  /-- KAO_OP_SET (R241). -/
  | kaoOpSet (m : Fin 24) (slot : Fin 8) (p : Bytes)
  /-- KAO_CHAN_OFFLINE (R244). -/
  | kaoChanOffline (m : Fin 24) (slot : Fin 8) (p : Bytes)
  /-- KAO_CHAN_ONLINE (R244). -/
  | kaoChanOnline (m : Fin 24) (slot : Fin 8) (p : Bytes)
  /-- KAO_BIST (R244). -/
  | kaoBist (m : Fin 24) (slot : Fin 8) (p : Bytes)
  /-- KAO_SCRUB (R261). -/
  | kaoScrub (m : Fin 24) (slot : Fin 8) (p : Bytes)
  /-- KAO_INJECT (R263). -/
  | kaoInject (m : Fin 24) (slot : Fin 8) (p : Bytes)
  /-- KAO_PATROL_SET (R259). -/
  | kaoPatrolSet (m : Fin 24) (slot : Fin 8) (p : Bytes)
  /-- PEAT_CONFIG (R264). -/
  | peatConfig (m : Fin 24) (slot : Fin 8) (p : Bytes)
  /-- PEAT_SCRUB (R266). -/
  | peatScrub (m : Fin 24) (slot : Fin 8) (p : Bytes)
  /-- PEAT_STATUS (R266). -/
  | peatStatus (m : Fin 24) (slot : Fin 8) (p : Bytes)
  /-- SILT_ROUTE_LOAD (R197). -/
  | siltRouteLoad (m : Fin 24) (slot : Fin 8) (p : Bytes)
  /-- SILT_ROUTE_READ (R369). -/
  | siltRouteRead (m : Fin 24) (slot : Fin 8) (p : Bytes)
  /-- SILT_BYPASS (R200). -/
  | siltBypass (m : Fin 24) (slot : Fin 8) (p : Bytes)
  /-- SILT_STATUS (R369). -/
  | siltStatus (m : Fin 24) (slot : Fin 8) (p : Bytes)
  /-- SILT_TARGET_REVIVE (R201). -/
  | siltTargetRevive (m : Fin 24) (slot : Fin 8) (p : Bytes)
  /-- SILT_PROBE_SET (R203). -/
  | siltProbeSet (m : Fin 24) (slot : Fin 8) (p : Bytes)
  /-- SILT_TRACE_READ (R205). -/
  | siltTraceRead (m : Fin 24) (slot : Fin 8) (p : Bytes)
  /-- SILT_LEASE_SET (R194). -/
  | siltLeaseSet (m : Fin 24) (slot : Fin 8) (p : Bytes)
  /-- NAU_RATE_SET (R191). -/
  | nauRateSet (m : Fin 24) (slot : Fin 8) (p : Bytes)
  /-- NAU_CONFIG (R369). -/
  | nauConfig (m : Fin 24) (slot : Fin 8) (p : Bytes)
  /-- NAU_STATUS (R369). -/
  | nauStatus (m : Fin 24) (slot : Fin 8) (p : Bytes)
  /-- PORT_CONFIG (R84). -/
  | portConfig (m : Fin 24) (slot : Fin 8) (p : Bytes)
  /-- PORT_RESET (R84). -/
  | portReset (m : Fin 24) (slot : Fin 8) (p : Bytes)
  /-- PORT_LOOPBACK (R83). -/
  | portLoopback (m : Fin 24) (slot : Fin 8) (p : Bytes)
  /-- PORT_STATUS (R371). -/
  | portStatus (m : Fin 24) (slot : Fin 8) (p : Bytes)
  /-- IDE_KEY_SET (R85). -/
  | ideKeySet (m : Fin 24) (slot : Fin 8) (p : Bytes)
  /-- LANE_STATUS (R73). -/
  | laneStatus (m : Fin 24) (slot : Fin 8) (p : Bytes)
  /-- LANE_MARGIN (R371). -/
  | laneMargin (m : Fin 24) (slot : Fin 8) (p : Bytes)
  /-- LANE_SLEEP (R371). -/
  | laneSleep (m : Fin 24) (slot : Fin 8) (p : Bytes)
  /-- REACH_CONFIG (R88). -/
  | reachConfig (m : Fin 24) (slot : Fin 8) (p : Bytes)
  /-- DLINK_STATUS (R208). -/
  | dlinkStatus (m : Fin 24) (slot : Fin 8) (p : Bytes)
  /-- DLINK_SWAP (R212). -/
  | dlinkSwap (m : Fin 24) (slot : Fin 8) (p : Bytes)
  /-- DLINK_HALVE (R212). -/
  | dlinkHalve (m : Fin 24) (slot : Fin 8) (p : Bytes)
  /-- DLINK_MARGIN (R211). -/
  | dlinkMargin (m : Fin 24) (slot : Fin 8) (p : Bytes)
  /-- DIE_ISOLATE (R216). -/
  | dieIsolate (m : Fin 24) (slot : Fin 8) (p : Bytes)
  /-- KAO_CHAN_REPLACE (R224). -/
  | kaoChanReplace (m : Fin 24) (slot : Fin 8) (p : Bytes)
  /-- ROW_SPARE (R223). -/
  | rowSpare (m : Fin 24) (slot : Fin 8) (p : Bytes)
  /-- TILTH_POLICY (R220). -/
  | tilthPolicy (m : Fin 24) (slot : Fin 8) (p : Bytes)
  /-- TILTH_STATUS (R226). -/
  | tilthStatus (m : Fin 24) (slot : Fin 8) (p : Bytes)
  /-- TILTH_CLEAR (R221). -/
  | tilthClear (m : Fin 24) (slot : Fin 8) (p : Bytes)
  /-- CRC_SELFTEST (R286). -/
  | crcSelftest (m : Fin 24) (slot : Fin 8) (p : Bytes)
  /-- PEAT_RETIRE (R267). -/
  | peatRetire (m : Fin 24) (slot : Fin 8) (p : Bytes)
  /-- EVT_ROUTE (R382). -/
  | evtRoute (m : Fin 24) (slot : Fin 8) (p : Bytes)
  /-- EVT_REARM (R388). -/
  | evtRearm (m : Fin 24) (slot : Fin 8) (p : Bytes)
  /-- EVT_STATUS (R384). -/
  | evtStatus (m : Fin 24) (slot : Fin 8) (p : Bytes)
  /-- ERR_READ (R395). -/
  | errRead (m : Fin 24) (slot : Fin 8) (p : Bytes)
  /-- DUMP_LIST (R405). -/
  | dumpList (m : Fin 24) (slot : Fin 8) (p : Bytes)
  /-- DUMP_READ (R405). -/
  | dumpRead (m : Fin 24) (slot : Fin 8) (p : Bytes)
  /-- DUMP_POLICY (R404). -/
  | dumpPolicy (m : Fin 24) (slot : Fin 8) (p : Bytes)
  /-- DUMP_ERASE (R405). -/
  | dumpErase (m : Fin 24) (slot : Fin 8) (p : Bytes)
  /-- DBG_OPEN (R407). -/
  | dbgOpen (m : Fin 24) (slot : Fin 8) (p : Bytes)
  /-- DBG_CLOSE (R408). -/
  | dbgClose (m : Fin 24) (slot : Fin 8) (p : Bytes)
  /-- DBG_FREEZE (R417). -/
  | dbgFreeze (m : Fin 24) (slot : Fin 8) (p : Bytes)
  /-- DBG_RESUME (R420). -/
  | dbgResume (m : Fin 24) (slot : Fin 8) (p : Bytes)
  /-- DBG_READ (R414). -/
  | dbgRead (m : Fin 24) (slot : Fin 8) (p : Bytes)
  /-- DBG_WRITE (R414). -/
  | dbgWrite (m : Fin 24) (slot : Fin 8) (p : Bytes)
  /-- DBG_UNIT_SET (R411). -/
  | dbgUnitSet (m : Fin 24) (slot : Fin 8) (p : Bytes)
  /-- DBG_STATUS (R376). -/
  | dbgStatus (m : Fin 24) (slot : Fin 8) (p : Bytes)
  /-- DBG_CALL (R377). -/
  | dbgCall (m : Fin 24) (slot : Fin 8) (p : Bytes)
  /-- VDBG_OPEN (R66). -/
  | vdbgOpen (m : Fin 24) (slot : Fin 8) (p : Bytes)
  /-- TEL_READ (R378). -/
  | telRead (m : Fin 24) (slot : Fin 8) (p : Bytes)
  /-- VID_SET (R436). -/
  | vidSet (m : Fin 24) (slot : Fin 8) (p : Bytes)
  /-- TEL_THRESH (R378). -/
  | telThresh (m : Fin 24) (slot : Fin 8) (p : Bytes)
  /-- TELEMETRY_UPDATE (R445). -/
  | telemetryUpdate
  /-- NAU_ERR_READ (R193). -/
  | nauErrRead (node : Fin 1024)
  /-- NAU_CNT_CLR (R193). -/
  | nauCntClr (node : Fin 1024) (v : Word)
  /-- NAU_RATE_WRITE (R191). -/
  | nauRateWrite (node : Fin 1024) (cls : Cls) (v : Word)
  /-- KAO_CH_ERR_READ (R245). -/
  | kaoChErrRead (stack : Fin 4) (ch : Fin 17)
  /-- KAO_CNT_CLR (R245). -/
  | kaoCntClr (stack : Fin 4) (ch : Fin 17) (v : Word)
  /-- KAO_PROT_CLR (R262). -/
  | kaoProtClr (stack : Fin 4) (front : Fin 8) (v : Word)
  /-- KAO_INJ_CTRL_WRITE (R262). -/
  | kaoInjCtrlWrite (stack : Fin 4) (front : Fin 8) (v : Word)
  /-- KAO_INJ_STATUS_READ (R262). -/
  | kaoInjStatusRead (stack : Fin 4) (front : Fin 8)
  /-- GRT_ERR_READ (R282). -/
  | grtErrRead (pos : Fin 4) (g : Fin 480)
  /-- GRT_SEQ_RUN (R281). -/
  | grtSeqRun (pos : Fin 4) (g : Fin 480) (v : Word)
  /-- GRT_SEQ_STOP (R281). -/
  | grtSeqStop (pos : Fin 4) (g : Fin 480) (v : Word)
  /-- GRT_PROG_WRITE (R281). -/
  | grtProgWrite (pos : Fin 4) (g : Fin 480) (i : Fin 64) (v : Word)
  /-- CRC_CTRL_WRITE (R285). -/
  | crcCtrlWrite (u : CrcUnitId) (v : Word)
  /-- CRC_ALIVE_WRITE (R284). -/
  | crcAliveWrite (u : CrcUnitId) (v : Word)
  /-- CRC_VAL_WRITE (R285). -/
  | crcValWrite (u : CrcUnitId) (hi : Bool) (v : Word)
  /-- CRC_STATUS_READ (R287). -/
  | crcStatusRead (u : CrcUnitId)
  /-- CRC_CNT_CLR (R287). -/
  | crcCntClr (u : CrcUnitId) (v : Word)
  /-- CRC_FEED_B (R289). -/
  | crcFeedB (m : Fin 8) (v : Word)
  /-- CRC_FEED_H (R289). -/
  | crcFeedH (m : Fin 8) (v : Word)
  /-- CRC_FEED_W (R289). -/
  | crcFeedW (m : Fin 8) (v : Word)
  /-- CRC_END (R289). -/
  | crcEnd (m : Fin 8) (v : Word)
  /-- SILT_BRK_HIT_READ (R413). -/
  | siltBrkHitRead (session : Fin 65536)
  /-- SILT_DBG_CORE_WRITE (R422). -/
  | siltDbgCoreWrite (session : Fin 65536) (v : Word)
  /-- CORE_HALT_EXPIRY (R422). -/
  | coreHaltExpiry
  /-- NAU_REQUEST (R190). -/
  | nauRequest (node : Fin 1024) (r : NauReq)
  /-- ANSWER_TIMEOUT (R189). -/
  | answerTimeout (node : Fin 1024) (tag : Nat)
  /-- COHERENT_OUT (R290). -/
  | coherentOut (node : Fin 1024) (header : BitVec 128) (data : Bytes)
  /-- PRODUCER_GRAIN (R160). -/
  | producerGrain (node : Fin 1024) (flow : Fin 8192) (user : DWord) (pay : Option Line)
  /-- SLOT_OPEN (R162). -/
  | slotOpen (node : Fin 1024) (slot : Fin 256) (mask : DWord)
  /-- SLOT_CLOSE (R162). -/
  | slotClose (node : Fin 1024) (slot : Fin 256)
  /-- ENTRY_TAKE (R292). -/
  | entryTake (node : Fin 1024) (slot : Fin 256) (entry : Fin 3)
  /-- DIRECTIVE_WRITE (R166). -/
  | directiveWrite (node : Fin 1024) (d : BitVec 128) (data : Option Line)
  /-- CRC_PORT_FEED (R283). -/
  | crcPortFeed (pos : Fin 4) (unit : Fin 64) (bytes : Bytes)
  /-- CRC_PORT_END (R284). -/
  | crcPortEnd (pos : Fin 4) (unit : Fin 64) (alive : Byte) (check : DWord)
  /-- BRAM_ACCESS (R272). -/
  | bramAccess (pos : Fin 4) (block : Fin 5400) (a : Option BramAcc) (b : Option BramAcc) (near : Bool)
  /-- GRIT_ISSUE (R279). -/
  | gritIssue (pos : Fin 4) (g : Fin 480)
  /-- GRIT_EVENT (R280). -/
  | gritEvent (pos : Fin 4) (g : Fin 480)
  /-- GRIT_GO (R279). -/
  | gritGo (pos : Fin 4) (g : Fin 480)
  /-- GRIT_OUT_ACCEPT (R279). -/
  | gritOutAccept (pos : Fin 4) (g : Fin 480)
  /-- OPERAND_LOAD (R277). -/
  | operandLoad (pos : Fin 4) (g : Fin 480) (tile : Fin 8) (addr : Fin 512) (v : BitVec 24)
  /-- FABRIC_EVENT_OUTPUT (R381). -/
  | fabricEventOutput (pos : Fin 4) (region : Fin 64)
  /-- PLOT_WATCHDOG_KICK (R423). -/
  | plotWatchdogKick (pos : Fin 4) (region : Fin 64)
  /-- PLOT_WATCHDOG_EXPIRY (R423). -/
  | plotWatchdogExpiry (pos : Fin 4) (region : Fin 64)
  /-- RESERVATION_TOKEN_REQUEST (R186). -/
  | reservationTokenRequest (src : Fin 1024) (dst : Fin 1024) (cls : Cls) (n : Nat)
  /-- TOKEN_RETURN (R186). -/
  | tokenReturn (src : Fin 1024) (dst : Fin 1024) (cls : Cls)
  /-- SILT_PACKET_FORWARD (R178). -/
  | siltPacketForward (f : Flight)
  /-- LINK_CRC_FAIL (R185). -/
  | linkCrcFail (node : Fin 1024) (code : Fin 7) (data : Bool)
  /-- DEAD_TARGET_STALL (R201). -/
  | deadTargetStall (node : Fin 1024)
  /-- SHADOW_BANK_ACK (R197). -/
  | shadowBankAck (node : Fin 1024)
  /-- ROUTER_ACK_TIMEOUT (R197). -/
  | routerAckTimeout (node : Fin 1024)
  /-- ATTACHMENT_EPOCH_SWITCH (R199). -/
  | attachmentEpochSwitch (node : Fin 1024) (cls : Cls)
  /-- ROUTE_CHANGE_END (R197). -/
  | routeChangeEnd
  /-- LEASE_EXPIRY (R195). -/
  | leaseExpiry (line : Nat)
  /-- LOCK_BROKEN_NOTICE (R195). -/
  | lockBrokenNotice (node : Fin 1024)
  /-- READ (R250). -/
  | read (p : Packet)
  /-- WRITE (R250). -/
  | write (p : Packet)
  /-- WRITE_PART (R236). -/
  | writePart (p : Packet)
  /-- LOCK_READ (R194). -/
  | lockRead (p : Packet)
  /-- UNLOCK_WRITE (R195). -/
  | unlockWrite (p : Packet)
  /-- UNLOCK (R194). -/
  | unlock (p : Packet)
  /-- REG_READ (R462). -/
  | regRead (p : Packet)
  /-- REG_WRITE (R462). -/
  | regWrite (p : Packet)
  /-- MSG (R183). -/
  | msg (p : Packet)
  /-- GRAIN_CREATE (R168). -/
  | grainCreate (p : Packet)
  /-- GRAIN_PUSH (R163). -/
  | grainPush (p : Packet)
  /-- DIRECTIVE (R120). -/
  | directive (p : Packet)
  /-- DIR_REPORT (R164). -/
  | dirReport (p : Packet)
  /-- STREAM (R87). -/
  | stream (p : Packet)
  /-- EVENT (R183). -/
  | event (p : Packet)
  /-- FRAME (R183). -/
  | frame (p : Packet)
  /-- COMPLETION (R151). -/
  | completion (p : Packet)
  /-- DATA (R183). -/
  | data (p : Packet)
  /-- DELIVERED (R187). -/
  | delivered (p : Packet)
  /-- KAO_SCHEDULE (R234). -/
  | kaoSchedule (stack : Fin 4) (ch : Fin 17)
  /-- LINE_READ_COMPLETE (R249). -/
  | lineReadComplete (stack : Fin 4) (ch : Fin 17)
  /-- REFRESH_DUE (R237). -/
  | refreshDue (stack : Fin 4) (ch : Fin 17) (bank : Fin 32)
  /-- ACTIVATION_TABLE_CLEAR (R238). -/
  | activationTableClear (stack : Fin 4) (ch : Fin 17)
  /-- OPEN_PAGE_TIMEOUT (R234). -/
  | openPageTimeout (stack : Fin 4) (ch : Fin 17) (bank : Fin 32)
  /-- STACK_TEMP_HIGH (R237). -/
  | stackTempHigh (stack : Fin 4)
  /-- PERIODIC_CALIBRATION (R242). -/
  | periodicCalibration (stack : Fin 4) (ch : Fin 17) (ok : Bool)
  /-- PATROL_READ (R259). -/
  | patrolRead (stack : Fin 4) (ch : Fin 17)
  /-- PATROL_LAP_END (R251). -/
  | patrolLapEnd (stack : Fin 4) (ch : Fin 17)
  /-- FORCED_SWEEP (R251). -/
  | forcedSweep (stack : Fin 4) (granule : Fin 4096)
  /-- ROW_SPARE_AUTO (R223). -/
  | rowSpareAuto (stack : Fin 4) (ch : Fin 17) (bank : Fin 32) (row : Fin 16384)
  /-- CHANNEL_STOPS_ANSWERING (R224). -/
  | channelStopsAnswering (stack : Fin 4)
  /-- BLOCK_RETIRE (R267). -/
  | blockRetire (block : Fin 8192)
  /-- FRAME_WRITER_BLOCK (R309). -/
  | frameWriterBlock (job : Fin 65536) (block : Bytes)
  /-- CHAIN_SEGMENT (R315). -/
  | chainSegment (container : Bytes)
  /-- CHAIN_LOCK_LOSS (R315). -/
  | chainLockLoss (pair : Fin 4)
  /-- FRAME_SCAN_READ (R325). -/
  | frameScanRead (addr : Word) (found : ScanFound)
  /-- DRAIN_COMPLETE (R16). -/
  | drainComplete (job : Fin 65536)
  /-- DRAIN_TIMEOUT (R18). -/
  | drainTimeout (job : Fin 65536)
  /-- DECODE (R100). -/
  | decode (port : Fin 8) (u : MsgUnit)
  /-- EVALUATE (R125). -/
  | evaluate (slice : Fin 16)
  /-- CONTINUE (R134). -/
  | continueChain (slice : Fin 16) (trk : Fin 1024)
  /-- DIRECTORY_FETCH_COMPLETE (R113). -/
  | directoryFetchComplete (slice : Fin 16) (trk : Fin 1024) (status : Byte)
  /-- LOCK_QUEUE_HEAD (R115). -/
  | lockQueueHead (slice : Fin 16) (trk : Fin 1024)
  /-- DELIVERY_REPORT (R114). -/
  | deliveryReport (slice : Fin 16) (trk : Fin 1024) (status : Byte)
  /-- PARKED_REQUEST_SERVE (R116). -/
  | parkedRequestServe (slice : Fin 16)
  /-- EMISSION (R137). -/
  | emission (slice : Fin 16)
  /-- ESCALATION_TIMEOUT (R121). -/
  | escalationTimeout (slice : Fin 16) (trk : Fin 1024)
  /-- DROP_NOTICE (R171). -/
  | dropNotice (slice : Fin 16) (trk : Fin 1024) (tgen : Fin 16) (status : Byte)
  /-- GRAIN_REFILL (R168). -/
  | grainRefill (pos : Fin 4)
  /-- SLOT_FILL (R163). -/
  | slotFill (pos : Fin 4) (slot : Fin 256)
  /-- LINK_TRAINING (R76). -/
  | linkTraining (link : Fin 16) (rate : Fin 8) (lanes : TrainLanes) (reversed : Bool) (eq : TrainEq)
  /-- LINK_UP (R76). -/
  | linkUp (link : Fin 16)
  /-- TRAINING_TIMEOUT (R77). -/
  | trainingTimeout (link : Fin 16)
  /-- TRAINING_RETRY (R77). -/
  | trainingRetry (link : Fin 16)
  /-- LOSS_OF_SIGNAL (R71). -/
  | lossOfSignal (lane : Fin 160) (ns : Nat)
  /-- LOSS_OF_LOCK (R71). -/
  | lossOfLock (lane : Fin 160) (ns : Nat) (quadPll : Bool)
  /-- LINK_DOWN (R81). -/
  | linkDown (link : Fin 16)
  /-- VIRAL_RECEIVED (R82). -/
  | viralReceived (link : Fin 16)
  /-- IDE_INTEGRITY_FAIL (R86). -/
  | ideIntegrityFail (link : Fin 16)
  /-- FLIT_REPLAY (R82). -/
  | flitReplay (flit : FlitSeen)
  /-- DFE_ADAPTATION_UPDATE (R70). -/
  | dfeAdaptationUpdate (lane : Fin 160) (v : Nat)
  /-- PARTNER_PRESET_REQUEST (R69). -/
  | partnerPresetRequest (lane : Fin 128) (req : PresetReq)
  /-- PARTNER_MARGIN_REQUEST (R78). -/
  | partnerMarginRequest (lane : Fin 128) (cmd : Word)
  /-- CONFIG_SPACE_FORWARD (R293). -/
  | configSpaceForward (link : Fin 16) (req : CfgReq) (off : Fin 4096) (wr : Option Word)
  /-- REACH_RECEIVE (R88). -/
  | reachReceive (lane : Fin 32) (pkt : Bytes) (seen : ReachSeen)
  /-- REACH_UNDERFLOW (R88). -/
  | reachUnderflow (lane : Fin 32)
  /-- DLINK_MARGIN_SAMPLE (R211). -/
  | dlinkMarginSample (group : Fin 128) (margins : List (Byte × Byte))
  /-- PLANNED_SWAP_AUTO (R212). -/
  | plannedSwapAuto (group : Fin 128) (lane : Fin 33)
  /-- LANE_CHECK (R213). -/
  | laneCheck (group : Fin 128) (bad : BitVec 33)
  /-- TILTH_DETOUR (R219). -/
  | tilthDetour (node : Fin 1024) (code : Fin 7)
  /-- DIE_ISOLATION (R217). -/
  | dieIsolation (pos : Fin 4)
  /-- SOURCE_RAISE (R387). -/
  | sourceRaise (src : Fin 768)
  /-- COALESCE_DELIVERY (R387). -/
  | coalesceDelivery (src : Fin 768)
  /-- COALESCING_END (R387). -/
  | coalescingEnd (src : Fin 768)
  /-- AUTO_MASKED (R388). -/
  | autoMasked (src : Fin 768)
  /-- HANDLING_WINDOW_CLOSE (R394). -/
  | handlingWindowClose (seq : Word)
  /-- DUMP_WRITE (R397). -/
  | dumpWrite
  /-- BREAK_MATCH (R412). -/
  | breakMatch (session : Fin 65536) (point : Fin 3) (node : Fin 1024) (p : Packet)
  /-- SOFT_HALT_COMPLETE (R417). -/
  | softHaltComplete (plot : Fin 17)
  /-- HALT_LEASE_BOUND (R417). -/
  | haltLeaseBound (plot : Fin 17)
  /-- RAIL_RECOVERY (R433). -/
  | railRecovery (bootSrc : BitVec 2)
  /-- REFCLK_RETURN (R427). -/
  | refclkReturn (input : RefClk)
  /-- THERMAL_WARNING_END (R440). -/
  | thermalWarningEnd (sensor : Fin 64) (mc : Int)
  /-- KAOLIN_STACK_HOT (R237). -/
  | kaolinStackHot (stack : Fin 4) (hot : Bool)
  /-- LANE_RETURN (R72). -/
  | laneReturn (lane : Fin 160)
  /-- DLINK_FORWARDED_CLOCK_LOSS (R214). -/
  | dlinkForwardedClockLoss (group : Fin 128)
  /-- RANDOM_SOURCE_HEALTH_FAILURE (R380). -/
  | randomSourceHealthFailure
  /-- NUMVFS_WRITE (R91). -/
  | numvfsWrite (n : Fin 17)
  /-- MSIX_VECTOR_UNMASK (R91). -/
  | msixVectorUnmask (f : Fin 17) (v : Fin 64)
  /-- SLOT_REQUEST_WRITE (R338). -/
  | slotRequestWrite (m : Fin 17) (slot : Fin 8) (off : Fin 2048) (data : Bytes)
  /-- FORCED_SWEEP_END (R251). -/
  | forcedSweepEnd (stack : Fin 4) (granule : Fin 4096)
  /-- NAU_REGULATOR_REFILL (R191). -/
  | nauRegulatorRefill (node : Fin 1024)
  /-- BRD_EVT_RELEASE (R381). -/
  | brdEvtRelease (i : Fin 2)
  /-- FABRIC_EVENT_OUTPUT_FALL (R381). -/
  | fabricEventOutputFall (pos : Fin 4) (region : Fin 64)
  /-- LINK_POWER_STATE_CHANGE (R78). -/
  | linkPowerStateChange (link : Fin 16) (width : Fin 17) (power : LinkPower)
  /-- PCIE_TLP_RECEIVE (R75). -/
  | pcieTlpReceive (link : Fin 16) (tlp : Tlp)
  /-- COHERENT_IN_ACCEPT (R291). -/
  | coherentInAccept (node : Fin 1024) (answer : Bool)
  /-- TRANSPORT_RESPONSE_SENT (R335). -/
  | transportResponseSent (uart : Bool) (slot : Fin 8)
  deriving DecidableEq, Repr

end Sys2Proof
end

