-- ==== Sys2Proof/Decode.lean ====
section
/-! DEFINITION. The command a word of the opcode table spells: the table gives no row any bits, so no word spells one. -/

namespace Sys2Proof

/-- The command that `w`, a word of `nbits` bits of the opcode table, spells: none, as no row of the table has bits. -/
def decodeTableWord (_nbits _w : Nat) : Option Instr := none

end Sys2Proof
end

