-- ==== Sys2Proof/Config.lean ====
section
/-! DEFINITION. The free values of the model: functions with no body, about which nothing can be proved but what
the statements assume. They stand for the published algorithms the manual names without restating (R4), for the
device's random generator, and for values the manual leaves open. -/

namespace Sys2Proof
namespace Config

/-- AES-256 of one block under a key (R253, R57). -/
opaque aes (key : BitVec 256) (block : BitVec 128) : BitVec 128
/-- GHASH of NIST SP 800-38D over a list of blocks, under the hash key (R254). -/
opaque ghash (h : BitVec 128) (blocks : List (BitVec 128)) : BitVec 128
/-- SHA-384 (R4). -/
opaque sha384 (msg : Bytes) : BitVec 384
/-- HKDF-SHA-384 with 256 bits of output (R61, R62, R377): input key, salt, info. -/
opaque hkdf (ikm salt info : Bytes) : BitVec 256
/-- HMAC-SHA-384 (R377, R407). -/
opaque hmac (key msg : Bytes) : BitVec 384
/-- ECDSA P-384 verification of a digest: public key, digest, signature. -/
opaque ecdsaOk (pub : BitVec 768) (digest : BitVec 384) (sig : BitVec 768) : Bool
/-- R64. ECDSA P-384 signature (r, s) of a digest by the device identity key's scalar, for the n-th random value drawn. -/
opaque identitySign (priv : BitVec 384) (digest : BitVec 384) (draw : Nat) : BitVec 768
/-- The device identity certificate in DER form (R357). -/
opaque identityCert : Bytes
/-- The vendor root public key (R60). -/
opaque vendorRootPub : BitVec 768
/-- The public key of an ephemeral private scalar (R62). -/
opaque ecPub (scalar : BitVec 384) : BitVec 768
/-- The ECDH shared secret of a private scalar and a public key (R62). -/
opaque ecdh (scalar : BitVec 384) (pub : BitVec 768) : BitVec 384
/-- Decryption of an AES-256-GCM message; none where the tag fails: key, nonce, additional data, ciphertext, tag. -/
opaque gcmOpen (key : BitVec 256) (nonce aad ct : Bytes) (tag : BitVec 128) : Option Bytes
/-- Encryption by AES-256-GCM: ciphertext and tag. -/
opaque gcmSeal (key : BitVec 256) (nonce aad pt : Bytes) : Bytes × BitVec 128
/-- AES key unwrap of RFC 3394; none where the integrity check fails (R301). -/
opaque keyUnwrap (kek : BitVec 256) (wrapped : BitVec 320) : Option (BitVec 256)
/-- How many class buffers a fixed attachment (by node) has for a class code; NAUs have those of R186. -/
opaque classBuffers (node cls : Nat) : Nat
/-- How many buffers, beside one, a router's input from a link has for a class: router, code of the input, class code (R178). -/
opaque linkBuffers (node code cls : Nat) : Nat
/-- The n-th draw from the vault's CTR_DRBG, of 384 bits (R60). -/
opaque drbg (n : Nat) : BitVec 384
/-- A value the manual leaves open, fresh for each n. -/
opaque openValue (n : Nat) : BitVec 512
/-- Dypel's IANA enterprise number (R334). -/
opaque iana : BitVec 32
/-- The frame columns of region column lx on the die at position p (R357, COL_BAND): COL_LO then COL_HI. -/
opaque colBand (p lx : Nat) : Nat × Nat
/-- How many minors a frame column has (R297). -/
opaque columnMinors (die col : Nat) : Nat
/-- Whether the vendor root signature of a firmware image verifies (R326). -/
opaque firmwareOk (image : Bytes) : Bool
/-- What the frames of a load put into a word of a block RAM (R274): block, load, word. -/
opaque bramContent (block load word : Nat) : BitVec 36
/-- The shapes and write modes the frames of a load give a block RAM (R271, R272): shape A, shape B, mode A, mode B. -/
opaque bramConfig (block load : Nat) : Nat × Nat × Nat × Nat
/-- Which ports the frames of a load give an output register (R272), and whether they run both ports on one clock net (R273). -/
opaque bramRegs (block load : Nat) : Bool × Bool × Bool
/-- Whether the frames of a load put a Grit group in direct mode while its sequencer is stopped (R275, R281). -/
opaque gritDirect (group load : Nat) : Bool
/-- What the fabric drives into a tile of a group in direct mode (R275, R277), for a free value of the clock. -/
opaque directDrive (free tile : Nat) : BitVec 96
/-- The security version and version (major, minor) an Ohmyx image carries. -/
opaque firmwareVersion (image : Bytes) : Nat × Nat × Nat
/-- The boundary switches that a frame holds (R299): the bit of each, the value that closes it, and the router nodes of the two clock
regions of its edge. -/
opaque boundarySwitches (frameAddr : Nat) : List (Nat × Bool × Nat × Nat)
/-- The 27 check bits of a frame (R298): the BCH code over its 4,096 bits, its essential-word bits and its dynamic flag. -/
opaque frameCode (content : Bytes) (ess : BitVec 128) (dynamic : Bool) : BitVec 27
/-- A DMA transfer at a host address, begun at a time, fails (R354). -/
opaque dmaError (addr time : Nat) : Bool
/-- Ohmyx's estimate, in microseconds, of the time until a slot of the mailbox frees (R339, R350), for the n-th estimate. -/
opaque retryEstimate (n : Nat) : BitVec 16
/-- The estimated total of steps of a job (R347), for the n-th estimate. -/
opaque stepsEstimate (n : Nat) : BitVec 32
/-- R188, R219. A route-table set that Tilth may find besides the fewest-links set: entries by node div 2 and plane × 512 + index. -/
opaque tilthSet (n : Nat) : List (Nat × List (Nat × Nat))
/-- R23. What background task i needs of window n, per mille of management time. -/
opaque taskNeed (i n : Nat) : Nat
/-- Content of the hardened standard capabilities of an endpoint or upstream link (R75): by configuration offset and the word
last written there. -/
opaque hardConfig (off : Nat) (written : BitVec 32) : BitVec 32
/-- Configuration offset of the AER capability of an endpoint or upstream link (R78). -/
opaque aerBase : Nat
/-- Threshold, less one, of the event source of a port's link for its replays, and of a fabric lane for its corrected symbols (R82). -/
opaque replayThreshold (link : Nat) : Nat
/-- R82. -/
opaque fecThreshold (lane : Nat) : Nat
/-- Whether a logical block of the Peat store lies in its 16 MiB system area (R264). -/
opaque peatSystem (b : Nat) : Bool
/-- Where copy c of system-area record k of the Peat store lies (R265): 64 times its logical block plus its page. -/
opaque peatRecord (k c : Nat) : Nat
/-- Logical block at place i of a slot of the Peat store's image area: slots 0 and 1 hold firmware, 2 and 3 dumps (R326, R404). -/
opaque peatSlot (slot i : Nat) : Nat
/-- Dypel's manufacturer code in the BSDL file (R459). -/
opaque manufacturer : BitVec 11
/-- Answer of DOE discovery at an index (R78): protocol, vendor and next index, beside index 0. -/
opaque doeProtocol (index : Nat) : BitVec 32

end Config
end Sys2Proof
end

