-- ==== Sys2Proof/Machine/State.lean ====
section
/-! DEFINITION. The state of the device as plain data: every register, buffer, counter, mode and pin the manual gives
it. Every field names the rule it follows; its default is its reset value. Sparse tables (`Tbl`) list what differs
from their default. -/

namespace Sys2Proof
namespace Machine

/-- A statistic counter (R25): a saturating 31-bit count and its sticky overflow bit. -/
structure Ctr where
  /-- R25. Saturating count. -/ n : Nat := 0
  /-- R25. Sticky overflow bit. -/ ovf : Bool := false
  deriving DecidableEq, Repr

/-- The parts (scope chapter). -/
inductive Part where
  | gk4800 | gk4600 | gk4400 | gk2400
  deriving DecidableEq, Repr

/-- How far start-up has come (R429). -/
inductive Phase where
  | held      -- POR_N low or brown-out
  | booting   -- step 1 and 2: POR_N has risen
  | trained   -- step 3: Loam resets released, dies trained
  | filling   -- step 4: Ohmyx runs, stacks filled
  | ready     -- step 5: mailbox-ready
  | romMode   -- R326: no firmware slot accepted
  | stuck     -- R33, R210, R426: does not leave start-up
  | tripHeld  -- R441: the Marl die itself held in reset by a trip
  deriving DecidableEq, Repr

/-- What the board sees on a slow output (R456): driven, released to the board's pull-up, or high impedance. -/
inductive PinLevel where
  | low | high | released | highZ
  deriving DecidableEq, Repr

/-- What CAP_DIE_STATE says of a die (R337), and a die not yet trained. -/
inductive DieState where
  | untrained | inService | isolated | strapFault
  deriving DecidableEq, Repr

/-- One Loam die. -/
structure Die where
  /-- R41. Revision, 0xB0 or 0xC0 (fused). -/ rev : Nat := 0xC0
  /-- R41. DFE16 (fused). -/ dfe16 : Bool := true
  /-- R41. SLOT3 (fused). -/ slot3 : Bool := true
  /-- R41. GRN (fused). -/ grn : Bool := true
  /-- R41. GSEQ (fused). -/ gseq : Bool := true
  /-- R41. IME (fused). -/ ime : Bool := true
  /-- R32. POS[1:0] straps at this site, where they differ from the side; none: tied as the side. -/ strap : Option (Fin 4) := none
  /-- R337. State of the die. -/ state : DieState := .untrained
  /-- R435. Owner's target, mV. -/ vidTarget : Nat := 750
  /-- R435. Driven VID code. -/ vidCode : Nat := 10
  /-- R436. A ramp is under way. -/ ramping : Bool := false
  /-- R440. CLAMP in force. -/ clamp : Bool := false
  /-- R427, R38. Synthesizers locked. -/ synthLocked : Bool := false
  /-- R217, R441. Held in reset. -/ heldInReset : Bool := true
  deriving DecidableEq, Repr

/-- The five features the effective set combines (R42). -/
structure Features where
  /-- R42. Effective DFE16. -/ dfe16 : Bool := false
  /-- R42. Effective SLOT3. -/ slot3 : Bool := false
  /-- R42. Effective GRN. -/ grn : Bool := false
  /-- R42. Effective GSEQ. -/ gseq : Bool := false
  /-- R42. Effective IME. -/ ime : Bool := false
  deriving DecidableEq, Repr

/-- Start-up, clocks, rails, thermal and pins. -/
structure Sys where
  /-- R1. The part. -/ part : Part := .gk4800
  /-- R429. How far start-up has come. -/ phase : Phase := .held
  /-- R431. POR_N is low. -/ porLow : Bool := true
  /-- R433. VCC_MARL below 0.72 V. -/ marlLow : Bool := false
  /-- R433. VCC_AUX below 1.62 V. -/ auxLow : Bool := false
  /-- R313. BOOT_SRC[1:0] sampled when POR_N rose. -/ bootSrc : BitVec 2 := 0#2
  /-- R428. Telemetry time base, nanoseconds. -/ timeNs : Nat := 0
  /-- R36, R41. Loam dies by position. -/ dies : Tbl Die := []
  /-- R42. Effective feature set. -/ eff : Features := {}
  /-- R41. A Kaolin stack is reported absent (bad rails at training, R452). -/ stackBad : List Nat := []
  /-- R397. The fatal path has been taken. -/ fatal : Bool := false
  /-- R59. A tamper has been accepted: the device stays as it is until POR_N. -/ tampered : Bool := false
  /-- R399. A further FATAL cause has arrived. -/ secondFatal : Bool := false
  /-- R397. A record was open when the fatal path began. -/ nested : Bool := false
  /-- R384. FATAL_N is low. -/ fatalPin : Bool := false
  /-- R441. THERMTRIP_N latched low. -/ thermtrip : Bool := false
  /-- R294. CFG_DONE is high. -/ cfgDone : Bool := false
  /-- R294. The slow I/O is enabled; else it is in high impedance. -/ userIo : Bool := false
  /-- R295. CFG_ERR_N is low. -/ cfgErr : Bool := false
  /-- R427. SYSCLK holdover until the next device reset. -/ holdover : Bool := false
  /-- R427, R446. LANEREF lost. -/ lanerefLost : Bool := false
  /-- R427, R446. MGMT_REFCLK lost. -/ mgmtRefLost : Bool := false
  /-- R427, R446. XLREF lost. -/ xlrefLost : Bool := false
  /-- R440. Sensors at or above their warning value. -/ warned : List Nat := []
  /-- R438. Last reading of sensor i, m°C. -/ temp : Tbl Int := []
  /-- R438. Last reading of voltage monitor i, mV. -/ volt : Tbl Nat := []
  /-- R378. Warning threshold of sensor i, m°C (95 °C by default, R440). -/ tempThresh : Tbl Int := []
  /-- R378. Low limit of monitor i, mV. -/ voltLow : Tbl Nat := []
  /-- R378. High limit of monitor i, mV. -/ voltHigh : Tbl Nat := []
  /-- R459. TAP instruction loaded; IDCODE after TAP reset. -/ tap : TapInstr := .idcode
  /-- R460. The TAP instruction acts on the pins. -/ tapDrives : Bool := false
  /-- R381. BRD_EVT_N[i] is low. -/ brdLow : List Nat := []
  /-- R337. CHANGE field of CAP_STATE. -/ change : BitVec 16 := 0#16
  /-- R40, R429. TRAINED of CAP_STATE. -/ trained : Bool := false
  /-- R89. The management endpoint link is up. -/ endpointUp : Bool := false
  /-- R207. Reference inputs now absent (for return handling). -/ sysclkLost : Bool := false
  deriving DecidableEq, Repr

/-- A command whose operation the public-key engine has (R345). -/
structure PkOp where
  /-- R345. Mailbox. -/ mbx : Nat
  /-- R345. Slot. -/ slot : Nat
  /-- R340. Opcode. -/ op : Nat
  /-- R340. Payload. -/ payload : Bytes
  deriving DecidableEq, Repr

/-- Key vault, fuses, BBRAM and tamper. -/
structure Vault where
  /-- R55. VENDOR_ROOT_HASH. -/ vendorRootHash : BitVec 384 := 0#384
  /-- R55. OWNER_KEY_F. -/ ownerKeyF : BitVec 256 := 0#256
  /-- R55. OWNER_SIGN_HASH. -/ ownerSignHash : BitVec 384 := 0#384
  /-- R56. OWNER_CTRL. -/ ownerCtrl : DWord := 0#64
  /-- R55. MIN_FW, thermometer code. -/ minFw : DWord := 0#64
  /-- R55. SERIAL. -/ serial : DWord := 0#64
  /-- R55. IDENTITY_PRIV, readable by the vault only. -/ identityPriv : BitVec 384 := 0#384
  /-- R55. Trim and manufacturing repair fuses [16383:1600], readable by none. -/ trim : BitVec 14784 := 0#14784
  /-- R57. OWNER_KEY_F as programmed, effective at the next device reset. -/ nextOwnerKeyF : BitVec 256 := 0#256
  /-- R57. OWNER_SIGN_HASH as programmed. -/ nextOwnerSignHash : BitVec 384 := 0#384
  /-- R57. OWNER_CTRL as programmed. -/ nextOwnerCtrl : DWord := 0#64
  /-- R57. MIN_FW as programmed. -/ nextMinFw : DWord := 0#64
  /-- R57. BBRAM OWNER_KEY_B. -/ ownerKeyB : BitVec 256 := 0#256
  /-- R57. BBRAM KEY_CHECK. -/ keyCheck : DWord := 0#64
  /-- R58. KEY_CHECK matched at the last device reset or write. -/ keyCheckOk : Bool := false
  /-- R59. Tamper latch (VBATT domain). -/ tamperLatch : Bool := false
  /-- R60, R365. The random source is healthy. -/ randomOk : Bool := true
  /-- R66. The owner key is blocked, attestation and PLOT_CREATE are refused, until device reset. -/ vdbg : Bool := false
  /-- R66, R365. Nonce last drawn by VAULT_STATUS on mailbox 0, and when, ns. -/ vdbgNonce : Option (BitVec 384 × Nat) := none
  /-- R60. Draws made from the DRBG. -/ draws : Nat := 0
  /-- R253. Keys of slots 1 to 63 in the controller fronts. -/ slotKeys : Tbl (BitVec 256) := []
  /-- R85. IDE keys of link l: TX key, RX key, TX IV, RX IV. -/ ideKeys : Tbl (Option (BitVec 256 × BitVec 256 × DWord × DWord)) := []
  /-- R345. Commands waiting for the public-key engine, the first one in it. -/ pkQueue : List PkOp := []
  deriving DecidableEq, Repr

/-- The state of a plot (horizons chapter). -/
inductive PlotState where
  | empty | loading | running | frozen
  deriving DecidableEq, Repr

/-- A Kaolin window (R48). -/
structure Window where
  /-- R362. Base Silt address. -/ base : Nat
  /-- R362. log2 of its size. -/ sizeLog2 : Nat
  /-- R362. Key slot bound. -/ slot : Nat
  deriving DecidableEq, Repr

/-- A frame range (R303). -/
structure FrameRange where
  /-- R303. Position. -/ die : Nat
  /-- R303. First row. -/ rowLo : Nat
  /-- R303. Last row. -/ rowHi : Nat
  /-- R303. First column. -/ colLo : Nat
  /-- R303. Last column. -/ colHi : Nat
  deriving DecidableEq, Repr

/-- A plot's resources (R48), as its resource record lists them (R362). -/
structure Resources where
  /-- R48. VF bound. -/ vf : Nat := 0
  /-- R48. Clock regions: router node identifiers with attachment 0. -/ regions : List Nat := []
  /-- R48. NAU nodes. -/ naus : List Nat := []
  /-- R48. Frame map. -/ ranges : List FrameRange := []
  /-- R48. Kaolin windows. -/ windows : List Window := []
  /-- R48. IME key slots. -/ slots : List Nat := []
  /-- R48. Check-value units: 256 × POS + unit. -/ crcs : List Nat := []
  /-- R48. Event sources. -/ events : List Nat := []
  /-- R48. Flow range base. -/ flowBase : Nat := 0
  /-- R48. Flow range length. -/ flowCount : Nat := 0
  /-- R48. Agent-context range base. -/ agentBase : Nat := 0
  /-- R48. Agent-context range length. -/ agentCount : Nat := 0
  deriving DecidableEq, Repr

/-- Who waits for a halt to end: the DBG_FREEZE of a session (R376). -/
structure HaltReq where
  /-- R345. Mailbox. -/ mbx : Nat
  /-- R345. Slot. -/ slot : Nat
  /-- R375. Session. -/ session : Nat
  /-- R375. SEQ of the request. -/ seq : Nat
  deriving DecidableEq, Repr

/-- One plot; plot 0 is the shell. -/
structure Plot where
  /-- R48. The plot exists. -/ live : Bool := false
  /-- R48. Its state. -/ state : PlotState := .empty
  /-- R51. Generation count. -/ gen : Nat := 0
  /-- R48. Its resources. -/ res : Resources := {}
  /-- R60. Tenant key; none: owner-held. -/ tenantKey : Option (BitVec 256) := none
  /-- R62. Manifest-signing key hash recorded at import. -/ signHash : BitVec 384 := 0#384
  /-- R64. SHA-384 of the import transcript. -/ importHash : BitVec 384 := 0#384
  /-- R64. RES_MEAS. -/ resMeas : BitVec 384 := 0#384
  /-- R64, R310. PLOT_MEAS (SHELL_MEAS for plot 0). -/ meas : BitVec 384 := 0#384
  /-- R64. DBG_SINCE_LOAD. -/ dbgSinceLoad : Bool := false
  /-- R119. Broken flag. -/ broken : Bool := false
  /-- R363. Frames still being zeroed after a blank. -/ zeroing : Bool := false
  /-- R194. Line-lock lease, µs. -/ lease : Nat := 10
  /-- R418. Halt kind: 0 soft, 1 hard, 2 not frozen. -/ halt : Nat := 2
  /-- R417. A soft halt waits, and whether a hard halt may follow: the session that asked, or a break. -/ halting : Option Bool := none
  /-- R417. The DBG_FREEZE that waits for it. -/ haltBy : Option HaltReq := none
  /-- R417. When the halt under way began, ns. -/ haltStart : Nat := 0
  /-- R417. Locks force-released by the last hard halt. -/ haltBroken : Nat := 0
  /-- R413. The current freeze was started by a break unit. -/ byBreak : Bool := false
  /-- R318. NAUs hold new work for a load's quiesce. -/ quiesced : Bool := false
  /-- R325. Frames corrected by the scan. -/ scanCorr : Ctr := {}
  /-- R325. Frames corrected with an essential bit. -/ scanEss : Ctr := {}
  /-- R325. Frames found uncorrectable. -/ scanUncorr : Ctr := {}
  /-- R360. Latest corrected frame addresses, newest first, at most 64. -/ scanAddrs : List Nat := []
  /-- R270. Flip-flops were last set to their initial values (false: to zero, R270). -/ ffInit : Bool := false
  /-- R419. Flip-flop capture taken at the freeze. -/ captured : Bool := false
  deriving DecidableEq, Repr

/-- Slot states (R338). -/
inductive SlotState where
  | idle | queued | executing | done
  deriving DecidableEq, Repr

/-- One mailbox slot (R338). -/
structure Slot where
  /-- R338. State. -/ state : SlotState := .idle
  /-- R338. Zeroization after an acknowledge is under way. -/ zeroizing : Bool := false
  /-- R338. Request area, 2,048 bytes; bytes not listed are zero. -/ req : Tbl Byte := []
  /-- R341. Response header. -/ rspHdr : BitVec 128 := 0#128
  /-- R338. Response payload. -/ rsp : Bytes := []
  /-- R345. Order in which it was queued. -/ seq : Nat := 0
  /-- R350. When it was queued, ns. -/ queuedAt : Nat := 0
  /-- R344. The response of the executing command will be discarded. -/ discard : Bool := false
  deriving DecidableEq, Repr

/-- One mailbox with its control page (R343). -/
structure Mbx where
  /-- R338. Its eight slots. -/ slots : Tbl Slot := []
  /-- R343. MBX_IRQ DONE_EN. -/ doneEn : Bool := false
  /-- R343. MBX_IRQ [31:1], reserved, stored. -/ irqHi : BitVec 31 := 0#31
  /-- R343. MBX_ERR. -/ err : BitVec 4 := 0#4
  /-- R343. MBX_CNT_REJ. -/ cntRej : Ctr := {}
  /-- R343. MBX_CNT_DONE. -/ cntDone : Ctr := {}
  /-- R343. MBX_DB_RESULT. -/ dbResult : Word := 0#32
  /-- R6, R343. What the last read of MBX_ERR returned. -/ readData : Word := 0#32
  /-- R345. Doorbells so far, orders its queue. -/ nextSeq : Nat := 0
  /-- R406. Monitor frame requests waiting (mailbox 18). -/ monitor : List (BitVec 128 × Bytes) := []
  /-- R406. The last turn of the mailbox served a monitor frame. -/ lastMonitor : Bool := false
  /-- R335. Responses sent as frames or messages, newest last. -/ sent : List (BitVec 128 × Bytes) := []
  deriving DecidableEq, Repr

/-- MSI-X state of a function (R90, R386). -/
structure Fn where
  /-- R386. Vectors unmasked by the host. -/ unmasked : List Nat := []
  /-- R386. Vectors pending. -/ pending : List Nat := []
  /-- R386. Messages sent on vector v. -/ sent : Tbl Nat := []
  /-- R336. MSI-X table: address and data words by dword, entry e at 4e. -/ table : Tbl Word := []
  deriving DecidableEq, Repr

/-- What the management endpoint presents in its configuration space (R89, R90); sizes in bytes, the rate as the code of R67. -/
structure EpIdentity where
  /-- R90. Device identifier. -/ device : Nat
  /-- R90. VF device identifier. -/ vfDevice : Nat
  /-- R90. TotalVFs. -/ totalVfs : Nat := 16
  /-- R90. InitialVFs. -/ initialVfs : Nat := 16
  /-- R90. First VF offset. -/ vfOffset : Nat := 1
  /-- R90. VF stride. -/ vfStride : Nat := 1
  /-- R90. PF0 BAR0, 64-bit. -/ pfBar : Nat := 0x100000
  /-- R90. BAR0 of one VF, 64-bit. -/ vfBar : Nat := 0x10000
  /-- R90. MSI-X vectors of PF0. -/ pfVectors : Nat := 64
  /-- R90. MSI-X vectors of a VF. -/ vfVectors : Nat := 8
  /-- R89. Maximum payload. -/ maxPayload : Nat := 256
  /-- R89. Highest rate, GT/s. -/ maxRate : Nat := 64
  /-- R89. L0p, lane margining by the partner, IDE, DOE, switch roles. -/ features : List Bool := [false, false, false, false, false]
  deriving DecidableEq, Repr

/-- The horizons (horizons chapter); `none` is a VF bound to no plot. -/
inductive Horizon where
  | o | a | b | none
  deriving DecidableEq, Repr

/-- The state of a job (R347). -/
inductive JobState where
  | running | done | cancelled
  deriving DecidableEq, Repr

/-- One job record (R347). -/
structure Job where
  /-- R347. Opcode. -/ op : Nat := 0
  /-- R22, R348. Mailbox that started it. -/ mbx : Nat := 0
  /-- R22. Horizon it belongs to. -/ hz : Horizon := .none
  /-- R22. Plot of its horizon. -/ plot : Nat := 0
  /-- R355. Request payload. -/ payload : Bytes := []
  /-- R347. State. -/ state : JobState := .done
  /-- R20. Stage the job has reached: 0 checks, 1 waits for a drain or the hardware, 2 makes the change. -/ stage : Nat := 0
  /-- R347. Steps completed. -/ steps : Nat := 0
  /-- R347. Result status. -/ result : Nat := 0
  /-- R354. DETAIL of the result. -/ detail : Nat := 0
  /-- R347. Result word. -/ word : DWord := 0#64
  /-- R355. Result data. -/ data : Bytes := []
  /-- R347. When it ended, ns. -/ endedAt : Nat := 0
  /-- R349. A cancel waits for the next step boundary. -/ cancel : Bool := false
  /-- R349. Past the point where it cannot fail. -/ sure : Bool := false
  deriving DecidableEq, Repr

/-- What a quiesce or a job acts on (R19). -/
inductive Func where
  | port (n : Nat) | agents (profile : Nat) | agentRange (first count : Nat) | agentSet (first count : Nat) | linkRange (l : Nat) | allAgents | homeEntry (i : Nat)
  | flow (f : Nat) | slot (pos k : Nat) | front (stack lx : Nat) | chan (stack c : Nat) | stack (p : Nat) | plot (p : Nat) | profile (n : Nat)
  | routes | lane (l : Nat) | group (g : Nat) | shell | fw | peatImages | dump | fuses | die (p : Nat) | scrub (stack : Nat)
  | peatScrub | peatBlock (b : Nat) | tilth | trace | vendor
  deriving DecidableEq, Repr

/-- A function held by an open job (R19), and whether its quiesce is in force (R16). -/
structure Hold where
  /-- R19. The function. -/ fn : Func
  /-- R19. The job that holds it. -/ job : Nat
  /-- R16. The quiesce is in force: new requests are held. -/ quiesce : Bool
  deriving DecidableEq, Repr

/-- The states of an event source (R374). -/
inductive SrcState where
  | armed | coalescing | masked
  deriving DecidableEq, Repr

/-- One event source (R382, R387). -/
structure Src where
  /-- R382. FUNC: 0 PF0, n VFn, 0xFF none. -/ func : Nat := 0xFF
  /-- R382. VECTOR. -/ vector : Nat := 0
  /-- R382. PINS. -/ pins : BitVec 4 := 0#4
  /-- R382. FABRIC: holder (plot) and line; none: no fabric input. -/ fabric : Option (Nat × Nat) := none
  /-- R382. FW. -/ fw : Bool := false
  /-- R387. RATE, tokens per ms (64 by default). -/ rate : Nat := 64
  /-- R388. STUCK_MS (1,000 by default). -/ stuckMs : Nat := 1000
  /-- R387. Millionths of a token taken from the full bucket and not yet regained. -/ used : Nat := 0
  /-- R387. When `used` was last brought up to date, ns. -/ usedAt : Nat := 0
  /-- R387. State. -/ state : SrcState := .armed
  /-- R387. COUNT. -/ count : Ctr := {}
  /-- R387. COALESCED. -/ coalesced : Ctr := {}
  /-- R387. Raises coalesced and not yet signalled. -/ owed : Nat := 0
  /-- R384. Pin flag. -/ pinFlag : Bool := false
  /-- R374. LAST_NS: time of the last raise. -/ lastNs : Nat := 0
  /-- R381. The level of the source is held active. -/ active : Bool := false
  deriving DecidableEq, Repr

/-- One error record (R391); `made` and `open` drive the handling window. -/
structure Rec where
  /-- R391. SEQ. -/ seq : Nat
  /-- R391. TIME. -/ time : Nat
  /-- R391. SOURCE. -/ src : Nat
  /-- R391. SEV. -/ sev : Nat
  /-- R391. OPEN. -/ isOpen : Bool
  /-- R391. PLOT. -/ plot : Nat
  /-- R391. CAUSE. -/ cause : Nat
  /-- R391. REPEAT. -/ rpt : Nat
  /-- R391. SUB. -/ sub : Nat
  /-- R391. NODE. -/ node : Nat
  /-- R391. INFO. -/ info : Nat
  /-- R394. Ohmyx has read it, or its required action is done. -/ acted : Bool
  deriving DecidableEq, Repr

/-- The event controller. -/
structure Evt where
  /-- R387. The 768 sources. -/ srcs : Tbl Src := []
  /-- R393. The record ring, oldest first, at most 256. -/ ring : List Rec := []
  /-- R391. SEQ of the next record. -/ nextSeq : Nat := 0
  /-- R395. Records dropped or replaced, view of horizon A. -/ lostA : Ctr := {}
  /-- R395. Records dropped or replaced, view of plot p. -/ lostB : Tbl Ctr := []
  /-- R385. Fabric event input lines: level of line l of plot p at 16p + l. -/ lines : Tbl Bool := []
  /-- R382. Deliveries forwarded to mailbox 17 by Ohmyx. -/ fwCount : Tbl Nat := []
  /-- R383. Notices counted per function, at 32j + f. -/ notices : Tbl Ctr := []
  /-- R383, R387. Functions to which coalesced notices are owed, at 32j + f. -/ owedFns : Tbl Bool := []
  /-- R389. More than 64 sources are coalescing. -/ storm : Bool := false
  deriving DecidableEq, Repr

/-- A dump held in Kaolin or in a Peat slot (R400, R404). -/
structure Dump where
  /-- R400. DUMP_ID. -/ id : Nat
  /-- R400. TIME. -/ time : Nat
  /-- R400. CAUSE_SEQ. -/ causeSeq : Nat
  /-- R400. SOURCE. -/ src : Nat
  /-- R400. CAUSE. -/ cause : Nat
  /-- R400. FLAGS. -/ flags : Nat
  /-- R401. Sections: kind (0 vendor, 1 owner, 2 plot), plot, HELD, GEN, stored bytes. -/ sects : List (Nat × Nat × Bool × Nat × Bytes)
  /-- R404. Peat slot of a copy. -/ slot : Nat := 0
  deriving DecidableEq, Repr

/-- A dump being written (R397): what it was when Ohmyx began it. -/
structure DumpPlan where
  /-- R400. DUMP_ID. -/ id : Nat
  /-- R402. Draws of the vault's generator before the first section's. -/ draw : Nat
  /-- R404. It goes straight to the Peat store. -/ direct : Bool
  /-- R403. Sections in order: kind, plot, body. -/ bodies : List (Nat × Nat × Bytes)
  deriving DecidableEq, Repr

/-- Dumps and the progress of the one being written (R397). -/
structure Dumps where
  /-- R397. The dump whose job runs. -/ plan : Option DumpPlan := none
  /-- R404. The dump in the Kaolin area. -/ kaolin : Option Dump := none
  /-- R404. Two Peat slots, oldest copy first. -/ peat : List Dump := []
  /-- R404. DUMP_POLICY COPY. -/ copy : Bool := true
  /-- R397. A dump is to be written. -/ wanted : Bool := false
  /-- R397. The dump is complete. -/ complete : Bool := false
  /-- R404. Written straight to the Peat store. -/ direct : Bool := false
  /-- R399. Times the dump has been restarted in the fatal state. -/ restarts : Nat := 0
  /-- R397. FATAL record's SEQ, source, cause and time. -/ head : Option (Nat × Nat × Nat × Nat) := none
  deriving DecidableEq, Repr

/-- Message header and payload at a slice's intake (R100, R117). -/
structure SliceMsg where
  /-- Decoded header (message decoders section). -/ hdr : BitVec 128
  /-- R100. Payload, or none. -/ data : Option (List Line)
  /-- R117. Status of an error response; 0: not one. -/ status : Nat
  /-- R95. HOMELOST. -/ homeLost : Bool
  /-- R99. Plot stamped by the NAU, for SRC 1. -/ stamp : Nat
  /-- R117. Responder: the agent of the answer. -/ responder : Option Nat
  /-- R121. The message is a timeout or a refusal (TIMEOUT predicate). -/ timeout : Bool
  /-- R132. It answers a MEM_OP of the slice. -/ mem : Bool
  /-- R174. Node the message came from, for error responses to it. -/ src : Nat
  /-- R181. Tag it came with. -/ tag : Nat
  /-- R113. It answers one of the messages PEND counts; a directive, a timeout and a refusal do not. -/ counted : Bool := true
  deriving DecidableEq, Repr

/-- Tracker states (R113). -/
inductive TrkState where
  | free | eval | waitRsp | waitMem | waitGrain | waitLock | waitDeliver
  deriving DecidableEq, Repr

/-- One tracker (R112), with the data buffer and what the engine keeps beside it. -/
structure Trk where
  /-- R113. STATE. -/ state : TrkState := .free
  /-- R112. LOCK. -/ lock : Bool := false
  /-- R118. POIS. -/ pois : Bool := false
  /-- R112. AGENT; none for an engine-started eviction. -/ agent : Option Nat := none
  /-- R112. LINE. -/ line : Nat := 0
  /-- R112. TAG. -/ tag : Nat := 0
  /-- R112. PEND. -/ pend : Nat := 0
  /-- R112. SCRATCH. -/ scratch : BitVec 16 := 0#16
  /-- R112. NEXT, valid when NEXT_V. -/ next : Option Nat := none
  /-- R112. GEN. -/ gen : Nat := 0
  /-- R92. 64-byte buffer; none: BUF 0. -/ buf : Option Line := none
  /-- R148. Profile of the transaction. -/ profile : Nat := 0
  /-- R114. Delivery reports outstanding. -/ deliver : Nat := 0
  /-- R138. Delivery reports outstanding for messages of CONTINUE words. -/ deliverChain : Nat := 0
  /-- R138. A chain of 16 words completed it: it waits for those reports too. -/ chainWait : Bool := false
  /-- R115. It was the head of its line's queue and is under evaluation. -/ head : Bool := false
  /-- R172. Flow of the grain it waits for. -/ flow : Nat := 0
  /-- R134. Message a chain or a wait runs on. -/ msg : Option SliceMsg := none
  /-- R134. CONTINUE target: group and CNT, with the USEL of the chain's dispatch word. -/ chain : Option (Nat × Nat × Nat) := none
  /-- R134. The chain runs on a new request. -/ chainNew : Bool := false
  /-- R134, R158. Message type the chain's message is evaluated as. -/ chainTyp : Nat := 0
  /-- R138. Words of the chain so far. -/ words : Nat := 0
  /-- R117. It is one of the 32 reserved trackers. -/ reserved : Bool := false
  deriving DecidableEq, Repr

/-- A directory entry (R107 to R110): cache entry with its AUX extension. -/
structure Dir where
  /-- R107. DIRTY. -/ dirty : Bool := false
  /-- R107. SF. -/ sf : Bool := false
  /-- R107. RECOV. -/ recov : Bool := false
  /-- R107. STATE. -/ state : Nat := 0
  /-- R107. PROFILE. -/ profile : Nat := 0
  /-- R110. SHR_FMT. -/ fmt : Nat := 0
  /-- R110. SHARERS. -/ shr : DWord := 0#64
  /-- R109. AUX extension, 22 bits. -/ aux : Nat := 0
  /-- R117. The cache entry has an uncorrectable error. -/ bad : Bool := false
  deriving DecidableEq, Repr

/-- An emission waiting in a slice's emission unit (R137). -/
structure Emit where
  /-- R139. Template words. -/ tmpl : BitVec 128
  /-- R133. Target agent, or home target (none). -/ agent : Option Nat
  /-- R112. Tracker it belongs to. -/ trk : Option Nat
  /-- R112. GEN of that tracker. -/ tgen : Nat
  /-- R93. Line. -/ line : Nat
  /-- R139. TAG of the requester. -/ tag : Nat
  /-- R139. Payload lines. -/ data : Option (List Line)
  /-- R118. Poison. -/ pois : Bool
  /-- R139. Payload length in 8-byte units. -/ plen : Nat
  /-- R114. Its delivery is awaited. -/ track : Bool
  /-- R138. It is a message of a CONTINUE word. -/ chain : Bool
  deriving DecidableEq, Repr

/-- What a slice waits for under a Silt tag (R189): a Kaolin read, a READ_FWD (whose message expects an answer), a posted write, a message (an answer is
expected; its delivery is reported), or a grain creation. -/
inductive SKind where
  | memRead | fwd (answer : Bool) | write | msg (answer track : Bool) | grain
  deriving DecidableEq, Repr

/-- A request of a slice that Silt has not answered yet (R189). -/
structure SReq where
  /-- R181. Silt tag. -/ tag : Nat
  /-- R189. What is awaited. -/ kind : SKind
  /-- R112. Tracker concerned, and its GEN. -/ trk : Option Nat
  /-- R112. GEN of the tracker. -/ tgen : Nat
  /-- R117. Agent the message is addressed to. -/ agent : Option Nat
  /-- R138. It is a message of a CONTINUE word. -/ chain : Bool := false
  /-- R189. When it was sent, ns. -/ sent : Nat := 0
  deriving DecidableEq, Repr

/-- One slice of the coherence engine. -/
structure Slice where
  /-- R112. Trackers. -/ trks : Tbl Trk := []
  /-- R105. Directory cache, by line address. -/ dir : Tbl (Option Dir) := []
  /-- R92. Intake, in order of acceptance. -/ intake : List SliceMsg := []
  /-- R116. Parking entries, at most 256. -/ parked : List SliceMsg := []
  /-- R137. Emission queue, at most 64. -/ emits : List Emit := []
  /-- R137. Messages of an action word that wait for a place in the emission queue. -/ emitWait : List Emit := []
  /-- R136. Fan-out targets held back: tracker and emission. -/ fanout : List Emit := []
  /-- R189. Requests that Silt has not answered. -/ outs : List SReq := []
  /-- R181. Next Silt tag. -/ nextTag : Nat := 0
  /-- R117. Stray answers. -/ stray : Ctr := {}
  /-- R359. Parking full. -/ parkFull : Ctr := {}
  /-- R359. Evictions. -/ evict : Ctr := {}
  /-- R359. Recoveries. -/ recov : Ctr := {}
  /-- R359. Containment refusals. -/ contained : Ctr := {}
  /-- R359. Profile mismatches. -/ mismatch : Ctr := {}
  /-- R359. Lock waits. -/ lockWait : Ctr := {}
  /-- R130. PROFILE and message type that the slice's last profile event recorded. -/ profEvent : Option (Nat × Nat) := none
  /-- R96. Lines of moved buckets that have got an entry. -/ recovered : List Nat := []
  /-- R250. Sideband-only writes refused. -/ sideRefused : Ctr := {}
  /-- R105. The line of each set that was used last. -/ lastUsed : Tbl (Option Nat) := []
  deriving DecidableEq, Repr

/-- A home map entry (R97, R359). -/
structure HomeEnt where
  /-- R360. VALID. -/ valid : Bool := false
  /-- R360. KIND: 0 Kaolin open, 1 Kaolin sealed, 2 remote, 3 fabric memory. -/ kind : Nat := 0
  /-- R97. PROFILE. -/ profile : Nat := 0
  /-- R97. BASE. -/ base : Nat := 0
  /-- R97. SIZE_LOG2. -/ sizeLog2 : Nat := 0
  /-- R97. PLOT. -/ plot : Nat := 0
  /-- R97. PLOT_MASK. -/ plotMask : BitVec 16 := 0#16
  /-- R97. TARGET. -/ target : Nat := 0
  deriving DecidableEq, Repr

/-- One bank of a profile number: the image and what loading gave it (R140, R143). -/
structure Bank where
  /-- R140. Image bytes; words are read from it at the offsets of its header. -/ image : Bytes
  /-- R142. Base of its run in the rule store. -/ base : Nat
  /-- R141. Measurement. -/ meas : BitVec 384
  deriving DecidableEq, Repr

/-- One profile number (R123). -/
structure Profile where
  /-- R143. Active bank. -/ active : Option Bank := none
  /-- R143. Shadow bank. -/ shadow : Option Bank := none
  /-- R138. Ten fault counters, in the table's order. -/ faults : Tbl Ctr := []
  /-- R138. Hit counters, by rule of the rule store. -/ hits : Tbl Ctr := []
  /-- R138. The profile-fault event has been raised for fault row i since its clear. -/ raised : List Nat := []
  deriving DecidableEq, Repr

/-- The coherence engine beside its slices. -/
structure Pce where
  /-- R92. Slices. -/ slices : Tbl Slice := []
  /-- R103. Agent contexts, without PLOT (which follows the plots' ranges); reset 0 but ESC_TO 0xF. -/ agents : Tbl (BitVec 96) := []
  /-- R97. Home map. -/ home : Tbl HomeEnt := []
  /-- R94. Bucket map; none: the map of R94 for the part. -/ buckets : Option (List Nat) := none
  /-- R96. Buckets moved by PCE_REMAP. -/ moved : List Nat := []
  /-- R106. Snoop-filter backing base. -/ sfBase : Option Nat := none
  /-- R123. Profiles. -/ profiles : Tbl Profile := []
  /-- R122. New requests that decoders and NAUs hold for agents under quiesce, in order. -/ held : List Packet := []
  /-- R101. AGENT_BASE of link l. -/ linkBase : Tbl Nat := []
  /-- R101. AGENT_COUNT of link l. -/ linkCount : Tbl Nat := []
  deriving DecidableEq, Repr

/-- One grain (R158): the descriptor fields in their 256 bits, and the payload. -/
structure Grain where
  /-- R158. Descriptor. -/ desc : BitVec 256
  /-- R158. Payload. -/ pay : Option Line
  /-- R168. It is in the spill share. -/ spilled : Bool
  /-- R154. Its place in the flow's creation order; SEQ is its low 16 bits. -/ num : Nat := 0
  /-- R167. While spilled: its record in the share, page × 32 + place in the page. -/ place : Nat := 0
  deriving DecidableEq, Repr

/-- One flow (R155): settings, queue and counters. -/
structure Flow where
  /-- R155. ENABLE. -/ enable : Bool := false
  /-- R154. KIND. -/ kind : Nat := 0
  /-- R155. CCLASS. -/ cclass : Nat := 0
  /-- R155. PRIO. -/ prio : Nat := 0
  /-- R155. DEPTH. -/ depth : Nat := 0x0A
  /-- R155. PAUSE. -/ pause : Bool := false
  /-- R155. INFLIGHT. -/ inflight : Bool := false
  /-- R155. NEXT_SEQ. -/ nextSeq : BitVec 16 := 0#16
  /-- R154. Grains created on the flow so far. -/ made : Nat := 0
  /-- R158. Grains queued, in creation order (COUNT is its length, SPILLED whether some are spilled). -/ q : List Grain := []
  /-- R169. Grains accepted. -/ accepted : Ctr := {}
  /-- R169. Grains refused. -/ refused : Ctr := {}
  /-- R169. Grains spilled. -/ spilledN : Ctr := {}
  /-- R169. Grains delivered. -/ delivered : Ctr := {}
  /-- R157. Delivery stopped by a quiesce. -/ stopped : Bool := false
  deriving DecidableEq, Repr

/-- One entry of an engine slot (R162): free when none; prefetched or taken, or its directive is out (R164). -/
structure Entry where
  /-- R162. The grain. -/ grain : Grain
  /-- R162. Its push has arrived: the entry shows valid at the NAU. -/ arrived : Bool
  /-- R162. Taken. -/ taken : Bool
  /-- R164. A directive is with the slice; release awaits its report. -/ reporting : Bool
  deriving DecidableEq, Repr

/-- One engine slot (R161). -/
structure ESlot where
  /-- R162. Open. -/ isOpen : Bool := false
  /-- R162. Closing: closes when its last taken entry is released. -/ closing : Bool := false
  /-- R162. Class mask. -/ mask : DWord := 0#64
  /-- R163. last_class by priority. -/ lastClass : Tbl Nat := []
  /-- R162. Entries. -/ entries : Tbl (Option Entry) := []
  /-- R161. NAU a pooled slot is lent to. -/ lentTo : Option Nat := none
  /-- R161. Under a reclaim's quiesce. -/ reclaiming : Bool := false
  deriving DecidableEq, Repr

/-- One quarter of the Grain dispatcher. -/
structure Quarter where
  /-- R158. HGEN of on-chip entry e. -/ hgen : Tbl Nat := []
  /-- R158. On-chip entries in use. -/ onchip : List Nat := []
  /-- R168. SPILL_LOW. -/ spillLow : Nat := 256
  /-- R168. SPILL_HIGH. -/ spillHigh : Nat := 1024
  /-- R161. Slots. -/ slots : Tbl ESlot := []
  /-- R163. Ready lists, head first: plot, class, priority, flow. -/ ready : List (Nat × Nat × Nat × Nat) := []
  /-- R169. Stray directives. -/ stray : Ctr := {}
  /-- R169. Refusals by status, in the order of R361. -/ refusals : Tbl Ctr := []
  /-- R168. By priority, the flow from which the round robin of refills goes on. -/ nextRefill : Tbl Nat := []
  /-- R163. The slot from which the round robin of fills goes on. -/ nextSlot : Nat := 0
  deriving DecidableEq, Repr

/-- An outstanding request of an attachment (R190, R463). -/
structure Req where
  /-- R181. Silt tag. -/ tag : Nat
  /-- R290. Fabric tag, or what the answer is for. -/ ftag : Nat
  /-- R183. Operation. -/ op : Nat
  /-- R181. Address. -/ addr : Nat
  /-- R463. Lines asked for. -/ lines : Nat
  /-- R463. Status and data of each line answered so far. -/ got : Tbl (Option (Nat × Line))
  /-- R51. The requester was reset: the answer is discarded. -/ dead : Bool
  /-- R189. When it was sent, ns. -/ sent : Nat := 0
  deriving DecidableEq, Repr

/-- An answer at an NAU's answer port, or a message at its coherent in port (R290). -/
structure Answer where
  /-- R290. Fabric tag. -/ tag : Nat
  /-- R290. STATUS. -/ status : Nat
  /-- R290. POISON. -/ poison : Bool
  /-- R290. STATUS of each line. -/ lstat : List Nat
  /-- R290. Data beats. -/ data : List Line
  /-- R290. Register value. -/ value : Nat
  deriving DecidableEq, Repr

/-- One regulator bucket (R191): the register and the tokens below the content at reset. -/
structure Regul where
  /-- R193. NAU_RATE word. -/ reg : Word := 0#32
  /-- R191. Flit tokens held; 5 at reset. -/ tokens : Nat := 5
  deriving DecidableEq, Repr

/-- A completion directive that waits for the writes issued before it (R152). -/
structure HeldDir where
  /-- R165. The directive. -/ dir : BitVec 128
  /-- R165. Its data. -/ data : Option Line
  /-- R152. Requests held at the request port up to the last write among them. -/ ahead : Nat
  /-- R152. Silt tags of writes sent before it. -/ tags : List Nat
  deriving DecidableEq, Repr

/-- One NAU (R193). -/
structure Nau where
  /-- R193. NAU_CTRL. -/ ctrl : Word := 0x00003F00#32
  /-- R193. NAU_RSP_TO. -/ rspTo : Word := 0x000003E8#32
  /-- R191. Regulators by class code. -/ rates : Tbl Regul := []
  /-- R193. NAU_ERR. -/ err : BitVec 9 := 0#9
  /-- R193. NAU_CNT_TX. -/ cntTx : Ctr := {}
  /-- R193. NAU_CNT_RX. -/ cntRx : Ctr := {}
  /-- R193. NAU_CNT_HELD. -/ cntHeld : Ctr := {}
  /-- R193. BROKEN. -/ broken : Bool := false
  /-- R190. Requests outstanding. -/ out : List Req := []
  /-- R190. Requests held at the request port, in order, and whether the regulator's delay of the request has been counted. -/ held : List (NauReq × Bool) := []
  /-- R290. Answer port, in order. -/ answers : List Answer := []
  /-- R291. Coherent in port: answers (RSP, DAT). -/ cohAns : List Packet := []
  /-- R291. Coherent in port: snoops, at most 16. -/ cohSnp : List Packet := []
  /-- R152. Directives held until earlier writes are visible. -/ directives : List HeldDir := []
  /-- R292. Status last returned at the producer, slot and directive ports. -/ portStatus : Nat := 0
  /-- R412. Packet held uninjected by a break. -/ brkHeld : Option Packet := none
  /-- R189. Next Silt tag. -/ nextTag : Nat := 0
  /-- R293. Streams delivered from reach lanes. -/ streams : List Packet := []
  /-- R290. Level of its panic input. -/ panic : Bool := false
  deriving DecidableEq, Repr

/-- The contents of one route-table bank of all routers (R196, R464): dead targets everywhere, a set that was loaded
(by node div 2 and plane × 512 + index; entries not listed name the dead target), or a set that Ohmyx computes as R464 states
from the dies, the routers and the links (node div 2, output code) that it leaves out. -/
inductive RouteSet where
  | blank
  | loaded (t : Tbl (Tbl Nat))
  | computed (dies : List Nat) (outRouters : List Nat) (outLinks : List (Nat × Nat))
  deriving DecidableEq, Repr

/-- A router of both planes (R200). -/
structure Router where
  /-- R200. Bypassed. -/ bypassed : Bool := false
  /-- R185. Failed links by output code. -/ linkDown : BitVec 7 := 0#7
  /-- R200. Links that a change has removed, which are disabled until a set routes through them again. -/ linkOff : BitVec 7 := 0#7
  /-- R200. SHADOW_OK. -/ shadowOk : Bool := false
  /-- R185. Resends of the running second by output code: when it began, ns, and how many. -/ window : Tbl (Nat × Nat) := []
  /-- R185. Resend counters by output code. -/ resends : Tbl Ctr := []
  /-- R185. Failures in a row of the flit on output code c (request plane c, data plane 8 + c). -/ fails : Tbl Nat := []
  /-- R201. Undeliverable packets discarded. -/ discarded : Ctr := {}
  /-- R178. Class last served by an output, at 32 × plane + output. -/ lastCls : Tbl Nat := []
  /-- R178. Input last served by an output in a class, at 32 × class + output. -/ lastIn : Tbl Nat := []
  deriving DecidableEq, Repr

/-- One probe filter (R203, R368). -/
structure Filter where
  /-- R368. TERMS. -/ terms : Byte := 0#8
  /-- R368. ACTION. -/ action : Byte := 0#8
  /-- R368. OP_MASK. -/ opMask : Word := 0#32
  /-- R368. SRC_LO. -/ srcLo : Nat := 0
  /-- R368. SRC_HI. -/ srcHi : Nat := 0
  /-- R368. DST_LO. -/ dstLo : Nat := 0
  /-- R368. DST_HI. -/ dstHi : Nat := 0
  /-- R368. CLASS_MASK. -/ clsMask : Byte := 0#8
  /-- R368. PLOT. -/ plot : Nat := 0
  /-- R368. CTX. -/ ctx : Nat := 0
  /-- R368. ADDR_LO. -/ addrLo : Nat := 0
  /-- R368. ADDR_HI. -/ addrHi : Nat := 0
  deriving DecidableEq, Repr

/-- A line lock held at a front (R194). -/
structure LineLock where
  /-- R194. Line address (Silt address div 64). -/ line : Nat
  /-- R194. Holder's NAU. -/ node : Nat
  /-- R194. Lease end, ns. -/ until_ : Nat
  deriving DecidableEq, Repr

/-- The Silt network. -/
structure Silt where
  /-- R178. Packets in flight. -/ flights : List Flight := []
  /-- R174. Routers by node div 2. -/ routers : Tbl Router := []
  /-- R193. NAUs by node identifier. -/ naus : Tbl Nau := []
  /-- R197. Device route epoch. -/ epoch : Bool := false
  /-- R199. Classes an attachment has not yet switched, at 4n + class. -/ lagging : Tbl Bool := []
  /-- R186, R191, R199. Packets that wait at their source: for their class to switch, for a token, for a regulator. -/ heldOut : List Packet := []
  /-- R197. Route-table banks 0 and 1. -/ bank0 : RouteSet := .blank
  /-- R197. Bank 1. -/ bank1 : RouteSet := .blank
  /-- R186. Tokens held, at (src × 1024 + dst) × 4 + class. -/ tokens : Tbl Nat := []
  /-- R186. Buffers a target has granted or filled, at 4n + class. -/ granted : Tbl Nat := []
  /-- R186. Sources that ask a target for tokens and have not got them all, in round robin: 4n + class of the target, source, tokens. -/ asks : List (Nat × Nat × Nat) := []
  /-- R187, R199. Tracked RSP and DAT packets whose DELIVERED notice is out: 4n + class of the source, and tag. -/ tracked : List (Nat × Nat) := []
  /-- R201. Since when the buffer of a class at an attachment is full and nothing has been consumed from it, ns, at 4n + class. -/ fullSince : Tbl (Option Nat) := []
  /-- R201. Stalled attachments that became dead targets. -/ stalled : List Nat := []
  /-- R201. Attachments whose unit has been reset since it stalled. -/ unitReset : List Nat := []
  /-- R201. Dead-target bound, µs. -/ deadBound : Nat := 100
  /-- R202. Sink mode. -/ sink : Bool := false
  /-- R203. Filters at 4 × probe + filter. -/ filters : Tbl Filter := []
  /-- R203. Counters at 4 × probe + filter. -/ probeCnt : Tbl Ctr := []
  /-- R205. Trace records, oldest first. -/ trace : List (BitVec 512) := []
  /-- R205. Tracing is on. -/ tracing : Bool := true
  /-- R205. Mode: true wrap, false fill-and-stop. -/ wrap : Bool := false
  /-- R205. Records lost. -/ lost : Ctr := {}
  /-- R204. Records written since the trace was cleared. -/ traceN : Nat := 0
  /-- R194. Line locks. -/ locks : List LineLock := []
  /-- R194. Requests waiting on a lock, in arrival order. -/ lockWait : List Packet := []
  /-- R195. NAUs to which a lock-broken notice is on its way. -/ lockNotices : List Nat := []
  /-- R197. The route change under way: its job, and whether the epoch has flipped. -/ change : Option (Nat × Bool) := none
  /-- R218. Tilth owes a change of its own when the running one ends. -/ changeOwed : Bool := false
  /-- R197. Routers (node div 2) that the owed change removes. -/ owedRouters : List Nat := []
  /-- R197. Links (node div 2, output code) that the owed change removes. -/ owedLinks : List (Nat × Nat) := []
  /-- R464. The start-up tables passed the check of R188. -/ startValid : Bool := true
  /-- R200. Elements to be disabled when the change ends: routers (node div 2), and links (4096 + 8 × node div 2 + code). -/ removing : List Nat := []
  /-- R189. Late answers discarded. -/ lateStray : Ctr := {}
  deriving DecidableEq, Repr

/-- The states of a group (R208). -/
inductive GState where
  | full | spared | half | failed
  deriving DecidableEq, Repr

/-- One die-link group (R208). -/
structure Group where
  /-- R208. STATE. -/ state : GState := .full
  /-- R208. HALF_HI. -/ halfHi : Bool := false
  /-- R208. TRAINED. -/ trained : Bool := false
  /-- R208. SPARE_FOR. -/ spareFor : Nat := 0x3F
  /-- R208. Lanes out of service. -/ oos : BitVec 33 := 0#33
  /-- R208. Worst margin of lane l since the last clear: timing, voltage. -/ worst : Tbl (Option (Nat × Nat)) := []
  /-- R211. Successive low measurements of lane l. -/ low : Tbl Nat := []
  /-- R211. Timing threshold. -/ tThr : Nat := 6
  /-- R211. Voltage threshold. -/ vThr : Nat := 8
  /-- R208. Lane checks. -/ checks : Ctr := {}
  /-- R213. Lane checks that found no bad lane. -/ noFault : Ctr := {}
  /-- R208. Spare swaps. -/ swaps : Ctr := {}
  /-- R208. Half-width entries. -/ halves : Ctr := {}
  /-- R213. Times of the no-fault checks of the last second, newest first, ns. -/ nfTimes : List Nat := []
  deriving DecidableEq, Repr

/-- The repair record (R221), kept in the Peat store: an entry is its kind (R219 row) and its unit (R373). -/
structure Tilth where
  /-- R220. Policies: true REPORT, in R220's order. -/ report : Tbl Bool := []
  /-- R221. Repair record in force. -/ recorded : List (Nat × Nat) := []
  /-- R221. Channels (UNIT) that the record holds as retired, not replaced. -/ recRetired : List Nat := []
  /-- R226. Links that a detour has removed, or that start-up routed round. -/ detours : List (Nat × Nat) := []
  /-- R221. Entries removed at the next device reset. -/ clearing : List (Nat × Nat) := []
  /-- R206. Groups by identifier. -/ groups : Tbl Group := []
  deriving DecidableEq, Repr

/-- The channel states (R244). -/
inductive ChState where
  | inService | standby | standIn | offline | replaced | retired | absent
  deriving DecidableEq, Repr

/-- A request in a channel's queue (R228, R234). -/
structure KReq where
  /-- R232. The request. -/ pkt : Packet
  /-- R463. Line index within the stack. -/ line : Nat
  /-- R234. It is a write. -/ wr : Bool
  /-- R234. When it was queued, ns. -/ at_ : Nat
  /-- R234. Its burst has been issued. -/ issued : Bool
  /-- R245. An order of R232 has held it back, which is counted once. -/ hazed : Bool
  /-- R151. A write whose completion went at its acceptance. -/ early : Bool := false
  /-- R236, R257. It is a read-modify-write: it takes a read entry and a write entry of the queues. -/ rmw : Bool := false
  /-- R233. KAO_CTRL as it stood at its acceptance. -/ ctrl : Word := 0x00100000#32
  /-- R233. KAO_SCHED as it stood at its acceptance. -/ sched : Word := 0x40403010#32
  /-- R232. What its burst has read, once issued: STATUS and data. -/ got : Option (Nat × Line) := none
  deriving DecidableEq, Repr

/-- One Kaolin channel (R245). -/
structure Chan where
  /-- R244. STATE; the spare starts in STANDBY. -/ state : ChState := .inService
  /-- R237. Postponed refreshes of bank b. -/ postponed : Tbl Nat := []
  /-- R242. CAL_FAILS. -/ calFails : Nat := 0
  /-- R243. Row remap table of bank b: entry 16b + i holds the row of spare row i. -/ remap : Tbl (Option Nat) := []
  /-- R245. KAO_RH_CTRL. -/ rhCtrl : Word := 0xC0001000#32
  /-- R245. KAO_ROW_SPARE. -/ rowSpare : Word := 0x00000004#32
  /-- R245. KAO_CH_ERR. -/ err : BitVec 8 := 0#8
  /-- R245. KAO_CNT_RD. -/ cntRd : Ctr := {}
  /-- R245. KAO_CNT_WR. -/ cntWr : Ctr := {}
  /-- R245. KAO_CNT_ACT. -/ cntAct : Ctr := {}
  /-- R245. KAO_CNT_NREF. -/ cntNref : Ctr := {}
  /-- R245. KAO_CNT_PANIC. -/ cntPanic : Ctr := {}
  /-- R245. KAO_CNT_HAZ. -/ cntHaz : Ctr := {}
  /-- R228, R232. Queued requests, and in source-order mode the writes that wait ahead of the queue, in order of arrival. -/ queue : List KReq := []
  /-- R234. Write drain is on. -/ drain : Bool := false
  /-- R234. Open row of bank b. -/ openRow : Tbl (Option Nat) := []
  /-- R234. Last hit of bank b's open row, ns, and the OPEN_TO that governs it; 0 under the closed-page policy. -/ hits : Tbl (Nat × Nat) := []
  /-- R238. Activation table: bank, row, count. -/ act : List (Nat × Nat × Nat) := []
  /-- R260. Row tracker: bank × 16384 + row, and its corrected lines. -/ tracker : List (Nat × List Nat) := []
  /-- R260. Rows lost by a full tracker. -/ trackerLost : Ctr := {}
  /-- R259. Next line the patrol reads. -/ patrolAt : Nat := 0
  /-- R262. LAST_LAP, s. -/ lastLap : Nat := 0
  /-- R259. When the current lap began, ns. -/ lapStart : Nat := 0
  /-- R244. The channel failed its last BIST. -/ bistBad : Bool := false
  /-- R219. Rows (bank × 16384 + row) over their trigger with no spare row left. -/ rowsOver : List Nat := []
  /-- R227. A trigger of its replacement that waits its turn: whether the channel has failed. -/ trigger : Option Bool := none
  deriving DecidableEq, Repr

/-- A line that a front has sent on for a slice, whose delivery it has yet to report to it (R132, R187). -/
structure Fwd where
  /-- R181. Silt tag of the slice's request. -/ tag : Nat
  /-- R132. Address of the line. -/ addr : Nat
  /-- R132. Node of the slice. -/ node : Nat
  /-- R250. Status of the line. -/ status : Nat
  /-- R189. When it was sent, ns. -/ sent : Nat
  deriving DecidableEq, Repr

/-- One controller front (R245, R262). -/
structure Front where
  /-- R245. KAO_CTRL. -/ ctrl : Word := 0x00100000#32
  /-- R245. KAO_SCHED. -/ sched : Word := 0x40403010#32
  /-- R262. KAO_INJ_CTRL. -/ injCtrl : Word := 0#32
  /-- R262. KAO_INJ_LINE. -/ injLine : Word := 0#32
  /-- R262. KAO_INJ_SYM0 to 2. -/ injSym : Tbl Word := []
  /-- R262. KAO_INJ_STATUS. -/ injStatus : Word := 0#32
  /-- R263. LINE has been read since the injection fired. -/ injRead : Bool := false
  /-- R262. KAO_CNT_CORR. -/ cntCorr : Ctr := {}
  /-- R262. KAO_CNT_UNCORR. -/ cntUncorr : Ctr := {}
  /-- R262. KAO_CNT_TAGF. -/ cntTagf : Ctr := {}
  /-- R262. KAO_CNT_POIS. -/ cntPois : Ctr := {}
  /-- R262. IME_CNT_ROLL. -/ cntRoll : Ctr := {}
  /-- R262. IME_CNT_CMISS. -/ cntCmiss : Ctr := {}
  /-- R463. Packets of several lines not yet answered: the packet, and STATUS and data of each of its lines served so far. -/ parts : List (Packet × Tbl (Option (Nat × Line))) := []
  /-- R132. Lines sent on for slices, not yet reported delivered. -/ fwds : List Fwd := []
  /-- R255. Cached major counters, page and value, newest first, at most 2,048 in sets of 8. -/ ctrCache : List (Nat × Nat) := []
  /-- R233. The mode of HAZ that the front takes once its queues have drained, after a register write of it. -/ hazDue : Option Bool := none
  deriving DecidableEq, Repr

/-- The kinds of granule (R231). -/
inductive GKind where
  | unassigned | window | spill (pos : Nat) | snoop | counters | dump
  deriving DecidableEq, Repr

/-- One granule entry (R231, R247). -/
structure Granule where
  /-- R231. Kind. -/ kind : GKind := .unassigned
  /-- R231. Owning plot. -/ plot : Nat := 0
  /-- R231. Key slot. -/ slot : Nat := 0
  /-- R247. Generation G. -/ gen : BitVec 16 := 0#16
  /-- R247. DIR bit. -/ dir : Bool := false
  /-- R247. Unswept count. -/ unswept : Nat := 0
  /-- R251, R252. What its lines hold that nothing has written: none, what the start-up fill left; else explicit poison under that
  generation, since a sweep. -/ fill : Option Nat := none
  /-- R251. A forced sweep runs; increments since it began. -/ sweep : Option Nat := none
  /-- R251. When G was increased, ns, newest first: since the earliest lap that the last common lap counted. -/ incs : List Nat := []
  deriving DecidableEq, Repr

/-- A stored line: 64 bytes of data and 16 bytes of sideband, as held in DRAM (R246). -/
structure Stored where
  /-- R246. Data. -/ data : Line
  /-- R246. Sideband. -/ side : BitVec 128
  deriving DecidableEq, Repr

/-- One Kaolin stack. -/
structure Stack where
  /-- R230. Mapping order in force. -/ order : Nat := 1
  /-- R230. Mapping order for the next device reset. -/ orderNext : Nat := 1
  /-- R245. OP. -/ op : Nat := 0
  /-- R245. SPARE_FOR. -/ spareFor : Nat := 0x1F
  /-- R237. HOT: above 85 °C. -/ hot : Bool := false
  /-- R237. Above 95 °C. -/ above95 : Bool := false
  /-- R245. Fronts. -/ fronts : Tbl Front := []
  /-- R228. Channels, 16 the spare. -/ chans : Tbl Chan := []
  /-- R231. Granule table. -/ granules : Tbl Granule := []
  /-- R246. Lines written since the fill, by line index L; none: as the fill or a sweep left them. -/ lines : Tbl (Option Stored) := []
  /-- R230, R252. The fill left zeros (true) or explicit poison. -/ zeroFill : Bool := false
  /-- R252, R255. Key under which the start-up fill sealed the counter table. -/ fillKey : BitVec 256 := 0#256
  /-- R259. Patrol lap target, minutes. -/ lapMin : Nat := 60
  /-- R251. Channels that have completed a lap since the stack's last common lap, and when that lap began, ns. -/ lapped : List (Nat × Nat) := []
  /-- R224. The channel whose lines are being copied to the spare. -/ copying : Option Nat := none
  /-- R224. Lines of that channel written since, which both channels hold. -/ both : List Nat := []
  /-- R224. Channels that stopped answering during a copy, and how many of their lines had been copied. -/ lost : List (Nat × Nat) := []
  /-- R438. Temperature reported, m°C. -/ temp : Int := 0
  deriving DecidableEq, Repr

/-- An image entry of the Peat directory (R312). -/
structure ImageEnt where
  /-- R312. The container stored. -/ bytes : Bytes
  /-- R264. The logical blocks that hold it. -/ blocks : List Nat := []
  deriving DecidableEq, Repr

/-- What a record of the Peat store's system area holds (R264, R312). -/
inductive SysBody where
  /-- R221. The repair record: entries, channels recorded as retired, entries to be removed at the next device reset. -/
  | repair (entries : List (Nat × Nat)) (retired : List Nat) (clearing : List (Nat × Nat))
  /-- R230, R312, R404. Stored settings: mapping orders for the next device reset, boot entries, DUMP_POLICY COPY. -/
  | settings (orders : Tbl Nat) (primary fallback : Nat) (dumpCopy : Bool)
  /-- R266, R267. The block map: retired blocks, blocks due, spare blocks left, the strength of the image area, where blocks lie. -/
  | blocks (retired due : List Nat) (spares t : Nat) (map : Tbl (Option Nat))
  /-- R312. The image directory: entries in use. -/
  | directory (entries : List Nat)
  deriving DecidableEq, Repr

/-- One copy of a system-area record (R265). -/
structure SysCopy where
  /-- R265. Sequence number. -/ seq : Nat
  /-- R265. Its sectors decode. -/ ok : Bool
  /-- R264. What it holds. -/ body : SysBody
  deriving DecidableEq, Repr

/-- The Peat store (R264). -/
structure Peat where
  /-- R312. Image directory by entry. -/ images : Tbl (Option ImageEnt) := []
  /-- R312. Primary entry, 0xFF none. -/ primary : Nat := 0xFF
  /-- R312. Fallback entry, 0xFF none. -/ fallback : Nat := 0xFF
  /-- R264. Correction strength t of the image area. -/ t : Nat := 24
  /-- R264. Spare blocks left. -/ spares : Nat := 246
  /-- R267. Read-only. -/ readOnly : Bool := false
  /-- R266. Block map: the physical block of a logical block; none: the one of its own number. -/ map : Tbl (Option Nat) := []
  /-- R267. Retired blocks. -/ retired : List Nat := []
  /-- R267. Blocks due for retirement with no spare. -/ due : List Nat := []
  /-- R267. Blocks at their write count or correction threshold, not yet retired. -/ toRetire : List Nat := []
  /-- R264. Write count of physical page 64·block + page. -/ writes : Tbl Nat := []
  /-- R264. Bad bits of physical sector 4·page + sector, when last read. -/ bits : Tbl Nat := []
  /-- R366. Histogram bins of the last lap. -/ hist : Tbl Nat := []
  /-- R266. Histogram of the lap under way. -/ histNow : Tbl Nat := []
  /-- R266. Next logical page of the retention scrub. -/ lapPage : Nat := 0
  /-- R266. When this lap began, ns. -/ lapStart : Nat := 0
  /-- R366. Last retention lap, hours. -/ lastLapH : Nat := 0
  /-- R265. First copy of system-area record k: 0 repair record, 1 stored settings, 2 block map, 3 image directory. -/ sysA : Tbl (Option SysCopy) := []
  /-- R265. Second copy of system-area record k. -/ sysB : Tbl (Option SysCopy) := []
  /-- R265. Records whose other copy is still to be written. -/ sysDue : List Nat := []
  /-- R326. Firmware slots: image bytes and valid mark; the device comes with an image in slot 0. -/ fw : Tbl (Option (Bytes × Bool)) := [(0, some ([], true))]
  deriving DecidableEq, Repr

/-- One configuration frame (R298). -/
structure Frame where
  /-- R297. 512 bytes; default zero. -/ bytes : Bytes := []
  /-- R298. Essential-word bits; none: every word essential. -/ ess : Option (BitVec 128) := none
  /-- R298. Dynamic flag. -/ dynamic : Bool := false
  /-- R298. Check bits; those of a frame that nothing has written since it was zeroed are 0 (log 196). -/ check : BitVec 27 := 0#27
  deriving DecidableEq, Repr

/-- A load under way (R316, R319). -/
structure Load where
  /-- R320. The job. -/ job : Nat
  /-- R316. 0: full load; otherwise the plot. -/ plot : Nat
  /-- R311. The container. -/ image : Bytes
  /-- R308. Content key. -/ key : Option (BitVec 256)
  /-- R309. Next INDEX of the chain of die p. -/ next : Tbl Nat
  /-- R309. Hash the next block of die p shall have. -/ hash : Tbl (BitVec 384)
  /-- R306. Dies whose END has passed. -/ ended : List Nat
  /-- R319. Frames written. -/ wrote : List Nat
  /-- R316. Blocks dispatched. -/ sent : Nat := 0
  deriving DecidableEq, Repr

/-- The configuration manager. -/
structure Cfg where
  /-- R294. Loading or Configured (Configured is CFG_DONE high). -/ loading : Bool := false
  /-- R297. Frames by address word. -/ frames : Tbl Frame := []
  /-- R316, R317. Loads under way. -/ loads : List Load := []
  /-- R359. LAST_RESULT. -/ lastResult : DWord := 0#64
  /-- R360. The fallback entry was used. -/ usedFallback : Bool := false
  /-- R315. Armed to take a segment. -/ armed : Bool := false
  /-- R315. Job that armed it; none: the boot. -/ armedBy : Option Nat := none
  /-- R315. Segments forwarded to CHAIN_OUT, newest last. -/ forwarded : List Bytes := []
  /-- R315. When the forwarding of the last one began, ns. -/ fwdStart : Nat := 0
  /-- R315. A segment is being taken (job). -/ taking : Option Nat := none
  /-- R360. SCAN_POLICY FATAL. -/ scanFatal : Bool := false
  /-- R324. Last lap, ms. -/ lastLapMs : Nat := 0
  /-- R324. Frames scanned in this lap. -/ scanned : Nat := 0
  /-- R324. When this lap began, ns. -/ lapStart : Nat := 0
  /-- R325. Device counts: corrected, essential, uncorrectable. -/ corr : Ctr := {}
  /-- R325. Corrected with an essential bit. -/ essCorr : Ctr := {}
  /-- R325. Uncorrectable. -/ uncorr : Ctr := {}
  /-- R189. Frames passed on to frame writers and not yet answered: Silt tag, and when sent, ns. -/ passed : List (Nat × Nat) := []
  /-- R313. Boot loads tried: 0 none, 1 primary, 2 fallback. -/ bootTry : Nat := 0
  deriving DecidableEq, Repr

/-- The management complex. -/
structure Mgmt where
  /-- R326. Firmware slot running. -/ slot : Nat := 0
  /-- R337. Security version, major, minor of the running Ohmyx. -/ fw : Nat × Nat × Nat := (0, 3, 2)
  /-- R329. A restart is in progress. -/ restarting : Bool := false
  /-- R329. FW_ACTIVATE asked for a restart. -/ restartFw : Bool := false
  /-- R328. When the last restart not caused by FW_ACTIVATE began, ns. -/ lastRestart : Option Nat := none
  /-- R422. Core pair halted, by session. -/ halted : Option Nat := none
  /-- R422. HALT_MS of the halt. -/ haltMs : Nat := 0
  /-- R332. SPD_BANK_OWNER of bank n; banks 0 to 3 the core pair, 4 to 7 shared. -/ owners : Tbl Nat := [(4, 3), (5, 3), (6, 3), (7, 3)]
  /-- R332. Reserved bits of SPD_BANK_OWNERn. -/ ownerHi : Tbl Nat := []
  /-- R332. SPD_ERR. -/ spdErr : BitVec 12 := 0#12
  /-- R332. SPD_CNT_CONFLICT. -/ cntConflict : Ctr := {}
  /-- R332. SPD_CNT_CORR. -/ cntCorr : Ctr := {}
  /-- R330. Scratchpad words. -/ spd : Tbl Word := []
  /-- R21, R217. Isolations whose job waits for a place: positions of the dies. -/ owedIsolations : List Nat := []
  /-- R345. Mailbox last served. -/ lastMbx : Nat := 18
  /-- R345. Job last stepped. -/ lastJob : Nat := 0
  /-- R345. Background task last stepped. -/ lastTask : Nat := 4
  /-- R345. µs commands have run since the last job step. -/ cmdUs : Nat := 0
  /-- R23. µs used by task i in the window. -/ used : Tbl Nat := []
  /-- R23. Windows that have ended (the model's own count). -/ windows : Nat := 0
  /-- R23. µs of management time in the current window. -/ windowUs : Nat := 0
  /-- R446. Shares of the last full window, per mille. -/ shares : Tbl Nat := []
  /-- R446. Busy per mille of the last window. -/ busy : Nat := 0
  /-- R350. Saturated. -/ saturated : Bool := false
  /-- R350. When the last busy event was raised, ns: start, end. -/ busyAt : Option Nat × Option Nat := (none, none)
  /-- R21. Identifier of the next job. -/ nextJob : Nat := 1
  /-- R347. Job records by identifier. -/ jobs : Tbl (Option Job) := []
  /-- R19. Functions held by jobs. -/ holds : List Hold := []
  /-- R360. Pieces of FW_UPDATE: total length, bytes so far, when the last came, mailbox. -/ pieces : Option (Nat × Bytes × Nat) := none
  /-- R90. NumVFs. -/ numVfs : Nat := 0
  /-- R334. MCTP endpoint identifier. -/ eid : Byte := 0#8
  /-- R334. Messages discarded for a bad PEC. -/ pecErr : Ctr := {}
  /-- R335. Frames discarded for a bad CRC. -/ crcErr : Ctr := {}
  /-- R334. Control responses sent on SMBus. -/ ctrlSent : List Bytes := []
  /-- R329. Functions owed a job-complete notice when the restart is over. -/ owed : List Nat := []
  /-- R342. Free values drawn by the model. -/ free : Nat := 0
  /-- R207, R345. Background steps done by task. -/ taskSteps : Tbl Nat := []
  deriving DecidableEq, Repr

/-- A break or watch unit (R409, R377). -/
structure Unit where
  /-- R377. ACTION: 0 off, 1 watch, 2 break. -/ action : Nat := 0
  /-- R411. LINK. -/ link : Nat := 0xFF
  /-- R377. TERMS. -/ terms : BitVec 4 := 0#4
  /-- R377. OP_MASK. -/ opMask : Word := 0#32
  /-- R377. ADDR_LO. -/ addrLo : Nat := 0
  /-- R377. ADDR_HI. -/ addrHi : Nat := 0
  /-- R377. CTX. -/ ctx : Nat := 0
  /-- R377. CLASS_MASK. -/ clsMask : Byte := 0#8
  /-- R411. Armed. -/ armed : Bool := false
  /-- R412. Hit count. -/ hits : Ctr := {}
  deriving DecidableEq, Repr

/-- One debug session (R375, R413). -/
structure Session where
  /-- R413. HORIZON. -/ hz : Horizon
  /-- R413. Bound plot. -/ plot : Nat
  /-- R377. Session key. -/ key : BitVec 256
  /-- R375. Lowest SEQ the session still accepts: one above the highest used. -/ seq : Nat
  /-- R409. Units. -/ units : Tbl Unit
  /-- R413. SILT_DBG_CTRL. -/ ctrl : Word
  /-- R413. SILT_BRK_HIT. -/ hit : Word
  /-- R413. SILT_BRK_CAPSRC. -/ capSrc : Word
  /-- R413. SILT_BRK_CAP0 to 3. -/ cap : BitVec 128
  /-- R413. SILT_DBG_LSTAT0 to 3. -/ lstat : BitVec 128
  /-- R413. SILT_DBG_CORE as last written; HALT reads as the core pair stands. -/ core : Word := 0#32
  deriving DecidableEq, Repr

/-- Debug and run control. -/
structure Dbg where
  /-- R375. Sessions by number. -/ sessions : Tbl (Option Session) := []
  /-- R375. Number of the next session. -/ nextId : Nat := 1
  /-- R423. Plot watchdogs restarted: region (64 × pos + r) has been kicked since its last expiry. -/ kicked : List Nat := []
  deriving DecidableEq, Repr

/-- The states of a link (R371), with Recovery (R72). -/
inductive LState where
  | disabled | training | l0 | down | insecure | recovery
  deriving DecidableEq, Repr

/-- A message unit that a link sent to its partner (R80, R139): class, length in bytes, content, attached data, poison flag. -/
structure SentUnit where
  /-- R139. CLASS. -/ cls : Nat
  /-- R139. LEN, as a number of bytes. -/ len : Nat
  /-- R139. Content. -/ bits : BitVec 512
  /-- R100. Attached data unit. -/ data : Option (List Line)
  /-- R118. Its payload is poisoned. -/ poison : Bool := false
  deriving DecidableEq, Repr

/-- One link of a coherent port (R74, R371). -/
structure Link where
  /-- R371. STATE. -/ state : LState := .disabled
  /-- R371. Settings: LINKCFG bytes. -/ role : Nat := 0
  /-- R75. Switch group. -/ group : Nat := 0
  /-- R75. Maximum rate. -/ maxRate : Nat := 0
  /-- R75. PROTO. -/ proto : Nat := 0
  /-- R75. FLITS. -/ flits : Nat := 0
  /-- R75. CXL device type. -/ cxlType : Nat := 0
  /-- R75. IDE on. -/ ide : Bool := false
  /-- R293. Configuration NAU. -/ cfgNode : Nat := 0
  /-- R74. Width now. -/ width : Nat := 0
  /-- R67. Rate now. -/ rate : Nat := 0
  /-- R74. Reversed. -/ reversed : Bool := false
  /-- R78. Width trained, to which L0p may widen. -/ trainedWidth : Nat := 0
  /-- R76. Rate to which training steps up. -/ topRate : Nat := 0
  /-- R76. Training has reached its final rate. -/ settled : Bool := false
  /-- R76. CXL was chosen. -/ cxl : Bool := false
  /-- R76. Flit mode was chosen. -/ flitMode : Bool := false
  /-- R84. How the link was last taken down by command: 1 hot reset, 2 link disable. -/ resetBy : Nat := 0
  /-- R83. It went down during the port's drain: its share is complete. -/ drained : Bool := false
  /-- R78. AER uncorrectable error status. -/ aer : Word := 0#32
  /-- R78. AER correctable error status. -/ aerCor : Word := 0#32
  /-- R75. Words written to the hardened configuration space, by offset. -/ cfgWords : Tbl Word := []
  /-- R79. HDM decoders. -/ hdm : Tbl (Option HdmRange) := []
  /-- R202. New requests of the partner that sink mode answered with SINK. -/ sunk : List (BitVec 128) := []
  /-- R82. Viral. -/ viral : Bool := false
  /-- R86. Insecure until the next IDE_KEY_SET. -/ insecure : Bool := false
  /-- R72. Recovery entries resumed. -/ recovery : Ctr := {}
  /-- R82. Replays. -/ replay : Ctr := {}
  /-- R101. Decode misses. -/ miss : Ctr := {}
  /-- R101. Agent-range faults. -/ agentFault : Ctr := {}
  /-- R102. Stray tagged answers. -/ stray : Ctr := {}
  /-- R102. Tag map: slice, tracker, generation. -/ tags : Tbl (Option (Nat × Nat × Nat)) := []
  /-- R84. Messages from Silt held for the link. -/ heldMsgs : List Packet := []
  /-- R80. Message units sent to the partner, newest last. -/ sent : List SentUnit := []
  /-- R81. Messages whose answers the partner owes: tag-map entry and packet. -/ waiting : List (Nat × Packet) := []
  /-- R84. Messages from Silt wait for link-up since a port change, or for the end of Recovery. -/ holding : Bool := false
  /-- R82. Viral has been signalled to the partner. -/ viralSent : Bool := false
  /-- R293. Configuration requests forwarded and not answered: tag and offset. -/ cfgReqs : List (Nat × Nat) := []
  /-- R189. When a configuration request was forwarded, by tag, ns. -/ cfgSent : Tbl Nat := []
  /-- R75. Completions returned to the partner for configuration requests (offset, value; none: Unsupported Request). -/ cfgDone : List (Nat × Option Nat) := []
  /-- R78. Power state: in L1 and L1.1 the lanes of the link sleep. -/ power : LinkPower := .active
  /-- R75. TLPs routed to this link or to the shell through it. -/ tlps : List Tlp := []
  deriving DecidableEq, Repr

/-- One coherent port (R74, R75). -/
structure Port where
  /-- R74. Bifurcation row; 7: not configured. -/ bifRow : Nat := 7
  /-- R75. Profile bound to its decoders; none until configured. -/ profile : Option Nat := none
  /-- R75. Drain bound, µs. -/ bound : Nat := 10000
  /-- R84. The port changes: messages from Silt are held by back-pressure. -/ quiesced : Bool := false
  /-- R83. A loopback test runs. -/ loopback : Bool := false
  /-- R70. It is a near-end one, in which no receiver adapts. -/ nearEnd : Bool := false
  /-- R144. Message units that the held decoder has not taken, in order. -/ heldUnits : List MsgUnit := []
  deriving DecidableEq, Repr

/-- One lane: fabric lanes 0 to 127, reach lanes 128 to 159 (R353). -/
structure Lane where
  /-- R73. DFE_TAPS. -/ taps : Nat := 0
  /-- R73. TX_PRESET. -/ preset : Nat := 0
  /-- R73. RATE. -/ rate : Nat := 0
  /-- R73. POL_INV. -/ polInv : Bool := false
  /-- R73. REVERSED. -/ reversed : Bool := false
  /-- R73. RX_SLEEP. -/ rxSleep : Bool := true
  /-- R73. TX_SLEEP. -/ txSleep : Bool := true
  /-- R73. ADAPT. -/ adapt : Bool := false
  /-- R73. LOL. -/ lol : Bool := false
  /-- R73. LOS. -/ los : Bool := false
  /-- R73. LOCKED. -/ locked : Bool := false
  /-- R70. Adaptation frozen by LANE_MARGIN. -/ frozen : Bool := false
  /-- R70. Adapted value (CTLE and DFE taps). -/ adapted : Nat := 0
  /-- R371. Five counters, in LANE_STATUS order. -/ cnt : Tbl Ctr := []
  /-- R69. Transmit coefficients: pre, main, post. -/ fir : Nat × Nat × Nat := (0, 0, 0)
  /-- R78. Margin commands served, in order. -/ margins : List Word := []
  /-- R69. Equalization phases completed at the lane's rate. -/ eqPhases : Nat := 0
  /-- R69. Preset the device requested of the partner. -/ asked : Nat := 0
  /-- R69. The partner's last request was refused. -/ refused : Bool := false
  deriving DecidableEq, Repr

/-- One reach lane's settings (R87, R371). -/
structure Reach where
  /-- R371. MODE: 0 off, 1 raw, 2 64b/66b, 3 with FEC. -/ mode : Nat := 0
  /-- R371. FLAGS. -/ flags : Nat := 0
  /-- R371. RATE_KBPS. -/ rateKbps : Nat := 0
  /-- R371. SINK. -/ sink : Nat := 0
  /-- R371. SOURCE. -/ source : Nat := 0
  /-- R371. FIR coefficients. -/ fir : Bytes := []
  /-- R88. Fill word. -/ fill : DWord := 0#64
  /-- R88. Receive buffer: packets waiting, 256 of 256 bytes at most (64 KiB). -/ buf : List (Bytes × Word × Nat) := []
  /-- R183. Sequence number. -/ seq : Nat := 0
  /-- R88. Packets that the lane has had to transmit since it last ran out of them. -/ tx : List Packet := []
  /-- R88. What the lane sends since it ran out of packets: the fill word, or an idle control block. -/ filler : Option DWord := none
  /-- R88. A discard has raised its event since the clear. -/ discardRaised : Bool := false
  /-- R88. An underflow has raised its event since the clear. -/ underRaised : Bool := false
  deriving DecidableEq, Repr

/-- Lanes and ports. -/
structure Io where
  /-- R74. Ports. -/ ports : Tbl Port := []
  /-- R74. Links. -/ links : Tbl Link := []
  /-- R73. Lanes. -/ lanes : Tbl Lane := []
  /-- R87. Reach lanes. -/ reach : Tbl Reach := []
  deriving DecidableEq, Repr

/-- One check-value unit (R287, R289). -/
structure Crc where
  /-- R287. CRC_CTRL. -/ ctrl : Word := 0x0000001F#32
  /-- R287. POLY. -/ poly : DWord := 0x04C11DB7#64
  /-- R287. INIT. -/ init : DWord := 0xFFFFFFFF#64
  /-- R287. XOROUT. -/ xorout : DWord := 0xFFFFFFFF#64
  /-- R287. Running value. -/ val : DWord := 0xFFFFFFFF#64
  /-- R287. CRC_ALIVE. -/ alive : BitVec 9 := 0x100#9
  /-- R287. CRC_STATUS. -/ status : BitVec 3 := 0#3
  /-- R287. CRC_CNT_ERR. -/ cntErr : Ctr := {}
  /-- R289. CRC_RX. -/ rx : DWord := 0#64
  /-- R289. CRC_RES. -/ res : DWord := 0#64
  /-- R289. CRC_END_STATUS: alive value used. -/ endAlive : Nat := 0
  /-- R289. CRC_END_STATUS: status. -/ endStatus : Nat := 4
  deriving DecidableEq, Repr

/-- One register bank of a Grit group (R280). -/
structure GBank where
  /-- R275. Accumulators by tile, 56 bits. -/ acc : Tbl (BitVec 56) := []
  /-- R278. X. -/ x : BitVec 9 := 0#9
  /-- R278. LC. -/ lc : BitVec 18 := 0#18
  /-- R278. PC. -/ pc : BitVec 6 := 0#6
  deriving DecidableEq, Repr

/-- The sequencer states (R282). -/
inductive GSeq where
  | stopped | running | waiting | halted
  deriving DecidableEq, Repr

/-- An update in the pipeline (R276): a word of an operand memory, X or LC of a bank, the outputs of the eight tiles. -/
inductive GWrite where
  | mem (tile a : Nat) (v : BitVec 24)
  | x (shadow : Bool) (inc : Bool) (v : BitVec 9)
  | lc (shadow : Bool) (v : BitVec 18)
  | out (vals : List (BitVec 24))
  deriving DecidableEq, Repr

/-- An operation of a tile in direct mode, in the pipeline (R275, R276). -/
structure GDirect where
  /-- R276. Clocks left until its result is presented. -/ left : Nat
  /-- R275. Tile. -/ tile : Nat
  /-- R275. 0: P; 1: acc + P; 2: acc − P; 3: acc + P + CASC. -/ op : Nat
  /-- R275. SHIFT. -/ shift : Nat
  /-- R275. The output has 56 bits, without rounding or saturation. -/ wide : Bool
  /-- R275. P. -/ p : Int
  /-- R276. The accumulator it left in stage 3. -/ acc : BitVec 56
  deriving DecidableEq, Repr

/-- One Grit group (R282). -/
structure Grit where
  /-- R282. GRT_SEQ_CTRL. -/ ctrl : Word := 0#32
  /-- R282. STATE. -/ seq : GSeq := .stopped
  /-- R280. BANK. -/ shadow : Bool := false
  /-- R280. EVT_PEND. -/ evtPend : Bool := false
  /-- R280. A taken event's return goes to WAITING or HALTED. -/ retTo : GSeq := .running
  /-- R282. GRT_ERR. -/ err : BitVec 4 := 0#4
  /-- R282. GRT_PROG as last written. -/ prog : Tbl Word := []
  /-- R281. The program in force: GRT_PROG as it stood when RUN was last set. -/ live : Tbl Word := []
  /-- R280. Primary bank. -/ prim : GBank := {}
  /-- R280. Shadow bank. -/ shad : GBank := {}
  /-- R277. Operand memories at 512 × tile + word. -/ mem : Tbl (BitVec 24) := []
  /-- R276. Updates in the pipeline with the cycles left. -/ pipe : List (Nat × GWrite) := []
  /-- R279. OUT stalls until the fabric accepts: outputs presented. -/ outs : Tbl (BitVec 24) := []
  /-- R279. Stalled in OUT. -/ outStall : Bool := false
  /-- R280. The bank whose OUT that is: shadow. -/ outOf : Bool := false
  /-- R276. Its outputs are presented: stage 4. -/ outReady : Bool := false
  /-- R279. The go input is high in this clock. -/ go : Bool := false
  /-- R277. Load-port writes that wait for P1: tile, word, value. -/ load : List (Nat × Nat × BitVec 24) := []
  /-- R276. Direct mode: the operations in the pipeline, oldest first. -/ direct : List GDirect := []
  /-- R275. Direct mode: the stage-4 output of each tile. -/ dout : Tbl (BitVec 56) := []
  deriving DecidableEq, Repr

/-- One block RAM (R271), as its region's last load or blank and the accesses since left it. -/
structure Bram where
  /-- R274. The load or blank of its region that its contents follow. -/ epoch : Nat := 0
  /-- R274. That was a blank: words nothing has written are zero. -/ blank : Bool := true
  /-- R271. Bits, as 1,024 words of 36, where something has written them since. -/ words : Tbl (Option (BitVec 36)) := []
  /-- R271. Shape of port A (set in the frames). -/ shapeA : Nat := 5
  /-- R271. Shape of port B. -/ shapeB : Nat := 5
  /-- R272. Write mode of port A: 0 read-first, 1 write-first, 2 no-change. -/ modeA : Nat := 0
  /-- R272. Write mode of port B. -/ modeB : Nat := 0
  /-- R272. Port A has the optional output register. -/ regA : Bool := false
  /-- R272. Port B has the optional output register. -/ regB : Bool := false
  /-- R272. What waits for port A's output register, and its BUSY. -/ midA : BitVec 72 × Bool := (0#72, false)
  /-- R272. What waits for port B's output register, and its BUSY. -/ midB : BitVec 72 × Bool := (0#72, false)
  /-- R272. Data out of port A. -/ outA : BitVec 72 := 0#72
  /-- R272. Data out of port B. -/ outB : BitVec 72 := 0#72
  /-- R273. BUSY to port A. -/ busyA : Bool := false
  /-- R273. BUSY to port B. -/ busyB : Bool := false
  deriving DecidableEq, Repr

/-- Fabric resources. -/
structure Fab where
  /-- R287. Check-value units at 64 × pos + u; Marl units at 256 + m. -/ crcs : Tbl Crc := []
  /-- R282. Grit groups at 480 × pos + g. -/ grits : Tbl Grit := []
  /-- R271. Block RAMs at 5400 × pos + block. -/ brams : Tbl Bram := []
  /-- R274. Loads and blanks of frames so far. -/ mark : Nat := 0
  /-- R274. By router node of a clock region: the load or blank that its contents follow, and whether it was a blank. -/ regions : Tbl (Option (Nat × Bool)) := []
  /-- R274. The same for regions not listed. -/ base : Nat × Bool := (0, true)
  deriving DecidableEq, Repr

/-- The telemetry mirror (R446): the fields Ohmyx samples, as last written. -/
structure Tele where
  /-- R445. SEQ. -/ seq : Word := 0#32
  /-- R446. The mirror's bytes as last written; zero beyond. -/ bytes : Bytes := []
  deriving DecidableEq, Repr

/-- The state of the device, and the queue of the commands that wait. -/
structure State where
  /-- Commands waiting, first in first out (not the manual's: the block's interface). -/ pending : List Instr := []
  /-- R429. Start-up, clocks, rails, thermal, pins. -/ sys : Sys := {}
  /-- R55. Vault. -/ vault : Vault := {}
  /-- R48. Plots, 0 the shell. -/ plots : Tbl Plot := []
  /-- R333. Mailboxes. -/ mbxs : Tbl Mbx := []
  /-- R90. Functions: 0 PF0, n VFn. -/ fns : Tbl Fn := []
  /-- R326. Management complex. -/ mgmt : Mgmt := {}
  /-- R387. Event controller. -/ evt : Evt := {}
  /-- R404. Dumps. -/ dumps : Dumps := {}
  /-- R92. Coherence engine. -/ pce : Pce := {}
  /-- R155. Flows. -/ flows : Tbl Flow := []
  /-- R169. Grain quarters by position. -/ quarters : Tbl Quarter := []
  /-- R174. Silt. -/ silt : Silt := {}
  /-- R219. Die links and Tilth. -/ tilth : Tilth := {}
  /-- R228. Stacks by position. -/ kstacks : Tbl Stack := []
  /-- R264. Peat store. -/ peat : Peat := {}
  /-- R294. Configuration manager. -/ cfg : Cfg := {}
  /-- R406. Debug. -/ dbg : Dbg := {}
  /-- R74. Ports and lanes. -/ io : Io := {}
  /-- R268. Fabric resources. -/ fab : Fab := {}
  /-- R445. Telemetry mirror. -/ tele : Tele := {}
  /-- R333. Host memory the DMA engines reach, byte by byte; unlisted bytes read 0. -/ host : List Host.Cell := []
  deriving DecidableEq, Repr

/-- Why a step stops with a fault. -/
inductive Fault where
  /-- Raised by nobody: the manual answers every bad access with a status (R184, R342), so no command faults; safe. -/
  | none
  deriving DecidableEq, Repr

/-- Why a command has no meaning. -/
inductive Refusal where
  /-- Raised by an arm of exec whose command is not modelled; safe. -/
  | notModelled (mnemonic : String)
  deriving DecidableEq, Repr

/-- The machine right after a device reset, POR_N still low (R431, R432). -/
def State.reset : State := {}

end Machine
end Sys2Proof
end

