-- ==== Sys2Proof/Machine/Tbl.lean ====
section
/-! DEFINITION. Sparse tables in one canonical form (keys strictly rising, no entry equal to the default), bit
fields of words (R5), little-endian byte strings (R5). -/

namespace Sys2Proof

/-- The entry of table `t` at key `k`; `d` is what an unlisted key holds. -/
def tget {α : Type} (d : α) : Tbl α → Nat → α
  | [], _ => d
  | (j, v) :: t, k => if j = k then v else if k < j then d else tget d t k

/-- Put `v` at key `k`, keeping keys rising; the default value is dropped. -/
def tset {α : Type} [DecidableEq α] (d : α) : Tbl α → Nat → α → Tbl α
  | [], k, v => if v = d then [] else [(k, v)]
  | (j, w) :: t, k, v =>
    if j = k then (if v = d then tset d t k v else (k, v) :: t)
    else if k < j then (if v = d then (j, w) :: t else (k, v) :: (j, w) :: t)
    else (j, w) :: tset d t k v

/-- The canonical form: keys strictly rising above `lo`, no entry equal to the default. -/
def tblWfFrom {α : Type} [DecidableEq α] (d : α) : Nat → Tbl α → Bool
  | _, [] => true
  | lo, (j, v) :: t => decide (lo ≤ j) && decide (v ≠ d) && tblWfFrom d (j + 1) t

/-- The canonical form of a table. -/
def tblWf {α : Type} [DecidableEq α] (d : α) (t : Tbl α) : Bool := tblWfFrom d 0 t

/-- Replace the entry at a key by a function of it. -/
def tmod {α : Type} [DecidableEq α] (d : α) (t : Tbl α) (k : Nat) (f : α → α) : Tbl α := tset d t k (f (tget d t k))

/-- Apply `f` to every listed entry. -/
def tmap {α : Type} [DecidableEq α] (d : α) (t : Tbl α) (f : Nat → α → α) : Tbl α :=
  t.foldl (fun acc kv => tset d acc kv.1 (f kv.1 kv.2)) t

/-- Set several keys to one value. -/
def tsetAll {α : Type} [DecidableEq α] (d : α) (t : Tbl α) (ks : List Nat) (f : α → α) : Tbl α :=
  ks.foldl (fun acc k => tmod d acc k f) t

/-- Field [hi:lo] of a word, as a number (R5). -/
def fld {n : Nat} (w : BitVec n) (hi lo : Nat) : Nat := (w.toNat >>> lo) % 2 ^ (hi + 1 - lo)

/-- The word with field [hi:lo] replaced by `v` modulo the field's width. -/
def setFld {n : Nat} (w : BitVec n) (hi lo v : Nat) : BitVec n :=
  BitVec.ofNat n (w.toNat - fld w hi lo * 2 ^ lo + (v % 2 ^ (hi + 1 - lo)) * 2 ^ lo)

/-- Bit `i` of a word. -/
def bitOf {n : Nat} (w : BitVec n) (i : Nat) : Bool := w.getLsbD i

/-- A Boolean as a bit. -/
def b2n (b : Bool) : Nat := if b then 1 else 0

/-- The byte of a string at an offset; bytes beyond its end read 0. -/
def byteAt (p : Bytes) (off : Nat) : Nat := (p.getD off 0#8).toNat

/-- The `n`-byte little-endian number at an offset (R5). -/
def leN (p : Bytes) (off : Nat) : Nat → Nat
  | 0 => 0
  | n + 1 => byteAt p off + 256 * leN p (off + 1) n

/-- The `n` bytes of a number, lowest first (R5). -/
def leBytes : Nat → Nat → Bytes
  | 0, _ => []
  | n + 1, v => BitVec.ofNat 8 v :: leBytes n (v / 256)

/-- The bytes of a number in big-endian order (keys, hashes and signatures, R351). -/
def beBytes (n v : Nat) : Bytes := (leBytes n v).reverse

/-- The `n`-byte big-endian number at an offset. -/
def beN (p : Bytes) (off n : Nat) : Nat := leN ((p.drop off).take n).reverse 0 n

/-- `n` zero bytes. -/
def zeros (n : Nat) : Bytes := List.replicate n 0#8

/-- Write bytes over a string at an offset (a string is taken as long enough). -/
def patch (p : Bytes) (off : Nat) (b : Bytes) : Bytes := p.take off ++ b ++ p.drop (off + b.length)

/-- A 64-byte line from a byte string (byte 0 in the low bits). -/
def lineOf (p : Bytes) (off : Nat) : Line := BitVec.ofNat 512 (leN p off 64)

/-- The 64 bytes of a line. -/
def lineBytes (l : Line) : Bytes := leBytes 64 l.toNat

/-- Sign of a two's complement number of `n` bits. -/
def signed (n v : Nat) : Int := if v < 2 ^ (n - 1) then (v : Int) else (v : Int) - 2 ^ n

/-- XOR of two numbers, bit by bit. -/
def nxor (a b : Nat) : Nat := Nat.xor a b

/-- Whether a list has an element. -/
def hasElem {α : Type} [DecidableEq α] (l : List α) (a : α) : Bool := l.any (fun x => decide (x = a))

/-- A list without an element. -/
def without {α : Type} [DecidableEq α] (l : List α) (a : α) : List α := l.filter (fun x => decide (x ≠ a))

/-- A list with an element added at its end unless it has it. -/
def withElem {α : Type} [DecidableEq α] (l : List α) (a : α) : List α := if hasElem l a then l else l ++ [a]

/-- A list without the first occurrence of an element. -/
def dropFirst {α : Type} [DecidableEq α] : List α → α → List α
  | [], _ => []
  | x :: l, a => if x = a then l else x :: dropFirst l a

end Sys2Proof
end

