-- ==== Sys2Proof/Machine/Flags.lean ====
section
/-! DEFINITION. How a register's fields take a write, and how statistic counters count and show their overflow flag (R9, R25). -/

namespace Sys2Proof
namespace Machine

/-! ## Registers -/

/-- A write keeps the previous value of a field in which it places a reserved encoding (R9). -/
def keepField (old v : Word) (hi lo : Nat) (ok : Nat → Bool) : Word :=
  if ok (fld v hi lo) then v else setFld v hi lo (fld old hi lo)

/-! ## Counters (R25) -/

/-- The largest count. -/
def ctrMax : Nat := 0x7FFFFFFF

/-- Add k to a counter: it saturates and sets its sticky overflow bit (R25). -/
def ctrAdd (c : Ctr) (k : Nat) : Ctr := if c.n + k ≤ ctrMax then { c with n := c.n + k } else { n := ctrMax, ovf := true }

/-- One more. -/
def ctrInc (c : Ctr) : Ctr := ctrAdd c 1

/-- A counter as its register shows it: OVF in bit 31, COUNT below (R25). -/
def ctrWord (c : Ctr) : Nat := c.n % 2 ^ 31 + 2 ^ 31 * b2n c.ovf

end Machine
end Sys2Proof
end

