-- ==== Sys2Proof/Machine/Geometry.lean ====
section
/-! DEFINITION. What stands where: parts, dies, coordinates, node identifiers, attachments, ports, lanes, slices and
event sources (package chapter, Silt chapter). -/

namespace Sys2Proof
namespace Machine

/-- Positions with a Loam die (variant table of R27). -/
def partDies : Part → List Nat
  | .gk2400 => [0, 2]
  | _ => [0, 1, 2, 3]

/-- Positions with a Kaolin stack (variant table). -/
def partStacks : Part → List Nat
  | .gk4800 => [0, 1, 2, 3]
  | _ => [0, 2]

/-- Device code (R1). -/
def partCode : Part → Nat
  | .gk4800 => 0x4800
  | .gk4600 => 0x4600
  | .gk4400 => 0x4400
  | .gk2400 => 0x2400

/-- Reach lanes of a part (variant table). -/
def partReach : Part → Nat
  | .gk4800 => 32
  | _ => 16

/-- Die at a position. -/
def dieAt (s : State) (p : Nat) : Die := tget {} s.sys.dies p

/-- A die is fitted at the position. -/
def dieFitted (s : State) (p : Nat) : Bool := hasElem (partDies s.sys.part) p

/-- The die at the position is fitted and in service (R29, R43). -/
def dieUp (s : State) (p : Nat) : Bool := dieFitted s p && decide ((dieAt s p).state = .inService)

/-- The positions of the dies in service. -/
def diesUp (s : State) : List Nat := (partDies s.sys.part).filter (fun p => dieUp s p)

/-- A stack is present at the position: fitted, beside a die in service, its rails good at training (R41, R452). -/
def stackUp (s : State) (p : Nat) : Bool :=
  hasElem (partStacks s.sys.part) p && dieUp s p && !hasElem s.sys.stackBad p

/-- IME is present on the part's dies in service (R42). -/
def imePresent (s : State) : Bool := s.sys.eff.ime

/-- Die-local (lx, ly) to package (x, y) (R35). -/
def pkgXY (p lx ly : Nat) : Nat × Nat :=
  match p with
  | 0 => (lx, ly)
  | 1 => (ly, 7 - lx)
  | 2 => (7 - lx, 7 - ly)
  | _ => (7 - ly, lx)

/-- Package (x, y) to die-local (lx, ly) (R35 inverted). -/
def localXY (p x y : Nat) : Nat × Nat :=
  match p with
  | 0 => (x, y)
  | 1 => (7 - y, x)
  | 2 => (7 - x, 7 - y)
  | _ => (y, 7 - x)

/-- Node identifier of package coordinates: die [9:7], y [6:4], x [3:1], attachment [0] (R35, R175). -/
def nodeXY (die x y att : Nat) : Nat := die * 128 + y * 16 + x * 2 + att

/-- Node identifier of die-local coordinates. -/
def nodeLocal (p lx ly att : Nat) : Nat := nodeXY p (pkgXY p lx ly).1 (pkgXY p lx ly).2 att

/-- Die field of a node identifier; 4 is the spine. -/
def nodeDie (n : Nat) : Nat := n / 128
/-- Package x of a node identifier. -/
def nodeX (n : Nat) : Nat := n / 2 % 8
/-- Package y of a node identifier. -/
def nodeY (n : Nat) : Nat := n / 16 % 8
/-- Attachment of a node identifier. -/
def nodeAtt (n : Nat) : Nat := n % 2

/-- What an attachment is (R175, R176). -/
inductive Att where
  | frameWriter (p : Nat) | slice (i : Nat) | quarter (p : Nat) | crcHub (p : Nat) | collector (p : Nat)
  | nau (k : Nat) | front (p lx : Nat) | port (n : Nat) | bridge (xl : Nat) | mgmt | cfgMgr | evtCtl | dbgMaster
  | peat | dma | traceBuf | crcHubMarl | reserved
  deriving DecidableEq, Repr

/-- Local slice of die-local column lx, ly 0 (R175). -/
def sliceOfLx : Nat → Option Nat
  | 1 => some 0
  | 3 => some 1
  | 4 => some 2
  | 6 => some 3
  | _ => none

/-- The port of local port k at position p (R36). -/
def portOf (p k : Nat) : Nat := 4 * (p % 2) + p / 2 + 2 * k

/-- The position of a port's die, and its local number (R36 inverted). -/
def portDie (n : Nat) : Nat := n / 4 + 2 * (n % 2)
/-- Local port number of a port. -/
def portLocal (n : Nat) : Nat := n % 4 / 2

/-- The attachment of a node identifier, leaving out whether it is present (R175, R176). -/
def attOf (n : Nat) : Att :=
  let d := nodeDie n
  let a := nodeAtt n
  if d < 4 then
    let l := localXY d (nodeX n) (nodeY n)
    if l.2 = 0 then
      if a = 1 then .reserved
      else match l.1 with
        | 0 => .frameWriter d
        | 2 => .quarter d
        | 5 => .crcHub d
        | 7 => .collector d
        | lx => match sliceOfLx lx with
          | some i => .slice (4 * d + i)
          | none => .reserved
    else if l.2 = 7 then
      if a = 0 then .front d l.1
      else if l.1 = 1 then .port (portOf d 0)
      else if l.1 = 6 then .port (portOf d 1)
      else .reserved
    else .nau (48 * a + 8 * (l.2 - 1) + l.1)
  else if d = 4 ∧ nodeX n < 4 ∧ nodeY n < 4 then
    if a = 0 then .bridge (8 * nodeY n + 2 * nodeX n)
    else match nodeX n, nodeY n with
      | 0, 0 => .mgmt
      | 1, 0 => .cfgMgr
      | 2, 0 => .evtCtl
      | 3, 0 => .dbgMaster
      | 0, 1 => .peat
      | 1, 1 => .dma
      | 2, 1 => .traceBuf
      | 3, 1 => .crcHubMarl
      | _, _ => .reserved
  else .reserved

/-- Node of the management complex (R176). -/
def mgmtNode : Nat := nodeXY 4 0 0 1
/-- Node of the configuration manager (R176). -/
def cfgNode : Nat := nodeXY 4 1 0 1
/-- Node of the event controller (R176). -/
def evtNode : Nat := nodeXY 4 2 0 1
/-- Node of the debug bus master (R176). -/
def dbgNode : Nat := nodeXY 4 3 0 1
/-- Node of the Peat store controller (R176). -/
def peatNode : Nat := nodeXY 4 0 1 1
/-- Node of slice i (R175). -/
def sliceNode (i : Nat) : Nat := nodeLocal (i / 4) ([1, 3, 4, 6].getD (i % 4) 0) 0 0
/-- Node of the Grain quarter at position p (R175). -/
def quarterNode (p : Nat) : Nat := nodeLocal p 2 0 0
/-- Node of the check-value hub at position p (R175). -/
def crcHubNode (p : Nat) : Nat := nodeLocal p 5 0 0
/-- Node of the check-value hub of the Marl die (R176). -/
def crcMarlNode : Nat := nodeXY 4 3 1 1
/-- Node of the frame writer at position p (R175). -/
def writerNode (p : Nat) : Nat := nodeLocal p 0 0 0
/-- Node of front lx of stack p (R175). -/
def frontNode (p lx : Nat) : Nat := nodeLocal p lx 7 0
/-- Node of port n's front (R175). -/
def portNode (n : Nat) : Nat := nodeLocal (portDie n) (if portLocal n = 0 then 1 else 6) 7 1
/-- Node of the reach bridge of lane xl (R176). -/
def bridgeNode (xl : Nat) : Nat := nodeXY 4 (xl % 8 / 2) (xl / 8) 0

/-- Position of a slice's die. -/
def sliceDie (i : Nat) : Nat := i / 4

/-- Slices present and in service (R29, R36). -/
def slicesUp (s : State) : List Nat := (List.range 16).filter (fun i => dieUp s (sliceDie i))

/-- Ports present and in service. -/
def portUp (s : State) (n : Nat) : Bool := decide (n < 8) && dieUp s (portDie n)

/-- Fabric lane FL f is present and in service (R36); reach lane f − 128 is, unless its spine router is bypassed (R219). -/
def laneUp (s : State) (f : Nat) : Bool :=
  if f < 128 then portUp s (f / 16)
  else decide (f - 128 < partReach s.sys.part) && !(tget {} s.silt.routers (bridgeNode (f - 128) / 2)).bypassed

/-- Grain dispatcher quarter p is present (R29, R42). -/
def quarterUp (s : State) (p : Nat) : Bool := dieUp s p && s.sys.eff.grn

/-- A router of node n exists and is powered (R29, R200). -/
def routerAt (s : State) (n : Nat) : Router := tget {} s.silt.routers (n / 2)

/-- The router's die is in service, or it is a spine router (R174). -/
def routerUp (s : State) (n : Nat) : Bool :=
  (decide (nodeDie n = 4 ∧ nodeX n < 4 ∧ nodeY n < 4) || dieUp s (nodeDie n)) && !(routerAt s n).bypassed

/-- The attachment is present and in service (R29, R188). -/
def attFitted (s : State) (n : Nat) : Bool :=
  routerUp s n &&
  (match attOf n with
   | .reserved => false
   | .quarter p => quarterUp s p
   | .front p _ => stackUp s p
   | .bridge xl => decide (xl < partReach s.sys.part)
   | _ => true)

/-- The attachment is present, in service and not stalled: not a dead target of its own (R29, R201). -/
def attUp (s : State) (n : Nat) : Bool := attFitted s n && !hasElem s.silt.stalled n

/-- Event source of fabric lane FL f or, from 128 on, of reach lane f − 128 (R379, R380). -/
def laneSrc (f : Nat) : Nat :=
  if f < 128 then 160 * portDie (f / 16) + 64 + 16 * portLocal (f / 16) + f % 16 else 640 + (f - 128)

/-- Event source of link l, engine l mod 2 of port l / 2 (R379). -/
def linkSrc (l : Nat) : Nat := 160 * portDie (l / 2) + 96 + 2 * portLocal (l / 2) + l % 2

/-- Event source of slice i (R379). -/
def sliceSrc (i : Nat) : Nat := 160 * (i / 4) + 100 + i % 4

/-- Event source of channel c of stack p (R379). -/
def chanSrc (p c : Nat) : Nat := 160 * p + 105 + c

/-- Event source of the grain dispatcher's quarter at position p (R379). -/
def grainSrc (p : Nat) : Nat := 160 * p + 104

/-- Event source of the stack at position p (R379). -/
def stackSrc (p : Nat) : Nat := 160 * p + 122

/-- Source 33, the key vault (R380). -/
def srcVault : Nat := 673

/-- Source 36, the Peat store (R380). -/
def srcPeat : Nat := 676

/-- Event source of the routers of node n (R379, R380). -/
def routerSrc (n : Nat) : Nat :=
  if nodeDie n = 4 then 677 else 160 * nodeDie n + 123 + (localXY (nodeDie n) (nodeX n) (nodeY n)).2

/-- Whether an event source exists and its unit is present (R379, R380, R29). -/
def srcUp (s : State) (i : Nat) : Bool :=
  if i < 640 then
    let p := i / 160
    let k := i % 160
    (dieUp s p || (decide (k = 133) && dieFitted s p)) && decide (k < 135) && (decide (¬(105 ≤ k ∧ k ≤ 122)) || stackUp s p) && (decide (k ≠ 104) || s.sys.eff.grn)
  else
    let j := i - 640
    if j < 32 then laneUp s (128 + j) else decide (j ≤ 43) || decide (64 ≤ j ∧ j ≤ 72)

/-- Whether an event source number is reserved (R379, R380, R383). -/
def srcReserved (i : Nat) : Bool :=
  if i < 640 then decide (135 ≤ i % 160)
  else decide (44 ≤ i - 640 ∧ i - 640 ≤ 63) || decide (73 ≤ i - 640)

/-- Silt address of Kaolin stack p (R179). -/
def stackBase (p : Nat) : Nat := p * 0x200000000

/-- First address of register space (R179). -/
def regBase : Nat := 0xFFFFFC0000000

/-- An address lies in Kaolin (R179). -/
def inKaolin (a : Nat) : Bool := decide (a < 0x800000000)
/-- An address lies in register space (R179). -/
def inRegs (a : Nat) : Bool := decide (regBase ≤ a ∧ a < 0x10000000000000)
/-- An address lies in the range not mapped (R179). -/
def unmappedAddr (a : Nat) : Bool := !inKaolin a && !inRegs a
/-- Node that owns a register address (R179). -/
def regNode (a : Nat) : Nat := (a - regBase) / 0x100000 % 1024
/-- Offset of a register address within its node (R179). -/
def regOff (a : Nat) : Nat := (a - regBase) % 0x100000
/-- Node of a die and clock region (package coordinates 8y + x), attachment 0. -/
def regionNode (pos r : Nat) : Nat := nodeXY pos (r % 8) (r / 8) 0

end Machine
end Sys2Proof
end

