-- ==== Sys2Proof/Machine/Ops.lean ====
section
/-! DEFINITION. Operations shared by the meanings: counters, plots and their resources, free values, event sources and
their delivery, error records, notices, job records. -/

namespace Sys2Proof
namespace Machine

/-! ## The queue and the time base -/

/-- The state with its queue replaced by what stands behind the command taken. -/
def dropPending (s : State) (rest : List Instr) : State := { s with pending := rest }

/-- The telemetry time base advances by one nanosecond (R428). -/
def idleTick (s : State) : State := { s with sys := { s.sys with timeNs := s.sys.timeNs + 1 } }

/-- Now, in nanoseconds since device reset (R391). -/
def now (s : State) : Nat := s.sys.timeNs

/-! ## Writing one component of the state -/

/-- Change the start-up, clock and pin state. -/
def modSys (s : State) (f : Sys → Sys) : State := { s with sys := f s.sys }
/-- Change the vault. -/
def modVault (s : State) (f : Vault → Vault) : State := { s with vault := f s.vault }
/-- Change the management complex. -/
def modMgmt (s : State) (f : Mgmt → Mgmt) : State := { s with mgmt := f s.mgmt }
/-- Change the event controller. -/
def modEvt (s : State) (f : Evt → Evt) : State := { s with evt := f s.evt }
/-- Change the dumps. -/
def modDumps (s : State) (f : Dumps → Dumps) : State := { s with dumps := f s.dumps }
/-- Change the coherence engine. -/
def modPce (s : State) (f : Pce → Pce) : State := { s with pce := f s.pce }
/-- Change Silt. -/
def modSilt (s : State) (f : Silt → Silt) : State := { s with silt := f s.silt }
/-- Change the die links and Tilth. -/
def modTilth (s : State) (f : Tilth → Tilth) : State := { s with tilth := f s.tilth }
/-- Change the Peat store. -/
def modPeat (s : State) (f : Peat → Peat) : State := { s with peat := f s.peat }
/-- Change the configuration manager. -/
def modCfg (s : State) (f : Cfg → Cfg) : State := { s with cfg := f s.cfg }
/-- Change the debug state. -/
def modDbg (s : State) (f : Dbg → Dbg) : State := { s with dbg := f s.dbg }
/-- Change ports and lanes. -/
def modIo (s : State) (f : Io → Io) : State := { s with io := f s.io }
/-- Change the fabric resources. -/
def modFab (s : State) (f : Fab → Fab) : State := { s with fab := f s.fab }
/-- Change the telemetry mirror. -/
def modTele (s : State) (f : Tele → Tele) : State := { s with tele := f s.tele }

/-- Change plot p. -/
def modPlot (s : State) (p : Nat) (f : Plot → Plot) : State := { s with plots := tmod {} s.plots p f }
/-- Change mailbox m. -/
def modMbx (s : State) (m : Nat) (f : Mbx → Mbx) : State := { s with mbxs := tmod {} s.mbxs m f }
/-- Change function n. -/
def modFn (s : State) (n : Nat) (f : Fn → Fn) : State := { s with fns := tmod {} s.fns n f }
/-- Change flow n. -/
def modFlow (s : State) (n : Nat) (f : Flow → Flow) : State := { s with flows := tmod {} s.flows n f }
/-- Change Grain quarter p. -/
def modQuarter (s : State) (p : Nat) (f : Quarter → Quarter) : State := { s with quarters := tmod {} s.quarters p f }
/-- Change stack p. -/
def modStack (s : State) (p : Nat) (f : Stack → Stack) : State := { s with kstacks := tmod {} s.kstacks p f }
/-- Change the die at position p. -/
def modDie (s : State) (p : Nat) (f : Die → Die) : State := modSys s (fun y => { y with dies := tmod {} y.dies p f })

/-- Plot p. -/
def plotAt (s : State) (p : Nat) : Plot := tget {} s.plots p
/-- Mailbox m. -/
def mbxAt (s : State) (m : Nat) : Mbx := tget {} s.mbxs m
/-- Slot i of mailbox m. -/
def slotAt (s : State) (m i : Nat) : Slot := tget {} (mbxAt s m).slots i
/-- Function n. -/
def fnAt (s : State) (n : Nat) : Fn := tget {} s.fns n
/-- Flow n. -/
def flowAt (s : State) (n : Nat) : Flow := tget {} s.flows n
/-- Grain quarter p. -/
def quarterAt (s : State) (p : Nat) : Quarter := tget {} s.quarters p
/-- Stack p. -/
def stackAt (s : State) (p : Nat) : Stack := tget {} s.kstacks p
/-- Event source i. -/
def srcAt (s : State) (i : Nat) : Src := tget {} s.evt.srcs i
/-- NAU of node n. -/
def nauAt (s : State) (n : Nat) : Nau := tget {} s.silt.naus n
/-- Slice i. -/
def sliceAt (s : State) (i : Nat) : Slice := tget {} s.pce.slices i
/-- Profile n. -/
def profileAt (s : State) (n : Nat) : Profile := tget {} s.pce.profiles n
/-- Link l. -/
def linkAt (s : State) (l : Nat) : Link := tget {} s.io.links l
/-- Port n. -/
def portAt (s : State) (n : Nat) : Port := tget {} s.io.ports n
/-- Lane f (128 + j: reach lane j). -/
def laneAt (s : State) (f : Nat) : Lane := tget {} s.io.lanes f
/-- Reach lane j. -/
def reachAt (s : State) (j : Nat) : Reach := tget {} s.io.reach j
/-- Die-link group g. -/
def groupAt (s : State) (g : Nat) : Group := tget {} s.tilth.groups g
/-- Channel a standing for the default: the spare (16) stands by until it is used (R244). -/
def chanDef (c : Nat) : Chan := if c = 16 then { state := .standby } else {}
/-- Channel c of stack p. -/
def chanAt (s : State) (p c : Nat) : Chan := tget (chanDef c) (stackAt s p).chans c
/-- Front lx of stack p. -/
def frontAt (s : State) (p lx : Nat) : Front := tget {} (stackAt s p).fronts lx
/-- Check-value unit. -/
def crcAt (s : State) (u : Nat) : Crc := tget {} s.fab.crcs u
/-- Grit group 480 × pos + g. -/
def gritAt (s : State) (g : Nat) : Grit := tget {} s.fab.grits g

/-- Change event source i. -/
def modSrc (s : State) (i : Nat) (f : Src → Src) : State := modEvt s (fun e => { e with srcs := tmod {} e.srcs i f })
/-- Change the NAU of node n. -/
def modNau (s : State) (n : Nat) (f : Nau → Nau) : State := modSilt s (fun e => { e with naus := tmod {} e.naus n f })
/-- Change slice i. -/
def modSlice (s : State) (i : Nat) (f : Slice → Slice) : State := modPce s (fun e => { e with slices := tmod {} e.slices i f })
/-- Change profile n. -/
def modProfile (s : State) (n : Nat) (f : Profile → Profile) : State :=
  modPce s (fun e => { e with profiles := tmod {} e.profiles n f })
/-- Change link l. -/
def modLink (s : State) (l : Nat) (f : Link → Link) : State := modIo s (fun e => { e with links := tmod {} e.links l f })
/-- Change port n. -/
def modPort (s : State) (n : Nat) (f : Port → Port) : State := modIo s (fun e => { e with ports := tmod {} e.ports n f })
/-- Change lane f. -/
def modLane (s : State) (n : Nat) (f : Lane → Lane) : State := modIo s (fun e => { e with lanes := tmod {} e.lanes n f })
/-- Change reach lane j. -/
def modReach (s : State) (n : Nat) (f : Reach → Reach) : State := modIo s (fun e => { e with reach := tmod {} e.reach n f })
/-- Change group g. -/
def modGroup (s : State) (n : Nat) (f : Group → Group) : State := modTilth s (fun e => { e with groups := tmod {} e.groups n f })
/-- Change channel c of stack p. -/
def modChan (s : State) (p c : Nat) (f : Chan → Chan) : State :=
  modStack s p (fun k => { k with chans := tmod (chanDef c) k.chans c f })
/-- Change front lx of stack p. -/
def modFront (s : State) (p lx : Nat) (f : Front → Front) : State := modStack s p (fun k => { k with fronts := tmod {} k.fronts lx f })
/-- Change a check-value unit. -/
def modCrc (s : State) (u : Nat) (f : Crc → Crc) : State := modFab s (fun e => { e with crcs := tmod {} e.crcs u f })
/-- Change a Grit group. -/
def modGrit (s : State) (g : Nat) (f : Grit → Grit) : State := modFab s (fun e => { e with grits := tmod {} e.grits g f })
/-- The frames of clock regions, named by their router nodes, have been loaded, or blanked (R274). -/
def markRegions (s : State) (l : List Nat) (blank : Bool) : State :=
  modFab s (fun e => { e with mark := e.mark + 1, regions := l.foldl (fun t n => tset none t (n / 2 * 2) (some (e.mark + 1, blank))) e.regions })
/-- The frames of the whole device have been loaded, or blanked. -/
def markAll (s : State) (blank : Bool) : State := modFab s (fun e => { e with mark := e.mark + 1, regions := [], base := (e.mark + 1, blank) })
/-- The load or blank that the contents of a clock region follow. -/
def regionEpoch (s : State) (n : Nat) : Nat × Bool := (tget none s.fab.regions (n / 2 * 2)).getD s.fab.base
/-- Change the routers of node n. -/
def modRouter (s : State) (n : Nat) (f : Router → Router) : State :=
  modSilt s (fun e => { e with routers := tmod {} e.routers (n / 2) f })
/-- Change slot i of mailbox m. -/
def modSlot (s : State) (m i : Nat) (f : Slot → Slot) : State := modMbx s m (fun b => { b with slots := tmod {} b.slots i f })

/-! ## Free values -/

/-- A fresh free value of w bits, and the state that has drawn it. -/
def freeValue (s : State) : BitVec 512 × State :=
  (Config.openValue s.mgmt.free, modMgmt s (fun g => { g with free := g.free + 1 }))

/-- Pick an element of a list that the manual leaves open, and move on to the next free value. -/
def pickOpen (s : State) (l : List Nat) : Nat × State :=
  (l.getD ((freeValue s).1.toNat % l.length) 0, (freeValue s).2)

/-- A retry hint, at least 1 µs (R339, R350). -/
def retryHint (s : State) : Nat := max 1 (Config.retryEstimate s.mgmt.free).toNat

/-- The next draw of the vault's generator (R60). -/
def drawOf (s : State) : BitVec 384 := Config.drbg s.vault.draws

/-- The state after n draws. -/
def drawn (s : State) (n : Nat) : State := modVault s (fun v => { v with draws := v.draws + n })

/-! ## Plots (R48) -/

/-- The plots' identities, 1 to 16. -/
def plotIds : List Nat := [1, 2, 3, 4, 5, 6, 7, 8, 9, 10, 11, 12, 13, 14, 15, 16]

/-- The first plot for which a predicate holds. -/
def plotWhere (s : State) (f : Plot → Bool) : Option Nat := plotIds.find? (fun p => (plotAt s p).live && f (plotAt s p))

/-- The plot bound to VF n, or none. -/
def plotOfVf (s : State) (n : Nat) : Option Nat := plotWhere s (fun p => decide (p.res.vf = n))

/-- The plot that holds an NAU node; 0 the shell (R48). -/
def plotOfNau (s : State) (node : Nat) : Nat := (plotWhere s (fun p => hasElem p.res.naus node)).getD 0

/-- The plot that holds the clock region of a router node (attachment 0); 0 the shell. -/
def plotOfRegion (s : State) (node : Nat) : Nat := (plotWhere s (fun p => hasElem p.res.regions (node / 2 * 2))).getD 0

/-- The plot that holds check-value unit 256 × pos + u; 0 the shell. -/
def plotOfCrc (s : State) (u : Nat) : Nat := (plotWhere s (fun p => hasElem p.res.crcs u)).getD 0

/-- The plot that holds flow f; 0 the shell. -/
def plotOfFlow (s : State) (f : Nat) : Nat :=
  (plotWhere s (fun p => decide (p.res.flowBase ≤ f ∧ f < p.res.flowBase + p.res.flowCount))).getD 0

/-- The plot that holds agent a; 0 the shell. -/
def plotOfAgent (s : State) (a : Nat) : Nat :=
  (plotWhere s (fun p => decide (p.res.agentBase ≤ a ∧ a < p.res.agentBase + p.res.agentCount))).getD 0

/-- The plot to which an event source is assigned; none: unassigned (R382). -/
def plotOfSrc (s : State) (i : Nat) : Option Nat := plotWhere s (fun p => hasElem p.res.events i)

/-- The plot that holds key slot k; none: none. -/
def plotOfSlot (s : State) (k : Nat) : Option Nat := plotWhere s (fun p => hasElem p.res.slots k)

/-- A plot is tenant-held (R48). -/
def tenantHeld (s : State) (p : Nat) : Bool := decide (p ≠ 0) && (plotAt s p).tenantKey.isSome

/-- A plot's NAUs answer PLOT_BLANK: Empty or Loading; never the shell (R190). -/
def plotBlank (s : State) (p : Nat) : Bool :=
  decide (p ≠ 0) && (decide ((plotAt s p).state = .empty) || decide ((plotAt s p).state = .loading))

/-- CFG_DONE is high: the device is Configured (R294). -/
def configured (s : State) : Bool := s.sys.cfgDone

/-! ## MSI-X (R90, R386) -/

/-- A function is enabled: PF0, or one of the first NumVFs VFs (R90). -/
def fnEnabled (s : State) (f : Nat) : Bool := decide (f ≤ s.mgmt.numVfs)

/-- An MSI-X message of a function can be sent: the function is enabled, the vector unmasked, the management endpoint up (R89, R91). -/
def msixSends (s : State) (f v : Nat) : Bool := fnEnabled s f && s.sys.endpointUp && hasElem (fnAt s f).unmasked v

/-- An MSI-X message on a vector: sent, or else pending; a pending one takes further ones in (R91, R386). -/
def msix (s : State) (f v : Nat) : State :=
  let go := msixSends s f v
  modFn s f (fun n => if go then { n with sent := tmod 0 n.sent v (· + 1) } else { n with pending := withElem n.pending v })

/-- The pending messages of a function that can be sent now are sent. -/
def flushMsix (s : State) (f : Nat) : State := (fnAt s f).pending.foldl (fun s v =>
  if msixSends s f v then modFn s f (fun n => { n with pending := without n.pending v, sent := tmod 0 n.sent v (· + 1) }) else s) s

/-- The management endpoint is up: what waits for it is sent (R89). -/
def endpointOn (s : State) : State := (List.range 17).foldl flushMsix (modSys s (fun y => { y with endpointUp := true }))

/-! ## Event sources (R381 to R389) -/

/-- RATE in force (R387). -/
def srcRate (c : Src) : Nat := if c.rate = 0 then 64 else c.rate

/-- Millionths of a token still missing from the bucket at time t (R387). -/
def srcMissing (c : Src) (t : Nat) : Nat := c.used - srcRate c * (t - c.usedAt)

/-- The bucket holds a token at time t. -/
def srcHasToken (c : Src) (t : Nat) : Bool := decide (srcMissing c t + 1000000 ≤ srcRate c * 1000000)

/-- Take a token at time t; the bucket is empty when none is left. -/
def srcTake (c : Src) (t : Nat) : Src :=
  { c with used := min (srcMissing c t + 1000000) (srcRate c * 1000000), usedAt := t }

/-- Deliver on every part of the source's route (R382, R384 to R386). -/
def deliver (s : State) (i : Nat) : State :=
  let c := srcAt s i
  let s1 := if c.func = 0xFF then s else msix s c.func c.vector
  let s2 := if c.pins = 0#4 then s1 else modSrc s1 i (fun c => { c with pinFlag := true })
  let s3 := match c.fabric with
    | none => s2
    | some (h, l) => modEvt s2 (fun e => { e with lines := tmod false e.lines (16 * h + l) (fun b => !b) })
  if c.fw then modEvt s3 (fun e => { e with fwCount := tmod 0 e.fwCount i (· + 1) }) else s3

/-- A raise, leaving out the storm check (R387, R388). -/
def raiseBase (s : State) (i : Nat) : State :=
  if srcUp s i then
    let t := now s
    let s1 := modSrc s i (fun c => { c with count := ctrInc c.count, lastNs := t })
    match (srcAt s i).state with
    | .masked => s1
    | _ =>
      if srcHasToken (srcAt s i) t then deliver (modSrc s1 i (fun c => { (srcTake c t) with owed := 0 })) i
      else modSrc s1 i (fun c => { c with coalesced := ctrInc c.coalesced, owed := c.owed + 1, state := .coalescing })
  else s

/-- Sources now coalescing. -/
def coalescingCount (s : State) : Nat := (s.evt.srcs.filter (fun c => decide (c.2.state = .coalescing))).length

/-! ## Error records (R390 to R395) -/

/-- The severities (R390). -/
def sevInfo : Nat := 0
/-- R390. -/
def sevCorrected : Nat := 1
/-- R390. -/
def sevContained : Nat := 2
/-- R390. -/
def sevViolation : Nat := 3
/-- R390. -/
def sevFatal : Nat := 4

/-- What a record is made of beside its sequence number and time. -/
structure RecOf where
  src : Nat
  sev : Nat
  cause : Nat
  plot : Nat := 0
  sub : Nat := 0
  node : Nat := 0
  info : Nat := 0
  deriving DecidableEq, Repr

/-- An open record of the same SOURCE, CAUSE, NODE, SUB and PLOT (R394). -/
def sameOpen (r : RecOf) (x : Rec) : Bool :=
  x.isOpen && decide (x.src = r.src ∧ x.cause = r.cause ∧ x.node = r.node ∧ x.sub = r.sub ∧ x.plot = r.plot)

/-- Count a record lost to the views it belongs to (R393, R395). -/
def countLost (e : Evt) (plot : Nat) : Evt :=
  { e with lostA := ctrInc e.lostA, lostB := if plot = 0 then e.lostB else tmod {} e.lostB plot ctrInc }

/-- The record ring with the first record that fits a predicate taken out, and its plot. -/
def takeOut (f : Rec → Bool) : List Rec → Option (Nat × List Rec)
  | [] => none
  | r :: l => if f r then some (r.plot, l) else (takeOut f l).map (fun x => (x.1, r :: x.2))

/-- The new record. -/
def newRec (s : State) (r : RecOf) : Rec :=
  { seq := s.evt.nextSeq, time := now s, src := r.src, sev := r.sev, isOpen := true, plot := r.plot, cause := r.cause, rpt := 0,
    sub := r.sub, node := r.node, info := r.info, acted := false }

/-- Append a record at the end of the ring. -/
def pushRec (e : Evt) (r : Rec) : Evt := { e with ring := e.ring ++ [r], nextSeq := (e.nextSeq + 1) % 2 ^ 32 }

/-- Make a record (R393, R394): whether it was dropped, and the state. -/
def recordBase (s : State) (r : RecOf) : Bool × State :=
  if s.evt.ring.any (sameOpen r) then
    (false, modEvt s (fun e => { e with ring := e.ring.map (fun x =>
      if sameOpen r x then { x with rpt := min 0xFFFF (x.rpt + 1) } else x) }))
  else if s.evt.ring.length < 256 then (false, modEvt s (fun e => pushRec e (newRec s r)))
  else match takeOut (fun x => !x.isOpen) s.evt.ring with
    | some (pl, l) => (false, modEvt s (fun e => pushRec { (countLost e pl) with ring := l } (newRec s r)))
    | none =>
      if r.sev = sevFatal then
        (false, modEvt s (fun e =>
          pushRec { (countLost e ((e.ring.head?.map (·.plot)).getD 0)) with ring := e.ring.drop 1 } (newRec s r)))
      else (true, modEvt s (fun e => countLost e r.plot))

/-- Source 39, the event controller (R380). -/
def srcEvt : Nat := 679

/-- Make a record; source 39 raises where it is dropped (R393). -/
def record (s : State) (r : RecOf) : State :=
  let x := recordBase s r
  if x.1 then raiseBase x.2 srcEvt else x.2

/-- After a raise: a storm begins when more than 64 sources coalesce (R389). -/
def stormCheck (s : State) : State :=
  if coalescingCount s > 64 then
    if s.evt.storm then s
    else raiseBase (record (modEvt s (fun e => { e with storm := true }))
      { src := srcEvt, sev := sevInfo, cause := 0x2D, node := evtNode }) srcEvt
  else modEvt s (fun e => { e with storm := false })

/-- Raise a source (R387, R389). -/
def raise (s : State) (i : Nat) : State := stormCheck (raiseBase s i)

/-- Raise a source and make a record of the cause (R379, R390). -/
def report (s : State) (r : RecOf) : State := record (raise s r.src) r

/-- Ohmyx has done what a record's cause requires of it (R394). -/
def markActed (s : State) (cause node : Nat) : State :=
  modEvt s (fun e => { e with ring := e.ring.map (fun x =>
    if x.cause = cause ∧ x.node = node then { x with acted := true } else x) })

/-! ## Notices (R383) -/

/-- A notice of source j is counted for function f (R374). -/
def countNotice (j : Nat) (s : State) (f : Nat) : State :=
  modEvt s (fun e => { e with notices := tmod {} e.notices (32 * j + f) ctrInc })

/-- The notice of source j to function f waits for the source's next token (R387). -/
def oweNotice (j : Nat) (s : State) (f : Nat) : State :=
  modEvt s (fun e => { e with owedFns := tset false e.owedFns (32 * j + f) true })

/-- The notices owed to functions are sent on their vectors 1 (R383, R387). -/
def sendOwed (s : State) (j : Nat) : State :=
  let ks := (s.evt.owedFns.map (·.1)).filter (fun k => decide (k / 32 = j))
  modEvt (ks.foldl (fun s k => msix s (k % 32) 1) s) (fun e => { e with owedFns := e.owedFns.filter (fun kv => decide (kv.1 / 32 ≠ j)) })

/-- Raise notice source j toward functions: its count, its pins and mailbox-17 route, the count of each function's notices, and
with the delivery vector 1 of each function; a notice that finds no token waits for it (R383, R387). -/
def notice (s : State) (j : Nat) (fns : List Nat) : State :=
  let c := srcAt s (640 + j)
  let s1 := fns.foldl (countNotice j) (raise s (640 + j))
  if c.state = .masked then s1
  else if srcHasToken c (now s) then sendOwed (fns.foldl (fun s f => msix s f 1) s1) j
  else fns.foldl (oweNotice j) s1

/-- PF0 and every enabled VF. -/
def allFns (s : State) : List Nat := List.range (s.mgmt.numVfs + 1)

/-- A capability event (R28): CHANGE counts, and notice 65 goes to PF0 and every enabled VF. -/
def capEvent (s : State) : State :=
  let s1 := modSys s (fun y => { y with change := y.change + 1#16 })
  notice s1 65 (allFns s1)

/-- A plot state change notice (R383): PF0 and the plot's VF. -/
def plotNotice (s : State) (p : Nat) : State := notice s 67 [0, (plotAt s p).res.vf]

/-! ## Holds of jobs (R16, R19) -/

/-- Some open job acts on the function (R19). -/
def held (s : State) (f : Func) : Bool := s.mgmt.holds.any (fun h => decide (h.fn = f))

/-- A quiesce of the function is in force (R16, R17). -/
def quiescing (s : State) (f : Func) : Bool := s.mgmt.holds.any (fun h => decide (h.fn = f) && h.quiesce)

/-- A job's holds are given up: each function resumes (R16, R18). -/
def releaseHolds (s : State) (job : Nat) : State :=
  modMgmt s (fun g => { g with holds := g.holds.filter (fun h => decide (h.job ≠ job)) })

/-- Job record of an identifier (R347). -/
def jobAt (s : State) (id : Nat) : Option Job := tget none s.mgmt.jobs id

/-- Change a job record. -/
def modJob (s : State) (id : Nat) (f : Job → Job) : State :=
  modMgmt s (fun g => { g with jobs := tmod none g.jobs id (fun j => j.map f) })

/-- The open jobs (R21). -/
def openJobs (s : State) : List Nat :=
  (s.mgmt.jobs.filter (fun kv => match kv.2 with | some j => decide (j.state = .running) | none => false)).map (·.1)

/-- Function that hears of a mailbox's jobs: VF n for mailbox n, PF0 else (R348). -/
def jobFn (m : Nat) : Nat := if 1 ≤ m ∧ m ≤ 16 then m else 0

/-- The sender of a job that applies a settings record: no mailbox, and no function hears of it (R304). -/
def settingMbx : Nat := 25

/-- A job ends: its record, its holds, its completion notice (R20, R347, R383), which waits while Ohmyx restarts (R329). -/
def endJob (s : State) (id : Nat) (st : JobState) (result detail word : Nat) (data : Bytes) : State :=
  match jobAt s id with
  | none => s
  | some j =>
    let s1 := modJob s id (fun j => { j with
      state := st, result := result, detail := detail, word := BitVec.ofNat 64 word, data := data, endedAt := now s })
    if j.mbx = settingMbx then releaseHolds s1 id
    else if s.mgmt.restarting then modMgmt (releaseHolds s1 id) (fun g => { g with owed := g.owed ++ [jobFn j.mbx] })
    else notice (releaseHolds s1 id) 64 [jobFn j.mbx]

end Machine
end Sys2Proof
end

