-- ==== Sys2Proof/Machine/PeatOps.lean ====
section
/-! DEFINITION. The Peat store's pages (R264 to R267): the block map, page writes and their counts, bad bits, the retention scrub,
levelling, retirement's trigger, and the records of the system area. -/

namespace Sys2Proof
namespace Machine

/-! ## Blocks, pages and sectors (R264) -/

/-- The physical block of a logical block. -/
def peatPhys (x : Peat) (b : Nat) : Nat := (tget none x.map b).getD b

/-- Correction strength of a block: 64 in the system area, t in the image area. -/
def peatT (x : Peat) (b : Nat) : Nat := if Config.peatSystem b then 64 else x.t

/-- A physical block is in service. -/
def peatInService (x : Peat) (pb : Nat) : Bool :=
  (decide (pb < 8192) && (tget none x.map pb).isNone) || x.map.any (fun kv => decide (kv.2 = some pb))

/-- Write count of a physical block: the highest of its pages. -/
def blockCount (x : Peat) (pb : Nat) : Nat :=
  x.writes.foldl (fun m kv => if kv.1 / 64 = pb then max m kv.2 else m) 0

/-- Highest write count of the blocks in service. -/
def peatMax (x : Peat) : Nat := x.writes.foldl (fun m kv => if peatInService x (kv.1 / 64) then max m kv.2 else m) 0

/-- Lowest write count of the blocks in service; with fewer written pages than blocks some block has none. -/
def peatMin (x : Peat) : Nat :=
  if x.writes.length < 8192 then 0
  else (List.range 8192).foldl (fun m b => min m (blockCount x (peatPhys x b))) (peatMax x)

/-- A page of a logical block is written whole: its count rises, its sectors are fresh, and at 10^9 the block is to be retired (R267). -/
def writePage (x : Peat) (b page : Nat) : Peat :=
  let k := 64 * peatPhys x b + page
  let n := tget 0 x.writes k + 1
  { x with
    writes := tset 0 x.writes k n
    bits := (List.range 4).foldl (fun t i => tset 0 t (4 * k + i) 0) x.bits
    toRetire := if 1000000000 ≤ n then withElem x.toRetire b else x.toRetire }

/-- The pages of a block are written one after the other. -/
def writeBlock (x : Peat) (b : Nat) : Peat := (List.range 64).foldl (fun y p => writePage y b p) x

/-- Bad bits of sector i (0 to 255) of a logical block. -/
def sectorBits (x : Peat) (b i : Nat) : Nat := tget 0 x.bits (256 * peatPhys x b + i)

/-- The sectors of a block that are not correctable (R264). -/
def lostSectors (x : Peat) (b : Nat) : List Nat := (List.range 256).filter (fun i => decide (peatT x b < sectorBits x b i))

/-- Sectors of a physical block that no strength corrects: what was to stand in them is lost. -/
def loseSectors (x : Peat) (pb : Nat) (l : List Nat) : Peat :=
  { x with bits := l.foldl (fun t i => tset 0 t (256 * pb + i) 65) x.bits }

/-- Every page of the blocks can be read. -/
def blocksReadable (x : Peat) (l : List Nat) : Bool := l.all (fun b => (lostSectors x b).isEmpty)

/-- Every page of an image can be read. -/
def imageReadable (x : Peat) (e : ImageEnt) : Bool := blocksReadable x e.blocks

/-- Blocks that n bytes take. -/
def blocksFor (n : Nat) : Nat := (n + 262143) / 262144

/-- Logical blocks of firmware slot k, 4 MiB. -/
def fwBlocks (k : Nat) : List Nat := (List.range 16).map (fun i => Config.peatSlot k i % 8192)

/-- Logical blocks of dump slot k, 16 MiB (R404). -/
def dumpBlocks (k : Nat) : List Nat := (List.range 64).map (fun i => Config.peatSlot (2 + k) i % 8192)

/-- The image in firmware slot k can be read. -/
def fwReadable (x : Peat) (k : Nat) : Bool :=
  match tget none x.fw k with | some (b, _) => blocksReadable x ((fwBlocks k).take (blocksFor b.length)) | none => false

/-- The next multiple of 4 KiB. -/
def up4k (n : Nat) : Nat := (n + 4095) / 4096 * 4096

/-- Where a dump with the given section lengths ends. -/
def dumpEnd (n : Nat) (lens : List Nat) : Nat := lens.foldl (fun a l => up4k a + l) (64 + 16 * n)

/-- Blocks of its Peat slot that a dump takes. -/
def dumpTakes (d : Dump) : List Nat :=
  (dumpBlocks d.slot).take (blocksFor (dumpEnd d.sects.length (d.sects.map (fun x => x.2.2.2.2.length))))

/-- Logical blocks of the image area that no image and no slot holds. -/
def freeBlocks (x : Peat) : List Nat :=
  let slots := fwBlocks 0 ++ fwBlocks 1 ++ dumpBlocks 0 ++ dumpBlocks 1
  (List.range 8192).filter (fun b => !Config.peatSystem b && !hasElem slots b &&
    !x.images.any (fun kv => match kv.2 with | some e => hasElem e.blocks b | none => false))

/-- Choose n of the blocks; which ones the manual leaves open. -/
def takeBlocks : Nat → List Nat → State → List Nat × State
  | 0, _, s => ([], s)
  | n + 1, l, s =>
    let r := pickOpen s l
    let q := takeBlocks n (l.filter (fun b => decide (b ≠ r.1))) r.2
    (r.1 :: q.1, q.2)

/-! ## Moves of a block (R266, R267) -/

/-- A logical block moves to a physical block: its pages are copied; a sector that cannot be read is lost there too. -/
def moveBlock (x : Peat) (b pb : Nat) : Peat :=
  let l := lostSectors x b
  loseSectors (writeBlock { x with map := tset none x.map b (if pb = b then none else some pb) } b) pb l

/-- The contents of two logical blocks change places (R266). -/
def swapBlocks (x : Peat) (a b : Nat) : Peat :=
  let pa := peatPhys x a
  let pb := peatPhys x b
  let la := lostSectors x a
  let lb := lostSectors x b
  let y := { x with map := tset none (tset none x.map a (if pb = a then none else some pb)) b (if pa = b then none else some pa) }
  loseSectors (loseSectors (writeBlock (writeBlock y a) b) pb la) pa lb

/-! ## The retention scrub (R266) -/

/-- HIST bin of a sector with f corrected bits under strength t (R367). -/
def histBin (t f : Nat) : Nat := (8 * f - 1) / t

/-- Sector i of a logical block is read with f bad bits: what was corrected is counted, a weak one is rewritten in place while the
store takes writes, and one that needs more than three quarters of its strength makes the block due. -/
def scrubSector (x : Peat) (b i f : Nat) : Bool × Peat :=
  let t := peatT x b
  let k := 256 * peatPhys x b + i
  if t < f then (false, { x with bits := tset 0 x.bits k f })
  else
    let weak := decide (t < 2 * f) && !x.readOnly
    (weak, { x with
      bits := tset 0 x.bits k (if weak then 0 else f)
      histNow := tmod 0 x.histNow (histBin t f) (· + 1)
      toRetire := if 3 * t < 4 * f then withElem x.toRetire b else x.toRetire })

/-- A page of a logical block holds a sector that cannot be read. -/
def pageLost (x : Peat) (b page : Nat) : Bool := (List.range 4).any (fun i => decide (peatT x b < sectorBits x b (4 * page + i)))

/-- A page is scrubbed: the bits gone bad since its last read are a free value. What it answers is the number of sectors rewritten. A
page that cannot be read raises the store's source (R380). -/
def scrubPage (s : State) (b page : Nat) : Nat × State :=
  let r := freeValue s
  let go := fun (q : Nat × Peat) (i : Nat) =>
    let c := scrubSector q.2 b (4 * page + i) (sectorBits q.2 b (4 * page + i) + fld r.1 (16 * i + 13) (16 * i))
    (q.1 + b2n c.1, c.2)
  let q := (List.range 4).foldl go (0, r.2.peat)
  let k := 64 * peatPhys q.2 b + page
  let n := tget 0 q.2.writes k + 1
  let t := modPeat r.2 (fun _ =>
    if q.1 = 0 then q.2
    else { q.2 with writes := tset 0 q.2.writes k n, toRetire := if 1000000000 ≤ n then withElem q.2.toRetire b else q.2.toRetire })
  (q.1, if pageLost q.2 b page then raise t srcPeat else t)

/-- Pages scrubbed one after the other, and how many sectors were rewritten; a page is 64 times its logical block plus its number. -/
def scrubPages : List Nat → State → Nat × State
  | [], s => (0, s)
  | k :: l, s =>
    let r := scrubPage s (k / 64) (k % 64)
    let q := scrubPages l r.2
    (r.1 + q.1, q.2)

/-- The pages of blocks first, first + 1, … -/
def blockPages (first count : Nat) : List Nat := (List.range (64 * count)).map (fun i => 64 * first + i)

/-- Nanoseconds between two pages of the retention scrub: 30 days over 524,288 pages (R266). -/
def retentionStep : Nat := 4943847656

/-- Retention scrub (R266): the next page, when it is due; after the last page the lap's figures stand. -/
def retentionScrub (s : State) : State :=
  if now s < s.peat.lapStart + s.peat.lapPage * retentionStep then s
  else
    let s1 := (scrubPage s (s.peat.lapPage / 64) (s.peat.lapPage % 64)).2
    modPeat s1 (fun x =>
      if x.lapPage + 1 < 524288 then { x with lapPage := x.lapPage + 1 }
      else { x with lapPage := 0, hist := x.histNow, histNow := [], lastLapH := (now s - x.lapStart) / 3600000000000, lapStart := now s })

/-! ## The system area (R264, R265) -/

/-- What a record holds when it is written now. -/
def sysBody (s : State) (k : Nat) : SysBody :=
  match k with
  | 0 => .repair s.tilth.recorded s.tilth.recRetired s.tilth.clearing
  | 1 => .settings (s.kstacks.map (fun kv => (kv.1, kv.2.orderNext))) s.peat.primary s.peat.fallback s.dumps.copy
  | 2 => .blocks s.peat.retired s.peat.due s.peat.spares s.peat.t s.peat.map
  | _ => .directory (s.peat.images.map (·.1))

/-- Sequence number of a copy; 0 where there is none. -/
def copySeq (c : Option SysCopy) : Nat := match c with | some x => x.seq | none => 0

/-- The page of copy c (0 or 1) of record k is written. -/
def writeSysPage (x : Peat) (k c : Nat) : Peat := writePage x (Config.peatRecord k c / 64 % 8192) (Config.peatRecord k c % 64)

/-- A system-area record is written (R265): one copy now, under the next sequence number, in the place of the older; the other copy
follows when Ohmyx next runs. -/
def sysWrite (s : State) (k : Nat) : State :=
  let a := copySeq (tget none s.peat.sysA k)
  let b := copySeq (tget none s.peat.sysB k)
  let c : Option SysCopy := some { seq := max a b + 1, ok := true, body := sysBody s k }
  modPeat s (fun x =>
    if a ≤ b then { writeSysPage x k 0 with sysA := tset none x.sysA k c, sysDue := withElem x.sysDue k }
    else { writeSysPage x k 1 with sysB := tset none x.sysB k c, sysDue := withElem x.sysDue k })

/-- The other copies of the records written are brought up to date. -/
def sysSecond (s : State) : State :=
  modPeat s (fun x =>
    let inA := fun (k : Nat) => decide (copySeq (tget none x.sysB k) ≤ copySeq (tget none x.sysA k))
    let newest := fun (k : Nat) => if inA k then tget none x.sysA k else tget none x.sysB k
    { x.sysDue.foldl (fun y k => writeSysPage y k (if inA k then 1 else 0)) x with
      sysA := x.sysDue.foldl (fun t k => tset none t k (newest k)) x.sysA, sysB := x.sysDue.foldl (fun t k => tset none t k (newest k)) x.sysB
      sysDue := [] })

/-- The records of the system area. -/
def sysRecords : List Nat := [0, 1, 2, 3]

/-- Power is lost (R265). A copy that was being written, the older one of any record, keeps its old sectors or leaves them
uncorrectable, which the manual leaves open; no record has both copies under way. -/
def sysCut (s : State) : State :=
  let v := (freeValue s).1
  let cut := fun (k : Nat) (c : Option SysCopy) => c.map (fun x => { x with ok := x.ok && bitOf v k })
  modPeat (freeValue s).2 (fun x => { x with
    sysA := sysRecords.foldl (fun t k =>
      if copySeq (tget none x.sysA k) < copySeq (tget none x.sysB k) then tset none t k (cut k (tget none t k)) else t) x.sysA
    sysB := sysRecords.foldl (fun t k =>
      if copySeq (tget none x.sysA k) < copySeq (tget none x.sysB k) then t else tset none t k (cut k (tget none t k))) x.sysB
    sysDue := [] })

/-- Power is lost while a job rewrites pages (R265): the page it was writing, one of `blocks`, keeps its old sectors or leaves them
uncorrectable. -/
def pageCut (s : State) (blocks : List Nat) : State :=
  let r := pickOpen s blocks
  let v := (freeValue r.2).1
  modPeat (freeValue r.2).2 (fun x =>
    loseSectors x (peatPhys x r.1) (((List.range 4).filter (bitOf v)).map (fun i => 4 * fld v 15 10 + i)))

/-- The copy of a record that start-up uses (R265): of those that decode, the one with the higher sequence number. -/
def sysPick (s : State) (k : Nat) : Option SysBody :=
  let good := fun (c : Option SysCopy) => match c with | some x => if x.ok then some x else none | none => none
  match good (tget none s.peat.sysA k), good (tget none s.peat.sysB k) with
  | some a, some b => some (if a.seq < b.seq then b.body else a.body)
  | some a, none => some a.body
  | none, some b => some b.body
  | none, none => none


/-! ## Levelling (R266) -/

/-- Levelling: where the write counts of two blocks in service differ by 2^24 or more, their contents change places. -/
def peatLevel (s : State) : State :=
  let x := s.peat
  if peatMax x < peatMin x + 16777216 ∨ x.readOnly = true then s
  else
    match (List.range 8192).find? (fun b => decide (blockCount x (peatPhys x b) = peatMax x)),
        (List.range 8192).find? (fun b => decide (blockCount x (peatPhys x b) = peatMin x)) with
    | some a, some b => sysWrite (modPeat s (fun y => swapBlocks y a b)) 2
    | _, _ => s

/-- A step of Peat wear management (R266). -/
def peatWear (s : State) : State := peatLevel (retentionScrub s)

end Machine
end Sys2Proof
end

