-- ==== Sys2Proof/Machine/KaoCode.lean ====
section
/-! DEFINITION. What a Kaolin line stores beside its data: the symbol code (R248, R249) and inline encryption (R254). -/

namespace Sys2Proof
namespace Machine

/-! ## GF(2^8) (R248) -/

/-- Product by α = 0x02 modulo x^8 + x^4 + x^3 + x^2 + 1. -/
def gfDouble (a : Nat) : Nat := if a < 128 then 2 * a else nxor (2 * a) 0x11D

/-- Product, taking k bits of b. -/
def gfMulBits : Nat → Nat → Nat → Nat
  | 0, _, _ => 0
  | k + 1, a, b => nxor (if b % 2 = 1 then a else 0) (gfMulBits k (gfDouble a) (b / 2))

/-- Product of two bytes. -/
def gfMul (a b : Nat) : Nat := gfMulBits 8 a b

/-- The product of a^2, a^4, … , a^(2^k). -/
def gfInvBits : Nat → Nat → Nat
  | 0, _ => 1
  | k + 1, a => gfMul (gfMul a a) (gfInvBits k (gfMul a a))

/-- Inverse of a byte that is not zero: a^254. -/
def gfInv (a : Nat) : Nat := gfInvBits 7 a

/-- Quotient. -/
def gfDiv (a b : Nat) : Nat := gfMul a (gfInv b)

/-- The powers a, aα, aα², … -/
def gfPowers : Nat → Nat → List Nat
  | 0, _ => []
  | k + 1, a => a :: gfPowers k (gfDouble a)

/-- α^i. -/
def gfAlpha (i : Nat) : Nat := (gfPowers (i + 1) 1).getD i 0

/-- Product by α^j. -/
def gfShift : Nat → Nat → Nat
  | 0, a => a
  | j + 1, a => gfShift j (gfDouble a)

/-! ## The symbol code (R248) -/

/-- Σ c_i α^(ij) over a codeword. -/
def syndrome (j : Nat) (cw : List Nat) : Nat := cw.foldr (fun c acc => nxor c (gfShift j acc)) 0

/-- The check bytes of the symbols c_4 to c_81: the remainder by the code's generator
x^4 + 15x^3 + 54x^2 + 120x + 64, whose roots are α^0 to α^3. -/
def checkBytes (cw : List Nat) : Nat × Nat × Nat × Nat :=
  cw.foldr (fun c r =>
    let f := nxor c r.2.2.2
    (gfMul 64 f, nxor r.1 (gfMul 120 f), nxor r.2.1 (gfMul 54 f), nxor r.2.2.1 (gfMul 15 f))) (0, 0, 0, 0)

/-- The symbols c_4 to c_81 of a line under V. -/
def messageSymbols (data : Line) (side95 v : Nat) : List Nat :=
  (leBytes 12 side95).map (·.toNat) ++ (lineBytes data).map (·.toNat) ++ [v % 256, v / 256 % 256]

/-- The codeword of a stored line under V. -/
def codeword (st : Stored) (v : Nat) : List Nat :=
  (leBytes 4 (st.side.toNat / 2 ^ 96)).map (·.toNat) ++ messageSymbols st.data (st.side.toNat % 2 ^ 96) v

/-- A number from symbols, lowest first. -/
def symbolsNat : List Nat → Nat
  | [] => 0
  | c :: l => c + 256 * symbolsNat l

/-- The stored line of a codeword. -/
def storedOfSymbols (cw : List Nat) : Stored :=
  { data := BitVec.ofNat 512 (symbolsNat ((cw.drop 16).take 64))
    side := BitVec.ofNat 128 (symbolsNat ((cw.drop 4).take 12) + 2 ^ 96 * symbolsNat (cw.take 4)) }

/-- Symbols with flips applied. -/
def applyFlips (cw : List Nat) (flips : List (Nat × Nat)) : List Nat :=
  flips.foldl (fun c f => c.set f.1 (nxor (c.getD f.1 0) f.2)) cw

/-- Encode a line under V; `pre` flips message symbols before the check bytes are computed. -/
def encodeLine (data : Line) (side95 v : Nat) (pre : List (Nat × Nat)) : List Nat :=
  let m := (applyFlips (0 :: 0 :: 0 :: 0 :: messageSymbols data side95 v) pre).drop 4
  let c := checkBytes m
  c.1 :: c.2.1 :: c.2.2.1 :: c.2.2.2 :: m

/-- The position, below n, whose power of α is x. -/
def posOf (x n : Nat) : Option Nat := (List.range n).find? (fun i => decide (gfAlpha i = x))

/-- The first pass (R249): up to two bad symbols at any positions, with the values to XOR. -/
def firstPass (cw : List Nat) : Option (List (Nat × Nat)) :=
  let s0 := syndrome 0 cw
  let s1 := syndrome 1 cw
  let s2 := syndrome 2 cw
  let s3 := syndrome 3 cw
  if s0 = 0 ∧ s1 = 0 ∧ s2 = 0 ∧ s3 = 0 then some []
  else
    let det := nxor (gfMul s1 s1) (gfMul s0 s2)
    if det = 0 then
      if s0 = 0 then none
      else
        let x := gfDiv s1 s0
        if s2 = gfMul x s1 ∧ s3 = gfMul x s2 then (posOf x 82).map (fun i => [(i, s0)]) else none
    else
      let a := gfDiv (nxor (gfMul s1 s2) (gfMul s0 s3)) det
      let b := gfDiv (nxor (gfMul s1 s3) (gfMul s2 s2)) det
      let roots := ((gfPowers 82 1).zipIdx).filter (fun x => decide (nxor (gfMul x.1 x.1) (nxor (gfMul a x.1) b) = 0))
      match roots with
      | [x, y] =>
        let e := gfDiv (nxor s1 (gfMul y.1 s0)) (nxor x.1 y.1)
        some [(x.2, e), (y.2, nxor s0 e)]
      | _ => none

/-- The second pass (R249): positions 80 and 81 erased, at most one further bad symbol at positions 0 to 79. -/
def secondPass (cw : List Nat) : Option (List (Nat × Nat)) :=
  let s0 := syndrome 0 cw
  let s1 := syndrome 1 cw
  let s2 := syndrome 2 cw
  let s3 := syndrome 3 cw
  let a := gfAlpha 80
  let b := gfAlpha 81
  let t0 := nxor s2 (nxor (gfMul (nxor a b) s1) (gfMul (gfMul a b) s0))
  let t1 := nxor s3 (nxor (gfMul (nxor a b) s2) (gfMul (gfMul a b) s1))
  if t0 = 0 then (if t1 = 0 then some [] else none)
  else
    let x := gfDiv t1 t0
    (posOf x 80).map (fun i => [(i, gfDiv t0 (gfMul (nxor x a) (nxor x b)))])

/-- What a decode finds (R249). -/
inductive FoundKind where
  | valid | poisoned | uncorr
  deriving DecidableEq, Repr

/-- A decoded line: what was found, how many stored symbols were corrected, and the stored line as corrected. -/
structure Found where
  kind : FoundKind
  syms : Nat
  st : Stored
  deriving DecidableEq, Repr

/-- Decode the symbols of a line as read (R249). -/
def decodeSymbols (cw : List Nat) : Found :=
  match firstPass cw with
  | some es =>
    let fix := es.filter (fun e => decide (e.1 < 80))
    { kind := if fix.length = es.length then .valid else .poisoned, syms := fix.length, st := storedOfSymbols (applyFlips cw fix) }
  | none => match secondPass cw with
    | some fix => { kind := .poisoned, syms := fix.length, st := storedOfSymbols (applyFlips cw fix) }
    | none => { kind := .uncorr, syms := 0, st := storedOfSymbols cw }

/-! ## Inline encryption (R253, R254) -/

/-- The page tweak T of a key, a major counter and an address. -/
def pageTweak (key : BitVec 256) (j a : Nat) : BitVec 128 :=
  Config.aes key (BitVec.ofNat 128 (j % 2 ^ 64 * 2 ^ 64 + a / 4096 % 2 ^ 23 * 2 ^ 41 + 0x54))

/-- The line input Y(i, d). -/
def lineInput (n a i d : Nat) : BitVec 128 :=
  BitVec.ofNat 128 (n % 2 ^ 40 * 2 ^ 88 + a / 64 % 64 * 2 ^ 82 + i % 4 * 2 ^ 80 + d % 256 * 2 ^ 72)

/-- A block as 16 line bytes in order, its high bits first (R253), as a little-endian number. -/
def blockAsBytes (b : BitVec 128) : Nat := leN (beBytes 16 b.toNat) 0 16

/-- The four blocks of a line, each with high bits first. -/
def lineBlocks (l : Line) : List (BitVec 128) :=
  (List.range 4).map (fun i => BitVec.ofNat 128 (beN (lineBytes l) (16 * i) 16))

/-- The keystream of a line; encryption and decryption XOR it. -/
def keystream (key : BitVec 256) (j n a : Nat) : Line :=
  let t := pageTweak key j a
  BitVec.ofNat 512 ((List.range 4).foldl (fun x i => x + blockAsBytes (Config.aes key (t ^^^ lineInput n a i 0x4B)) * 2 ^ (128 * i)) 0)

/-- The 56-bit tag of a ciphertext. -/
def imeTag (key : BitVec 256) (j n a : Nat) (cipher : Line) : Nat :=
  let t := pageTweak key j a
  let m := Config.aes key (t ^^^ lineInput n a 0 0x47)
  let g := Config.ghash (Config.aes key 0#128) (lineBlocks cipher ++ [0x200#128])
  (g ^^^ m).toNat / 2 ^ 72

/-- Sideband bits [95:0] of a sealed line. -/
def sealedSide (key : BitVec 256) (j n a : Nat) (cipher : Line) : Nat := imeTag key j n a cipher * 2 ^ 40 + n % 2 ^ 40

end Machine
end Sys2Proof
end

