-- ==== Sys2Proof/Machine/KaoMap.lean ====
section
/-! DEFINITION. Where a Kaolin line lies: the mapping orders of a stack (R229) and the splitting of requests (R463). -/

namespace Sys2Proof
namespace Machine

/-- Bits [hi:lo] of a number. -/
def bits (n hi lo : Nat) : Nat := (n >>> lo) % 2 ^ (hi + 1 - lo)

/-- Channel, bank (bank group × 8 + bank), row and column of a line. -/
structure Place where
  ch : Nat
  bank : Nat
  row : Nat
  col : Nat
  deriving DecidableEq, Repr

/-- Where line index L lies under a mapping order (R229). -/
def place (order l : Nat) : Place :=
  match order with
  | 0 => { ch := bits l 3 0, bank := 8 * bits l 5 4 + bits l 12 10, row := bits l 26 13, col := bits l 9 6 }
  | 2 => { ch := bits l 7 4, bank := 8 * bits l 9 8 + bits l 12 10, row := bits l 26 13, col := bits l 3 0 }
  | 3 => { ch := bits l 26 23, bank := 8 * bits l 5 4 + bits l 8 6, row := bits l 22 9, col := bits l 3 0 }
  | _ => { ch := nxor (bits l 3 0) (bits l 16 13), bank := 8 * nxor (bits l 5 4) (bits l 18 17) + bits l 12 10,
           row := bits l 26 13, col := bits l 9 6 }

/-- The k-th line of a channel under a mapping order: the line index with that channel and the other bits from k (R229). -/
def chanLine (order ch k : Nat) : Nat :=
  match order with
  | 0 => k % 2 ^ 23 * 16 + ch
  | 2 => k % 2 ^ 23 / 16 * 256 + ch * 16 + k % 16
  | 3 => ch * 2 ^ 23 + k % 2 ^ 23
  | _ => k % 2 ^ 23 * 16 + nxor ch (bits k 12 9)

/-- The index of a line within its channel. -/
def chanIndex (order l : Nat) : Nat :=
  match order with
  | 2 => l / 256 * 16 + l % 16
  | 3 => l % 2 ^ 23
  | _ => l / 16

/-- Stack of a Kaolin address (R179). -/
def addrStack (a : Nat) : Nat := a / 0x200000000
/-- Line index of a Kaolin address within its stack. -/
def addrLine (a : Nat) : Nat := a % 0x200000000 / 64
/-- Kaolin address of a line of a stack. -/
def lineAddr (p l : Nat) : Nat := stackBase p + 64 * l

/-- Where an address lies under the mapping order in force of its stack. -/
def placeOf (s : State) (a : Nat) : Place := place (stackAt s (addrStack a)).order (addrLine a)

/-- The channel that serves an address: the spare where it stands in (R228, R224). -/
def chanOf (s : State) (a : Nat) : Nat :=
  if (placeOf s a).ch = (stackAt s (addrStack a)).spareFor then 16 else (placeOf s a).ch

/-- The front that serves an address (R228): channels 2lx and 2lx + 1. -/
def frontOf (s : State) (a : Nat) : Nat := (placeOf s a).ch / 2

/-- The node of the front that serves an address. -/
def kaoNode (s : State) (a : Nat) : Nat := frontNode (addrStack a) (frontOf s a)

/-- The addresses of the lines of a request. -/
def reqLines (a n : Nat) : List Nat := (List.range n).map (fun i => a / 64 * 64 + 64 * i)

/-- The fronts of a request's lines, each once, in the order of their first lines (R463). -/
def reqFronts (s : State) (a n : Nat) : List Nat := ((reqLines a n).map (frontOf s)).dedup

/-- The lines of a request that one front serves, in ascending order (R463). -/
def partOf (s : State) (a n f : Nat) : List Nat := (reqLines a n).filter (fun x => decide (frontOf s x = f))

/-- The lines a part of `n` lines from address `a` stands for: the first n lines from `a` on, within the aligned
256 bytes, that the front of `a` serves (R463). -/
def partLines (s : State) (a n : Nat) : List Nat :=
  ((reqLines a (4 - a / 64 % 4)).filter (fun x => decide (frontOf s x = frontOf s a))).take n

/-- The counter table of a stack takes the top 16 MiB (R255): the line that holds the major counter of page n. -/
def tableLine (p n : Nat) : Nat := stackBase p + 0x1FF000000 + 64 * (n / 8)

/-- Page of an address within its stack (R255). -/
def pageOf (a : Nat) : Nat := a % 0x200000000 / 4096

end Machine
end Sys2Proof
end

