-- ==== Sys2Proof/Machine/Net.lean ====
section
/-! DEFINITION. Silt as a network: links, route tables and epochs, injection, forwarding, dead targets, probes
(the Silt chapter). -/

namespace Sys2Proof
namespace Machine

/-! ## Links (R174, R196) -/

/-- Class codes (R174). -/
def clsCode : Cls → Nat
  | .req => 0
  | .snp => 1
  | .rsp => 2
  | .dat => 3

/-- The plane of a class: 0 request, 1 data (R174). -/
def planeOf (c : Cls) : Nat := clsCode c / 2

/-- A Loam router in die-local coordinates. -/
def loamRouter (p lx ly : Nat) : Nat := nodeLocal p lx ly 0

/-- The router that output code c of router n leads to, were every link fitted (R174, R31, R196). -/
def linkTo (n c : Nat) : Option Nat :=
  let d := nodeDie n
  let x := nodeX n
  let y := nodeY n
  if d < 4 then
    let l := localXY d x y
    match c with
    | 0 => if y < 7 then some (nodeXY d x (y + 1) 0) else none
    | 1 => if x < 7 then some (nodeXY d (x + 1) y 0) else none
    | 2 => if 0 < y then some (nodeXY d x (y - 1) 0) else none
    | 3 => if 0 < x then some (nodeXY d (x - 1) y 0) else none
    | 4 => if l.2 = 7 then some (loamRouter d l.1 0) else if l.2 = 0 then some (loamRouter d l.1 7) else none
    | 5 =>
      if l.2 = 0 then some (nodeXY 4 (l.1 / 2) d 0)
      else if l.1 = 7 ∧ 2 ≤ l.2 ∧ l.2 ≤ 5 then some (loamRouter ((d + 1) % 4) 0 l.2)
      else if l.1 = 0 ∧ 2 ≤ l.2 ∧ l.2 ≤ 5 then some (loamRouter ((d + 3) % 4) 7 l.2)
      else none
    | _ => none
  else if d = 4 ∧ x < 4 ∧ y < 4 then
    match c with
    | 0 => if 0 < x then some (nodeXY 4 (x - 1) y 0) else none
    | 1 => if x < 3 then some (nodeXY 4 (x + 1) y 0) else none
    | 2 => some (nodeXY 4 x ((y + 1) % 4) 0)
    | 3 => some (nodeXY 4 x ((y + 2) % 4) 0)
    | 4 => some (nodeXY 4 x ((y + 3) % 4) 0)
    | 5 => some (loamRouter y (2 * x) 0)
    | 6 => some (loamRouter y (2 * x + 1) 0)
    | _ => none
  else none

/-- The codes of links. -/
def linkCodes : List Nat := [0, 1, 2, 3, 4, 5, 6]

/-- The output code of router n's link to router m (R204, IN). -/
def codeToward (n m : Nat) : Nat := (linkCodes.find? (fun c => decide (linkTo n c = some m))).getD 15

/-- The link of output code c at router n can be used: both routers are up and it has not failed (R185). -/
def linkSound (s : State) (n c : Nat) : Bool :=
  match linkTo n c with
  | none => false
  | some m => routerUp s n && routerUp s m && !bitOf (routerAt s n).linkDown c

/-- The link works now: it is not disabled either (R200). -/
def linkOk (s : State) (n c : Nat) : Bool := linkSound s n c && !bitOf (routerAt s n).linkOff c

/-- Mark the link of code c at router n failed in both directions (R185). -/
def failLink (s : State) (n c : Nat) : State :=
  let s1 := modRouter s n (fun r => { r with linkDown := r.linkDown ||| (1#7 <<< c) })
  match linkTo n c with
  | none => s1
  | some m => modRouter s1 m (fun r => { r with linkDown := r.linkDown ||| (1#7 <<< codeToward m (n / 2 * 2)) })

/-- Disable the link of code c at router n in both directions, or (`on`) put it to use again (R200). -/
def switchLink (s : State) (n c : Nat) (on : Bool) : State :=
  let put := fun (k : Nat) (r : Router) => { r with linkOff := if on then r.linkOff &&& ~~~(1#7 <<< k) else r.linkOff ||| (1#7 <<< k) }
  let s1 := modRouter s n (put c)
  match linkTo n c with
  | none => s1
  | some m => modRouter s1 m (put (codeToward m (n / 2 * 2)))

/-! ## Route tables (R196, R464) -/

/-- The routers of the spine and of a list of dies, as nodes with attachment 0. -/
def routerNodes (dies : List Nat) : List Nat :=
  dies.flatMap (fun d => (List.range 64).map (fun i => nodeXY d (i % 8) (i / 8) 0)) ++
  (List.range 16).map (fun i => nodeXY 4 (i % 4) (i / 4) 0)

/-- A link takes part in a computed set (R464). -/
def linkIn (dies outR : List Nat) (outL : List (Nat × Nat)) (n c : Nat) : Option Nat :=
  match linkTo n c with
  | none => none
  | some m =>
    if (nodeDie m = 4 ∨ nodeDie m ∈ dies) ∧ (nodeDie n = 4 ∨ nodeDie n ∈ dies) ∧ n / 2 ∉ outR ∧ m / 2 ∉ outR ∧
       (n / 2, c) ∉ outL ∧ (m / 2, codeToward m n) ∉ outL then some m else none

/-- The routers at each distance from a router, nearest first; `left` are those not yet reached. -/
def layersFrom (link : Nat → Nat → Option Nat) : Nat → List Nat → List Nat → List (List Nat)
  | 0, layer, _ => [layer]
  | k + 1, layer, left =>
    let next := left.filter (fun n => linkCodes.any (fun c => match link n c with | some m => hasElem layer m | none => false))
    if next = [] then [layer] else layer :: layersFrom link k next (left.filter (fun n => !hasElem next n))

/-- The output code of router n toward router dst in a computed set: the lowest code on a path with the fewest links. -/
def computedCode (dies outR : List Nat) (outL : List (Nat × Nat)) (n dst : Nat) : Nat :=
  let link := linkIn dies outR outL
  let all := (routerNodes dies).filter (fun r => !hasElem outR (r / 2))
  if !hasElem all n || !hasElem all dst then 15
  else if n = dst then 14
  else
    let layers := layersFrom link 64 [dst] (without all dst)
    let near := (layers.takeWhile (fun l => !hasElem l n)).getLastD []
    if layers.any (fun l => hasElem l n) then
      (linkCodes.find? (fun c => match link n c with | some m => hasElem near m | none => false)).getD 15
    else 15

/-- The set in a bank. -/
def bankOf (s : State) (b : Bool) : RouteSet := if b then s.silt.bank1 else s.silt.bank0

/-- The output code a route set gives at router n in a plane for destination node dst (R196). -/
def setCode (rs : RouteSet) (n plane dst : Nat) : Nat :=
  match rs with
  | .blank => 15
  | .loaded t => tget 15 (tget [] t (n / 2)) (plane * 512 + dst / 2)
  | .computed dies outR outL => computedCode dies outR outL (n / 2 * 2) (dst / 2 * 2)

/-- The output code of a packet at a router, by the bank its epoch names (R196). -/
def routeCode (s : State) (n : Nat) (p : Packet) : Nat := setCode (bankOf s p.epoch) n (planeOf p.cls) p.dst

/-! ## Validity of a set (R188) -/

/-- Every present router: of the dies in service and of the spine, the bypassed ones left out. -/
def presentRouters (s : State) : List Nat := (routerNodes (diesUp s)).filter (fun n => !(routerAt s n).bypassed)

/-- The router a set sends on to from router n toward dst: none where it ends, or its link has failed. A link that is only disabled counts:
the set that routes through it puts it to use again (R200). -/
def nextRouter (s : State) (rs : RouteSet) (plane dst n : Nat) : Option Nat :=
  let c := setCode rs n plane dst
  if 7 ≤ c then none
  else match linkTo n c with
    | some m => if linkSound s n c then some m else none
    | none => none

/-- Following a set from router n reaches dst within a number of links. -/
def reaches (s : State) (rs : RouteSet) (plane dst : Nat) : Nat → Nat → Bool
  | 0, _ => false
  | k + 1, n =>
    if n = dst then decide (setCode rs n plane dst = 14)
    else match nextRouter s rs plane dst n with
      | some m => reaches s rs plane dst k m
      | none => false

/-- The routers that a set passes from router n toward dst, dst left out. -/
def routeOf (s : State) (rs : RouteSet) (plane dst : Nat) : Nat → Nat → List Nat
  | 0, _ => []
  | k + 1, n => if n = dst then [] else n :: (match nextRouter s rs plane dst n with | some m => routeOf s rs plane dst k m | none => [])

/-- The link buffers of a set that depend on others, of all routes between the given routers: (router, code) waits for (next router, its
code) (R188). -/
def dependsOn (s : State) (rs : RouteSet) (plane : Nat) (ends : List Nat) : List ((Nat × Nat) × (Nat × Nat)) :=
  (ends.flatMap (fun dst => ((ends.flatMap (fun n => routeOf s rs plane dst 1024 n)).eraseDups).filterMap (fun n =>
    match nextRouter s rs plane dst n with
    | some m => if setCode rs m plane dst < 7 then some ((n, setCode rs n plane dst), (m, setCode rs m plane dst)) else none
    | none => none))).eraseDups

/-- A dependency relation has no cycle: links that wait for nothing that remains are taken away until none remains. -/
def acyclic : Nat → List ((Nat × Nat) × (Nat × Nat)) → Bool
  | 0, l => l.isEmpty
  | k + 1, l =>
    let rest := l.filter (fun e => l.any (fun f => decide (f.1 = e.2)))
    if rest.length = l.length then l.isEmpty else acyclic k rest

/-- A router has a present attachment. -/
def hasAttachment (s : State) (n : Nat) : Bool := attFitted s (n / 2 * 2) || attFitted s (n / 2 * 2 + 1)

/-- A set is valid in both planes for the attachments that stay when the routers `out` (node div 2) are removed (R188). -/
def validSet (s : State) (rs : RouteSet) (out : List Nat) : Bool :=
  let ends := (presentRouters s).filter (fun n => hasAttachment s n && !hasElem out (n / 2))
  [0, 1].all (fun plane =>
    ends.all (fun dst => ends.all (fun n => reaches s rs plane dst 1024 n)) &&
    acyclic 4096 (dependsOn s rs plane ends))

/-- A set routes something through the link of output code c at router n. -/
def routesThrough (s : State) (rs : RouteSet) (n c : Nat) : Bool :=
  [0, 1].any (fun plane => (presentRouters s).any (fun dst => decide (n ≠ dst) && decide (setCode rs n plane dst = c)))

/-- The working links of present routers that a set routes nothing through, in either direction, as node div 2 and code (R200). -/
def unusedLinks (s : State) (rs : RouteSet) : List (Nat × Nat) :=
  (presentRouters s).flatMap (fun n => linkCodes.filterMap (fun c =>
    match linkTo n c with
    | some m => if linkOk s n c && !routesThrough s rs n c && !routesThrough s rs m (codeToward m n) then some (n / 2, c) else none
    | none => none))

/-! ## Packets (R181 to R183) -/

/-- The class an operation belongs to; none: any class (MSG) or a reserved code (R183). -/
def opClass : Nat → Option Cls
  | 0x0A => some .dat
  | 0x0C => some .rsp
  | 0x0D => some .dat
  | 0x0E => some .rsp
  | 0x10 => some .rsp
  | 0x11 => some .dat
  | 0x12 => some .rsp
  | 0x08 => none
  | o => if o ≤ 0x0F then some .req else none

/-- Reserved encodings of OP or NFLIT, or an OP that does not belong to its class (R182). -/
def badPacket (p : Packet) : Bool :=
  decide (p.op > 0x12) || decide (p.data.length > 4) ||
  (match opClass p.op with | some c => decide (c ≠ p.cls) | none => false)

/-- The routing header of a packet (R181). -/
def routingHdr (p : Packet) : BitVec 128 :=
  BitVec.ofNat 128 (p.dst % 1024 * 2 ^ 118 + p.src % 1024 * 2 ^ 108 + clsCode p.cls * 2 ^ 106 + b2n p.epoch * 2 ^ 105 +
    p.data.length % 8 * 2 ^ 102 + p.plot % 32 * 2 ^ 97 + p.key % 64 * 2 ^ 91 + p.op % 32 * 2 ^ 86 + p.status % 256 * 2 ^ 78 +
    p.tag % 2 ^ 14 * 2 ^ 64 + b2n p.panic * 2 ^ 63 + b2n p.poison * 2 ^ 62 + b2n p.locked * 2 ^ 61 + p.ctx % 256 * 2 ^ 53 +
    b2n p.track * 2 ^ 52 + p.addr % 2 ^ 52)

/-- A packet of a fixed attachment, its remaining fields zero. -/
def mkPacket (src dst : Nat) (cls : Cls) (op : Nat) : Packet :=
  { dst := dst, src := src, cls := cls, epoch := false, plot := 0, key := 0, op := op, status := 0, tag := 0, panic := false,
    poison := false, locked := false, ctx := 0, track := false, addr := 0, hdr := 0#384, data := [] }

/-- A COMPLETION that answers a packet with a status (R183). -/
def completionOf (p : Packet) (st : Nat) : Packet :=
  { mkPacket p.dst p.src .rsp 0x10 with status := st, tag := p.tag, plot := p.plot, key := p.key, ctx := p.ctx, addr := p.addr }

/-- A DATA answer to a packet. -/
def dataOf (p : Packet) (st : Nat) (poison : Bool) (hdr : BitVec 384) (data : List Line) : Packet :=
  { mkPacket p.dst p.src .dat 0x11 with
    status := st, tag := p.tag, plot := p.plot, key := p.key, ctx := p.ctx, addr := p.addr, poison := poison, hdr := hdr, data := data }

/-- The DELIVERED notice of a packet sent with TRACK (R187, R201). -/
def deliveredOf (p : Packet) (st : Nat) : Packet :=
  { mkPacket p.dst p.src .rsp 0x12 with status := st, tag := p.tag, hdr := BitVec.ofNat 384 (p.tag % 2 ^ 14), addr := p.addr }

/-! ## Tokens (R186) -/

/-- Key of a source, target and class. -/
def tokKey (src dst : Nat) (c : Cls) : Nat := (src * 1024 + dst) * 4 + clsCode c

/-- Tokens a source holds. -/
def tokensHeld (s : State) (src dst : Nat) (c : Cls) : Nat := tget 0 s.silt.tokens (tokKey src dst c)

/-- The packet needs a token (R186, R187). -/
def needsToken (p : Packet) : Bool := decide (planeOf p.cls = 0)

/-- Spend the token of a packet. -/
def spendToken (s : State) (p : Packet) : State :=
  if needsToken p then modSilt s (fun x => { x with tokens := tmod 0 x.tokens (tokKey p.src p.dst p.cls) (· - 1) }) else s

/-! ## Regulators (R191) -/

/-- Bucket size of a regulator (R193). -/
def rateBurst (w : Word) : Nat := max 5 (fld w 7 0)

/-- A class's regulator admits a number of flits. -/
def rateAdmits (u : Nau) (c : Cls) (k : Nat) : Bool :=
  let g := tget {} u.rates (clsCode c)
  !bitOf g.reg 31 || decide (k ≤ g.tokens)

/-- Injection removes flit tokens while the regulator is on. -/
def rateTake (u : Nau) (c : Cls) (k : Nat) : Nau :=
  { u with rates := tmod {} u.rates (clsCode c) (fun g => if bitOf g.reg 31 then { g with tokens := g.tokens - k } else g) }

/-- Flits of a packet, the header flit included. -/
def flitsOf (p : Packet) : Nat := 1 + p.data.length

/-- The attachment is an NAU: it has regulators and counters. -/
def fromNau (p : Packet) : Bool := match attOf p.src with | .nau _ => true | _ => false

/-- The regulator of the source admits the packet; fixed attachments have none. -/
def regulatorOk (s : State) (p : Packet) : Bool := !fromNau p || rateAdmits (nauAt s p.src) p.cls (flitsOf p)

/-! ## Injection and epochs (R197 to R199, R202) -/

/-- Key of an attachment and class. -/
def acKey (n : Nat) (c : Cls) : Nat := 4 * n + clsCode c

/-- REQ and SNP packets that have come to their attachment and still fill its buffers: those that fabric has yet to accept at an NAU, those
that a port front holds for a link (R84, R186, R291). -/
def unconsumed (s : State) : List Packet :=
  (s.silt.naus.flatMap (fun kv => kv.2.cohSnp) ++ s.io.links.flatMap (fun kv => kv.2.heldMsgs)).filter needsToken

/-- Packets of a class that an attachment has in flight: not yet consumed, or not yet reported delivered (R199). -/
def inFlight (s : State) (n : Nat) (c : Cls) : Nat :=
  (s.silt.flights.filter (fun f => decide (f.pkt.src = n ∧ f.pkt.cls = c))).length +
  ((unconsumed s).filter (fun p => decide (p.src = n ∧ p.cls = c))).length +
  (s.silt.tracked.filter (fun x => decide (x.1 = acKey n c))).length

/-- The attachment has not yet switched the class to the new epoch (R199). -/
def lagging (s : State) (n : Nat) (c : Cls) : Bool := tget false s.silt.lagging (acKey n c)

/-- An answer to a packet that was in flight: an answer operation, a message that is an error response, or an agent's own answer, which an
NAU or a port front sends as RSP or DAT. -/
def isAnswer (p : Packet) : Bool :=
  decide (p.op = 0x0C ∨ p.op = 0x10 ∨ p.op = 0x11 ∨ p.op = 0x12) ||
  (decide (p.op = 0x08) && (decide (p.status ≠ 0) || (decide (planeOf p.cls = 1) && (match attOf p.src with
    | .nau _ => true
    | .port _ => true
    | _ => false))))

/-- In sink mode NAUs, port fronts, slices and Grain quarters inject no more than answers (R202). -/
def sinkStops (s : State) (p : Packet) : Bool :=
  s.silt.sink && !isAnswer p && (match attOf p.src with
    | .nau _ => true
    | .port _ => true
    | .slice _ => true
    | .quarter _ => true
    | _ => false)

/-- A packet may leave its source now: its class has switched, sink mode lets it, a token is held and the regulator admits it. -/
def mayLeave (s : State) (p : Packet) : Bool :=
  !lagging s p.src p.cls && !sinkStops s p && (!needsToken p || decide (0 < tokensHeld s p.src p.dst p.cls)) && regulatorOk s p

/-- A packet held earlier goes first: of its source and class, and from a fixed attachment of its target (R149, R186). -/
def behindHeld (s : State) (p : Packet) : Bool :=
  s.silt.heldOut.any (fun q => decide (q.src = p.src ∧ q.cls = p.cls) && (fromNau p || decide (q.dst = p.dst)))

/-- A packet leaves its source: it spends its token, an NAU's regulator and counter take its flits, and it is stamped with the current
epoch (R186, R191, R193, R197). -/
def sendNow (s : State) (p : Packet) : State :=
  let s1 := spendToken s p
  let s2 := if fromNau p then
      modNau s1 p.src (fun u => { rateTake u p.cls (flitsOf p) with cntTx := ctrAdd u.cntTx (flitsOf p) })
    else s1
  modSilt s2 (fun n => { n with
    flights := n.flights ++ [{ pkt := { p with epoch := n.epoch }, node := p.src, inCode := 14 }]
    tracked := if p.track && !needsToken p then n.tracked ++ [(acKey p.src p.cls, p.tag)] else n.tracked })

/-- A packet waits at its source. -/
def holdBack (s : State) (p : Packet) : State := modSilt s (fun n => { n with heldOut := n.heldOut ++ [p] })

/-- A packet is offered to Silt at its source: it leaves, or waits there. -/
def offer (s : State) (p : Packet) : State := if mayLeave s p && !behindHeld s p then sendNow s p else holdBack s p

/-- The packet is delayed by nothing but its regulator: NAU_CNT_HELD counts it (R193). -/
def countDelay (s : State) (p : Packet) : State :=
  if regulatorOk s p then s else modNau s p.src (fun u => { u with cntHeld := ctrInc u.cntHeld })

/-- A packet enters Silt at its source. -/
def inject (s : State) (p : Packet) : State := offer (countDelay s p) p

/-- Inject several packets in order. -/
def injectAll (s : State) (ps : List Packet) : State := ps.foldl inject s

/-- What waits at a source is offered again, in order. -/
def offerHeld (s : State) (n : Nat) : State :=
  (s.silt.heldOut.filter (fun p => decide (p.src = n))).foldl offer
    (modSilt s (fun x => { x with heldOut := x.heldOut.filter (fun p => decide (p.src ≠ n)) }))

/-- A router puts an answer of its own on its data plane (R201). -/
def routerInject (s : State) (router : Nat) (p : Packet) : State :=
  modSilt s (fun n => { n with
    flights := n.flights ++ [{ pkt := { p with epoch := n.epoch }, node := router / 2 * 2, inCode := 14 }] })

/-- Old-epoch packets in a router of a plane (R197, R200). -/
def oldPackets (s : State) (n plane : Nat) : Nat :=
  (s.silt.flights.filter (fun f =>
    decide (f.node / 2 = n / 2 ∧ planeOf f.pkt.cls = plane ∧ f.pkt.epoch ≠ s.silt.epoch ∧ f.inCode ≠ 15))).length

/-- Old-epoch packets anywhere. -/
def oldAnywhere (s : State) : Bool :=
  s.silt.flights.any (fun f => decide (f.pkt.epoch ≠ s.silt.epoch ∧ f.inCode ≠ 15))

/-- The router status word (R200). -/
def routerWord (s : State) (n : Nat) : Nat :=
  let r := routerAt s n
  min 255 (oldPackets s n 1) * 2 ^ 24 + min 255 (oldPackets s n 0) * 2 ^ 16 + b2n r.bypassed * 2 ^ 15 + r.linkDown.toNat * 2 ^ 8 +
  b2n r.shadowOk * 2 ^ 7 + b2n s.silt.epoch * 2 ^ 6

/-! ## What a target grants (R186) -/

/-- Class buffers of an attachment: 32 REQ and 16 SNP at an NAU; of the implementation elsewhere. -/
def classCapacity (n : Nat) (c : Cls) : Nat :=
  match attOf n, c with
  | .nau _, .req => 32
  | .nau _, .snp => 16
  | _, _ => Config.classBuffers n (clsCode c)

/-- A target that withholds tokens (R186): a slice with full parking (R116), a port that changes (R84). -/
def withholds (s : State) (n : Nat) : Bool :=
  match attOf n with
  | .slice i => decide (256 ≤ (sliceAt s i).parked.length)
  | .port k => (portAt s k).quiesced
  | .front p lx => quiescing s (.front p lx) || quiescing s (.stack p)
  | _ => false

/-- The route of a new packet from an attachment to another ends: at an output that is none, or at a failed link (R185, R201). -/
def routeDead (s : State) (src dst : Nat) (c : Cls) : Bool :=
  !reaches s (bankOf s s.silt.epoch) (planeOf c) (dst / 2 * 2) 1024 (src / 2 * 2)

/-- A target that grants no token of a class now: REQ where it withholds them, for snoop answers and snoops always sink (R116); SNP at an NAU
while its fabric leaves a snoop unaccepted (R291). -/
def denies (s : State) (n : Nat) (c : Cls) : Bool :=
  (withholds s n && decide (c = .req)) || ((nauAt s n).cohSnp.any (fun p => decide (p.cls = .snp)) && decide (c = .snp))

/-- How many tokens a target grants: a dead target's router grants at once (R186, R201). -/
def tokensGranted (s : State) (src dst : Nat) (c : Cls) (n : Nat) : Nat :=
  if !attUp s dst || routeDead s src dst c then min n 8
  else if denies s dst c then 0
  else min (min n 8) (classCapacity dst c - tget 0 s.silt.granted (acKey dst c))

/-- Grant tokens. -/
def grantTokens (s : State) (src dst : Nat) (c : Cls) (n : Nat) : State :=
  let k := tokensGranted s src dst c n
  modSilt s (fun x => { x with
    tokens := tmod 0 x.tokens (tokKey src dst c) (· + k)
    granted := tmod 0 x.granted (acKey dst c) (· + k) })

/-- A source asks a target for up to 8 tokens; it stands behind the sources that ask already, or keeps its place (R186). -/
def askTokens (s : State) (src dst : Nat) (c : Cls) (n : Nat) : State :=
  let k := acKey dst c
  let l := s.silt.asks
  let l1 := if l.any (fun a => decide (a.1 = k ∧ a.2.1 = src)) then l.map (fun a => if a.1 = k ∧ a.2.1 = src then (k, src, min n 8) else a)
    else l ++ [(k, src, min n 8)]
  modSilt s (fun x => { x with asks := l1 })

/-- A target serves the sources that ask, one token each in round robin, while it has tokens to grant: at most a number of turns. Also
the sources that got some (R186). -/
def serveAsks : Nat → State → Nat → Cls → List Nat → State × List Nat
  | 0, s, _, _, got => (s, got)
  | m + 1, s, dst, c, got =>
    match s.silt.asks.find? (fun a => decide (a.1 = acKey dst c)) with
    | none => (s, got)
    | some (k, src, n) =>
      let s1 := modSilt s (fun x => { x with asks := dropFirst x.asks (k, src, n) })
      if n = 0 then serveAsks m s1 dst c got
      else if tokensGranted s src dst c 1 = 0 then (s, got)
      else serveAsks m (modSilt (grantTokens s1 src dst c 1) (fun x => { x with asks := x.asks ++ [(k, src, n - 1)] })) dst c (withElem got src)

/-- Turns enough for everything that the asking sources want of a target. -/
def askTurns (s : State) (dst : Nat) (c : Cls) : Nat :=
  (s.silt.asks.filter (fun a => decide (a.1 = acKey dst c))).foldl (fun n a => n + a.2.2 + 1) 0

/-- The target serves those that ask, and what waited at them for tokens leaves. -/
def grantAsked (s : State) (dst : Nat) (c : Cls) : State :=
  let r := serveAsks (askTurns s dst c) s dst c []
  r.2.foldl offerHeld r.1

/-- A target consumes a packet: the buffer of a REQ or SNP packet is free again, and goes to those that ask (R186); the buffer of its class is
full no more (R201). -/
def freeBuffer (s : State) (dst : Nat) (c : Cls) : State :=
  let s1 := modSilt s (fun x => { x with fullSince := tset none x.fullSince (acKey dst c) none })
  if planeOf c = 0 then grantAsked (modSilt s1 (fun x => { x with granted := tmod 0 x.granted (acKey dst c) (· - 1) })) dst c else s1

/-! ## Dead targets (R201) -/

/-- A router discards an RSP or DAT packet and counts it; one with TRACK is reported DEAD. -/
def discardPacket (s : State) (router : Nat) (p : Packet) : State :=
  let s1 := modRouter s router (fun r => { r with discarded := ctrInc r.discarded })
  if p.track then routerInject s1 router (deliveredOf p 0x01) else s1

/-- The last router before a dead target answers or discards a packet. -/
def deadPacket (s : State) (router : Nat) (p : Packet) : State :=
  if planeOf p.cls = 0 then routerInject (freeBuffer s p.dst p.cls) router (completionOf p 0x01)
  else discardPacket s router p

/-- The first router refuses a malformed packet (R182). -/
def refusePacket (s : State) (router : Nat) (p : Packet) : State :=
  if planeOf p.cls = 0 then routerInject (freeBuffer s p.dst p.cls) router (completionOf p 0x12) else discardPacket s router p

/-! ## Probes and trace (R203 to R205) -/

/-- Whether a filter matches a packet (R203). -/
def filterMatches (s : State) (f : Filter) (p : Packet) : Bool :=
  let hide := tenantHeld s p.plot
  (!bitOf f.terms 0 || decide (f.srcLo ≤ p.src ∧ p.src ≤ f.srcHi)) &&
  (!bitOf f.terms 1 || decide (f.dstLo ≤ p.dst ∧ p.dst ≤ f.dstHi)) &&
  (!bitOf f.terms 2 || bitOf f.clsMask (clsCode p.cls)) &&
  (!bitOf f.terms 3 || bitOf f.opMask p.op) &&
  (!bitOf f.terms 4 || decide (f.plot = p.plot)) &&
  (!bitOf f.terms 5 || decide (p.status ≠ 0)) &&
  (!bitOf f.terms 6 || (!hide && decide (f.addrLo ≤ p.addr ∧ p.addr ≤ f.addrHi))) &&
  (!bitOf f.terms 7 || (!hide && decide (f.ctx = p.ctx)))

/-- A trace record (R204). -/
def traceRec (s : State) (probe inC outC filter : Nat) (p : Packet) : BitVec 512 :=
  let hide := tenantHeld s p.plot
  let q := if hide then { p with tag := 0, addr := 0, ctx := 0, hdr := 0#384 } else p
  BitVec.ofNat 512 (now s % 2 ^ 64 * 2 ^ 448 + probe % 32 * 2 ^ 443 + inC % 16 * 2 ^ 439 + outC % 16 * 2 ^ 435 + filter % 4 * 2 ^ 433 +
    b2n hide * 2 ^ 432 + (routingHdr q).toNat * 2 ^ 256 + q.hdr.toNat % 2 ^ 256)

/-- Put a record into the trace buffer (R205). -/
def traceWrite (s : State) (r : BitVec 512) : State :=
  modSilt s (fun n =>
    if !n.tracing then n
    else if n.trace.length < 16384 then { n with trace := n.trace ++ [r], traceN := n.traceN + 1 }
    else if n.wrap then { n with trace := n.trace.drop 1 ++ [r], traceN := n.traceN + 1 }
    else { n with lost := ctrInc n.lost })

/-- One filter of one probe sees a packet. -/
def filterSee (s : State) (probe inC outC : Nat) (p : Packet) (i : Nat) : State :=
  let f := tget {} s.silt.filters (4 * probe + i)
  if f.action ≠ 0#8 ∧ filterMatches s f p = true then
    let s1 := if bitOf f.action 0 then modSilt s (fun n => { n with probeCnt := tmod {} n.probeCnt (4 * probe + i) ctrInc }) else s
    let s2 := if bitOf f.action 2 then modSilt s1 (fun n => { n with tracing := true }) else s1
    let s3 := if bitOf f.action 1 then traceWrite s2 (traceRec s2 probe inC outC i p) else s2
    if bitOf f.action 3 then modSilt s3 (fun n => { n with tracing := false }) else s3
  else s

/-- The probe of a spine router sees a packet (R203). -/
def probeSee (s : State) (n inC outC : Nat) (p : Packet) : State :=
  if nodeDie n = 4 then
    [0, 1, 2, 3].foldl (fun s i => filterSee s (2 * (4 * nodeY n + nodeX n) + planeOf p.cls) inC outC p i) s
  else s

/-! ## Forwarding (R178) -/

/-- The packet is first among those of its class at its input (R178). -/
def atHead (s : State) (f : Flight) : Bool :=
  decide ((s.silt.flights.find? (fun g => decide (g.node = f.node ∧ g.inCode = f.inCode ∧ g.pkt.cls = f.pkt.cls))) = some f)

/-- The output of a router that a packet at one of its inputs leaves by: a link's code, 8 or 9 for its attachments, 15 where the router
answers or discards it itself. -/
def outputOf (s : State) (f : Flight) : Nat :=
  if f.inCode = 14 ∧ badPacket f.pkt = true then 15
  else match routeCode s f.node f.pkt with
    | 14 => 8 + f.pkt.dst % 2
    | c => if c < 7 then c else 15

/-- An input of a router: links by code, 14 and 15 its attachments. -/
def inputOf (f : Flight) : Nat := if f.inCode = 14 then 14 + f.node % 2 else f.inCode

/-- The next of a list of numbers in round robin after the last one served, of m in all. -/
def roundRobin (m last : Nat) (l : List Nat) : Option Nat :=
  (List.range m).findSome? (fun i => if hasElem l ((last + 1 + i) % m) then some ((last + 1 + i) % m) else none)

/-- There is buffer room downstream of a packet's output: a working link leads to an input with a free buffer of its class. The attachments have
room for whatever may come to them (R186, R187). -/
def roomDown (s : State) (f : Flight) : Bool :=
  match linkTo f.node (outputOf s f) with
  | some m =>
    let code := codeToward m (f.node / 2 * 2)
    !linkOk s f.node (outputOf s f) ||
    decide ((s.silt.flights.filter (fun g => decide (g.node / 2 = m / 2 ∧ g.inCode = code ∧ g.pkt.cls = f.pkt.cls))).length ≤
      Config.linkBuffers m code (clsCode f.pkt.cls))
  | none => true

/-- The packets ready for an output of a router in a plane: the first of each input and class, where there is room for it (R178). -/
def contenders (s : State) (f : Flight) : List Flight :=
  s.silt.flights.filter (fun g => decide (g.node / 2 = f.node / 2 ∧ planeOf g.pkt.cls = planeOf f.pkt.cls ∧ g.inCode ≠ 15) && atHead s g &&
    decide (outputOf s g = outputOf s f) && roomDown s g)

/-- The output serves this packet next: its class in round robin, and within the class its input (R178). -/
def servedNext (s : State) (f : Flight) : Bool :=
  let o := outputOf s f
  let r := routerAt s f.node
  let l := contenders s f
  let k := clsCode f.pkt.cls
  decide (roundRobin 4 (tget 3 r.lastCls (32 * planeOf f.pkt.cls + o)) (l.map (fun g => clsCode g.pkt.cls)) = some k) &&
  decide (roundRobin 16 (tget 15 r.lastIn (32 * k + o)) ((l.filter (fun g => decide (g.pkt.cls = f.pkt.cls))).map inputOf) = some (inputOf f))

/-- The output has served a packet. -/
def noteServed (s : State) (f : Flight) : State :=
  let o := outputOf s f
  let k := clsCode f.pkt.cls
  modRouter s f.node (fun r => { r with
    lastCls := tset 3 r.lastCls (32 * planeOf f.pkt.cls + o) k, lastIn := tset 15 r.lastIn (32 * k + o) (inputOf f) })

/-- Take a flight off the network. -/
def takeFlight (s : State) (f : Flight) : State := modSilt s (fun n => { n with flights := dropFirst n.flights f })

/-- Put a flight at a router's input. -/
def putFlight (s : State) (f : Flight) : State := modSilt s (fun n => { n with flights := n.flights ++ [f] })

/-- A flit crossed a link: its run of failures ends (R185). -/
def crossed (s : State) (n c : Nat) (cls : Cls) : State :=
  modRouter s n (fun r => { r with fails := tset 0 r.fails (8 * planeOf cls + c) 0 })

/-- A packet stands before its destination: the buffer of its class there is full from the moment that its last place is taken (R201). -/
def eject (s : State) (f : Flight) : State :=
  let s1 := putFlight s f
  let k := acKey f.pkt.dst f.pkt.cls
  let n := (s1.silt.flights.filter (fun g => decide (g.inCode = 15 ∧ g.pkt.dst = f.pkt.dst ∧ g.pkt.cls = f.pkt.cls))).length +
    ((unconsumed s1).filter (fun p => decide (p.dst = f.pkt.dst ∧ p.cls = f.pkt.cls))).length
  if (tget none s1.silt.fullSince k).isNone ∧ classCapacity f.pkt.dst f.pkt.cls ≤ n then
    modSilt s1 (fun x => { x with fullSince := tset none x.fullSince k (some (now s)) })
  else s1

/-- A router passes a packet on: to the next router, to its attachment, or as a dead target's; one that its output does not serve next
stays (R178, R182, R201). -/
def forward (s : State) (f : Flight) : State :=
  if f.inCode = 15 ∨ atHead s f = false ∨ servedNext s f = false then s
  else
    let p := f.pkt
    let s1 := takeFlight (noteServed s f) f
    let c := routeCode s f.node p
    let s2 := probeSee s1 f.node f.inCode c p
    if f.inCode = 14 ∧ badPacket p = true then refusePacket s2 f.node p
    else if c = 14 then
      let d := f.node / 2 * 2 + p.dst % 2
      if attUp s d then eject s2 { pkt := p, node := d, inCode := 15 } else deadPacket s2 f.node p
    else if linkOk s f.node c then
      match linkTo f.node c with
      | some m => putFlight (crossed s2 f.node c p.cls) { pkt := p, node := m, inCode := codeToward m (f.node / 2 * 2) }
      | none => deadPacket s2 f.node p
    else deadPacket s2 f.node p

/-- The packet that stands first at its destination of a source and class, as a flight (R149). -/
def standing (s : State) (p : Packet) : Option Flight :=
  match s.silt.flights.find? (fun f => decide (f.inCode = 15 ∧ f.pkt.dst = p.dst ∧ f.pkt.src = p.src ∧ f.pkt.cls = p.cls)) with
  | some f => if f.pkt = p then some f else none
  | none => none

/-- A packet at its destination is taken off the network; its delivery is reported (R187). An NAU's buffer of a packet that its fabric has
yet to take stays full (R186). -/
def arriveHeld (s : State) (p : Packet) : State :=
  let s1 := modSilt s (fun n => { n with
    flights := (match standing s p with
      | some f => dropFirst n.flights f
      | none => n.flights) })
  let s2 := match attOf p.dst with
    | .nau _ => modNau s1 p.dst (fun n => { n with cntRx := ctrAdd n.cntRx (flitsOf p) })
    | _ => s1
  if p.track then inject s2 (deliveredOf p 0) else s2

/-- A packet at its destination is consumed: its buffer is free again (R186). -/
def arrive (s : State) (p : Packet) : State := freeBuffer (arriveHeld s p) p.dst p.cls

/-- The DELIVERED notice of a tracked packet has reached its source: the packet is in flight no more (R199). -/
def noteDelivered (s : State) (n tag : Nat) : State :=
  match s.silt.tracked.find? (fun y => decide (y.1 / 4 = n ∧ y.2 = tag)) with
  | some y => modSilt s (fun x => { x with tracked := dropFirst x.tracked y })
  | none => s

end Machine
end Sys2Proof
end

