-- ==== Sys2Proof/Machine/KaoMem.lean ====
section
/-! DEFINITION. What a Kaolin front does to a stored line: the granule check (R231), reads and writes of lines by what
they find (R250), sealing with minor and major counters (R254 to R258), poison and generations (R251), the injection unit
(R263), sweeps and patrol repairs. -/

namespace Sys2Proof
namespace Machine

/-! ## Granules (R231, R247) -/

/-- Granule of a line index. -/
def granOf (l : Nat) : Nat := l / 32768

/-- Granule entry of an address. -/
def granAt (s : State) (a : Nat) : Granule := tget {} (stackAt s (addrStack a)).granules (granOf (addrLine a))

/-- Change granule g of stack p. -/
def modGran (s : State) (p g : Nat) (f : Granule → Granule) : State :=
  modStack s p (fun k => { k with granules := tmod {} k.granules g f })

/-- The line is sealed: its granule is bound to a slot from 1 on, and the part has IME (R246). -/
def sealedAt (s : State) (a : Nat) : Bool := decide ((granAt s a).slot ≠ 0) && imePresent s

/-- The granule check of a request (R231). -/
def admitted (s : State) (src plot key a : Nat) : Bool :=
  let g := granAt s a
  match g.kind with
  | .window => decide (plot = g.plot ∧ key = g.slot)
  | .unassigned => decide (src = mgmtNode)
  | .spill p => decide (src = quarterNode p)
  | .snoop => (match attOf src with | .slice _ => true | _ => false)
  | .counters => false
  | .dump => decide (src = mgmtNode)

/-! ## Stored lines (R246, R252) -/

/-- The line was not copied before its channel stopped answering (R224). -/
def lostLine (s : State) (a : Nat) : Bool :=
  let k := stackAt s (addrStack a)
  k.lost.any (fun x => decide (x.1 = (placeOf s a).ch ∧ x.2 ≤ chanIndex k.order (addrLine a)))

/-- What the start-up fill leaves in a line: valid zeros where the zero fill applied, zeros sealed under slot 63 in the counter table,
explicit poison elsewhere; a sweep leaves explicit poison under its generation. -/
def fillOf (s : State) (a : Nat) : Stored :=
  let g := granAt s a
  let k := stackAt s (addrStack a)
  match g.fill with
  | some v => storedOfSymbols (encodeLine 0#512 0 ((v + 0x8000) % 65536) [])
  | none =>
    if lostLine s a then storedOfSymbols (encodeLine 0#512 0 0x8000 [])
    else if k.zeroFill then { data := 0#512, side := 0#128 }
    else if g.kind = .counters then
      let c := keystream k.fillKey 0 0 a
      storedOfSymbols (encodeLine c (sealedSide k.fillKey 0 0 a c) 0 [])
    else storedOfSymbols (encodeLine 0#512 0 0x8000 [])

/-- The stored line at an address. -/
def storedAt (s : State) (a : Nat) : Stored := (tget none (stackAt s (addrStack a)).lines (addrLine a)).getD (fillOf s a)

/-- Store a line; while its channel is copied, in both channels (R224). -/
def setStored (s : State) (a : Nat) (x : Stored) : State :=
  let ch := (placeOf s a).ch
  modStack s (addrStack a) (fun k => { k with
    lines := tset none k.lines (addrLine a) (some x), both := if k.copying = some ch then withElem k.both (addrLine a) else k.both })

/-- V of a valid line (R248). -/
def vValid (s : State) (a : Nat) : Nat := (granAt s a).gen.toNat

/-- V of an explicit poison line (R248). -/
def vPoison (s : State) (a : Nat) : Nat := ((granAt s a).gen.toNat + 0x8000) % 65536

/-! ## The injection unit (R262, R263) -/

/-- Injection modes. -/
def injStore : Nat := 0
/-- R263. -/
def injRead : Nat := 1
/-- R263. -/
def injCipher : Nat := 2

/-- The front that serves an address. -/
def frontFor (s : State) (a : Nat) : Front := frontAt s (addrStack a) (frontOf s a)

/-- Change the front that serves an address. -/
def modFrontFor (s : State) (a : Nat) (f : Front → Front) : State := modFront s (addrStack a) (frontOf s a) f

/-- An injection of a mode is armed on the line. -/
def injArmed (s : State) (a mode : Nat) : Bool :=
  let f := frontFor s a
  bitOf f.injCtrl 31 && decide (fld f.injCtrl 30 29 = mode) && decide (fld f.injLine 26 0 = addrLine a)

/-- The flips of the unit that apply. -/
def injFlips (f : Front) : List (Nat × Nat) :=
  ((List.range 3).map (fun i => tget 0#32 f.injSym i)).filterMap (fun w =>
    if bitOf w 31 && decide (fld w 22 16 ≤ 81) then some (fld w 22 16, fld w 7 0) else none)

/-- FIRED is set; the first application since it was last clear opens RESULT again. -/
def injFire (s : State) (a : Nat) : State :=
  modFrontFor s a (fun f =>
    if bitOf f.injStatus 11 then f else { f with injStatus := setFld f.injStatus 11 11 1, injRead := false })

/-- RESULT and SYMS of the first read of LINE after firing, whoever reads (R262): from what the decode found and whether a tag failed. -/
def seen (s : State) (a : Nat) (x : Found) (tagBad : Bool) : State :=
  let f := frontFor s a
  let result := match x.kind with
    | .poisoned => 2
    | .uncorr => 3
    | .valid => if tagBad then 4 else if x.syms = 0 then 0 else 1
  if bitOf f.injStatus 11 ∧ f.injRead = false ∧ fld f.injLine 26 0 = addrLine a then
    modFrontFor s a (fun f => { f with
      injStatus := setFld (setFld f.injStatus 10 8 result) 7 6 x.syms
      injRead := true })
  else s

/-- A STORE or CIPHER injection fires on a write that stores new contents; ARM clears (R263). -/
def injConsume (s : State) (a : Nat) : State := modFrontFor (injFire s a) a (fun f => { f with injCtrl := setFld f.injCtrl 31 31 0 })

/-! ## Counters, flags, records (R245, R262) -/

/-- Set a sticky flag of the channel that serves an address. -/
def chanFlag (s : State) (a bit : Nat) : State :=
  modChan s (addrStack a) (chanOf s a) (fun c => { c with err := c.err ||| (1#8 <<< bit) })

/-- The uncorrected-contained record of a line (R231, R250): plot and granule, never the line (R54). -/
def chanReport (s : State) (a plot cause : Nat) : State :=
  report s {
    src := chanSrc (addrStack a) (chanOf s a), sev := sevContained, cause := cause, plot := plot, sub := chanOf s a,
    node := kaoNode s a, info := a / 2 ^ 21 }

/-- A line corrected on a read: its counter, flag and event. -/
def noteCorrected (s : State) (a : Nat) : State :=
  raise (chanFlag (modFrontFor s a (fun f => { f with cntCorr := ctrInc f.cntCorr })) a 2) (chanSrc (addrStack a) (chanOf s a))

/-- An uncorrectable line found: counter and flag. -/
def countUncorr (s : State) (a : Nat) : State := chanFlag (modFrontFor s a (fun f => { f with cntUncorr := ctrInc f.cntUncorr })) a 3

/-- An uncorrectable line found by a read or by the read of a partial write: counter, flag, event, record. -/
def noteUncorr (s : State) (a : Nat) : State := chanReport (countUncorr s a) a (granAt s a).plot 0x05

/-- A failed tag: counter, flag, event, record. -/
def noteTag (s : State) (a : Nat) : State :=
  chanReport (chanFlag (modFrontFor s a (fun f => { f with cntTagf := ctrInc f.cntTagf })) a 4) a (granAt s a).plot 0x06

/-- A poisoned line read: counter and flag; no record. -/
def notePoison (s : State) (a : Nat) : State :=
  chanFlag (modFrontFor s a (fun f => { f with cntPois := ctrInc f.cntPois })) a 1

/-- A corrected line enters the row tracker of its channel (R260). -/
def trackRow (s : State) (a : Nat) : State :=
  let p := addrStack a
  let pl := placeOf s a
  let key := pl.bank * 16384 + pl.row
  let l := addrLine a
  let t := (chanAt s p (chanOf s a)).tracker
  if t.any (fun e => decide (e.1 = key)) then
    modChan s p (chanOf s a) (fun c => { c with
      tracker := c.tracker.map (fun e => if e.1 = key then (e.1, withElem e.2 l) else e) })
  else if t.length < 32 then modChan s p (chanOf s a) (fun c => { c with tracker := c.tracker ++ [(key, [l])] })
  else
    let least : Nat := t.foldl (fun m e => min m e.2.length) 1024
    let r := pickOpen s ((t.filter (fun e => decide (e.2.length = least))).map (·.1))
    modChan r.2 p (chanOf s a) (fun c => { c with
      tracker := c.tracker.map (fun e => if e.1 = r.1 then (key, [l]) else e)
      trackerLost := ctrInc c.trackerLost })

/-! ## Row commands (R234, R238) -/

/-- THRESH in force. -/
def rhThresh (c : Chan) : Nat := max 256 (fld c.rhCtrl 15 0)

/-- Rows of the bank at distance 1, or at distances 1 and 2 when RADIUS is 1. -/
def neighbours (c : Chan) (row : Nat) : List Nat :=
  (if bitOf c.rhCtrl 30 then [1, 2] else [1]).flatMap (fun d =>
    (if d ≤ row then [row - d] else []) ++ (if row + d < 16384 then [row + d] else []))

/-- A neighbour refresh activates and precharges each neighbour row: no row of the bank stays open (R238). -/
def neighbourRefresh (c : Chan) (bank row : Nat) : Chan :=
  { c with cntNref := ctrInc c.cntNref, cntAct := ctrAdd c.cntAct (neighbours c row).length, openRow := tset none c.openRow bank none }

/-- An activation of a row: the activation table, and the neighbour refreshes it triggers. -/
def activateRow (c : Chan) (bank row free : Nat) : Chan :=
  let opened := fun (c : Chan) => { c with cntAct := ctrInc c.cntAct, openRow := tset none c.openRow bank (some row) }
  let put := fun (c : Chan) (l : List (Nat × Nat × Nat)) (n : Nat) =>
    if rhThresh c ≤ n then neighbourRefresh { (opened c) with act := l ++ [(bank, row, 0)] } bank row
    else { (opened c) with act := l ++ [(bank, row, n)] }
  if !bitOf c.rhCtrl 31 then opened c
  else match c.act.find? (fun e => decide (e.1 = bank ∧ e.2.1 = row)) with
    | some e => put c (without c.act e) (e.2.2 + 1)
    | none =>
      if c.act.length < 256 then put c c.act 1
      else
        let least : Nat := c.act.foldl (fun m e => min m e.2.2) 0xFFFFFF
        let low := c.act.filter (fun e => decide (e.2.2 = least))
        let v := low.getD (free % low.length) (0, 0, 0)
        let c1 := if rhThresh c ≤ 2 * v.2.2 then neighbourRefresh { c with err := c.err ||| 0x80#8 } v.1 v.2.1 else c
        put c1 (without c1.act v) (v.2.2 + 1)

/-- What a read or write command leaves of its bank's row: precharged under the closed-page policy; else open, with the time of the
hit and the OPEN_TO in force for the request (R234). -/
def afterColumn (c : Chan) (ctrl : Word) (bank t : Nat) : Chan :=
  if bitOf ctrl 30 then { c with hits := tset (0, 0) c.hits bank (t, max 1 (fld ctrl 23 16)) }
  else { c with openRow := tset none c.openRow bank none, hits := tset (0, 0) c.hits bank (0, 0) }

/-- A read or a write of a line that stands in no queue of a front: of the management complex, the debug bus master, a slice's or a
quarter's region, the counter table. Its row is activated where it is not open, and the command is counted (R234, R238, R245). -/
def directColumn (s : State) (a : Nat) (wr : Bool) : State :=
  let p := addrStack a
  let c := chanOf s a
  let pl := placeOf s a
  let s1 := if tget none (chanAt s p c).openRow pl.bank = some pl.row then s
    else
      let r := freeValue s
      modChan r.2 p c (fun x => activateRow x pl.bank pl.row r.1.toNat)
  modChan s1 p c (fun x => afterColumn (if wr then { x with cntWr := ctrInc x.cntWr } else { x with cntRd := ctrInc x.cntRd })
    (frontAt s p (frontOf s a)).ctrl pl.bank (now s))

/-! ## Storing and decoding lines -/

/-- Minor counter a stored line holds. -/
def minorOf (x : Stored) : Nat := x.side.toNat % 2 ^ 40

/-- Store data and sideband bits [95:0] under a V; `fire`: an armed STORE or CIPHER injection applies (R263). -/
def putLine (s : State) (a v : Nat) (data : Line) (side95 : Nat) (fire : Bool) : State :=
  let fl := injFlips (frontFor s a)
  if fire && injArmed s a injStore then
    let v2 := (fl.filter (fun f => decide (80 ≤ f.1))).foldl (fun v f => nxor v (f.2 * 256 ^ (f.1 - 80))) v
    let cw := encodeLine data side95 v2 []
    setStored (injConsume s a) a (storedOfSymbols (applyFlips cw (fl.filter (fun f => decide (f.1 < 80)))))
  else if fire && injArmed s a injCipher then
    setStored (injConsume s a) a
      (storedOfSymbols (encodeLine data side95 v (fl.filter (fun f => decide (4 ≤ f.1 ∧ f.1 ≤ 79)))))
  else setStored s a (storedOfSymbols (encodeLine data side95 v []))

/-- Rewrite a line as explicit poison: its bytes as the decode left them, the minor counter as given (R250). -/
def poisonLine (s : State) (a : Nat) (x : Stored) (minor : Nat) : State :=
  let side := x.side.toNat % 2 ^ 96
  putLine s a (vPoison s a) x.data (side - side % 2 ^ 40 + minor % 2 ^ 40) false

/-- The minor counter where it cannot be read (R257). -/
def minorMax : Nat := 0xFFFFFFFFFF

/-- The minor counter of a decoded line (R257). -/
def minorIn (f : Found) : Nat := if f.kind = .uncorr then minorMax else minorOf f.st

/-- The poison rewrite after what a decode found. -/
def poisonFound (s : State) (a : Nat) (f : Found) : State := poisonLine s a f.st (minorIn f)

/-- A poison rewrite on account of a read: none while a READ injection is armed on the line (R263). -/
def poisonRead (s : State) (a : Nat) (f : Found) : State := if injArmed s a injRead then s else poisonFound s a f

/-- A line found valid after correction is stored as it was, its bad symbols corrected (R250); not while a READ injection is armed on it
(R263). -/
def writeBack (s : State) (a : Nat) (f : Found) : State := if injArmed s a injRead then s else setStored s a f.st

/-- Decode the line as stored; a demand read sees an armed READ injection (R263). -/
def findLine (s : State) (a : Nat) (demand : Bool) : Found :=
  let cw := codeword (storedAt s a) (vValid s a)
  decodeSymbols (if demand && injArmed s a injRead then applyFlips cw (injFlips (frontFor s a)) else cw)

/-- What a read does with what its decode found (R250): the line's status, its counters, flags, record and rewrite. `tag`: a line found
valid verifies. -/
def readSettle (s : State) (a : Nat) (f : Found) (tag : Bool) : Nat × State :=
  match f.kind with
  | .poisoned => (0x04, seen (notePoison s a) a f false)
  | .uncorr => (0x05, poisonRead (seen (noteUncorr s a) a f false) a f)
  | .valid =>
    let stored := findLine s a false
    let injected := decide (stored.kind = .valid ∧ stored.syms = 0)
    let s1 := if f.syms = 0 then s else noteCorrected s a
    let s2 := if f.syms = 0 ∨ injected = true then s1 else trackRow s1 a
    let s3 := seen (if f.syms = 0 then s2 else writeBack s2 a f) a f (!tag)
    if tag then (0, s3) else (0x06, poisonRead (noteTag s3 a) a f)

/-! ## Counters of sealed pages (R255, R256) -/

/-- The key of an address's granule. -/
def keyAt (s : State) (a : Nat) : BitVec 256 := tget 0#256 s.vault.slotKeys (granAt s a).slot

/-- The tag of a sealed line verifies under a major counter (R254). -/
def tagUnder (s : State) (a j : Nat) (x : Stored) : Bool :=
  decide (x.side.toNat % 2 ^ 96 = sealedSide (keyAt s a) j (minorOf x) a x.data)

/-- The plaintext of a sealed line under a major counter. -/
def plainUnder (s : State) (a j : Nat) (x : Stored) : Line := x.data ^^^ keystream (keyAt s a) j (minorOf x) a

/-- A line of the counter table that nothing has written since the fill sealed it: eight counters of 0. -/
def tableFresh (s : State) (a : Nat) : Bool :=
  let k := stackAt s (addrStack a)
  decide (tget none k.lines (addrLine a) = none) && !lostLine s a && (k.zeroFill || decide (k.fillKey = keyAt s a))

/-- Plaintext and minor counter of a line of the counter table, where it decodes and its tag verifies; its major counter is 0 (R255). -/
def tablePlain (s : State) (a : Nat) : Option (Line × Nat) :=
  if tableFresh s a then some (0#512, 0)
  else
    let f := findLine s a false
    if f.kind = .valid ∧ tagUnder s a 0 f.st = true then some (plainUnder s a 0 f.st, minorOf f.st) else none

/-- Major counter of the page of an address as the counter table holds it; none where the table cannot be read. -/
def tableEntry (s : State) (a : Nat) : Option Nat :=
  (tablePlain s (tableLine (addrStack a) (pageOf a))).map (fun x => fld x.1 (64 * (pageOf a % 8) + 63) (64 * (pageOf a % 8)))

/-- A front reads a line of the counter table (R256): what R250 does at any read of a line. -/
def tableRead (s : State) (a : Nat) : State :=
  let s1 := directColumn s a false
  if tableFresh s a then s1
  else
    let f := findLine s a false
    (readSettle s1 a f (decide (f.kind ≠ .valid) || tagUnder s a 0 f.st)).2

/-- The major counter of an address's page that a front's cache holds. -/
def cachedMajor (s : State) (a : Nat) : Option Nat :=
  ((frontFor s a).ctrCache.find? (fun e => decide (e.1 = pageOf a))).map (·.2)

/-- Major counter of the page of an address, as the front that serves the address uses it: its cached copy, else the table's; a free
value where the table cannot be read. The lines of the table itself are under major counter 0 (R255). -/
def majorAt (s : State) (a : Nat) : Nat :=
  if (granAt s a).kind = .counters then 0
  else (cachedMajor s a).getD ((tableEntry s a).getD ((freeValue s).1.toNat % 2 ^ 64))

/-- A front uses a page's major counter: a miss of its cache reads the counter table (R255, R256). -/
def touchMajor (s : State) (a : Nat) : State :=
  if (granAt s a).kind = .counters ∨ (cachedMajor s a).isSome = true then s
  else
    let pg := pageOf a
    let j := majorAt s a
    let s1 := tableRead (if (tableEntry s a).isSome then s else (freeValue s).2) (tableLine (addrStack a) pg)
    let set := (frontFor s1 a).ctrCache.filter (fun x => decide (x.1 % 256 = pg % 256))
    if set.length < 8 then modFrontFor s1 a (fun f => { f with cntCmiss := ctrInc f.cntCmiss, ctrCache := (pg, j) :: f.ctrCache })
    else
      let r := pickOpen s1 (set.map (·.1))
      modFrontFor r.2 a (fun f => { f with
        cntCmiss := ctrInc f.cntCmiss, ctrCache := (pg, j) :: f.ctrCache.filter (fun e => decide (e.1 ≠ r.1)) })

/-- The tag of a sealed line verifies (R254). -/
def tagOk (s : State) (a : Nat) (x : Stored) : Bool := tagUnder s a (majorAt s a) x

/-- The plaintext of a stored line. -/
def plainOf (s : State) (a : Nat) (x : Stored) : Line := if sealedAt s a then plainUnder s a (majorAt s a) x else x.data

/-! ## Reading (R249, R250) -/

/-- A demand read of a line: its status, its data (zeros where it is not valid), and the state. -/
def readLine (s : State) (a : Nat) : Nat × Line × State :=
  let f := findLine s a true
  let s0 := if injArmed s a injRead then injFire s a else s
  let s1 := if sealedAt s a && decide (f.kind = .valid) then touchMajor s0 a else s0
  let r := readSettle s1 a f (!sealedAt s a || decide (f.kind ≠ .valid) || tagOk s1 a f.st)
  (r.1, if r.1 = 0 then plainOf s1 a f.st else 0#512, r.2)

/-! ## Rollover (R258) -/

/-- One line of a page in rollover: decrypted under the old major counter and sealed under the new one, or poison. -/
def rollLine (j : Nat) (s : State) (a : Nat) : State :=
  let f := findLine s a false
  let s1 := seen s a f (decide (f.kind = .valid) && !tagUnder s a j f.st)
  if f.kind = .valid ∧ tagUnder s a j f.st = true then
    let c := plainUnder s a j f.st ^^^ keystream (keyAt s a) (j + 1) 0 a
    putLine s1 a (vValid s a) c (sealedSide (keyAt s a) (j + 1) 0 a c) false
  else poisonLine s1 a f.st 0

/-- The counter owner writes a page's entry through to the table (R255, R258): a partial write of the table line, under its next minor
counter. A table line that cannot be read refuses it (R250). -/
def tableWrite (s : State) (a j : Nat) : State :=
  let b := tableLine (addrStack a) (pageOf a)
  let s1 := directColumn (tableRead s b) b true
  match tablePlain s b with
  | some (l, n) =>
    let c := setFld l (64 * (pageOf a % 8) + 63) (64 * (pageOf a % 8)) j ^^^ keystream (keyAt s b) 0 (n + 1) b
    putLine s1 b (vValid s b) c (sealedSide (keyAt s b) 0 (n + 1) b c) false
  | none => s1

/-- Every front of the stack that caches the page's major counter takes the new value (R255). -/
def updateMajor (s : State) (a j : Nat) : State :=
  modStack s (addrStack a) (fun k => { k with
    fronts := tmap {} k.fronts (fun _ f => { f with ctrCache := f.ctrCache.map (fun e => if e.1 = pageOf a then (e.1, j) else e) }) })

/-- The rollover of the page of an address, whose major counter is j: it rises, and every line is re-encrypted with minor counter 0. -/
def rollover (s : State) (a : Nat) : State :=
  let base := a / 4096 * 4096
  let j := majorAt s a
  let s1 := tableWrite (updateMajor (touchMajor s base) a (j + 1)) a (j + 1)
  let s2 := modFrontFor s1 base (fun f => { f with cntRoll := ctrInc f.cntRoll })
  (List.range 64).foldl (fun t i => rollLine j t (base + 64 * i)) s2

/-! ## Writing (R250, R257) -/

/-- What a write stores. -/
inductive WriteKind where
  /-- A full line; the inline entry it carries, or none to keep what is stored (R247). -/
  | full (inline : Option Nat)
  /-- The bytes of a mask; `keep`: sideband [95:0] stays (R247). -/
  | part (mask : DWord) (keep : Bool)
  deriving DecidableEq, Repr

/-- Bytes of `new` where the mask is set, of `old` elsewhere. -/
def mergeBytes (mask : DWord) (old new : Line) : Line :=
  BitVec.ofNat 512 (symbolsNat ((List.range 64).map (fun i =>
    if bitOf mask i then fld new (8 * i + 7) (8 * i) else fld old (8 * i + 7) (8 * i))))

/-- Store plaintext in a line as its granule requires: sealed under the next minor counter, after a rollover where that
would be 2^40, or open with the given sideband (R257, R258). -/
def storePlain (s : State) (a : Nat) (minor : Nat) (data : Line) (side95 : Nat) (fire : Bool) : State :=
  if sealedAt s a then
    let s1 := touchMajor s a
    let s2 := if minor = minorMax then rollover s1 a else s1
    let n := if minor = minorMax then 1 else minor + 1
    let c := data ^^^ keystream (keyAt s2 a) (majorAt s2 a) n a
    putLine s2 a (vValid s2 a) c (sealedSide (keyAt s2 a) (majorAt s2 a) n a c) fire
  else putLine s a (vValid s a) data side95 fire

/-- A write whose packet carries POISON: the whole line as explicit poison, its minor counter advanced if sealed (R250, R257), its inline
bits as for any write of the line (R247). -/
def storePoison (s : State) (a : Nat) (minor side95 : Nat) (fire : Bool) : State :=
  if sealedAt s a then
    let s1 := if minor = minorMax then rollover (touchMajor s a) a else touchMajor s a
    putLine s1 a (vPoison s1 a) 0#512 (if minor = minorMax then 1 else minor + 1) fire
  else putLine s a (vPoison s a) 0#512 side95 fire

/-- A correction that a read-modify-write finds is counted; the write stores the corrected line. -/
def noteMerge (s : State) (a : Nat) (f : Found) : State := if f.syms = 0 then s else noteCorrected s a

/-- What the read of a write that is made whatever it finds makes known: a correction, or an uncorrectable line, which has no record (R250). -/
def noteOver (s : State) (a : Nat) (f : Found) : State :=
  seen (match f.kind with
    | .uncorr => countUncorr s a
    | .poisoned => s
    | .valid => noteMerge s a f) a f false

/-- A write of a line: its status and the state. `demand`: it is a requester's, which fires an injection (R263). -/
def writeLine (s : State) (a : Nat) (k : WriteKind) (data : Line) (poison demand : Bool) : Nat × State :=
  let f := findLine s a false
  let side := f.st.side.toNat % 2 ^ 96
  match k with
  | .full inl =>
    let s1 := if sealedAt s a || inl.isNone then noteOver s a f else s
    if poison then (0, storePoison s1 a (minorIn f) (inl.getD side) demand)
    else (0, storePlain s1 a (minorIn f) data (inl.getD side) demand)
  | .part mask keep =>
    if poison then (0, storePoison (noteOver s a f) a (minorIn f) (if keep then side else 0) demand)
    else match f.kind with
    | .poisoned => (0x04, seen s a f false)
    | .uncorr => (0x05, poisonRead (seen (noteUncorr s a) a f false) a f)
    | .valid =>
      let s1 := noteMerge (if sealedAt s a then touchMajor s a else s) a f
      let bad := sealedAt s a && !tagOk s1 a f.st
      let s2 := seen s1 a f bad
      if bad then (0x06, poisonRead (noteTag s2 a) a f)
      else (0, storePlain s2 a (minorOf f.st) (mergeBytes mask (plainOf s1 a f.st) data) (if keep then side else 0) demand)

/-- What the front makes of a line of a request before it serves it: a stack that is not there, a stamp that does not own the
line's window (R231), a retired channel (R225); the status, 0 where it serves the line, and the state with the record. -/
def accessStatus (s : State) (src plot key a : Nat) : Nat × State :=
  if !stackUp s (addrStack a) then (0x01, s)
  else if !admitted s src plot key a then (0x03, chanReport (chanFlag s a 5) a plot 0x03)
  else if (chanAt s (addrStack a) (chanOf s a)).state = .retired then (0x05, chanReport s a (granAt s a).plot 0x05)
  else (0, s)

/-! ## Inline directory entries (R105, R108) -/

/-- A slice reads the inline entry of a line, with its stamp (R98): status, entry, state. -/
def inlineRead (s : State) (src plot key a : Nat) : Nat × BitVec 96 × State :=
  let x := accessStatus s src plot key a
  if x.1 ≠ 0 then (x.1, 0#96, x.2)
  else
    let r := readLine (directColumn s a false) a
    (r.1, BitVec.ofNat 96 ((findLine s a true).st.side.toNat % 2 ^ 96), r.2.2)

/-- A sideband-only write is refused at the line: the slice counts it, and the entry it carried is lost (R250). -/
def sideRefused (s : State) (src : Nat) : State :=
  match attOf src with
  | .slice i => modSlice s i (fun x => { x with sideRefused := ctrInc x.sideRefused })
  | _ => s

/-- A slice's sideband-only write of an inline entry (R105), with its stamp (R98), a read-modify-write of the line (R236): refused where
the front denies it or the line is not valid, and the entry is lost. -/
def inlineWrite (s : State) (src plot key a : Nat) (v : BitVec 96) : State :=
  let x := accessStatus s src plot key a
  if x.1 ≠ 0 then x.2
  else if (granAt s a).dir = false then s
  else
    let f := findLine s a false
    let s1 := directColumn s a false
    match f.kind with
    | .poisoned => sideRefused (seen s1 a f false) src
    | .uncorr => sideRefused (poisonRead (seen (noteUncorr s1 a) a f false) a f) src
    | .valid => putLine (seen (noteMerge (directColumn s1 a true) a f) a f false) a (vValid s a) f.st.data v.toNat true

/-! ## Records in reserved regions (R106, R167) -/

/-- Bytes of a reserved region's line, as a read by the unit it serves finds them: status, data, state. A line that the unit has not
written since it got the region holds zeros. -/
def regionRead (s : State) (src plot key a : Nat) : Nat × Line × State :=
  let x := accessStatus s src plot key a
  if x.1 ≠ 0 then (x.1, 0#512, x.2)
  else if tget none (stackAt s (addrStack a)).lines (addrLine a) = none then (0, 0#512, directColumn s a false)
  else readLine (directColumn s a false) a

/-- A unit writes some bytes of a line of its reserved region: the status and the state. -/
def regionWrite (s : State) (src plot key a : Nat) (mask : DWord) (data : Line) : Nat × State :=
  let x := accessStatus s src plot key a
  let s1 := directColumn (directColumn s a false) a true
  if x.1 ≠ 0 then x
  else if tget none (stackAt s (addrStack a)).lines (addrLine a) = none then
    writeLine s1 a (.full none) (mergeBytes mask 0#512 data) false true
  else writeLine s1 a (.part mask false) data false true

/-- The region's lines stand as the unit that gets it finds them: nothing written. -/
def regionClear (s : State) (a size : Nat) : State :=
  modStack s (addrStack a) (fun k => { k with
    lines := k.lines.filter (fun kv => !decide (addrLine a ≤ kv.1 ∧ kv.1 < addrLine a + size / 64)) })

/-! ## Generations and sweeps (R251) -/

/-- Line addresses of a granule that the table lists. -/
def listedIn (s : State) (p g : Nat) : List Nat :=
  ((stackAt s p).lines.filter (fun kv => decide (granOf kv.1 = g))).map (fun kv => lineAddr p kv.1)

/-- The lines nothing has written since the fill decode as valid. -/
def fillValid (s : State) (p g : Nat) : Bool :=
  let a := lineAddr p (32768 * g)
  decide ((decodeSymbols (codeword (fillOf s a) (vValid s a))).kind = .valid)

/-- A forced sweep's work: each line that decodes as poisoned becomes explicit poison under the current G. -/
def sweepGranule (s : State) (p g : Nat) : State :=
  let s1 := (listedIn s p g).foldl (fun s a =>
    let f := findLine s a false
    if f.kind = .poisoned then poisonFound s a f else s) s
  if fillValid s p g then s1 else modGran s1 p g (fun e => { e with fill := some e.gen.toNat })

/-- A poisoning sweep: every line of the granule becomes explicit poison under the current G. -/
def poisonGranule (s : State) (p g : Nat) : State :=
  let s1 := (listedIn s p g).foldl (fun s a => poisonFound s a (findLine s a false)) s
  modGran s1 p g (fun e => { e with fill := some e.gen.toNat })

/-- A plot reset reaches a granule (R251): G + 1, or at the limit a poisoning sweep. -/
def bumpGranule (s : State) (p g : Nat) : State :=
  if (tget {} (stackAt s p).granules g).unswept = 32767 then poisonGranule s p g
  else modGran s p g (fun e => { e with
    gen := e.gen + 1#16
    unswept := e.unswept + 1
    sweep := e.sweep.map (· + 1)
    incs := now s :: e.incs })

/-! ## Patrol and range scrub (R259, R261) -/

/-- What a scrub read of a line as stored finds, and what it repairs: 0 nothing, 1 corrected, 2 poisoned, 3 uncorrectable. -/
def scrubLine (s : State) (a : Nat) : Nat × State :=
  let f := findLine s a false
  match f.kind with
  | .valid =>
    let s1 := seen s a f false
    if f.syms = 0 then (0, s1) else (1, writeBack (trackRow (noteCorrected s1 a) a) a f)
  | .poisoned =>
    let explicit := decide ((decodeSymbols (codeword (storedAt s a) (vPoison s a))).kind = .valid)
    let s1 := seen (if f.syms = 0 then s else trackRow (noteCorrected s a) a) a f false
    (2, if explicit && decide (f.syms = 0) then s1 else poisonRead s1 a f)
  | .uncorr => (3, poisonRead (seen (noteUncorr s a) a f false) a f)

/-- Patrol does as a scrub read does, and skips the line of an armed READ injection (R259, R263). -/
def patrolLine (s : State) (a : Nat) : Nat × State := if injArmed s a injRead then (0, s) else scrubLine s a

end Machine
end Sys2Proof
end

