-- ==== Sys2Proof/Machine/GrainOps.lean ====
section
/-! DEFINITION. The Grain dispatcher: homes, acceptance, eligibility, delivery, release, consumer reset
(the ordering chapter). -/

namespace Sys2Proof
namespace Machine

/-- Position of a flow's home quarter (R153). -/
def flowHome (f : Nat) : Nat := 2 * (f / 2048 % 2) + f / 4096

/-- The node of NAU k of the die at position p (R175). -/
def nauNode (p k : Nat) : Nat := nodeLocal p (k % 48 % 8) (k % 48 / 8 + 1) (k / 48)

/-- NAU number of a node on its die; none for another attachment. -/
def nauNumber (n : Nat) : Option Nat := match attOf n with | .nau k => some k | _ => none

/-- The NAU that holds quarter slot i at position p: fixed slots 2k and 2k + 1, else the NAU it is lent to (R161). -/
def slotHolder (s : State) (p i : Nat) : Option Nat :=
  if i < 192 then some (nauNode p (i / 2)) else (tget {} (quarterAt s p).slots i).lentTo

/-- Entries of an engine slot (R42, R161). -/
def slotEntries (s : State) : Nat := if s.sys.eff.slot3 then 3 else 2

/-- Engine slot i of quarter p. -/
def eslotAt (s : State) (p i : Nat) : ESlot := tget {} (quarterAt s p).slots i

/-- Change engine slot i of quarter p. -/
def modEslot (s : State) (p i : Nat) (f : ESlot → ESlot) : State :=
  modQuarter s p (fun q => { q with slots := tmod {} q.slots i f })

/-- Entry e of engine slot i of quarter p. -/
def entryAt (s : State) (p i e : Nat) : Option Entry := tget none (eslotAt s p i).entries e

/-- Set entry e of engine slot i of quarter p. -/
def setEntry (s : State) (p i e : Nat) (v : Option Entry) : State :=
  modEslot s p i (fun x => { x with entries := tset none x.entries e v })

/-! ## Descriptor fields (R158) -/

/-- FLOW. -/
def gFlow (d : BitVec 256) : Nat := fld d 255 243
/-- TRK_V. -/
def gTrkV (d : BitVec 256) : Bool := bitOf d 233
/-- SLICE. -/
def gSlice (d : BitVec 256) : Nat := fld d 228 225
/-- TRK. -/
def gTrk (d : BitVec 256) : Nat := fld d 224 215
/-- TGEN. -/
def gTgen (d : BitVec 256) : Nat := fld d 214 211
/-- SEQ. -/
def gSeq (d : BitVec 256) : Nat := fld d 122 107
/-- HANDLE. -/
def gHandle (d : BitVec 256) : Nat := fld d 106 93
/-- HGEN. -/
def gHgen (d : BitVec 256) : Nat := fld d 92 89
/-- PLOT. -/
def gPlot (d : BitVec 256) : Nat := fld d 88 84

/-- A grain with the handle of on-chip entry e of quarter p. -/
def withHandle (s : State) (p e : Nat) (g : Grain) : Grain :=
  { g with
    desc := setFld (setFld g.desc 106 93 (4096 * p + e)) 92 89 (tget 0 (quarterAt s p).hgen e)
    spilled := false }

/-! ## Eligibility (R163) -/

/-- Grains of a flow in its quarter's spill share. -/
def spilledOf (f : Flow) : Nat := (f.q.filter (·.spilled)).length

/-- The grain a flow delivers next: its head, or for a free flow its first grain on chip (R154). -/
def nextGrain (f : Flow) : Option Grain :=
  if f.kind = 0 then f.q.find? (fun g => !g.spilled)
  else match f.q with
    | [] => none
    | g :: _ => if g.spilled then none else some g

/-- A flow is eligible (R163). -/
def eligible (f : Flow) : Bool :=
  f.enable && !f.pause && !f.stopped && (decide (f.kind ≠ 2) || !f.inflight) && (nextGrain f).isSome

/-- Keep the ready lists in step with a flow's eligibility: it joins at the tail, or leaves (R163). -/
def refreshReady (s : State) (f : Nat) : State :=
  let fl := flowAt s f
  let key := (plotOfFlow s f, fl.cclass, fl.prio, f)
  modQuarter s (flowHome f) (fun q =>
    if eligible fl then
      if hasElem q.ready key then q
      else { q with ready := q.ready.filter (fun r => decide (r.2.2.2 ≠ f)) ++ [key] }
    else { q with ready := q.ready.filter (fun r => decide (r.2.2.2 ≠ f)) })

/-! ## Acceptance (R159, R167, R168, R170) -/

/-- On-chip entries free in a quarter. -/
def freeOnChip (s : State) (p : Nat) : List Nat := (List.range 4096).filter (fun e => !hasElem (quarterAt s p).onchip e)

/-- Flows of the device. -/
def flowCount (s : State) : Nat := if s.sys.part = .gk2400 then 4096 else 8192

/-- The pages a flow's spilled grains stand in (R167). -/
def flowPages (f : Flow) : List Nat := (f.q.filter (·.spilled)).foldl (fun l g => withElem l (g.place / 32)) []

/-- Spill pages in use in a quarter, each of one flow only (R167); a page with no grain left is free (R168). -/
def usedPages (s : State) (p : Nat) : List Nat := (s.flows.filter (fun kv => decide (flowHome kv.1 = p))).flatMap (fun kv => flowPages kv.2)

/-- Number of spill pages in use in a quarter (R169). -/
def spillPages (s : State) (p : Nat) : Nat := (usedPages s p).length

/-- The record after a flow's youngest spilled grain in the same page of its chain; none where a new page is due (R167). -/
def nextInPage (f : Flow) : Option Nat :=
  match (f.q.filter (·.spilled)).getLast? with
  | some g => if g.place % 32 < 31 then some (g.place + 1) else none
  | none => none

/-- Order of the refusal counters of a quarter (R361): FLOW_OFF, FLOW_FULL, GRAIN_FULL, CONSUMER_RESET, dead target. -/
def refusalIndex (st : Nat) : Nat :=
  match st with
  | 0x0C => 0
  | 0x0D => 1
  | 0x0E => 2
  | 0x0F => 3
  | _ => 4

/-- A quarter counts a refusal of a status, and its source raises (R379). -/
def refusalAt (s : State) (p st : Nat) : State :=
  raise (modQuarter s p (fun q => { q with refusals := tmod {} q.refusals (refusalIndex st) ctrInc })) (grainSrc p)

/-- Count a refusal at a flow and its quarter. -/
def countRefusal (s : State) (f st : Nat) : State := refusalAt (modFlow s f (fun x => { x with refused := ctrInc x.refused })) (flowHome f) st

/-- The newly accepted grain goes to the spill share (R168). -/
def mustSpill (s : State) (f : Nat) : Bool :=
  decide ((freeOnChip s (flowHome f)).length < (quarterAt s (flowHome f)).spillLow) ||
  (decide ((flowAt s f).kind ≠ 0) && decide (0 < spilledOf (flowAt s f)))

/-- First granule of the spill share of the quarter of the stack's own position. -/
def spillGranule : Nat := 4056
/-- First granule of the share of the next position, where that has no stack. -/
def spillGranule2 : Nat := 4024
/-- The stack that holds a quarter's spill share (R167). -/
def spillStack (s : State) (p : Nat) : Nat := if hasElem (partStacks s.sys.part) p then p else p - 1

/-- Whether the spill share has room for one more grain of the flow (R167); a lost stack has none (R217). -/
def spillRoom (s : State) (f : Nat) : Bool :=
  stackUp s (spillStack s (flowHome f)) && (decide (spillPages s (flowHome f) < 16384) || (nextInPage (flowAt s f)).isSome)

/-- Address of the spill share of the quarter at a position; 0 where there is none (R167). -/
def spillBase (s : State) (p : Nat) : Nat :=
  let k := spillStack s p
  if dieFitted s p && stackUp s k then stackBase k + (if k = p then spillGranule else spillGranule2) * 2 ^ 21 else 0

/-- The key slot of the reserved regions (R49). -/
def regionKey (s : State) : Nat := if imePresent s then 63 else 0

/-- The record of a spilled grain is written (R167): the descriptor, the payload or zeros, 32 zero bytes; two lines. -/
def writeRecord (s : State) (p rec : Nat) (g : Grain) : State :=
  let a := spillBase s p + 128 * rec
  let v := g.desc.toNat + 2 ^ 256 * (g.pay.getD 0#512).toNat
  let w := fun (s : State) (a v : Nat) => (regionWrite s (quarterNode p) 0 (regionKey s) a (BitVec.allOnes 64) (BitVec.ofNat 512 v)).2
  w (w s a (v % 2 ^ 512)) (a + 64) (v / 2 ^ 512)

/-- A spilled grain comes back with the payload of its record; where the record cannot be read it is poisoned, its payload zero
(log 154). -/
def readRecord (s : State) (p : Nat) (g : Grain) : Grain × State :=
  let a := spillBase s p + 128 * g.place
  let x := regionRead s (quarterNode p) 0 (regionKey s) a
  let y := regionRead x.2.2 (quarterNode p) 0 (regionKey s) (a + 64)
  let bad := decide (x.1 ≠ 0 ∨ y.1 ≠ 0)
  let pay : Line := if bad then 0#512 else BitVec.ofNat 512 (x.2.1.toNat / 2 ^ 256 + y.2.1.toNat % 2 ^ 256 * 2 ^ 256)
  ({ g with
      desc := if bad then setFld g.desc 231 231 1 else g.desc
      pay := if bitOf g.desc 232 then some pay else none }, y.2.2)

/-- A grain goes to the spill share: the next record of its flow's chain, or the first of a free page. -/
def spillGrain (s : State) (f : Nat) (g : Grain) : Grain × State :=
  let p := flowHome f
  let r := match nextInPage (flowAt s f) with
    | some r => (r, s)
    | none =>
      let used := usedPages s p
      let e := pickOpen s ((List.range 16384).filter (fun k => !hasElem used k))
      (32 * e.1, e.2)
  ({ g with pay := none, place := r.1 }, writeRecord r.2 p r.1 g)

/-- The status with which the home quarter answers a creation on flow f; 0 accepts (R170). -/
def createStatus (s : State) (f : Nat) : Nat :=
  if (flowAt s f).enable = false ∨ plotBlank s (plotOfFlow s f) = true then 0x0C
  else if 2 ^ (flowAt s f).depth ≤ (flowAt s f).q.length then 0x0D
  else if mustSpill s f = true ∧ spillRoom s f = false then 0x0E
  else 0

/-- The grain as its home quarter stamps it (R159): FLOW, PRIO, CCLASS, SEQ and PLOT. -/
def stampGrain (s : State) (f : Nat) (d : BitVec 256) (pay : Option Line) : Grain :=
  let fl := flowAt s f
  { desc := setFld (setFld (setFld (setFld (setFld (setFld d 255 243 f) 242 240 fl.prio) 239 234 fl.cclass)
      122 107 fl.nextSeq.toNat) 88 84 (plotOfFlow s f)) 232 232 (b2n pay.isSome)
    pay := pay, spilled := true, num := fl.made }

/-- The home quarter takes a creation on flow f (R168, R170): its status, and the state. -/
def acceptGrain (s : State) (f : Nat) (d : BitVec 256) (pay : Option Line) : Nat × State :=
  let st := createStatus s f
  if st ≠ 0 then (st, countRefusal s f st)
  else
    let g := stampGrain s f d pay
    let count := fun (x : Flow) (g : Grain) => { x with q := x.q ++ [g], nextSeq := x.nextSeq + 1#16, made := x.made + 1, accepted := ctrInc x.accepted }
    if mustSpill s f then
      let r := spillGrain s f g
      (0, refreshReady (modFlow r.2 f (fun x => { count x r.1 with spilledN := ctrInc x.spilledN })) f)
    else
      let p := flowHome f
      let e := pickOpen s (freeOnChip s p)
      let s2 := modFlow (modQuarter e.2 p (fun q => { q with onchip := q.onchip ++ [e.1] })) f (fun x => count x (withHandle s p e.1 g))
      (0, refreshReady s2 f)

/-! ## Refill (R168) -/

/-- Bring a flow's oldest n spilled grains on chip, each read from its record and under a new handle. -/
def refillGrains (s : State) (f : Nat) : Nat → List Grain → List Grain → State
  | _, done, [] => refreshReady (modFlow s f (fun x => { x with q := done })) f
  | 0, done, rest => refreshReady (modFlow s f (fun x => { x with q := done ++ rest })) f
  | k + 1, done, g :: rest =>
    if g.spilled then
      let p := flowHome f
      let x := readRecord s p g
      let e := pickOpen x.2 (freeOnChip x.2 p)
      refillGrains (modQuarter e.2 p (fun q => { q with onchip := q.onchip ++ [e.1] })) f k (done ++ [withHandle x.2 p e.1 x.1]) rest
    else refillGrains s f (k + 1) (done ++ [g]) rest
termination_by structural _ _ l => l

/-- Grains of a flow in slot entries of its quarter. -/
def inEntries (s : State) (f : Nat) : Nat :=
  (quarterAt s (flowHome f)).slots.foldl (fun n sl => sl.2.entries.foldl (fun n en => match en.2 with
    | some x => if gFlow x.grain.desc = f then n + 1 else n
    | none => n) n) 0

/-- Flows of a quarter that may be refilled: spilled grains and fewer than 16 on chip, slot entries included (R168). -/
def refillable (s : State) (p : Nat) : List Nat :=
  (s.flows.filter (fun kv => decide (flowHome kv.1 = p ∧ 0 < spilledOf kv.2 ∧
    kv.2.q.length - spilledOf kv.2 + inEntries s kv.1 < 16))).map (·.1)

/-- The flow the quarter refills next: highest priority, round robin within it (R168). -/
def refillPick (s : State) (p : Nat) : Option Nat :=
  let l := refillable s p
  let top := l.foldl (fun m f => max m (flowAt s f).prio) 0
  let c := l.filter (fun f => decide ((flowAt s f).prio = top))
  (c.find? (fun f => decide (tget 0 (quarterAt s p).nextRefill top ≤ f))).or c.head?

/-! ## Delivery into slots (R163) -/

/-- The classes of a mask from just after `c`, in ascending order with wrap. -/
def classesAfter (c : Nat) : List Nat := (List.range 64).map (fun i => (c + 1 + i) % 64)

/-- The class and flow a slot serves next at a priority (R163). -/
def pickAt (s : State) (p i prio plot : Nat) : Option (Nat × Nat) :=
  let x := eslotAt s p i
  let r := (quarterAt s p).ready
  (classesAfter (tget 0 x.lastClass prio)).findSome? (fun c =>
    if bitOf x.mask c then
      (r.find? (fun k => decide (k.1 = plot ∧ k.2.1 = c ∧ k.2.2.1 = prio))).map (fun k => (c, k.2.2.2))
    else none)

/-- Priority, class and flow a slot serves next (R163). -/
def pickFlow (s : State) (p i plot : Nat) : Option (Nat × Nat × Nat) :=
  [7, 6, 5, 4, 3, 2, 1, 0].findSome? (fun prio => (pickAt s p i prio plot).map (fun x => (prio, x.1, x.2)))

/-- The lowest free entry of a slot, within the effective count. -/
def freeEntry (s : State) (p i : Nat) : Option Nat :=
  (List.range (slotEntries s)).find? (fun e => decide (entryAt s p i e = none))

/-- The packet that pushes a grain to an NAU (R183). -/
def pushPacket (p node : Nat) (g : Grain) : Packet :=
  { mkPacket (quarterNode p) node .dat 0x0A with
    plot := gPlot g.desc, hdr := BitVec.ofNat 384 g.desc.toNat, data := g.pay.toList, poison := bitOf g.desc 231 }

/-- A slot may be filled: open, not under a reclaim, a free entry, its plot neither Empty, Loading nor under a load's quiesce
(R161, R318, R319), the die up and the quarter injecting (R202). -/
def slotOpenFor (s : State) (p i : Nat) : Bool :=
  let x := eslotAt s p i
  x.isOpen && !x.closing && !x.reclaiming && (freeEntry s p i).isSome && quarterUp s p && !s.silt.sink &&
  (match slotHolder s p i with
   | some node => !plotBlank s (plotOfNau s node) && !(plotAt s (plotOfNau s node)).quiesced
   | none => false)

/-- What the quarter does next for a slot: the NAU and entry, the priority, class and flow, and the grain. -/
def slotWork (s : State) (p i : Nat) : Option (Nat × Nat × Nat × Nat × Nat × Grain) :=
  if slotOpenFor s p i then
    match slotHolder s p i, freeEntry s p i with
    | some node, some e =>
      match pickFlow s p i (plotOfNau s node) with
      | some (prio, c, f) => (nextGrain (flowAt s f)).map (fun g => (node, e, prio, c, f, g))
      | none => none
    | _, _ => none
  else none

/-- The slot that the round robin of a quarter reaches next among those it can fill (R163). -/
def nextFill (s : State) (p : Nat) : Option Nat :=
  ((List.range 256).map (fun k => ((quarterAt s p).nextSlot + k) % 256)).find? (fun i => (slotWork s p i).isSome)

/-- Fill one free entry of a slot (R163), when it is that slot's turn. -/
def fillSlot (s : State) (p i : Nat) : State :=
  match slotWork s p i with
  | some (node, e, prio, c, f, g) =>
    if nextFill s p = some i then
      let s1 := modEslot s p i (fun x => { x with lastClass := tset 0 x.lastClass prio c })
      let s2 := modFlow s1 f (fun fl => { fl with
        q := dropFirst fl.q g
        inflight := decide (fl.kind = 2)
        delivered := ctrInc fl.delivered })
      let s3 := setEntry s2 p i e (some { grain := g, arrived := false, taken := false, reporting := false })
      let s4 := modQuarter s3 p (fun q => { q with
        ready := q.ready.filter (fun r => decide (r.2.2.2 ≠ f)), nextSlot := (i + 1) % 256 })
      inject (refreshReady s4 f) (pushPacket p node g)
    else s
  | none => s

/-! ## Entries by handle, release, closing (R162, R164) -/

/-- The slot and entry of quarter p that hold a grain with a predicate. -/
def findEntry (s : State) (p : Nat) (f : Nat → Entry → Bool) : Option (Nat × Nat × Entry) :=
  (quarterAt s p).slots.findSome? (fun sl =>
    sl.2.entries.findSome? (fun en => match en.2 with
      | some x => if f sl.1 x then some (sl.1, en.1, x) else none
      | none => none))

/-- The entry that holds the grain of a handle in a slot of an NAU. -/
def entryOfHandle (s : State) (node handle : Nat) : Option (Nat × Nat × Entry) :=
  findEntry s (handle / 4096) (fun i x => decide (slotHolder s (handle / 4096) i = some node ∧ gHandle x.grain.desc = handle))

/-- Free an on-chip entry: its generation advances (R164). -/
def freeHandle (s : State) (handle : Nat) : State :=
  modQuarter s (handle / 4096) (fun q => { q with
    onchip := without q.onchip (handle % 4096)
    hgen := tmod 0 q.hgen (handle % 4096) (fun g => (g + 1) % 16) })

/-- A closing slot whose last taken entry has gone is closed (R162). -/
def settleSlot (s : State) (p i : Nat) : State :=
  let x := eslotAt s p i
  if x.closing ∧ x.entries = [] then modEslot s p i (fun x => { x with isOpen := false, closing := false }) else s

/-- Release the grain in entry e of slot i (R164). -/
def releaseEntry (s : State) (p i e : Nat) (x : Entry) : State :=
  let f := gFlow x.grain.desc
  let s1 := setEntry (freeHandle s (gHandle x.grain.desc)) p i e none
  settleSlot (refreshReady (modFlow s1 f (fun fl => { fl with inflight := false })) f) p i

/-- Put a grain back into its flow in creation order (R157, R162). -/
def returnGrain (s : State) (g : Grain) : State :=
  let f := gFlow g.desc
  refreshReady (modFlow s f (fun fl => { fl with
    q := fl.q.takeWhile (fun h => decide (h.num < g.num)) ++ g :: fl.q.dropWhile (fun h => decide (h.num < g.num))
    inflight := false })) f

/-- Take the entries of a slot that satisfy a predicate out and return their grains to their flows. -/
def returnEntries (s : State) (p i : Nat) (f : Entry → Bool) : State :=
  (eslotAt s p i).entries.foldl (fun s en => match en.2 with
    | some x => if f x then returnGrain (setEntry s p i en.1 none) x.grain else s
    | none => s) s

/-- Close a slot: prefetched entries go back; it closes with its last taken entry (R162). -/
def closeSlot (s : State) (p i : Nat) : State :=
  settleSlot (modEslot (returnEntries s p i (fun x => !x.taken)) p i (fun x => { x with closing := true })) p i

/-! ## Consumer reset (R171) -/

/-- The notice sent to a slice for a grain removed with its tracker (R171). -/
def dropPacket (p : Nat) (g : Grain) : Packet :=
  { mkPacket (quarterNode p) (sliceNode (gSlice g.desc)) .rsp 0x10 with
    status := 0x0F, tag := gTrk g.desc, hdr := BitVec.ofNat 384 (2 ^ 64 + gTgen g.desc) }

/-- Tell the slice of a removed grain's tracker that the grain is gone, with a status; the quarter counts a refusal of that status
(R169, R171; log 155). -/
def dropNoticeOf (s : State) (g : Grain) (st : Nat) : State :=
  let p := flowHome (gFlow g.desc)
  if gTrkV g.desc then inject (refusalAt s p st) { (dropPacket p g) with status := st }
  else s

/-- Remove one grain: its on-chip entry is freed and its slice told. -/
def dropGrain (s : State) (g : Grain) : State :=
  dropNoticeOf (if g.spilled then s else freeHandle s (gHandle g.desc)) g 0x0F

/-- Remove the grains of flow f held in slot entries. -/
def dropEntries (s : State) (f : Nat) : State :=
  let p := flowHome f
  (quarterAt s p).slots.foldl (fun s sl => sl.2.entries.foldl (fun s en => match en.2 with
    | some x => if gFlow x.grain.desc = f then dropGrain (setEntry s p sl.1 en.1 none) x.grain else s
    | none => s) s) s

/-- Consumer reset of one flow (R171): its grains go, its settings and NEXT_SEQ stay. -/
def resetFlow (s : State) (f : Nat) : State :=
  let s1 := (flowAt s f).q.foldl dropGrain (dropEntries s f)
  refreshReady (modFlow s1 f (fun x => { x with q := [], inflight := false })) f

/-- The flows of a plot that hold anything. -/
def plotFlows (s : State) (pl : Nat) : List Nat := (s.flows.map (·.1)).filter (fun f => decide (plotOfFlow s f = pl))

/-- Empty and close every slot an NAU holds (R171). -/
def clearSlotsOf (s : State) (node : Nat) : State :=
  let p := nodeDie node
  (quarterAt s p).slots.foldl (fun s sl =>
    if slotHolder s p sl.1 = some node then modEslot s p sl.1 (fun x => { x with isOpen := false, closing := false, entries := [] })
    else s) s

/-- The slots of an NAU that changes its holder serve the new one from empty (R161): their grains that are not taken go back to their flows,
those taken are dropped with their notices (log 189), and the slots close. -/
def vacateSlots (s : State) (node : Nat) : State :=
  let p := nodeDie node
  (quarterAt s p).slots.foldl (fun s sl =>
    if slotHolder s p sl.1 = some node then
      let s1 := returnEntries s p sl.1 (fun x => !x.taken)
      let s2 := (eslotAt s1 p sl.1).entries.foldl (fun s en => match en.2 with
        | some x => dropGrain (setEntry s p sl.1 en.1 none) x.grain
        | none => s) s1
      modEslot s2 p sl.1 (fun x => { x with isOpen := false, closing := false, entries := [] })
    else s) s

/-- Every flow's place in the ready lists follows its plot again, after plots have changed (R162). -/
def refreshFlows (s : State) : State := (s.flows.map (·.1)).foldl refreshReady s

/-- Consumer reset of a plot (R171). -/
def resetPlotFlows (s : State) (pl : Nat) : State :=
  (plotAt s pl).res.naus.foldl clearSlotsOf ((plotFlows s pl).foldl resetFlow s)

end Machine
end Sys2Proof
end

