-- ==== Sys2Proof/Machine/NauOps.lean ====
section
/-! DEFINITION. The NAU: requests and their order of checks (R190), answers (R290), regulators (R191), the producer and
directive ports (R160, R166), register values (R193). -/

namespace Sys2Proof
namespace Machine

/-- NAU_CTRL.ENABLE. -/
def nauEnabled (u : Nau) : Bool := bitOf u.ctrl 31
/-- NAU_CTRL.RT. -/
def nauRt (u : Nau) : Bool := bitOf u.ctrl 30
/-- NAU_CTRL.CTX. -/
def nauCtx (u : Nau) : Nat := fld u.ctrl 23 16
/-- NAU_CTRL.OUTST. -/
def nauOutst (u : Nau) : Nat := fld u.ctrl 13 8

/-- Bit of NAU_ERR that a status sets (R193). -/
def errBit (st : Nat) : Option Nat :=
  match st with
  | 0x11 => some 0
  | 0x10 => some 1
  | 0x02 => some 2
  | 0x13 => some 3
  | 0x08 => some 4
  | 0x0B => some 5
  | 0x01 => some 6
  | 0x14 => some 7
  | 0x12 => some 8
  | _ => none

/-- Set the sticky flag of a status. -/
def nauErrSet (u : Nau) (st : Nat) : Nau :=
  match errBit st with
  | some b => { u with err := u.err ||| (1#9 <<< b) }
  | none => u

/-- Put an answer at the answer port. -/
def nauAnswer (s : State) (n : Nat) (a : Answer) : State :=
  modNau s n (fun u => nauErrSet { u with answers := u.answers ++ [a] } a.status)

/-- An answer of the NAU's own: a status and no data (R190). -/
def nauRefuse (s : State) (n tag st : Nat) : State :=
  nauAnswer s n { tag := tag, status := st, poison := false, lstat := [], data := [], value := 0 }

/-- Every fabric-to-NAU port is held: ENABLE 0, a shell NAU of a device not Configured (R190), a frozen plot (R293), or a packet kept by a
break (R412). -/
def portsShut (s : State) (n : Nat) : Bool :=
  let pl := plotOfNau s n
  !nauEnabled (nauAt s n) || (decide (pl = 0) && !configured s) || (decide (pl ≠ 0) && decide ((plotAt s pl).state = .frozen)) ||
  (nauAt s n).brkHeld.isSome

/-- The NAU's plot is under the quiesce of a load (R318). -/
def plotQuiesced (s : State) (n : Nat) : Bool := (plotAt s (plotOfNau s n)).quiesced

/-- The ports hold new work: they are shut, or the plot is quiesced, which lets through only LOCKED requests, coherent answers and completion
directives (R318). -/
def portsHeld (s : State) (n : Nat) : Bool := portsShut s n || plotQuiesced s n

/-- The window of a plot that holds an address (R50). -/
def windowOf (s : State) (pl a : Nat) : Option Window :=
  (plotAt s pl).res.windows.find? (fun w => decide (w.base ≤ a ∧ a < w.base + 2 ^ w.sizeLog2))

/-- The plot that holds the region at die-local (lx, ly) of a position; 0 the shell. -/
def plotAtLocal (s : State) (pos lx ly : Nat) : Nat := plotOfRegion s (nodeLocal pos lx ly 0)

/-- Die-local column and row of the region of a unit given by per-region counts for row 0, rows 1 to 6 and row 7. -/
def unitRegion (n0 n1 n7 u : Nat) : Nat × Nat :=
  if u < 8 * n0 then (u / n0, 0)
  else if u < 8 * n0 + 48 * n1 then ((u - 8 * n0) / n1 % 8, (u - 8 * n0) / n1 / 8 + 1)
  else ((u - 8 * n0 - 48 * n1) / n7, 7)

/-- The region of a Grit group. -/
def gritRegion (g : Nat) : Nat × Nat := unitRegion 6 8 6 g

/-- The Grit group whose control an offset of a check-value hub's register space names (R281). -/
def gritOfOff (off : Nat) : Option Nat := if 0x10000 ≤ off ∧ off < 0x4C000 then some ((off - 0x10000) / 512) else none

/-- A register access of a fabric NAU is permitted (R180): its own registers for reads, a check-value unit of its plot (of the shell,
those of the Marl die as well), a group control of its plot. -/
def regPermitted (s : State) (n op a : Nat) : Bool :=
  let pl := plotOfNau s n
  let t := regNode a
  (decide (op = 0x06) && decide (t = n)) ||
  (match attOf t with
   | .crcHub p =>
     if regOff a < 0x4000 then decide (plotOfCrc s (256 * p + regOff a / 256) = pl)
     else (match gritOfOff (regOff a) with
       | some g => decide (plotAtLocal s p (gritRegion g).1 (gritRegion g).2 = pl)
       | none => false)
   | .crcHubMarl => decide (pl = 0 ∧ regOff a < 0x800)
   | _ => false)

/-- Requests of the request port that are outstanding. -/
def nauOutCount (u : Nau) : Nat := (u.out.filter (fun q => decide (q.ftag < 64))).length

/-- Line locks an NAU holds. -/
def nauLocks (s : State) (n : Nat) : Nat := (s.silt.locks.filter (fun l => decide (l.node = n))).length

/-- A Silt tag no request of the NAU uses. -/
def nauTag (u : Nau) : Nat :=
  ((List.range 256).map (fun i => (u.nextTag + i) % 2 ^ 14)).find? (fun t => !u.out.any (fun q => decide (q.tag = t))) |>.getD 0

/-- The NAU sets PANIC on its requests: it is real-time and its panic input is high (R192). -/
def nauPanics (u : Nau) : Bool := nauRt u && u.panic

/-- The packets of a request (R463): one to each front, or one to a register's node. -/
def reqPackets (s : State) (n tag : Nat) (key : Nat) (r : NauReq) : List Packet :=
  let u := nauAt s n
  let base := { mkPacket n 0 .req r.op with
    plot := plotOfNau s n, key := key, tag := tag, panic := nauPanics u, locked := r.locked, ctx := nauCtx u }
  if r.op = 0x06 ∨ r.op = 0x07 then
    [{ base with dst := regNode r.addr, addr := r.addr, hdr := BitVec.ofNat 384 (if r.op = 0x07 then r.value.toNat else 0) }]
  else
    (reqFronts s r.addr r.lines).map (fun f =>
      let l := partOf s r.addr r.lines f
      let a := l.headD r.addr
      { base with
        dst := kaoNode s a, addr := a,
        hdr := BitVec.ofNat 384 (if r.op = 0x00 then l.length - 1 else if r.op = 0x02 ∨ r.op = 0x04 then r.mask.toNat else 0)
        data := if r.op = 0x01 ∨ r.op = 0x02 ∨ r.op = 0x04 then l.map (fun x => r.data.getD ((x - r.addr / 64 * 64) / 64) 0#512) else [] })

/-- What comes of a request at the head of the request port. -/
inductive Tried where
  | wait (byRegulator : Bool)
  | done (s : State)
  deriving DecidableEq, Repr

/-- A packet of an earlier request waits at the NAU: requests leave in the order the port presented them. -/
def portBehind (s : State) (n : Nat) : Bool := s.silt.heldOut.any (fun q => decide (q.src = n ∧ q.cls = .req))

/-- The part of R190 after stamping: the waits, and injection. A request of several packets begins with its first one; the others wait
for their regulator and tokens before anything later of the port leaves. -/
def nauIssue (s : State) (n key : Nat) (r : NauReq) : Tried :=
  let u := nauAt s n
  let tag := nauTag u
  let ps := reqPackets s n tag key r
  if nauOutst u + 1 ≤ nauOutCount u ∨ (r.op = 0x03 ∧ 4 ≤ nauLocks s n + (u.out.filter (fun q => decide (q.op = 0x03))).length) then .wait false
  else if !(ps.head?.all (regulatorOk s)) then .wait true
  else if portBehind s n ∨ !(ps.head?.all (mayLeave s)) then .wait false
  else
    let q : Req := { tag := tag, ftag := r.tag, op := r.op, addr := r.addr / 64 * 64, lines := r.lines, got := [], dead := false, sent := now s }
    .done (injectAll (modNau s n (fun u => { u with out := u.out ++ [q], nextTag := (tag + 1) % 2 ^ 14 })) ps)

/-- The reach lane whose transmit stream comes from an NAU (R87, R293). -/
def txLane (s : State) (n : Nat) : Option Nat := (List.range 32).find? (fun j => decide ((reachAt s j).source = n ∧ (reachAt s j).mode ≠ 0))

/-- The packet of a transmit stream, from a shell NAU to the bridge of its lane (R183, R293). -/
def txStream (s : State) (n j : Nat) (r : NauReq) : Packet :=
  { mkPacket n (bridgeNode (j / 2 * 2)) .dat 0x0D with
    plot := plotOfNau s n, ctx := nauCtx (nauAt s n), hdr := BitVec.ofNat 384 r.mask.toNat, data := r.data.take 4 }

/-- A request is handled in the order of R190; a STREAM of a shell NAU that feeds a reach lane leaves for the lane's bridge and awaits no
answer (R293). -/
def nauTry (s : State) (n : Nat) (r : NauReq) : Tried :=
  let pl := plotOfNau s n
  let u := nauAt s n
  if plotBlank s pl then .done (nauRefuse s n r.tag 0x10)
  else if s.silt.sink then .done (nauRefuse s n r.tag 0x11)
  else if portsShut s n || (plotQuiesced s n && !r.locked) then .wait false
  else if r.op = 0x0D ∧ pl = 0 ∧ (txLane s n).isSome = true then .done (inject s (txStream s n ((txLane s n).getD 0) r))
  else if u.out.any (fun q => decide (q.ftag = r.tag ∧ q.dead = false)) then .done (nauRefuse s n r.tag 0x12)
  else if r.op > 0x07 ∨ unmappedAddr r.addr = true ∨ (6 ≤ r.op ∧ inRegs r.addr = false) ∨ (r.op ≤ 5 ∧ inRegs r.addr = true) then
    .done (nauRefuse s n r.tag 0x12)
  else if r.locked ∧ u.broken then .done (nauRefuse (modNau s n (fun u => { u with broken := false })) n r.tag 0x0B)
  else if inRegs r.addr ∧ regPermitted s n r.op r.addr = false then .done (nauRefuse s n r.tag 0x13)
  else if inRegs r.addr then nauIssue s n 0 r
  else match windowOf s pl r.addr with
    | none => .done (nauRefuse s n r.tag 0x02)
    | some w => nauIssue s n w.slot r

/-- The request of an operation is a write. -/
def isWriteOp (op : Nat) : Bool := decide (op = 0x01 ∨ op = 0x02 ∨ op = 0x04)

/-- Silt tags of the writes an NAU has sent that have not reached their visibility points (R152). -/
def writeTags (u : Nau) : List Nat := (u.out.filter (fun q => !q.dead && decide (q.ftag < 64) && isWriteOp q.op)).map (·.tag)

/-- A request has left the head of the request port: the directives behind it wait for it further by its tag, if it was sent as a write. -/
def passHead (new : List Nat) (u : Nau) : Nau :=
  { u with directives := u.directives.map (fun d =>
      if d.ahead = 0 then d else { d with ahead := d.ahead - 1, tags := d.tags ++ new }) }

/-- Serve the request port in order, at most k requests. -/
def nauPumpGo : Nat → State → Nat → State
  | 0, s, _ => s
  | k + 1, s, n =>
    match (nauAt s n).held with
    | [] => s
    | (r, counted) :: rest =>
      match nauTry s n r with
      | .wait byReg =>
        if byReg ∧ counted = false then
          modNau s n (fun u => { u with held := (r, true) :: rest, cntHeld := ctrInc u.cntHeld })
        else s
      | .done s1 =>
        let new := (writeTags (nauAt s1 n)).filter (fun t => !hasElem (writeTags (nauAt s n)) t)
        nauPumpGo k (modNau s1 n (fun u => passHead new { u with held := rest })) n

/-- Serve the request port. -/
def nauPump (s : State) (n : Nat) : State := nauPumpGo (nauAt s n).held.length s n

/-! ## Producer and directive ports (R160, R166, R152) -/

/-- A request of an NAU that is not of the request port: what its answer is for. -/
def portReq (u : Nau) (t ftag op addr : Nat) : Req :=
  { tag := nauTag u, ftag := ftag, op := op, addr := addr, lines := 0, got := [], dead := false, sent := t }

/-- Status shown at the producer, slot and directive ports (R292). -/
def portStatusSet (s : State) (n st : Nat) : State := modNau s n (fun u => nauErrSet { u with portStatus := st } st)

/-- Send a grain creation to a flow's home quarter and await its completion. -/
def sendCreate (s : State) (n ftag addr f : Nat) (d : BitVec 256) (pay : Option Line) : State :=
  let u := nauAt s n
  let q := portReq u (now s) ftag 0x09 addr
  let p : Packet := { mkPacket n (quarterNode (flowHome f)) .req 0x09 with
    plot := plotOfNau s n, tag := q.tag, panic := nauPanics u, ctx := nauCtx u, hdr := BitVec.ofNat 384 d.toNat, data := pay.toList }
  inject (modNau s n (fun u => { u with out := u.out ++ [q], nextTag := (q.tag + 1) % 2 ^ 14 })) p

/-- A fabric producer's grain (R160). -/
def produce (s : State) (n f : Nat) (user : DWord) (pay : Option Line) : State :=
  if plotBlank s (plotOfNau s n) then portStatusSet s n 0x10
  else if s.silt.sink then portStatusSet s n 0x11
  else if plotOfFlow s f ≠ plotOfNau s n ∨ flowCount s ≤ f then portStatusSet s n 0x08
  else sendCreate s n 64 0 f (BitVec.ofNat 256 (f * 2 ^ 243 + user.toNat)) pay

/-- A directive with the writes it waits for: those sent and those held at the request port (R152). -/
def heldDir (u : Nau) (d : BitVec 128) (data : Option Line) : HeldDir :=
  { dir := d, data := data, tags := writeTags u
    ahead := (u.held.zipIdx).foldl (fun n x => if isWriteOp x.1.1.op then x.2 + 1 else n) 0 }

/-- Every write issued before the directive has reached its visibility point. -/
def dirFree (u : Nau) (d : HeldDir) : Bool := decide (d.ahead = 0) && !d.tags.any (fun t => hasElem (writeTags u) t)

/-- A stray directive: counted, its quarter's source raised (R379), and answered BAD_OP (R166, check 1). -/
def strayDirective (s : State) (n : Nat) : State :=
  portStatusSet (raise (modQuarter s (nodeDie n) (fun q => { q with stray := ctrInc q.stray })) (grainSrc (nodeDie n))) n 0x12

/-- The entry of the grain that a directive names: taken in a slot of the NAU, and of the directive's HGEN (R166, check 1). -/
def dirEntry (s : State) (n : Nat) (d : BitVec 128) : Option (Nat × Nat × Entry) :=
  (entryOfHandle s n (fld d 81 68)).filter (fun x => x.2.2.taken && decide (gHgen x.2.2.grain.desc = fld d 67 64))

/-- A directive takes effect (R164, R166): on the grain that it still names; one whose grain has gone while it was held is stray. -/
def directiveGo (s : State) (n : Nat) (d : BitVec 128) (data : Option Line) : State :=
  match dirEntry s n d with
  | none => strayDirective s n
  | some (i, e, x) =>
    let p := fld d 81 68 / 4096
    let op := if fld d 127 126 = 0 ∧ gTrkV x.grain.desc = false then 1 else fld d 127 126
    let f := gFlow x.grain.desc
    if op = 0 then
      let u := nauAt s n
      let q := portReq u (now s) 66 0x0B (fld d 81 64)
      let pk : Packet := { mkPacket n (sliceNode (fld d 123 120)) .req 0x0B with
        plot := plotOfNau s n, tag := q.tag, panic := nauPanics u, ctx := nauCtx u, hdr := BitVec.ofNat 384 d.toNat,
        data := if bitOf d 125 then data.toList else [] }
      let s1 := portStatusSet (inject (modNau s n (fun u => { u with out := u.out ++ [q], nextTag := (q.tag + 1) % 2 ^ 14 })) pk) n 0
      if (flowAt s f).kind = 2 then setEntry s1 p i e (some { x with reporting := true }) else releaseEntry s1 p i e x
    else if op = 1 then portStatusSet (releaseEntry s p i e x) n 0
    else if op = 2 then
      let g := fld d 63 51
      if plotOfFlow s g ≠ gPlot x.grain.desc ∨ flowCount s ≤ g then portStatusSet s n 0x08
      else sendCreate s n 65 (fld d 81 64) g (BitVec.ofNat 256 (g * 2 ^ 243 + x.grain.desc.toNat % 2 ^ 243)) x.grain.pay
    else portStatusSet s n 0x12

/-- The directive names a grain taken in a slot of the NAU (R166, check 1); a grain stays taken until it is released. -/
def dirNames (s : State) (n : Nat) (d : BitVec 128) : Bool := (dirEntry s n d).isSome

/-- A directive is written: a stray one is answered at once; another waits for the writes before it (R152, R166). In sink mode none is
taken (R202). -/
def directiveWrite (s : State) (n : Nat) (d : BitVec 128) (data : Option Line) : State :=
  if s.silt.sink then portStatusSet s n 0x11
  else if dirNames s n d then
    let h := heldDir (nauAt s n) d data
    if dirFree (nauAt s n) h then directiveGo s n d data
    else modNau s n (fun u => { u with directives := u.directives ++ [h] })
  else strayDirective s n

/-- The first directives held whose writes are all visible are let go, in order (R152). -/
def directivesPump (s : State) (n : Nat) : State :=
  let u := nauAt s n
  let go := u.directives.takeWhile (dirFree u)
  go.foldl (fun s x => directiveGo s n x.dir x.data) (modNau s n (fun u => { u with directives := u.directives.drop go.length }))

/-- An NAU goes on: directives whose writes are visible, then the request port, then the directives that this has freed (R152, R190). -/
def nauServe (s : State) (n : Nat) : State := directivesPump (nauPump (directivesPump s n) n) n

/-- A request joins the request port behind those held (R190); the level of the panic input is known from it (R192, R290). -/
def nauAccept (s : State) (n : Nat) (r : NauReq) : State :=
  nauServe (modNau s n (fun u => { u with panic := r.panicIn, held := u.held ++ [(r, false)] })) n

/-! ## Answers from Silt (R189, R463) -/

/-- Status of line k of a multi-line answer: its byte of header payload [63:32], or the packet's STATUS where those are zero. -/
def lineStatus (p : Packet) (k : Nat) : Nat :=
  if p.status = 0 then 0
  else if fld p.hdr 63 32 = 0 then p.status
  else fld p.hdr 63 32 / 256 ^ k % 256

/-- The lines a part's answer fills in. -/
def fillPart (s : State) (q : Req) (p : Packet) : Req :=
  let l := partOf s q.addr q.lines (frontOf s p.addr)
  let l := if l = [] then reqLines q.addr q.lines else l
  { q with got := (l.zipIdx).foldl (fun g x =>
      tset none g ((x.1 - q.addr) / 64) (some (lineStatus p x.2, p.data.getD x.2 0#512))) q.got }

/-- The one answer of a request whose parts have answered (R463); a line that has none when the wait ends has status TIMEOUT (R189). -/
def gatherAnswer (q : Req) : Answer :=
  let l := (List.range q.lines).map (fun i => (tget none q.got i).getD (0x14, 0#512))
  let st := ((l.map (·.1)).find? (fun x => decide (x ≠ 0))).getD 0
  let reads := decide (q.op = 0x00 ∨ q.op = 0x03)
  { tag := q.ftag, status := st, poison := reads && decide (st ≠ 0), lstat := l.map (·.1)
    data := if reads then l.map (fun x => if x.1 = 0 then x.2 else 0#512) else [], value := 0 }

/-- Drop an outstanding request. -/
def dropReq (s : State) (n tag : Nat) : State := modNau s n (fun u => { u with out := u.out.filter (fun q => decide (q.tag ≠ tag)) })

/-- An answer to a request of the producer or directive port. -/
def portAnswer (s : State) (n : Nat) (q : Req) (st : Nat) : State :=
  match q.ftag with
  | 65 =>
    let s1 := portStatusSet s n st
    if st = 0 then
      match entryOfHandle s1 n (q.addr / 16) with
      | some (i, e, x) => if gHgen x.grain.desc = q.addr % 16 then releaseEntry s1 (nodeDie n) i e x else s1
      | none => s1
    else s1
  | 66 =>
    match entryOfHandle s n (q.addr / 16) with
    | some (i, e, x) => if x.reporting ∧ gHgen x.grain.desc = q.addr % 16 then releaseEntry s (nodeDie n) i e x else s
    | none => s
  | _ => portStatusSet s n st

/-- An answer packet reaches the NAU that waits for it (R187, R189, R290). -/
def nauTakes (s : State) (n : Nat) (p : Packet) : State :=
  match (nauAt s n).out.find? (fun q => decide (q.tag = p.tag)) with
  | none => modSilt s (fun x => { x with lateStray := ctrInc x.lateStray })
  | some q =>
    let s1 :=
      if q.dead then dropReq s n q.tag
      else if 64 ≤ q.ftag then portAnswer (dropReq s n q.tag) n q p.status
      else if 6 ≤ q.op then
        nauAnswer (dropReq s n q.tag) n
          { tag := q.ftag, status := p.status, poison := false, lstat := [], data := [], value := fld p.hdr 31 0 }
      else
        let q1 := fillPart s q p
        if q1.got.length < q1.lines then
          modNau s n (fun u => { u with out := u.out.map (fun x => if x.tag = q.tag then q1 else x) })
        else nauAnswer (dropReq s n q.tag) n (gatherAnswer q1)
    nauServe s1 n

/-- NAU_RSP_TO in ns; values below 10 µs act as 10 (R193). -/
def nauWait (u : Nau) : Nat := 1000 * max 10 (fld u.rspTo 19 0)

/-- NAU_RSP_TO has passed for a request (R189): it ends as if a TIMEOUT response had arrived; lines already answered keep their answers. -/
def nauTimeout (s : State) (n tag : Nat) : State :=
  match (nauAt s n).out.find? (fun q => decide (q.tag = tag ∧ q.sent + nauWait (nauAt s n) ≤ now s)) with
  | none => s
  | some q =>
    let s1 := dropReq s n tag
    let s2 := if q.dead then s1
      else if 64 ≤ q.ftag then portAnswer s1 n q 0x14
      else if 6 ≤ q.op then nauAnswer s1 n { tag := q.ftag, status := 0x14, poison := false, lstat := [], data := [], value := 0 }
      else nauAnswer s1 n (gatherAnswer q)
    nauServe s2 n

/-! ## Registers (R193) -/

/-- NAU_ID. -/
def nauIdWord (s : State) (n : Nat) : Nat := n * 2 ^ 16 + (nauNumber n).getD 0 * 2 ^ 9 + plotOfNau s n

/-- NAU_STATUS. -/
def nauStatusWord (s : State) (n : Nat) : Nat :=
  let u := nauAt s n
  b2n u.broken * 2 ^ 31 + b2n s.silt.sink * 2 ^ 30 + b2n (plotBlank s (plotOfNau s n)) * 2 ^ 29 + b2n s.silt.epoch * 2 ^ 28 +
  nauLocks s n % 8 * 2 ^ 25 + nauOutCount u % 128 * 2 ^ 16

/-- The register of an NAU at an offset, as a read returns it, the RC register through its own offset not yet cleared (R193). -/
def nauReg (s : State) (n off : Nat) : Nat :=
  let u := nauAt s n
  match off with
  | 0x000 => nauIdWord s n
  | 0x004 => u.ctrl.toNat
  | 0x008 => nauStatusWord s n
  | 0x00C => u.rspTo.toNat
  | 0x010 => (tget {} u.rates 0).reg.toNat
  | 0x014 => (tget {} u.rates 1).reg.toNat
  | 0x018 => (tget {} u.rates 2).reg.toNat
  | 0x01C => (tget {} u.rates 3).reg.toNat
  | 0x020 => u.err.toNat
  | 0x024 => u.err.toNat
  | 0x030 => ctrWord u.cntTx
  | 0x034 => ctrWord u.cntRx
  | 0x038 => ctrWord u.cntHeld
  | _ => 0

/-- NAU_CNT_CLR bit 0 clears the three counters. -/
def nauCntClear (u : Nau) : Nau := { u with cntTx := {}, cntRx := {}, cntHeld := {} }

/-- A write of NAU_RATE keeps the bucket, capped at the new BURST (R191). -/
def nauRateSet (u : Nau) (c : Nat) (w : Word) : Nau :=
  { u with rates := tmod {} u.rates c (fun g => { reg := w, tokens := min g.tokens (rateBurst w) }) }

/-- A write of an NAU register by the management complex (R193). -/
def nauRegWrite (u : Nau) (off : Nat) (w : Word) : Nau :=
  match off with
  | 0x004 => { u with ctrl := w }
  | 0x00C => { u with rspTo := w }
  | 0x010 => nauRateSet u 0 w
  | 0x014 => nauRateSet u 1 w
  | 0x018 => nauRateSet u 2 w
  | 0x01C => nauRateSet u 3 w
  | 0x03C => if bitOf w 0 then nauCntClear u else u
  | _ => u

/-- The unit of an attachment has been reset: a stalled one may be revived (R201). -/
def unitWasReset (s : State) (n : Nat) : State :=
  if hasElem s.silt.stalled n then modSilt s (fun x => { x with unitReset := withElem x.unitReset n }) else s

/-- Every register returns to its reset value (R193); requests still in flight keep their tags until answered. -/
def nauReset (s : State) (n : Nat) : State :=
  modNau (unitWasReset s n) n (fun u => { out := u.out.map (fun q => { q with dead := true }), nextTag := u.nextTag })

end Machine
end Sys2Proof
end

