-- ==== Sys2Proof/Machine/PceOps.lean ====
section
/-! DEFINITION. The coherence engine: home hash, home map, agents, directory, trackers, evaluation of rules and action words
(the engine and profile chapters). -/

namespace Sys2Proof
namespace Machine

/-! ## Decoded message header (R101, decoded message) -/

/-- AGENT. -/
def mAgent (h : BitVec 128) : Nat := fld h 127 116
/-- TYPE. -/
def mType (h : BitVec 128) : Nat := fld h 115 108
/-- LINE. -/
def mLine (h : BitVec 128) : Nat := fld h 107 62
/-- TAG. -/
def mTag (h : BitVec 128) : Nat := fld h 61 46
/-- LINK. -/
def mLink (h : BitVec 128) : Nat := fld h 45 42
/-- POISON. -/
def mPoison (h : BitVec 128) : Bool := bitOf h 41
/-- VIRAL. -/
def mViral (h : BitVec 128) : Bool := bitOf h 40
/-- SRC. -/
def mSrc (h : BitVec 128) : Nat := fld h 38 37
/-- TRK. -/
def mTrk (h : BitVec 128) : Nat := fld h 36 27
/-- TRK_V. -/
def mTrkV (h : BitVec 128) : Bool := bitOf h 26
/-- PLEN. -/
def mPlen (h : BitVec 128) : Nat := fld h 25 20
/-- TGEN. -/
def mTgen (h : BitVec 128) : Nat := fld h 19 16

/-- A decoded message header from its fields. -/
def mkHdr (agent type line tag link : Nat) (poison viral data : Bool) (src trk : Nat) (trkV : Bool) (plen tgen : Nat) : BitVec 128 :=
  BitVec.ofNat 128 (agent % 4096 * 2 ^ 116 + type % 256 * 2 ^ 108 + line % 2 ^ 46 * 2 ^ 62 + tag % 65536 * 2 ^ 46 + link % 16 * 2 ^ 42 +
    b2n poison * 2 ^ 41 + b2n viral * 2 ^ 40 + b2n data * 2 ^ 39 + src % 4 * 2 ^ 37 + trk % 1024 * 2 ^ 27 + b2n trkV * 2 ^ 26 +
    plen % 64 * 2 ^ 20 + tgen % 16 * 2 ^ 16)

/-! ## Home slice and home map (R93 to R99) -/

/-- Home bucket of a line (R93). -/
def bucketOf (la : Nat) : Nat := (List.range 12).foldl (fun b k => nxor b (la / 16 ^ k % 16)) 0

/-- The bucket map at device reset (R94). -/
def resetBuckets (p : Part) : List Nat :=
  match p with
  | .gk2400 => (List.range 16).map (fun b => 8 * (b / 4 % 2) + b % 4)
  | _ => List.range 16

/-- The bucket map in force. -/
def bucketMap (s : State) : List Nat := s.pce.buckets.getD (resetBuckets s.sys.part)

/-- Home slice of a line (R93). -/
def homeSlice (s : State) (la : Nat) : Nat := (bucketMap s).getD (bucketOf la) 0

/-- The line's bucket is lost (R95). -/
def homeLost (s : State) (la : Nat) : Bool := !dieUp s (sliceDie (homeSlice s la))

/-- The slice a decoder or NAU on die p sends a line's message to (R95). -/
def targetSlice (s : State) (p la : Nat) : Nat := if homeLost s la then 4 * p else homeSlice s la

/-- A home map entry covers a line (R97, R98). -/
def covers (e : HomeEnt) (la : Nat) : Bool := e.valid && decide (e.base ≤ 64 * la ∧ 64 * la < e.base + 2 ^ e.sizeLog2)

/-- The home map entry of a line, and its number. -/
def homeFor (s : State) (la : Nat) : Option (Nat × HomeEnt) := s.pce.home.find? (fun kv => covers kv.2 la)

/-- Containment: an agent of plot q may act on a line of the entry (R99). -/
def contains (e : HomeEnt) (q : Nat) : Bool :=
  decide (e.plot = q) || (decide (e.plot = 0) && decide (0 < q) && bitOf e.plotMask (q - 1))

/-- The entry is of a Kaolin kind. -/
def kaolinKind (e : HomeEnt) : Bool := decide (e.kind ≤ 1)

/-- Key slot a slice stamps for a line (R98). -/
def stampSlot (s : State) (e : HomeEnt) (la : Nat) : Nat := ((windowOf s e.plot (64 * la)).map (·.slot)).getD 0

/-! ## Agents (R103) -/

/-- The reset agent context: ESC_TO 0xF, else zero (R103). -/
def agentDef : BitVec 96 := 0x000000000000003C000000000#96

/-- Agent context a. -/
def agentAt (s : State) (a : Nat) : BitVec 96 := tget agentDef s.pce.agents a
/-- VALID. -/
def aValid (c : BitVec 96) : Bool := bitOf c 95
/-- PROFILE. -/
def aProfile (c : BitVec 96) : Nat := fld c 93 92
/-- KIND. -/
def aKind (c : BitVec 96) : Nat := fld c 91 90
/-- LINK. -/
def aLink (c : BitVec 96) : Nat := fld c 84 81
/-- NAU. -/
def aNau (c : BitVec 96) : Nat := fld c 80 71
/-- SGRP. -/
def aSgrp (c : BitVec 96) : Nat := fld c 70 65
/-- TRK_QUOTA; above 992 acts as 992. -/
def aQuota (c : BitVec 96) : Nat := min 992 (fld c 64 55)
/-- FLOW_BASE. -/
def aFlowBase (c : BitVec 96) : Nat := fld c 54 42
/-- ESC_TO. -/
def aEscTo (c : BitVec 96) : Nat := fld c 41 38
/-- USER. -/
def aUser (c : BitVec 96) : Nat := fld c 37 22

/-- The agent is under quiesce (R122). -/
def agentHeld (s : State) (a : Nat) : Bool :=
  s.mgmt.holds.any (fun h => h.quiesce && match h.fn with
    | .agents n => aValid (agentAt s a) && decide (aProfile (agentAt s a) = n)
    | .agentRange f c => decide (f ≤ a ∧ a < f + c)
    | .allAgents => true
    | _ => false)

/-- The profile number is under a swap's quiesce (R144). -/
def profileHeld (s : State) (n : Nat) : Bool := quiescing s (.agents n)

/-! ## Profile image words (R140, R126, R130) -/

/-- A byte of a bank's image header. -/
def bankByte (b : Bank) (off : Nat) : Nat := byteAt b.image off
/-- NSTATES. -/
def bkStates (b : Bank) : Nat := bankByte b 0x0C
/-- RECOV_STATE. -/
def bkRecov (b : Bank) : Nat := bankByte b 0x0D
/-- NRULES. -/
def bkRules (b : Bank) : Nat := leN b.image 0x0E 2
/-- MEMDATA_TYPE. -/
def bkMemdata (b : Bank) : Nat := bankByte b 0x10
/-- EVICT_TYPE. -/
def bkEvict (b : Bank) : Nat := bankByte b 0x11
/-- ESCTO_TYPE. -/
def bkEscto (b : Bank) : Nat := bankByte b 0x12
/-- FAULT_TYPE. -/
def bkFault (b : Bank) : Nat := bankByte b 0x13
/-- Descriptor i. -/
def bkDesc (b : Bank) (i : Nat) : BitVec 128 := BitVec.ofNat 128 (leN b.image (0x40 + 16 * i) 16)
/-- Template i. -/
def bkTmpl (b : Bank) (i : Nat) : BitVec 128 := BitVec.ofNat 128 (leN b.image (0x440 + 16 * i) 16)
/-- Dispatch word of a state and type. -/
def bkDisp (b : Bank) (state type : Nat) : Word := BitVec.ofNat 32 (leN b.image (0x1440 + 4 * (state * 256 + type)) 4)
/-- Rule i, image-relative. -/
def bkRule (b : Bank) (i : Nat) : BitVec 128 := BitVec.ofNat 128 (leN b.image (0x1440 + bkStates b * 1024 + 16 * i) 16)

/-- The type's dispatch word says answer (the same in every state, R142). -/
def bkAnswer (b : Bank) (type : Nat) : Bool :=
  (((List.range (bkStates b)).map (fun st => bkDisp b st type)).find? (fun w => bitOf w 15)).any (fun w => bitOf w 13)

/-! ## Trackers and locks (R112 to R116) -/

/-- Tracker t of slice i. -/
def trkAt (s : State) (i t : Nat) : Trk := tget {} (sliceAt s i).trks t
/-- Change tracker t of slice i. -/
def modTrk (s : State) (i t : Nat) (f : Trk → Trk) : State := modSlice s i (fun x => { x with trks := tmod {} x.trks t f })

/-- The tracker that holds a line's lock (R115). -/
def lockHolder (s : State) (i la : Nat) : Option Nat :=
  ((sliceAt s i).trks.find? (fun kv => decide (kv.2.state ≠ .free) && kv.2.lock && decide (kv.2.line = la))).map (·.1)

/-- Trackers in use that are not reserved. -/
def trkBusy (s : State) (i : Nat) : Nat := ((sliceAt s i).trks.filter (fun kv => decide (kv.2.state ≠ .free) && !kv.2.reserved)).length
/-- Reserved trackers in use. -/
def reservedBusy (s : State) (i : Nat) : Nat := ((sliceAt s i).trks.filter (fun kv => decide (kv.2.state ≠ .free) && kv.2.reserved)).length
/-- Trackers an agent holds in a slice. -/
def trkOf (s : State) (i a : Nat) : Nat :=
  ((sliceAt s i).trks.filter (fun kv => decide (kv.2.state ≠ .free ∧ kv.2.agent = some a))).length

/-- An agent may take a tracker now (R116). -/
def mayTake (s : State) (i a : Nat) : Bool := decide (trkBusy s i < 992) && decide (trkOf s i a < aQuota (agentAt s a))

/-- The free tracker indices of a slice. -/
def freeTrks (s : State) (i : Nat) : List Nat := (List.range 1024).filter (fun t => decide ((trkAt s i t).state = .free))

/-- Take a free tracker; which one the manual leaves open. -/
def takeTrk (s : State) (i : Nat) (f : Trk → Trk) : Nat × State :=
  let r := pickOpen s (freeTrks s i)
  (r.1, modTrk r.2 i r.1 f)

/-- Set the tracker's buffer, state and the rest back to free; GEN advances (R114). -/
def freeTrk (x : Trk) : Trk := { gen := (x.gen + 1) % 16 }

/-- The tracker stands in its line's queue: it waits, or it was the head and is under evaluation, or it holds the lock (R115). -/
def queued (x : Trk) : Bool := decide (x.state = .waitLock) || (decide (x.state ≠ .free) && (x.lock || x.head))

/-- The last waiter of a line's queue, or else the head under evaluation or the lock holder (R115). -/
def queueTail (s : State) (i la t : Nat) : Option Nat :=
  let last := fun (kv : Nat × Trk) => decide (kv.1 ≠ t ∧ kv.2.line = la ∧ kv.2.next = none)
  (((sliceAt s i).trks.find? (fun kv => last kv && decide (kv.2.state = .waitLock))).or
   ((sliceAt s i).trks.find? (fun kv => last kv && queued kv.2))).map (·.1)

/-- A waiter, the head under evaluation or the lock holder stands before the tracker in its line's queue. -/
def hasAhead (s : State) (i t : Nat) : Bool :=
  (sliceAt s i).trks.any (fun kv => decide (kv.2.next = some t) && queued kv.2)

/-- Another tracker than t waits for the line or is the head of its queue (R115). -/
def waitersBut (s : State) (i la : Nat) (t : Option Nat) : Bool :=
  (sliceAt s i).trks.any (fun kv => decide (some kv.1 ≠ t ∧ kv.2.line = la ∧ kv.2.state ≠ .free) &&
    (decide (kv.2.state = .waitLock) || kv.2.head))

/-- Release a tracker: its lock ends, GEN counts, it is free; those behind it lose their pointer from it (R114). -/
def releaseTrk (s : State) (i t : Nat) : State := modTrk s i t freeTrk

/-! ## Directory (R105 to R110) -/

/-- The cached entry of a line. -/
def dirCached (s : State) (i la : Nat) : Option Dir := tget none (sliceAt s i).dir la

/-- An entry in state 0 with no sharers. -/
def dirEmpty (d : Dir) : Bool := decide (d.state = 0 ∧ d.fmt = 0 ∧ d.aux = 0)

/-- The line of a bucket PCE_REMAP moved that has got no entry since (R96). -/
def movedLine (s : State) (i la : Nat) : Bool := hasElem s.pce.moved (bucketOf la) && !hasElem (sliceAt s i).recovered la

/-- The base of the snoop-filter backing: none where none is assigned, or where its stack is lost (R106, R217). -/
def sfBacking (s : State) : Option Nat := s.pce.sfBase.filter (fun b => stackUp s (addrStack b))

/-- The snoop-filter shares were lost with their stack (R217). -/
def sharesLost (s : State) : Bool := s.pce.sfBase.isSome && (sfBacking s).isNone

/-- A line without an entry stands in the recovery state: of a moved bucket, or of a share that was lost (R96, R217). -/
def recoveryLine (s : State) (i la : Nat) (e : HomeEnt) : Bool :=
  movedLine s i la || (decide (e.kind ≠ 0) && sharesLost s && !hasElem (sliceAt s i).recovered la)

/-- The active bank of a profile number. -/
def activeBank (s : State) (n : Nat) : Option Bank := (profileAt s n).active

/-- The entry as an evaluation sees it: the cached one; else state 0, or the recovery state for a moved line or one of a lost share (R96, R217). -/
def dirView (s : State) (i la : Nat) (h : Option (Nat × HomeEnt)) : Dir :=
  match dirCached s i la with
  | some d => d
  | none =>
    match h with
    | some (_, e) =>
      let rec0 := ((activeBank s e.profile).map bkRecov).getD 0
      if recoveryLine s i la e then { sf := decide (e.kind ≠ 0), state := rec0, recov := true, profile := e.profile }
      else { sf := decide (e.kind ≠ 0), profile := e.profile }
    | none => {}

/-- An inline directory entry from sideband bits [95:0] (R108); RECOV as R109 states. -/
def dirOfInline (s : State) (v : BitVec 96) : Dir :=
  let p := fld v 89 88
  { state := fld v 95 90, profile := p, fmt := fld v 87 86, shr := BitVec.ofNat 64 (fld v 85 22), aux := fld v 21 0
    recov := decide (((activeBank s p).map bkRecov) = some (fld v 95 90)) }

/-- The inline form of an entry (R108). -/
def inlineOfDir (d : Dir) : BitVec 96 :=
  BitVec.ofNat 96 (d.state % 64 * 2 ^ 90 + d.profile % 4 * 2 ^ 88 + d.fmt % 4 * 2 ^ 86 + d.shr.toNat * 2 ^ 22 + d.aux % 2 ^ 22)

/-- Ways of a cache set that hold lines (R105). -/
def dirSet (s : State) (i la : Nat) : List (Nat × Option Dir) :=
  (sliceAt s i).dir.filter (fun kv => decide (kv.1 % 16384 = la % 16384))

/-- Take an entry out of the cache. -/
def dirDrop (s : State) (i la : Nat) : State := modSlice s i (fun x => { x with dir := tset none x.dir la none })

/-- The stamp of a slice's requests for a line (R98): plot and key slot of its home map entry. -/
def lineStamp (s : State) (la : Nat) : Nat × Nat :=
  match homeFor s la with
  | some (_, e) => (e.plot, stampSlot s e la)
  | none => (0, 0)

/-- Index of a slice among the slices of the part (R106). -/
def sliceIndex (s : State) (i : Nat) : Nat :=
  ((List.range i).filter (fun k => hasElem (partDies s.sys.part) (sliceDie k))).length

/-- Address of way k of a line's set in the slice's share of the backing at a base: 131,072 sets of eight 16-byte entries (R106). -/
def sfAddr (s : State) (base i la k : Nat) : Nat := base + 0x1000000 * sliceIndex s i + 16 * (8 * (la % 131072) + k)

/-- A snoop-filter backing entry: bytes [15:0] of the cache entry, without DIRTY (R107, R108). -/
def sfWord (la : Nat) (d : Dir) : Nat :=
  2 ^ 127 + 2 ^ 125 + b2n d.recov * 2 ^ 124 + d.state % 64 * 2 ^ 118 + d.profile % 4 * 2 ^ 116 + d.fmt % 4 * 2 ^ 114 +
  d.shr.toNat * 2 ^ 50 + la % 2 ^ 46 * 2 ^ 4

/-- The directory entry that a backing entry holds. -/
def dirOfSf (v : BitVec 128) : Dir :=
  { sf := true, recov := bitOf v 124, state := fld v 123 118, profile := fld v 117 116, fmt := fld v 115 114,
    shr := BitVec.ofNat 64 (fld v 113 50) }

/-- The four entries of a backing line. -/
def sfQuad (l : Line) : List (BitVec 128) := (List.range 4).map (fun k => BitVec.ofNat 128 (l.toNat / 2 ^ (128 * k)))

/-- The slice reads a line's set in its share: status, the eight entries, state. -/
def sfRead (s : State) (base i la : Nat) : Nat × List (BitVec 128) × State :=
  let a := regionRead s (sliceNode i) 0 (regionKey s) (sfAddr s base i la 0)
  let b := regionRead a.2.2 (sliceNode i) 0 (regionKey s) (sfAddr s base i la 4)
  (if a.1 ≠ 0 then a.1 else b.1, sfQuad a.2.1 ++ sfQuad b.2.1, b.2.2)

/-- The way of a set that holds a line. -/
def sfHit (ws : List (BitVec 128)) (la : Nat) : Option Nat :=
  (List.range 8).find? (fun k => bitOf (ws.getD k 0#128) 127 && decide (fld (ws.getD k 0#128) 49 4 = la))

/-- A free way of a set. -/
def sfFree (ws : List (BitVec 128)) : Option Nat := (List.range 8).find? (fun k => !bitOf (ws.getD k 0#128) 127)

/-- The slice writes way k of a line's set. -/
def sfPut (s : State) (base i la k v : Nat) : State :=
  (regionWrite s (sliceNode i) 0 (regionKey s) (sfAddr s base i la (k / 4 * 4)) (BitVec.ofNat 64 (0xFFFF * 2 ^ (16 * (k % 4))))
    (BitVec.ofNat 512 (v * 2 ^ (128 * (k % 4))))).2

/-- The entry can leave the cache without a back-invalidation: an inline one, or one that has or can get a way of its set in the
backing (R105, R106). -/
def canEvict (s : State) (i la : Nat) (d : Dir) : Bool :=
  !d.sf || (match sfBacking s with
    | some b =>
      let x := sfRead s b i la
      decide (x.1 ≠ 0) || (sfHit x.2.1 la).isSome || (sfFree x.2.1).isSome
    | none => false)

/-- A dirty snoop-filter entry goes to its way of the backing, or to a free one (R105). -/
def sfStore (s : State) (i la : Nat) (d : Dir) : State :=
  match sfBacking s with
  | some b =>
    let x := sfRead s b i la
    match (sfHit x.2.1 la).or (sfFree x.2.1) with
    | some k => sfPut x.2.2 b i la k (sfWord la d)
    | none => x.2.2
  | none => s

/-- The line has no entry in the backing any more. -/
def sfErase (s : State) (i la : Nat) : State :=
  match sfBacking s with
  | some b =>
    let x := sfRead s b i la
    match sfHit x.2.1 la with
    | some k => sfPut x.2.2 b i la k 0
    | none => x.2.2
  | none => s

/-- Evict a cache entry: a clean one is dropped, a dirty one goes to its backing (R105). -/
def evictEntry (s : State) (i la : Nat) (d : Dir) : State :=
  let s1 := modSlice (dirDrop s i la) i (fun x => { x with evict := ctrInc x.evict })
  if !d.dirty then s1
  else if d.sf then sfStore s1 i la d
  else inlineWrite s1 (sliceNode i) (lineStamp s la).1 (lineStamp s la).2 (64 * la) (inlineOfDir d)

/-- The entry of a line is used: its set remembers it as the last one (R105). -/
def useWay (s : State) (i la : Nat) : State := modSlice s i (fun x => { x with lastUsed := tset none x.lastUsed (la % 16384) (some la) })

/-- Lines whose entries may be replaced: not locked, not of a profile under a swap (R105, R144). -/
def unlockedWays (s : State) (i la : Nat) : List Nat :=
  ((dirSet s i la).filter (fun kv => decide (kv.1 ≠ la) && (lockHolder s i kv.1).isNone &&
    (match kv.2 with | some d => !profileHeld s d.profile | none => true))).map (·.1)

/-- The ways that pseudo-LRU may choose from: not the one used last, where there is another (R105; log 65). -/
def victims (s : State) (i la : Nat) : List Nat :=
  let l := unlockedWays s i la
  let rest := l.filter (fun x => decide (tget none (sliceAt s i).lastUsed (la % 16384) ≠ some x))
  if rest = [] then l else rest

/-- Whether a way is free for a line, or can be freed at once, and the state with it freed; or the line waits for a way; or engine work for it
waits for a reserved tracker (R117). -/
inductive Room where
  | ready (s : State)
  | wait (s : State)
  | blocked (s : State)
  deriving DecidableEq, Repr

/-- A message the engine makes for itself on a victim line (R106). -/
def evictMsg (type la : Nat) : SliceMsg :=
  { hdr := mkHdr 0 type la 0 0 false false false 2 0 false 0 0, data := none, status := 0, homeLost := false, stamp := 0,
    responder := none, timeout := false, mem := false, src := 0, tag := 0, counted := false }

/-- Make room for a line in the directory cache (R105, R106): which victim goes is pseudo-LRU, left open. DESIGN CHOICE (log 186): where the
victim's entry has no place in its share, it is the victim's own line that is back-invalidated. -/
def makeRoom (s : State) (i la : Nat) : Room :=
  if (dirCached s i la).isSome ∨ (dirSet s i la).length < 16 then .ready (useWay s i la)
  else if (sliceAt s i).trks.any (fun kv => decide (kv.2.state ≠ .free ∧ kv.2.line % 16384 = la % 16384) && kv.2.reserved) then .wait s
  else match victims s i la with
    | [] => .wait s
    | vs =>
      let r := pickOpen s vs
      match dirCached r.2 i r.1 with
      | none => .ready (useWay r.2 i la)
      | some d =>
        if d.bad then .ready (useWay (modSlice (dirDrop r.2 i r.1) i (fun x => { x with evict := ctrInc x.evict })) i la)
        else if canEvict r.2 i r.1 d then .ready (useWay (evictEntry r.2 i r.1 d) i la)
        else if reservedBusy r.2 i < 32 then
          let ty := ((activeBank r.2 d.profile).map bkEvict).getD 0
          let m := evictMsg ty r.1
          let t := takeTrk r.2 i (fun x => { x with
            state := .eval, reserved := true, lock := true, line := r.1, profile := d.profile, msg := some m })
          .wait (modSlice t.2 i (fun x => { x with
            evict := ctrInc x.evict
            intake := { m with tag := 65536 + t.1 } :: x.intake }))
        else .blocked r.2

/-- Write an entry after an action word (R109, R114): an empty snoop-filter entry is no entry any more. -/
def dirStore (s : State) (i la : Nat) (d : Dir) : State :=
  let s1 := modSlice s i (fun x => { x with recovered := if hasElem s.pce.moved (bucketOf la) || (d.sf && sharesLost s) then withElem x.recovered la else x.recovered })
  if d.sf ∧ dirEmpty d then sfErase (dirDrop s1 i la) i la
  else modSlice s1 i (fun x => { x with dir := tset none x.dir la (some { d with dirty := true }) })

/-- A line's entry has to be fetched from its backing before a rule can run (R113). -/
def mustFetch (s : State) (i la : Nat) (h : Option (Nat × HomeEnt)) : Bool :=
  match h with
  | none => false
  | some (_, e) => (dirCached s i la).isNone && (decide (e.kind = 0) || s.pce.sfBase.isSome)

/-- The recovery state is entered for a line whose entry is lost or unreadable (R117). -/
def recoverEntry (s : State) (i la st : Nat) (e : HomeEnt) : State :=
  let r := ((activeBank s e.profile).map bkRecov).getD 0
  let s1 := modSlice s i (fun x => { x with
    dir := tset none x.dir la (some { sf := decide (e.kind ≠ 0), state := r, recov := true, profile := e.profile })
    recov := ctrInc x.recov })
  report s1 { src := sliceSrc i, sev := sevContained, cause := st, plot := e.plot, node := sliceNode i, info := la }

/-- A fetched entry is put into the directory cache (R105, R109, R117); a moved line that has got no entry since has none (R96). -/
def placeEntry (s : State) (i la st : Nat) (e : HomeEnt) : State :=
  if st ≠ 0 then recoverEntry s i la st e
  else if e.kind = 0 then
    let r := inlineRead s (sliceNode i) e.plot (stampSlot s e la) (64 * la)
    if r.1 ≠ 0 then recoverEntry r.2.2 i la r.1 e
    else modSlice r.2.2 i (fun x => { x with dir := tset none x.dir la (some (dirOfInline s r.2.1)) })
  else match sfBacking s with
    | none => s
    | some b =>
      if movedLine s i la then s
      else
        let x := sfRead s b i la
        if x.1 ≠ 0 then recoverEntry x.2.2 i la x.1 e
        else match sfHit x.2.1 la with
          | some k => modSlice x.2.2 i (fun y => { y with dir := tset none y.dir la (some (dirOfSf (x.2.1.getD k 0#128))) })
          | none => x.2.2

/-- A cached entry with an uncorrectable error is met (R117): the line goes to the recovery state, and what was dirty is lost. -/
def healEntry (s : State) (i la : Nat) (h : Option (Nat × HomeEnt)) : State :=
  match dirCached s i la, h with
  | some d, some (_, e) => if d.bad then recoverEntry s i la 0x05 e else s
  | _, _ => s

/-- The line's entry is at hand for an evaluation on a tracker (R125): cached, or fetched now into a way made free. -/
def entryReady (s : State) (i la : Nat) (h : Option (Nat × HomeEnt)) : Room :=
  match h with
  | none => .ready s
  | some (_, e) =>
    if (dirCached s i la).isSome then .ready (useWay (healEntry s i la h) i la)
    else match makeRoom s i la with
      | .wait s1 => .wait s1
      | .blocked s1 => .wait s1
      | .ready s1 => .ready (if mustFetch s1 i la h then placeEntry s1 i la 0 e else s1)

/-! ## Sharer field (R110, R131) -/

/-- Agents of the pointer or single-owner form. -/
def holders (d : Dir) : List Nat :=
  match d.fmt with
  | 1 => ([fld d.shr 11 0, fld d.shr 23 12, fld d.shr 35 24]).take (min 3 (fld d.shr 63 62))
  | 3 => [fld d.shr 11 0]
  | _ => []

/-- A pointer-form field of at most three agents. -/
def ptrForm (l : List Nat) : DWord :=
  BitVec.ofNat 64 (l.length * 2 ^ 62 + (l.getD 2 0) % 4096 * 2 ^ 24 + (l.getD 1 0) % 4096 * 2 ^ 12 + (l.getD 0 0) % 4096)

/-- The agent is held in the sharer field (R128). -/
def holdsAgent (s : State) (d : Dir) (a : Nat) : Bool :=
  if d.fmt = 2 then bitOf d.shr (aSgrp (agentAt s a)) else hasElem (holders d) a

/-- Set the pointer form. DESIGN CHOICE (log 146): a removal that leaves no pointer gives SHR_FMT 0 and not a pointer form of COUNT 0. -/
def setPtrs (d : Dir) (l : List Nat) : Dir := if l = [] then { d with fmt := 0, shr := 0#64 } else { d with fmt := 1, shr := ptrForm l }

/-- Single owner. -/
def setOwner (d : Dir) (a : Nat) : Dir := { d with fmt := 3, shr := BitVec.ofNat 64 (a % 4096) }

/-- SHR_OP on an entry (R131). DESIGN CHOICE (log 201): one that names a requester or responder that does not exist changes nothing. -/
def shrOp (s : State) (d : Dir) (op : Nat) (req rsp : Option Nat) : Dir :=
  match op, req, rsp with
  | 1, _, _ => { d with fmt := 0, shr := 0#64 }
  | 2, some a, _ => setOwner d a
  | 3, some a, _ =>
    if d.fmt = 2 then { d with shr := d.shr ||| (1#64 <<< aSgrp (agentAt s a)) }
    else if hasElem (holders d) a then setPtrs d (holders d)
    else if (holders d).length < 3 then setPtrs d (holders d ++ [a])
    else { d with fmt := 2, shr := (holders d ++ [a]).foldl (fun v x => v ||| (1#64 <<< aSgrp (agentAt s x))) 0#64 }
  | 4, _, some a => if d.fmt = 1 then setPtrs d (without (holders d) a) else d
  | 5, some a, _ => setPtrs d [a]
  | 6, _, some a => setOwner d a
  | 7, some a, _ =>
    if d.fmt = 1 then setPtrs d (without (holders d) a)
    else if d.fmt = 3 ∧ hasElem (holders d) a then { d with fmt := 0, shr := 0#64 }
    else d
  | _, _, _ => d

/-! ## Counters, events and refusals (R117, R138) -/

/-- A stray answer: counted, with an event. -/
def strayAt (s : State) (i : Nat) : State := raise (modSlice s i (fun x => { x with stray := ctrInc x.stray })) (sliceSrc i)

/-- A profile fault of the table's row k (R138): counted; the event once per counter clear. -/
def profFault (s : State) (i n k : Nat) : State :=
  let s1 := modProfile s n (fun p => { p with faults := tmod {} p.faults k ctrInc })
  if hasElem (profileAt s n).raised k then s1
  else raise (modProfile s1 n (fun p => { p with raised := p.raised ++ [k] })) (sliceSrc i)

/-- An error response of the slice to the source of a message (R99, R111, R117). -/
def rejectTo (s : State) (i : Nat) (m : SliceMsg) (st : Nat) : State :=
  inject s { mkPacket (sliceNode i) m.src .rsp 0x08 with
    status := st, tag := m.tag, plot := m.stamp, addr := 64 * mLine m.hdr, hdr := BitVec.ofNat 384 m.hdr.toNat }

/-- An access-violation record of a slice: plot, slice and entry number, never the line (R99, R54). -/
def violation (s : State) (i st : Nat) (h : Option (Nat × HomeEnt)) : State :=
  match h with
  | some (n, e) => report s { src := sliceSrc i, sev := sevViolation, cause := st, plot := e.plot, sub := 0, node := sliceNode i, info := n }
  | none => s

/-- A refused emission or flow (R99): POIS, counter, record. -/
def containRefuse (s : State) (i : Nat) (t : Option Nat) (h : Option (Nat × HomeEnt)) : State :=
  let s1 := modSlice s i (fun x => { x with contained := ctrInc x.contained })
  let s2 := match t with | some k => modTrk s1 i k (fun x => { x with pois := true }) | none => s1
  violation s2 i 0x08 h

/-! ## An evaluation (R125 to R129) -/

/-- An evaluation under way: slice, tracker, message, its type and whether it is a new request, the line, its home map entry,
the profile, whether this answer leaves PEND 0, whether the engine started it (eviction), and whether it comes from a parking
entry. -/
structure Ev where
  slice : Nat
  trk : Option Nat
  msg : SliceMsg
  typ : Nat
  isNew : Bool
  line : Nat
  home : Option (Nat × HomeEnt)
  prof : Nat
  last : Bool
  engine : Bool
  served : Bool := false
  deriving DecidableEq, Repr

/-- The tracker of an evaluation, free where it has none. -/
def evTrk (s : State) (e : Ev) : Trk := match e.trk with | some t => trkAt s e.slice t | none => {}

/-- The requester (R129). -/
def requester (s : State) (e : Ev) : Option Nat :=
  if e.engine then none else match e.trk with | some t => (trkAt s e.slice t).agent | none => some (mAgent e.msg.hdr)

/-- The responder (R129). -/
def responderOf (s : State) (e : Ev) : Option Nat := if e.isNew then requester s e else e.msg.responder

/-- Another tracker holds the line's lock. -/
def lockedByOther (s : State) (e : Ev) : Bool :=
  match lockHolder s e.slice e.line with
  | some t => decide (some t ≠ e.trk)
  | none => false

/-- The line is locked for a new request: another tracker holds the lock, or requests that the slice accepted before still wait for
it (R115). Those behind the holder of the lock, or behind the head of the queue, make it busy for neither. -/
def lineBusy (s : State) (e : Ev) : Bool :=
  lockedByOther s e || (!e.engine && !(evTrk s e).head && !(evTrk s e).lock && waitersBut s e.slice e.line e.trk)

/-- Bits [23:16] of the predicate vector (R129). DESIGN CHOICE (log 145): USEL 4 of a message without an agent of its own reads
the context its header names, agent 0; the SRC and RSP bits of a directive, a timeout or a refusal are the tracker's agent's. -/
def uselByte (s : State) (e : Ev) (d : Dir) (usel : Nat) : Nat :=
  let x := evTrk s e
  match usel with
  | 1 => x.scratch.toNat % 256
  | 2 => x.scratch.toNat / 256
  | 3 => if d.sf then 0 else d.aux % 256
  | 4 => aUser (agentAt s (mAgent e.msg.hdr)) % 256
  | 5 => match e.msg.data with | some (l :: _) => l.toNat % 256 | _ => 0
  | 6 => e.msg.status % 256
  | 7 =>
    let r := responderOf s e
    b2n (match r with | some a => decide (d.fmt = 3) && hasElem (holders d) a | none => false) +
    2 * b2n (match r with | some a => holdsAgent s d a | none => false) + 4 * b2n (decide (mSrc e.msg.hdr = 0)) +
    8 * b2n (decide (mSrc e.msg.hdr = 1)) + 16 * (x.pend % 16)
  | _ => 0

/-- The predicate vector (R128). -/
def predVector (s : State) (e : Ev) (d : Dir) (outside : Bool) (usel : Nat) : Nat :=
  let x := evTrk s e
  let r := requester s e
  2 ^ 16 * uselByte s e d usel + 2 ^ 15 * b2n (d.recov || outside) + 2 ^ 14 * b2n (decide (d.fmt = 2)) +
  2 ^ 13 * b2n (decide (d.fmt ≠ 2) && (holders d).all (fun a => decide (some a = r))) +
  2 ^ 12 * b2n (match r with | some a => decide (d.fmt = 3) && hasElem (holders d) a | none => false) +
  2 ^ 11 * b2n (match r with | some a => holdsAgent s d a | none => false) +
  2 ^ 10 * b2n x.buf.isSome + 2 ^ 9 * b2n e.msg.data.isSome + 2 ^ 8 * b2n (e.last && !e.isNew) + 2 ^ 7 * b2n e.home.isNone +
  2 ^ 6 * b2n e.msg.homeLost + 2 ^ 5 * b2n e.msg.timeout + 2 ^ 4 * b2n (mViral e.msg.hdr) +
  2 ^ 3 * b2n (mPoison e.msg.hdr || x.pois) + 2 ^ 2 * b2n (decide (e.msg.status ≠ 0)) + 2 * b2n (e.isNew && lineBusy s e) +
  b2n e.isNew

/-- The first matching rule of a group (R125): its image-relative index and word. -/
def matchGroup (b : Bank) (pv first cnt : Nat) : Option (Nat × BitVec 128) :=
  ((List.range (cnt + 1)).map (fun k => (first + k, bkRule b (first + k)))).find? (fun r =>
    bitOf r.2 127 && decide (Nat.land pv (fld r.2 126 103) = Nat.land (fld r.2 102 79) (fld r.2 126 103)))

/-- What the dispatch of an evaluation gives: the dispatch word used, the state, whether it lies outside the bank, and whether
it was redirected to FAULT_TYPE before the rules. -/
def dispatchWord (b : Bank) (d : Dir) (typ : Nat) : Word × Bool × Bool :=
  let out := decide (bkStates b ≤ d.state)
  let st := if out then bkRecov b else d.state
  let w := bkDisp b st typ
  if bitOf w 15 then (w, out, false) else (bkDisp b st (bkFault b), out, true)

/-- The rule an evaluation takes (R125): the dispatch word that named it, the rule, and whether it was a redirection. -/
def pickRule (s : State) (b : Bank) (e : Ev) (d : Dir) : Option (Word × Nat × BitVec 128 × Bool) :=
  let w := dispatchWord b d e.typ
  let pv := predVector s e d w.2.1 (fld w.1 12 10)
  match matchGroup b pv (fld w.1 31 19) (fld w.1 18 16) with
  | some r => some (w.1, r.1, r.2, w.2.2)
  | none =>
    let f := dispatchWord b d (bkFault b)
    let pv2 := predVector s e d f.2.1 (fld f.1 12 10)
    (matchGroup b pv2 (fld f.1 31 19) (fld f.1 18 16)).map (fun r => (f.1, r.1, r.2, true))

/-! ## Emissions (R133, R135 to R139) -/

/-- Targets of an emission's destination; none: a profile fault. The home target is `none` inside the list. -/
def destTargets (s : State) (e : Ev) (d : Dir) (scratch : Nat) (code : Nat) : Option (List (Option Nat)) :=
  let r := requester s e
  let coarse := ((s.pce.agents.filter (fun kv => aValid kv.2 && bitOf d.shr (aSgrp kv.2) && decide (some kv.1 ≠ r))).map (fun kv => some kv.1))
  match code with
  | 1 => r.map (fun a => [some a])
  | 2 => (responderOf s e).map (fun a => [some a])
  | 3 => some (if d.fmt = 2 then coarse else (((holders d).mergeSort (· ≤ ·)).filter (fun a => decide (some a ≠ r))).map some)
  | 4 => if d.fmt = 1 ∨ d.fmt = 3 then (holders d).head?.map (fun a => [some a]) else none
  | 5 => some [some (scratch % 4096)]
  | 6 => match e.home with
    | some (_, h) => if kaolinKind h then none else some [none]
    | none => none
  | 7 => some (if d.fmt = 2 then
      ((s.pce.agents.filter (fun kv => aValid kv.2 && bitOf d.shr (aSgrp kv.2))).map (fun kv => some kv.1))
      else ((holders d).mergeSort (· ≤ ·)).map some)
  | _ => some []

/-- Whether containment lets an emission go to a target (R99). -/
def emitAllowed (s : State) (e : Ev) (t : Option Nat) : Bool :=
  match e.home with
  | none => true
  | some (_, h) =>
    match t with
    | some a => contains h (plotOfAgent s a) && (decide (aKind (agentAt s a) ≠ 0) || decide (h.plot = 0))
    | none => decide (h.kind ≠ 2) || decide (h.plot = 0)

/-- An emission goes to the queue of the emission unit, at most 64; beyond, it waits for a place (R137). -/
def enqueueEmit (s : State) (i : Nat) (em : Emit) : State :=
  modSlice s i (fun x =>
    if x.emits.length < 64 ∧ x.emitWait = [] then { x with emits := x.emits ++ [em] } else { x with emitWait := x.emitWait ++ [em] })

/-- What waits for a place in the emission queue takes those that are free. -/
def refillEmits (s : State) (i : Nat) : State :=
  modSlice s i (fun x => { x with
    emits := x.emits ++ x.emitWait.take (64 - x.emits.length), emitWait := x.emitWait.drop (64 - x.emits.length) })

/-- A delivery is to be reported for a message of the tracker: of its completing word, or of a CONTINUE word (R114, R138). -/
def awaitDelivery (s : State) (i : Nat) (t : Option Nat) (chain : Bool) : State :=
  match t with
  | some k => modTrk s i k (fun x =>
      if chain then { x with deliverChain := x.deliverChain + 1 } else { x with deliver := x.deliver + 1 })
  | none => s

/-- An answer that the slice itself gives for a message (R117): a status in place of an answer of an agent. -/
def errorMsg (e : Ev) (t : Nat) (tgen st : Nat) (a : Option Nat) : SliceMsg :=
  { hdr := mkHdr (a.getD 0) 0 e.line 0 0 false false false 2 t true 0 tgen, data := none, status := st, homeLost := false, stamp := 0,
    responder := a, timeout := false, mem := false, src := sliceNode e.slice, tag := 0 }

/-- The payload an emission carries: DATA of the template (R139), its length in 8-byte units, and whether it is a fault. -/
def emitPayload (x : Trk) (m : SliceMsg) (tm : BitVec 128) : Option (List Line) × Nat × Bool :=
  match fld tm 119 118 with
  | 1 => match x.buf with | some l => (some [l], 8, false) | none => (some [0#512], 8, true)
  | 2 => (m.data, mPlen m.hdr, false)
  | _ => (none, 0, false)

/-- Send one emission to one target: contexts not valid, containment, virtual agents, fan-out limit (R99, R117, R136, R138). -/
def emitTo (e : Ev) (tm : BitVec 128) (track chain : Bool) (s : State) (t : Option Nat) : State :=
  let i := e.slice
  let x := evTrk s e
  let ans := bitOf tm 122
  let gone := match t with | some a => !aValid (agentAt s a) | none => false
  let virtual := match t with | some a => decide (2 ≤ aKind (agentAt s a)) | none => false
  if gone then
    match e.trk with
    | some k => modSlice (modTrk s i k (fun x => { x with pend := x.pend + 1 })) i (fun y => { y with
        intake := y.intake ++ [errorMsg e k x.gen 0x09 t] })
    | none => s
  else if !emitAllowed s e t then containRefuse s i e.trk e.home
  else if virtual then profFault s i e.prof 6
  else
    let pay := emitPayload x e.msg tm
    let s1 := if pay.2.2 then profFault s i e.prof 8 else s
    let em : Emit := {
      tmpl := tm, agent := t, trk := e.trk, tgen := x.gen, line := e.line,
      tag := if e.trk.isSome then x.tag else mTag e.msg.hdr, data := pay.1,
      pois := x.pois || pay.2.2 || (e.trk.isNone && (mPoison e.msg.hdr || mViral e.msg.hdr)), plen := pay.2.1
      track := track && e.trk.isSome, chain := chain }
    let s2 := if ans ∧ 4095 ≤ x.pend then modSlice s1 i (fun y => { y with fanout := y.fanout ++ [em] }) else enqueueEmit s1 i em
    let s3 := match e.trk with
      | some k => modTrk s2 i k (fun x => { x with pend := if ans ∧ x.pend < 4095 then x.pend + 1 else x.pend })
      | none => s2
    if track then awaitDelivery s3 i e.trk chain else s3

/-- One EMIT field of an action word (R130, R133). -/
def emitField (s : State) (e : Ev) (b : Bank) (d : Dir) (scratch : Nat) (f : Nat) (track chain : Bool) : State :=
  if f % 16 = 0 then s
  else match destTargets s e d scratch (f % 16) with
    | none => profFault s e.slice e.prof 6
    | some ts => ts.foldl (emitTo e (bkTmpl b (f / 16)) track chain) s

/-! ## Kaolin operations of a slice (R132) -/

/-- The tag of a message that awaits nothing: no request of a slice has it. -/
def noTag : Nat := 0x3FFF

/-- Record a request of the slice under a fresh tag. -/
def sliceTag (s : State) (i : Nat) (k : SKind) (t : Option Nat) (tgen : Nat) (a : Option Nat) (chain : Bool) : Nat × State :=
  let tag := (sliceAt s i).nextTag
  (tag, modSlice s i (fun x => { x with
    nextTag := (tag + 1) % (2 ^ 14 - 1)
    outs := x.outs ++ [{ tag := tag, kind := k, trk := t, tgen := tgen, agent := a, chain := chain, sent := now s }] }))

/-- A Kaolin request of a slice for a line, stamped from the home map entry (R98). -/
def kaoPacket (s : State) (i : Nat) (h : HomeEnt) (la op tag : Nat) (hdr : Nat) (data : List Line) (poison : Bool) : Packet :=
  { mkPacket (sliceNode i) (kaoNode s (64 * la)) .req op with
    plot := h.plot, key := stampSlot s h la, tag := tag, addr := 64 * la, hdr := BitVec.ofNat 384 hdr, data := data, poison := poison }

/-- Node that an agent's messages go to: its link's port front, or its NAU (R103). -/
def agentNode (s : State) (a : Nat) : Nat :=
  if aKind (agentAt s a) = 0 then portNode (aLink (agentAt s a) / 2) else aNau (agentAt s a)

/-- The header of an emission toward an agent (R139): TAG under TAGSRC 1; POISON on a payload (R118) and under POIS_EN. -/
def emitHdr (s : State) (em : Emit) : BitVec 128 :=
  let link := match em.agent with
    | some a => aLink (agentAt s a)
    | none => match homeFor s em.line with | some (_, h) => h.target | none => 0
  mkHdr (em.agent.getD 0) (fld em.tmpl 105 98) em.line (if fld em.tmpl 121 120 = 1 then em.tag else 0) link
    (em.pois && (em.data.isSome || bitOf em.tmpl 23)) (bitOf em.tmpl 13) em.data.isSome 2 (em.trk.getD 0)
    (bitOf em.tmpl 122) em.plen em.tgen

/-- Header payload of a MSG packet toward an agent: the decoded header, and above it the template the port front formats it by. -/
def emitPayloadHdr (s : State) (em : Emit) : Nat := (emitHdr s em).toNat + 2 ^ 128 * em.tmpl.toNat

/-- Header payload of a READ that the front answers to another node (R132): the line count, then bit 2 set, the node, and the
header payload of the message. -/
def fwdHdr (node payload : Nat) : Nat := 4 + node * 2 ^ 8 + payload * 2 ^ 18

/-- Writes of a slice (R132): WRITE_BUF and WRITE_MSG. -/
def memWrite (s : State) (e : Ev) (h : HomeEnt) (op : Nat) (track chain : Bool) : State :=
  let i := e.slice
  let x := evTrk s e
  let r := sliceTag s i .write (if track then e.trk else none) x.gen none chain
  let s1 := if track then awaitDelivery r.2 i e.trk chain else r.2
  if op = 3 then
    match x.buf with
    | some l => inject s1 (kaoPacket s1 i h e.line 0x01 r.1 0 [l] x.pois)
    | none => inject (profFault s1 i e.prof 9) (kaoPacket s1 i h e.line 0x01 r.1 0 [0#512] true)
  else
    match e.msg.data with
    | some (l :: _) =>
      let n := mPlen e.msg.hdr * 8
      if n ≥ 64 then inject s1 (kaoPacket s1 i h e.line 0x01 r.1 0 [l] (x.pois || mPoison e.msg.hdr))
      else inject s1 (kaoPacket s1 i h e.line 0x02 r.1 (2 ^ n - 1) [l] (x.pois || mPoison e.msg.hdr))
    | _ => profFault s i e.prof 9

/-- READ_FWD (R132, R99, R136): the front sends the line to EMIT0's destination in EMIT0's template. -/
def memForward (s : State) (e : Ev) (b : Bank) (h : HomeEnt) (d : Dir) (scratch emit0 : Nat) (chain : Bool) : State :=
  let i := e.slice
  let x := evTrk s e
  match destTargets s e d scratch (emit0 % 16) with
  | some [some a] =>
    if aValid (agentAt s a) = false ∨ 2 ≤ aKind (agentAt s a) then profFault s i e.prof 6
    else if !emitAllowed s e (some a) then containRefuse s i e.trk e.home
    else
      let tm := bkTmpl b (emit0 / 16)
      let r := sliceTag s i (.fwd (bitOf tm 122)) e.trk x.gen (some a) chain
      let em : Emit := {
        tmpl := tm, agent := some a, trk := e.trk, tgen := x.gen, line := e.line, tag := x.tag,
        data := some [0#512], pois := x.pois, plen := 8, track := true, chain := chain }
      let s1 := awaitDelivery r.2 i e.trk chain
      let s2 := match e.trk with
        | some k => if bitOf tm 122 then modTrk s1 i k (fun x => { x with pend := x.pend + 1 }) else s1
        | none => s1
      inject s2 (kaoPacket s2 i h e.line 0x00 r.1 (fwdHdr (agentNode s a) (emitPayloadHdr s em)) [] false)
  | _ => profFault s i e.prof 6

/-- BUF_MSG: the buffer takes the leading payload bytes, the rest zero (R132). -/
def bufOfMsg (m : SliceMsg) : Option Line :=
  match m.data with
  | some (l :: _) =>
    let n := min 64 (mPlen m.hdr * 8)
    some (BitVec.ofNat 512 (l.toNat % 2 ^ (8 * n)))
  | _ => none

/-- MEM_OP of an action word (R132). DESIGN CHOICE (log 147): BUF_MSG makes no Kaolin access, so it runs on a line of any kind; (log 199)
EMIT0 of a READ_FWD that is dropped, because the line is not of a Kaolin kind, is not sent. -/
def memOp (s : State) (e : Ev) (b : Bank) (d : Dir) (scratch op emit0 : Nat) (track chain : Bool) : State :=
  if op = 0 ∨ op = 5 ∨ 6 ≤ op then s
  else match e.home with
    | none => s
    | some (_, h) =>
      if !kaolinKind h then profFault s e.slice e.prof 7
      else match op with
        | 1 =>
          let r := sliceTag s e.slice .memRead e.trk (evTrk s e).gen none false
          let s1 := match e.trk with | some k => modTrk r.2 e.slice k (fun x => { x with pend := x.pend + 1 }) | none => r.2
          inject s1 (kaoPacket s1 e.slice h e.line 0x00 r.1 0 [] false)
        | 2 => memForward s e b h d scratch emit0 chain
        | _ => memWrite s e h op track chain

/-! ## Escalation (R134, R158, R159, R170) -/

/-- The descriptor of the grain an ESCALATE makes, as it stands after the word (R159). -/
def grainDesc (e : Ev) (x : Trk) (d : Dir) (t flow : Nat) (pay : Bool) : BitVec 256 :=
  BitVec.ofNat 256 (flow % 8192 * 2 ^ 243 + 2 ^ 233 + b2n pay * 2 ^ 232 + b2n (x.pois || (pay && x.buf.isNone)) * 2 ^ 231 + x.profile % 4 * 2 ^ 229 +
    e.slice % 16 * 2 ^ 225 + t % 1024 * 2 ^ 215 + x.gen % 16 * 2 ^ 211 + (x.agent.getD 0) % 4096 * 2 ^ 199 + e.typ % 256 * 2 ^ 191 +
    e.line % 2 ^ 46 * 2 ^ 145 + d.state % 64 * 2 ^ 139 + x.scratch.toNat * 2 ^ 123)

/-- A refusal of a grain, as the slice evaluates it: ESCTO_TYPE with TIMEOUT and ERR (R170). -/
def refusalMsg (e : Ev) (t tgen st : Nat) (a : Option Nat) : SliceMsg := { errorMsg e t tgen st a with timeout := true, counted := false }

/-- Create the grain of an ESCALATE on tracker t (R134, R170); it stays in the flows of the line's plot, and on a line of the shell
in those of the agent's plot (R99, R104). -/
def escalate (s : State) (e : Ev) (d : Dir) (t arg : Nat) : State :=
  let i := e.slice
  let x := trkAt s i t
  let flow := aFlowBase (agentAt s (x.agent.getD 0)) + arg % 256
  let pay := arg / 256 % 2 = 1
  let s1 := modTrk s i t (fun x => { x with state := .waitGrain, flow := flow })
  let own := plotOfAgent s (x.agent.getD 0)
  let pl := match e.home with | some (_, h) => if h.plot = 0 then own else h.plot | none => own
  let outside := decide (pl ≠ 0 ∧ plotOfFlow s flow ≠ pl)
  if outside then
    modSlice (modTrk (containRefuse s1 i (some t) e.home) i t (fun y => { y with state := .eval })) i (fun y => { y with
      intake := refusalMsg e t x.gen 0x08 x.agent :: y.intake })
  else
    let r := sliceTag s1 i .grain (some t) x.gen none false
    inject r.2 { mkPacket (sliceNode i) (quarterNode (flowHome flow)) .req 0x09 with
      plot := plotOfAgent s (x.agent.getD 0), tag := r.1, hdr := BitVec.ofNat 384 (grainDesc e x d t flow pay).toNat,
      data := if pay then [x.buf.getD 0#512] else [], poison := x.pois || (pay && x.buf.isNone) }

/-! ## The action word (R135) -/

/-- Every delivery that a completed tracker waits for has been reported (R114, R138). -/
def allDelivered (x : Trk) : Bool := decide (x.deliver = 0) && (!x.chainWait || decide (x.deliverChain = 0))

/-- A tracker completes: it waits for delivery, or is free at once when nothing is to be delivered (R114). -/
def completeTrk (s : State) (i t : Nat) : State :=
  if allDelivered (trkAt s i t) then releaseTrk s i t else modTrk s i t (fun x => { x with state := .waitDeliver })

/-- New SCRATCH of an action word (R130). DESIGN CHOICE (log 200): SCR_OP 2 on an event without a responder leaves it as it is. -/
def scrOp (x : Trk) (d : Dir) (r : BitVec 128) (rsp : Option Nat) : BitVec 16 :=
  if fld r 68 67 = 3 then BitVec.ofNat 16 d.aux
  else match fld r 23 22 with
    | 1 => BitVec.ofNat 16 (fld r 15 0)
    | 2 => match rsp with | some a => setFld x.scratch 11 0 a | none => x.scratch
    | 3 => x.scratch + 1#16
    | _ => x.scratch

/-- The directory entry after an action word (R130, R131). -/
def dirAfter (s : State) (e : Ev) (d : Dir) (x : Trk) (r : BitVec 128) : Dir :=
  let d1 := if bitOf r 72 then { d with state := fld r 78 73, recov := false, profile := e.prof } else d
  let d2 := shrOp s d1 (fld r 71 69) (requester s e) (responderOf s e)
  if d.sf then d2
  else match fld r 68 67 with
    | 1 => { d2 with aux := d2.aux / 65536 * 65536 + x.scratch.toNat }
    | 2 => { d2 with aux := 0 }
    | _ => d2

/-- The word changes the directory. -/
def writesDir (r : BitVec 128) (d : Dir) : Bool :=
  bitOf r 72 || decide (fld r 71 69 ≠ 0) || (!d.sf && (decide (fld r 68 67 = 1) || decide (fld r 68 67 = 2)))

/-- The word's fields on a new request that stays without a tracker (R138): those dropped, and whether it is a fault. DESIGN CHOICE
(log 148): EMIT0 of a READ_FWD that is dropped is sent by the slice, without data. -/
def stayFields (b : Bank) (r : BitVec 128) : BitVec 128 × Bool :=
  let memBad := decide (fld r 66 64 ≠ 0 ∧ fld r 66 64 ≠ 4)
  let ans := fun f => decide (f % 16 ≠ 0) && bitOf (bkTmpl b (f / 16)) 122
  let r1 := if memBad then setFld r 66 64 0 else r
  let r2 := if ans (fld r 63 52) then setFld r1 63 52 0 else r1
  let r3 := if ans (fld r 51 40) then setFld r2 51 40 0 else r2
  let r4 := if ans (fld r 39 28) then setFld r3 39 28 0 else r3
  (setFld r4 24 24 0, memBad || ans (fld r 63 52) || ans (fld r 51 40) || ans (fld r 39 28))

/-- Raise the profile's event of a word (R130): the slice records the profile and the message type. -/
def evtField (s : State) (e : Ev) (r : BitVec 128) : State :=
  if bitOf r 21 then raise (modSlice s e.slice (fun x => { x with profEvent := some (e.prof, e.typ) })) (sliceSrc e.slice) else s

/-- Steps 1 to 3 of R135 for a word on an evaluation whose tracker, if it needs one, is there. -/
def applyWord (s : State) (e : Ev) (b : Bank) (d : Dir) (r : BitVec 128) (usel : Nat) : State :=
  let i := e.slice
  let x := evTrk s e
  let op := fld r 27 25
  let scratch := x.scratch.toNat
  let d2 := dirAfter s e d x r
  let s1 := if writesDir r d ∧ e.home.isSome then dirStore s i e.line d2 else s
  let s2 := match e.trk with
    | some t => modTrk s1 i t (fun y => { y with
        scratch := scrOp x d r (responderOf s e)
        lock := bitOf r 24 || (decide (op = 4) && e.isNew && decide (x.words = 0))
        words := if op = 4 then y.words + 1 else 0
        head := false
        buf := if fld r 66 64 = 5 then (bufOfMsg e.msg).or y.buf else y.buf
        pois := y.pois || (decide (fld r 66 64 = 5) && mPoison e.msg.hdr) })
    | none => s1
  let chain := decide (op = 4)
  let track := decide (op = 2) || chain
  let s3 := memOp s2 e b d scratch (fld r 66 64) (fld r 63 52) track chain
  let s4 := if fld r 66 64 = 2 then s3 else emitField s3 e b d scratch (fld r 63 52) track chain
  let s5 := emitField (emitField s4 e b d scratch (fld r 51 40) track chain) e b d scratch (fld r 39 28) track chain
  let s6 := evtField s5 e r
  match e.trk with
  | none => s6
  | some t =>
    match op with
    | 0 =>
      if (trkAt s6 i t).state = .waitGrain then s6
      else if (trkAt s6 i t).pend = 0 then completeTrk (profFault s6 i e.prof 3) i t
      else modTrk s6 i t (fun y => { y with state := .waitRsp })
    | 1 => modTrk s6 i t (fun y => { y with state := .waitRsp })
    | 2 => completeTrk s6 i t
    | 3 => escalate s6 e (if writesDir r d then d2 else d) t (fld r 15 0)
    | 4 => modTrk s6 i t (fun y => { y with
        state := .eval, chain := some (fld r 12 0, fld r 15 13, usel), chainNew := e.isNew, chainTyp := e.typ, msg := some e.msg })
    | _ => s6

/-- A request needs a tracker and its agent may hold none (R103): CONTAINED, counted, no record. -/
def refuseQuota (s : State) (i : Nat) (m : SliceMsg) : State :=
  rejectTo (modSlice s i (fun x => { x with contained := ctrInc x.contained })) i m 0x08

/-- A request is parked in the intake (R116). -/
def park (s : State) (i : Nat) (m : SliceMsg) : State :=
  modSlice s i (fun x => { x with
    parked := x.parked ++ [m], parkFull := if 256 ≤ x.parked.length + 1 then ctrInc x.parkFull else x.parkFull })

/-- A request of the agent is parked in the slice. -/
def hasParked (s : State) (i a : Nat) : Bool := (sliceAt s i).parked.any (fun m => decide (mAgent m.hdr = a))

/-- A new request takes a tracker, which starts as given; without one it is refused (quota 0) or parked, behind the parked requests
of its agent (R103, R116). -/
def allocTrk (s : State) (e : Ev) (st : TrkState) (go : State → Nat → State) : State :=
  let i := e.slice
  let a := mAgent e.msg.hdr
  if aQuota (agentAt s a) = 0 then refuseQuota s i e.msg
  else if mayTake s i a && (e.served || !hasParked s i a) then
    let r := takeTrk s i (fun y => { y with
      state := st, agent := some a, line := e.line, tag := mTag e.msg.hdr, profile := e.prof, msg := some e.msg,
      pois := mPoison e.msg.hdr || mViral e.msg.hdr })
    go r.2 r.1
  else park s i e.msg

/-- Put a tracker at the tail of its line's queue. -/
def queueBehind (s : State) (i la t : Nat) : State :=
  match queueTail s i la t with
  | some q => modTrk s i q (fun y => { y with next := some t })
  | none => s

/-- A request waits in WAIT_LOCK at the tail of its line's queue (R115, R134). What it was evaluated by is forgotten: at the head, a new chain
may start. -/
def lockWait (s : State) (e : Ev) : State :=
  match e.trk with
  | some t =>
    queueBehind (modTrk s e.slice t (fun y => { y with
      state := .waitLock, head := false, next := none, msg := some e.msg, words := 0, chain := none })) e.slice e.line t
  | none => allocTrk s e .waitLock (fun s t =>
      modSlice (queueBehind s e.slice e.line t) e.slice (fun x => { x with lockWait := ctrInc x.lockWait }))

/-- A request waits for a way of its set (R105): in WAIT_LOCK, and at its place if it was the head of its line's queue; in the
intake if its agent may hold no tracker. -/
def roomWait (s : State) (e : Ev) : State :=
  match e.trk with
  | some t =>
    if (trkAt s e.slice t).head then modTrk s e.slice t (fun y => { y with state := .waitLock, head := false, msg := some e.msg })
    else lockWait s e
  | none =>
    if aQuota (agentAt s (mAgent e.msg.hdr)) = 0 then modSlice s e.slice (fun x => { x with intake := x.intake ++ [e.msg] })
    else lockWait s e

/-- No reserved tracker is free for the eviction that a request needs (R117): the request waits in the intake behind the engine's work, or on its
tracker where it stands. -/
def blockedWait (s : State) (e : Ev) : State :=
  match e.trk with
  | some _ => roomWait s e
  | none => modSlice s e.slice (fun x => { x with intake := e.msg :: x.intake })

/-- Take a tracker for a new request and go on with it; one that has its tracker goes on (R103, R116). -/
def withTrk (s : State) (e : Ev) (go : State → Ev → State) : State :=
  match e.trk with
  | some _ => go s e
  | none => allocTrk s e .eval (fun s t => go s { e with trk := some t })

/-- The 16th word of a CONTINUE chain (R138): nothing of it takes effect; POIS; the tracker completes. -/
def chainEnd (s : State) (e : Ev) (t : Nat) : State :=
  completeTrk (modTrk (profFault s e.slice e.prof 5) e.slice t (fun y => { y with pois := true, chainWait := true, words := 0 })) e.slice t

/-- The word as TRK_OP 5 leaves it for an answer, which never waits on a lock (R127): no field of it takes effect, and the tracker stays in
WAIT_RSP with the lock as it is. DESIGN CHOICE (log 185): the rules do not say what WAIT_LOCK does on an answer. -/
def idleWord (x : Trk) : BitVec 128 := if x.lock then setFld 0#128 24 24 1 else 0#128

/-- Execute a taken rule's action word on a line with a home (R130 to R138). -/
def doWord (s : State) (e : Ev) (b : Bank) (d : Dir) (r : BitVec 128) (usel : Nat) : State :=
  let op := fld r 27 25
  if 15 ≤ (evTrk s e).words ∧ e.trk.isSome then chainEnd s e (e.trk.getD 0)
  else if op = 5 then (if e.isNew then lockWait s e else applyWord s e b d (idleWord (evTrk s e)) usel)
  else if e.isNew ∧ (bitOf r 24 = true ∨ (op = 4 ∧ (evTrk s e).words = 0)) ∧ lineBusy s e then lockWait (profFault s e.slice e.prof 1) e
  else if e.isNew ∧ op = 0 ∧ e.engine = false ∧ (evTrk s e).words = 0 then
    let f := stayFields b r
    let s1 := match e.trk with | some t => releaseTrk s e.slice t | none => s
    applyWord (if f.2 then profFault s1 e.slice e.prof 4 else s1) { e with trk := none } b d f.1 usel
  else if e.isNew then withTrk s e (fun s e => applyWord s e b d r usel)
  else if bitOf r 24 ∧ lockedByOther s e then
    applyWord (profFault s e.slice e.prof 2) e b d (setFld (setFld (setFld (setFld r 24 24 0) 72 72 0) 71 69 0) 68 67 0) usel
  else applyWord s e b d r usel

/-- On NOHOME or HOMELOST only emissions to the requester and EVT apply (R137). -/
def restrictedWord (s : State) (e : Ev) (b : Bank) (d : Dir) (r : BitVec 128) : State :=
  let one := fun s f => if f % 16 = 1 then emitField s e b d 0 f false false else s
  let s1 := evtField (one (one (one s (fld r 63 52)) (fld r 51 40)) (fld r 39 28)) e r
  match e.trk with
  | some t => if e.isNew then releaseTrk s1 e.slice t else if (trkAt s1 e.slice t).pend = 0 then completeTrk s1 e.slice t else s1
  | none => s1

/-- Run the rule an evaluation takes: count its hit, count a redirection, execute it (R125, R138). -/
def runRule (s : State) (e : Ev) : State :=
  match activeBank s e.prof with
  | none => s
  | some b =>
    let d := if e.msg.homeLost then {} else dirView s e.slice e.line e.home
    match pickRule s b e d with
    | none => profFault s e.slice e.prof 0
    | some (w, n, r, redirected) =>
      let s1 := modProfile s e.prof (fun p => { p with hits := tmod {} p.hits (b.base + n) ctrInc })
      let s2 := if redirected then profFault s1 e.slice e.prof 0 else s1
      if e.home.isNone ∨ e.msg.homeLost then restrictedWord s2 e b d r else doWord s2 e b d r (fld w 12 10)

/-! ## New requests -/

/-- A request waits for its directory entry on a tracker in WAIT_MEM (R113). -/
def fetchEntry (s : State) (e : Ev) : State :=
  withTrk s e (fun s e => match e.trk with
    | some t => modTrk s e.slice t (fun y => { y with state := .waitMem, msg := some e.msg })
    | none => s)

/-- The entry of the line belongs to another profile (R111). -/
def entryMismatch (s : State) (i la prof : Nat) (h : Option (Nat × HomeEnt)) : Bool :=
  match dirCached s i la with
  | some d => h.isSome && !dirEmpty d && decide (d.profile ≠ prof)
  | none => false

/-- Count a profile mismatch and answer it; a record where another profile governs the line (R111, R147). -/
def mismatch (s : State) (i : Nat) (m : SliceMsg) (h : Option (Nat × HomeEnt)) : State :=
  violation (rejectTo (modSlice s i (fun x => { x with mismatch := ctrInc x.mismatch })) i m 0x0A) i 0x0A h

/-- Evaluate a new request whose line's entry is at hand, with the waits for a way and for the lock (R105, R115), and the check of
the entry's profile (R111). -/
def evalHere (s : State) (e : Ev) : State :=
  match makeRoom (healEntry s e.slice e.line e.home) e.slice e.line with
    | .wait s1 => roomWait s1 e
    | .blocked s1 => blockedWait s1 e
    | .ready s1 =>
      match activeBank s1 e.prof with
      | none => s1
      | some b =>
        let w := dispatchWord b (dirView s1 e.slice e.line e.home) e.typ
        if e.engine = false ∧ entryMismatch s1 e.slice e.line e.prof e.home = true then
          mismatch (match e.trk with | some t => releaseTrk s1 e.slice t | none => s1) e.slice e.msg e.home
        else if lineBusy s1 e ∧ bitOf w.1 14 then lockWait s1 e
        else runRule s1 e

/-- Evaluate a new request on a line, with the wait for its entry (R113). The entry of a request whose agent may hold no tracker is
fetched within its evaluation (R103). -/
def evalNew (s : State) (e : Ev) : State :=
  if e.home.isNone ∨ e.msg.homeLost then runRule s e
  else if mustFetch s e.slice e.line e.home then
    if e.trk = none ∧ aQuota (agentAt s (mAgent e.msg.hdr)) = 0 then
      match entryReady s e.slice e.line e.home with
      | .wait s1 => roomWait s1 e
      | .blocked s1 => blockedWait s1 e
      | .ready s1 => evalHere s1 e
    else fetchEntry s e
  else evalHere s e

/-- The agent's plot has its broken flag set: the message is answered LOCK_BROKEN, and the flag clears (R119). -/
def brokenPlot (s : State) (a : Nat) : Bool := (plotAt s (plotOfAgent s a)).broken

/-- The evaluation of a message with an address, no tracker yet. -/
def evOf (s : State) (i : Nat) (m : SliceMsg) : Ev :=
  { slice := i, trk := none, msg := m, typ := mType m.hdr, isNew := true, line := mLine m.hdr, home := homeFor s (mLine m.hdr),
    prof := aProfile (agentAt s (mAgent m.hdr)), last := false, engine := false }

/-- The message is a new request: it has an address, and the agent's profile does not call its type an answer (R127). -/
def newRequest (s : State) (h : BitVec 128) : Bool :=
  !mTrkV h && !((activeBank s (aProfile (agentAt s (mAgent h)))).any (fun b => bkAnswer b (mType h)))

/-- Count a containment refusal and answer it, with a record (R99). -/
def containedMsg (s : State) (i : Nat) (m : SliceMsg) (h : Option (Nat × HomeEnt)) : State :=
  violation (rejectTo (modSlice s i (fun x => { x with contained := ctrInc x.contained })) i m 0x08) i 0x08 h

/-- What becomes of a message with an address before any evaluation: the checks of R99, R111, R117, R119, R147, and sink mode
(R202). DESIGN CHOICE: only messages with an address count as the next message of a broken lock (log 197), and an address-carrying answer
of an agent of another profile than the home entry's is answered PROFILE_MISMATCH (log 203). -/
def admitFail (s : State) (i : Nat) (m : SliceMsg) : Option State :=
  let a := mAgent m.hdr
  let c := agentAt s a
  let e := evOf s i m
  if s.silt.sink && newRequest s m.hdr then some (rejectTo s i m 0x11)
  else if mSrc m.hdr = 1 ∧ m.stamp ≠ plotOfAgent s a then some (containedMsg s i m none)
  else if !aValid c && newRequest s m.hdr then some (rejectTo (modSlice s i (fun x => { x with stray := ctrInc x.stray })) i m 0x09)
  else if brokenPlot s a then some (rejectTo (modPlot s (plotOfAgent s a) (fun p => { p with broken := false })) i m 0x0B)
  else if (activeBank s (aProfile c)).isNone then some (mismatch s i m none)
  else match e.home with
    | none => none
    | some (n, h) =>
      if !contains h (plotOfAgent s a) then some (containedMsg s i m (some (n, h)))
      else if h.profile ≠ aProfile c ∨ (m.homeLost = false ∧ entryMismatch s i e.line (aProfile c) e.home = true) then some (mismatch s i m (some (n, h)))
      else none

/-! ## Answers (R113, R117, R127) -/

/-- Take fan-out targets held back, as PEND allows (R136). -/
def releaseFanout (s : State) (i t : Nat) : State :=
  match (sliceAt s i).fanout.find? (fun em => decide (em.trk = some t)) with
  | some em =>
    if (trkAt s i t).pend < 4095 then
      modTrk (enqueueEmit (modSlice s i (fun x => { x with fanout := dropFirst x.fanout em })) i em) i t
        (fun y => { y with pend := y.pend + 1 })
    else s
  | none => s

/-- Evaluate an answer on a tracker (R113): counted answers bring PEND down; an uncounted one is a directive, a timeout or a
refusal. DESIGN CHOICE (log 144): LAST of an uncounted answer, and in later words of a CONTINUE chain, is PEND = 0. -/
def evalAnswer (s : State) (i t : Nat) (m : SliceMsg) (typ : Nat) : State :=
  let x := trkAt s i t
  let s1 := modTrk s i t (fun y => { y with
    pend := if m.counted then y.pend - 1 else y.pend
    pois := y.pois || mPoison m.hdr || mViral m.hdr })
  let s2 := releaseFanout s1 i t
  runRule s2 {
    slice := i, trk := some t, msg := m, typ := typ, isNew := false, line := x.line, home := homeFor s x.line,
    prof := x.profile, last := decide ((trkAt s2 i t).pend = 0), engine := x.agent.isNone }

/-- The type an answer is evaluated as: MEMDATA_TYPE, FAULT_TYPE, ESCTO_TYPE or its own (R117, R121, R132). -/
def answerType (s : State) (i t : Nat) (m : SliceMsg) : Nat :=
  match activeBank s (trkAt s i t).profile with
  | none => 0
  | some b => if m.timeout then bkEscto b else if m.mem then bkMemdata b else if m.status ≠ 0 then bkFault b else mType m.hdr

/-- Put a message at the end of a slice's intake. -/
def toIntake (s : State) (i : Nat) (m : SliceMsg) : State := modSlice s i (fun x => { x with intake := x.intake ++ [m] })

/-- An answer for tracker t (R113, R117): stray where the tracker is free, of another generation or expects none; else evaluated, once
the line's entry is at hand. -/
def answerOn (s : State) (i t : Nat) (m : SliceMsg) : State :=
  let x := trkAt s i t
  if x.state = .free ∨ x.gen ≠ mTgen m.hdr ∨ (m.counted = true ∧ x.pend = 0) then strayAt s i
  else match entryReady s i x.line (homeFor s x.line) with
    | .wait s1 => toIntake s1 i m
    | .blocked s1 => toIntake s1 i m
    | .ready s1 => evalAnswer s1 i t m (answerType s1 i t m)

/-- A tag-routed answer of an agent that may not act on the tracker's line: a foreign stamp (R102), or containment (R99). The
tracker is left alone. -/
def foreignAnswer (s : State) (i : Nat) (m : SliceMsg) : Option State :=
  let x := trkAt s i (mTrk m.hdr)
  let a := mAgent m.hdr
  if m.counted = false ∨ m.mem ∨ m.status ≠ 0 ∨ mSrc m.hdr = 2 ∨ x.state = .free ∨ x.gen ≠ mTgen m.hdr then none
  else if mSrc m.hdr = 1 ∧ m.stamp ≠ plotOfAgent s a then some (containedMsg s i m none)
  else match homeFor s x.line with
    | some (n, h) => if contains h (plotOfAgent s a) then none else some (containedMsg s i m (some (n, h)))
    | none => none

/-- A message of a slice's intake is handled (R125 and what precedes it). `served`: it comes from a parking entry. -/
def handleMsg (s : State) (i : Nat) (m : SliceMsg) (served : Bool) : State :=
  if 65536 ≤ m.tag then
    let t := m.tag - 65536
    let x := trkAt s i t
    runRule s {
      slice := i, trk := some t, msg := m, typ := mType m.hdr, isNew := true, line := x.line, home := homeFor s x.line,
      prof := x.profile, last := false, engine := true }
  else if mTrkV m.hdr then
    match foreignAnswer s i m with
    | some s1 => s1
    | none => answerOn s i (mTrk m.hdr) m
  else
    match admitFail s i m with
    | some s1 => s1
    | none =>
      if newRequest s m.hdr then evalNew s { evOf s i m with served := served }
      else match lockHolder s i (mLine m.hdr) with
        | none => strayAt s i
        | some t =>
          answerOn s i t { m with hdr := setFld m.hdr 19 16 (trkAt s i t).gen, responder := m.responder.or (some (mAgent m.hdr)) }

/-! ## Reports and answers from Silt -/

/-- A delivery report reaches a tracker (R114, R132): its status sets POIS; the last one releases the tracker. `chain`: it is for a
message of a CONTINUE word (R138). -/
def deliveryReport (s : State) (i t st : Nat) (chain : Bool) : State :=
  let x := trkAt s i t
  if (if chain then x.deliverChain else x.deliver) = 0 then s
  else
    let s1 := modTrk s i t (fun y => { y with
      deliver := if chain then y.deliver else y.deliver - 1
      deliverChain := if chain then y.deliverChain - 1 else y.deliverChain
      pois := y.pois || decide (4 ≤ st ∧ st ≤ 6) })
    if x.state = .waitDeliver ∧ allDelivered (trkAt s1 i t) = true then releaseTrk s1 i t else s1

/-- An escalation ends: its timeout, a refusal or an accepted directive is a message of the intake, and no other ends it again. -/
def endGrainWait (s : State) (i t : Nat) (m : SliceMsg) : State := toIntake (modTrk s i t (fun y => { y with state := .eval })) i m

/-- The answer of a Kaolin front to a slice's read carries the line: OK, or the zeros of a line that is poisoned, uncorrectable or fails its tag;
any other status is an error response (R132). -/
def carriesLine (st : Nat) : Bool := decide (st = 0 ∨ (4 ≤ st ∧ st ≤ 6))

/-- An answer packet reaches the slice that waits under its tag (R117, R132, R189). The error of a READ_FWD stands for the answer that its
message expects, if it expects one; a tracker that waited for delivery waits no more. -/
def sliceTakes (s : State) (i : Nat) (p : Packet) : State :=
  match (sliceAt s i).outs.find? (fun q => decide (q.tag = p.tag)) with
  | none => if p.tag = noTag then s else modSilt s (fun x => { x with lateStray := ctrInc x.lateStray })
  | some q =>
    let keep := match q.kind with
      | .msg true true => decide (p.op = 0x12)
      | .fwd true => decide (p.op = 0x12)
      | _ => false
    let s1 := modSlice s i (fun x => { x with
      outs := if keep then x.outs.map (fun o => if o.tag = q.tag then { o with kind := .msg true false } else o)
              else x.outs.filter (fun o => decide (o.tag ≠ q.tag)) })
    match q.trk with
    | none => s1
    | some t =>
      if (trkAt s i t).gen ≠ q.tgen then strayAt s1 i
      else
        let err : SliceMsg := {
          hdr := mkHdr (q.agent.getD 0) 0 (trkAt s i t).line 0 0 false false false 2 t true 0 q.tgen, data := none,
          status := p.status, homeLost := false, stamp := 0, responder := q.agent, timeout := false, mem := false, src := p.src, tag := 0 }
        match q.kind with
        | .memRead =>
          match p.data with
          | l :: _ =>
            if carriesLine p.status then
              let bad := p.poison || decide (p.status ≠ 0)
              toIntake (modTrk s1 i t (fun y => { y with buf := some l, pois := y.pois || bad })) i
                { err with hdr := setFld err.hdr 41 41 (b2n bad), status := 0, mem := true, data := some [l] }
            else toIntake s1 i { err with mem := true }
          | [] => toIntake s1 i { err with mem := true }
        | .fwd ans =>
          if p.op = 0x12 then deliveryReport s1 i t p.status q.chain
          else
            toIntake (modTrk s1 i t (fun y => { y with
              state := if y.state = .waitDeliver then .waitRsp else y.state
              deliver := if q.chain then y.deliver else y.deliver - 1
              deliverChain := if q.chain then y.deliverChain - 1 else y.deliverChain })) i
              { err with mem := true, counted := ans }
        | .write => deliveryReport s1 i t 0 q.chain
        | .msg answer track =>
          let s2 := if track then deliveryReport s1 i t 0 q.chain else s1
          if p.op ≠ 0x12 ∧ answer ∧ p.status ≠ 0 then toIntake s2 i err else s2
        | .grain =>
          if p.status = 0 then s1
          else if (trkAt s i t).state = .waitGrain then
            endGrainWait s1 i t { err with timeout := true, counted := false, responder := (trkAt s i t).agent }
          else strayAt s1 i

/-- An answer of an agent ends the slice's wait for it under its Silt tag. -/
def answered (s : State) (i t g a : Nat) : State :=
  modSlice s i (fun x => match x.outs.find? (fun q => decide (q.kind = .msg true false ∧ q.trk = some t ∧ q.tgen = g ∧ q.agent = some a)) with
    | some q => { x with outs := dropFirst x.outs q }
    | none => x)

/-- A MSG packet reaches a slice (R100, R117). -/
def sliceMsg (s : State) (i : Nat) (p : Packet) : State :=
  let h : BitVec 128 := BitVec.ofNat 128 p.hdr.toNat
  toIntake (if mTrkV h then answered s i (mTrk h) (mTgen h) (mAgent h) else s) i
    { hdr := h, data := if p.data = [] then none else some p.data, status := p.status, homeLost := !mTrkV h && (homeLost s (mLine h) || decide (homeSlice s (mLine h) ≠ i)),
      stamp := p.plot, responder := some (mAgent h), timeout := false, mem := false, src := p.src, tag := p.tag % 65536 }

/-- The bound on an answer a slice waits for expires, 1 ms after the request was sent (R189); a tracked packet is then in flight no more (R199). -/
def sliceTimeout (s : State) (i tag : Nat) : State :=
  match (sliceAt s i).outs.find? (fun q => decide (q.tag = tag ∧ q.sent + 1000000 ≤ now s)) with
  | none => s
  | some _ => sliceTakes (noteDelivered s (sliceNode i) tag) i { mkPacket (sliceNode i) (sliceNode i) .rsp 0x10 with status := 0x14, tag := tag }

/-- A completion directive reaches a slice (R120): accepted or stray, and reported. -/
def sliceDirective (s : State) (i : Nat) (p : Packet) : State :=
  let d : BitVec 128 := BitVec.ofNat 128 p.hdr.toNat
  let t := fld d 119 110
  let x := trkAt s i t
  let plotOk := decide (p.plot = plotOfAgent s (x.agent.getD 0)) || (match homeFor s x.line with | some (_, h) => decide (h.plot = p.plot) | none => false)
  let ok := decide (x.state = .waitGrain ∧ x.gen = fld d 109 106) && plotOk
  let rep : Packet := { mkPacket p.dst p.src .rsp 0x0C with
    tag := p.tag, hdr := BitVec.ofNat 384 (fld d 81 68 + fld d 67 64 * 2 ^ 14 + b2n ok * 2 ^ 18) }
  if ok then
    let s1 := modTrk s i t (fun y => { y with
      state := .eval
      scratch := BitVec.ofNat 16 (fld d 97 82)
      buf := if bitOf d 125 then (p.data.head?).or y.buf else y.buf
      pois := y.pois || bitOf d 124 })
    let m : SliceMsg := {
      hdr := mkHdr (x.agent.getD 0) (fld d 105 98) x.line 0 0 false false (bitOf d 125) 1 t true 8 x.gen,
      data := if bitOf d 125 then some p.data else none, status := 0, homeLost := false, stamp := p.plot, responder := x.agent,
      timeout := false, mem := false, src := p.src, tag := 0, counted := false }
    inject (toIntake s1 i m) rep
  else inject (strayAt s i) rep

/-- The emission unit sends one message (R137, R139). -/
def sendEmit (s : State) (i : Nat) (em : Emit) : State :=
  let ans := bitOf em.tmpl 122
  let node := match em.agent with
    | some a => agentNode s a
    | none => match homeFor s em.line with | some (_, h) => if h.kind = 2 then portNode (h.target / 2) else h.target | none => 0
  let r := if ans ∨ em.track then sliceTag s i (.msg ans em.track) em.trk em.tgen em.agent em.chain else (noTag, s)
  inject r.2 { mkPacket (sliceNode i) node (if ans then .snp else if em.data.isSome then .dat else .rsp) 0x08 with
    tag := r.1, track := em.track, addr := 64 * em.line, poison := em.pois && em.data.isSome, hdr := BitVec.ofNat 384 (emitPayloadHdr s em),
    plot := (match em.agent with | some a => plotOfAgent s a | none => 0), data := em.data.getD [] }

/-- No tracker of agents with a predicate exists and none of their requests is parked (R122). -/
def agentsDrained (s : State) (f : Nat → Bool) : Bool :=
  s.pce.slices.all (fun kv =>
    kv.2.trks.all (fun t => decide (t.2.state = .free) || !(match t.2.agent with | some a => f a | none => false)) &&
    kv.2.parked.all (fun m => !f (mAgent m.hdr)))

/-- A held request goes to the slice that is the line's home now (R95, R96). -/
def redirect (s : State) (p : Packet) : Packet := { p with dst := sliceNode (targetSlice s (nodeDie p.src) (mLine (BitVec.ofNat 128 p.hdr.toNat))) }

/-- Requests held for agents no longer under quiesce are released in order (R122). -/
def releaseAgents (s : State) : State :=
  let out := s.pce.held.filter (fun p => !agentHeld s (mAgent (BitVec.ofNat 128 p.hdr.toNat)))
  injectAll (modPce s (fun x => { x with held := x.held.filter (fun p => agentHeld s (mAgent (BitVec.ofNat 128 p.hdr.toNat))) }))
    (out.map (redirect s))

/-- A line sent on by a front has been delivered, or its delivery has failed (R132, R187): the front reports it to the slice, with the line's
status where the delivery itself was good. -/
def fwdDelivered (s : State) (pos lx : Nat) (p : Packet) : Option State :=
  (frontAt s pos lx).fwds.find? (fun x => decide (x.tag = p.tag ∧ x.addr = p.addr)) |>.map (fun x =>
    inject (modFront s pos lx (fun f => { f with fwds := dropFirst f.fwds x }))
      { mkPacket p.dst x.node .rsp 0x12 with
        status := if p.status = 0 then x.status else p.status, tag := x.tag, addr := x.addr, hdr := BitVec.ofNat 384 (x.tag % 2 ^ 14) })


end Machine
end Sys2Proof
end

