-- ==== Sys2Proof/Machine/Kaolin.lean ====
section
/-! DEFINITION. A Kaolin front as an attachment: acceptance of requests (R231, R232), line locks (R194, R195), the choice of
DRAM commands (R234), refresh and row disturbance (R237, R238), and the answers (R463). -/

namespace Sys2Proof
namespace Machine

/-! ## Answers (R463) -/

/-- The packet's status bytes, one for each line, from bit 32 on. -/
def statusBytes (sts : List Nat) : Nat := (sts.zipIdx).foldl (fun n x => n + x.1 * 2 ^ (32 + 8 * x.2)) 0

/-- STATUS of an answer: that of the lowest-addressed line that is not OK (R463). -/
def firstBad (sts : List Nat) : Nat := (sts.find? (fun x => decide (x ≠ 0))).getD 0

/-- Whether an operation is a read of lines. -/
def isReadOp (op : Nat) : Bool := decide (op = 0x00) || decide (op = 0x03)

/-- The answer of a front to a packet, from the results of its lines in ascending order: a read's carries zeros for each line that is not
OK, and POISON. -/
def frontAnswer (p : Packet) (rs : List (Nat × Line)) : Packet :=
  let sts := rs.map (·.1)
  if isReadOp p.op then
    dataOf p (firstBad sts) (decide (∃ x ∈ sts, x ≠ 0)) (BitVec.ofNat 384 (statusBytes sts)) (rs.map (·.2))
  else { completionOf p (firstBad sts) with hdr := BitVec.ofNat 384 (if 1 < sts.length then statusBytes sts else 0) }

/-- A READ_FWD (R132): the message to EMIT0's destination, whose delivery the front reports to the slice when Silt has reported it (R187). -/
def forwardLine (s : State) (p : Packet) (st : Nat) (l : Line) : State :=
  let h := p.hdr.toNat
  let pay := h / 2 ^ 18 % 2 ^ 256
  let bad := decide (st ≠ 0)
  let hd := setFld (BitVec.ofNat 128 pay) 41 41 (if bad then 1 else fld (BitVec.ofNat 128 pay) 41 41)
  let m : Packet := { mkPacket p.dst (h / 2 ^ 8 % 1024) .dat 0x08 with
    tag := p.tag, addr := p.addr, plot := p.plot, poison := bitOf hd 41, track := true
    hdr := BitVec.ofNat 384 (hd.toNat + 2 ^ 128 * (pay / 2 ^ 128)), data := [l] }
  inject (modFront s (addrStack p.addr) (frontOf s p.addr) (fun f => { f with
    fwds := f.fwds ++ [{ tag := p.tag, addr := p.addr, node := p.src, status := st, sent := now s }] })) m

/-- A front answers a packet whose lines have all been served; UNLOCK_WRITE then gives up its lock (R194). -/
def answerPacket (s : State) (p : Packet) (rs : List (Nat × Line)) : State :=
  if p.op = 0x00 ∧ bitOf p.hdr 2 = true ∧ firstBad (rs.map (·.1)) ≠ 0x03 then
    forwardLine s p (firstBad (rs.map (·.1))) ((rs.head?.map (·.2)).getD 0#512)
  else inject s (frontAnswer p rs)

/-- The lines a packet asks of a front. -/
def packetLines (s : State) (p : Packet) : List Nat :=
  partLines s p.addr (if p.op = 0x00 then p.hdr.toNat % 4 + 1 else if p.op = 0x01 then p.data.length else 1)

/-- A lock of a line, or none (R194). -/
def lockOf (s : State) (a : Nat) : Option LineLock := s.silt.locks.find? (fun l => decide (l.line = a / 64))

/-- Release the lock of a line. -/
def dropLock (s : State) (a : Nat) : State := modSilt s (fun n => { n with locks := n.locks.filter (fun l => decide (l.line ≠ a / 64)) })

/-- One line of a packet has its result; the packet is answered when its last line has. -/
def lineDone (s : State) (p : Packet) (a st : Nat) (l : Line) : State :=
  let ls := packetLines s p
  let pos := addrStack p.addr
  let lx := frontOf s p.addr
  let old := ((frontAt s pos lx).parts.find? (fun x => decide (x.1 = p))).map (·.2) |>.getD []
  let got := tset none old (addrLine a) (some (st, l))
  let rest := (frontAt s pos lx).parts.filter (fun x => decide (x.1 ≠ p))
  if ls.all (fun x => (tget none got (addrLine x)).isSome) then
    let s1 := modFront s pos lx (fun f => { f with parts := rest })
    let s2 := if p.op = 0x04 ∧ st ≠ 0x03 then dropLock s1 p.addr else s1
    answerPacket s2 p (ls.map (fun x => (tget none got (addrLine x)).getD (0, 0#512)))
  else modFront s pos lx (fun f => { f with parts := rest ++ [(p, got)] })

/-! ## Acceptance (R231, R232) -/

/-- Source-order mode of the front that serves an address. -/
def sourceOrder (s : State) (a : Nat) : Bool := bitOf (frontFor s a).ctrl 31

/-- A write that stores a line in full, by what stands in its granule (R247, R250): not an NAU's in a DIR granule. -/
def fullWrite (s : State) (p : Packet) (a : Nat) : Bool :=
  let all := decide (p.op = 0x01) || (decide (p.op = 0x04) && decide (p.hdr.toNat % 2 ^ 64 = 2 ^ 64 - 1))
  all && (!(granAt s a).dir || (match attOf p.src with | .slice _ => true | _ => false))

/-- The sideband a full-line write stores: a slice's current inline entry in a DIR granule, zero elsewhere (R247). -/
def writeInline (s : State) (p : Packet) (a : Nat) : Option Nat :=
  if (granAt s a).dir then
    match attOf p.src with
    | .slice i => (dirCached s i (a / 64)).map (fun d => (inlineOfDir d).toNat)
    | _ => none
  else some 0

/-- A write that the front makes as a read-modify-write (R236, R247, R257): of a sealed line, or of one that it does not store in full. -/
def lineRmw (s : State) (p : Packet) (a : Nat) : Bool :=
  !isReadOp p.op && (sealedAt s a || !fullWrite s p a || (writeInline s p a).isNone)

/-- Read entries of a queue in use: reads, and the read halves of read-modify-writes (R236, R257). -/
def readsQueued (l : List KReq) : Nat := (l.filter (fun q => !q.wr || q.rmw)).length

/-- Write entries of a queue in use. -/
def writesQueued (l : List KReq) : Nat := (l.filter (·.wr)).length

/-- The queues of every channel that the packet's lines go to have the entries they take (R228). A line that is refused takes none. -/
def queuesTake (s : State) (p : Packet) : Bool :=
  let ls := (packetLines s p).filter (fun a => decide ((accessStatus s p.src p.plot p.key a).1 = 0))
  ls.all (fun a =>
    let same := ls.filter (fun b => decide (chanOf s b = chanOf s a))
    let q := (chanAt s (addrStack a) (chanOf s a)).queue
    decide (readsQueued q + (same.filter (fun b => isReadOp p.op || lineRmw s p b)).length ≤ 64) &&
    decide (writesQueued q + (if isReadOp p.op then 0 else same.length) ≤ 64))

/-- The line as it stands refuses no partial write (R250), and no write that waits for it makes it poison. -/
def lineTakes (s : State) (a : Nat) : Bool :=
  let f := findLine s a false
  decide (f.kind = .valid) && (!sealedAt s a || tagOk s a f.st) &&
  !(chanAt s (addrStack a) (chanOf s a)).queue.any (fun q => q.wr && q.pkt.poison && decide (q.line = addrLine a))

/-- A write is completed at its acceptance (R151, R232): in address-compare mode. A partial write of a line that refuses it is
answered with the refusal's status when its read has found the line (R184, R250; log 152). -/
def earlyWrite (s : State) (p : Packet) (a : Nat) : Bool :=
  !isReadOp p.op && !sourceOrder s a && (p.poison || fullWrite s p a || lineTakes s a)

/-- One line of a packet is accepted, denied (R231), or answered for a retired channel (R225). -/
def acceptLine (p : Packet) (s : State) (a : Nat) : State :=
  let x := accessStatus s p.src p.plot p.key a
  if x.1 ≠ 0 then lineDone x.2 p a x.1 0#512
  else
    let e := earlyWrite s p a
    let f := frontFor s a
    let q : KReq := {
      pkt := p, line := addrLine a, wr := !isReadOp p.op, at_ := now s, issued := false, hazed := false, early := e
      rmw := lineRmw s p a, ctrl := f.ctrl, sched := f.sched }
    let s1 := modChan s (addrStack a) (chanOf s a) (fun c => { c with queue := c.queue ++ [q] })
    if e then lineDone s1 p a 0 0#512 else s1

/-- Another NAU holds the lock of one of the lines (R194). -/
def lockedOut (s : State) (p : Packet) : Bool :=
  (packetLines s p).any (fun a => match lockOf s a with | some l => decide (l.node ≠ p.src) | none => false)

/-- Locks held at a front. -/
def frontLocks (s : State) (node : Nat) : Nat := (s.silt.locks.filter (fun l => decide (kaoNode s (64 * l.line) = node))).length

/-- A LOCK_READ finds the front's 64 locks taken (R194). -/
def lockTableFull (s : State) (p : Packet) : Bool := decide (p.op = 0x03) && (lockOf s p.addr).isNone && decide (64 ≤ frontLocks s p.dst)

/-- A request waits behind one that already waits at the front for the same line, unless its source holds the line's lock (R194). -/
def waitsBehind (s : State) (p : Packet) : Bool :=
  s.silt.lockWait.any (fun q => decide (q.dst = p.dst) && !lockTableFull s q &&
    (packetLines s q).any (fun a => hasElem (packetLines s p) a && !((lockOf s a).any (fun l => decide (l.node = p.src)))))

/-- The front serves the form of the packet: the operation, its data, and lines of its own (R183, R462). -/
def servedForm (s : State) (p : Packet) : Bool :=
  inKaolin p.addr && decide (kaoNode s p.addr = p.dst) &&
  (match p.op with
   | 0x00 => decide (p.data = []) && decide (p.hdr.toNat % 4 + p.addr / 64 % 4 ≤ 3)
   | 0x01 => decide (1 ≤ p.data.length) && decide (p.data.length + p.addr / 64 % 4 ≤ 4)
   | 0x02 => decide (p.data.length = 1)
   | 0x03 => decide (p.data = [])
   | 0x04 => decide (p.data.length = 1)
   | 0x05 => decide (p.data = [])
   | _ => false)

/-- The request stands at the front outside the queues: its line is locked, it waits behind another, or no lock is free (R194, R236). -/
def waitsOnLock (s : State) (p : Packet) : Bool := lockedOut s p || waitsBehind s p || lockTableFull s p

/-- The queues have an entry for every line of the packet; a full queue holds the request at its source (R186, R228). A request that
waits on a lock, and an UNLOCK, take none (R236). -/
def frontRoom (s : State) (p : Packet) : Bool :=
  !servedForm s p || waitsOnLock s p || decide (p.op = 0x05) || queuesTake s p

/-- A request reaches a front that is ready to take it; one that has waited there for a lock goes on waiting while the queues are full. -/
def frontTakes (s : State) (p : Packet) : State :=
  if !servedForm s p then inject s (completionOf p 0x12)
  else if waitsOnLock s p || !frontRoom s p then modSilt s (fun n => { n with lockWait := n.lockWait ++ [p] })
  else if !admitted s p.src p.plot p.key p.addr && decide (p.op = 0x05) then acceptLine p s p.addr
  else if p.op = 0x03 then
    if (lockOf s p.addr).isSome then inject s (completionOf p 0x12)
    else if (accessStatus s p.src p.plot p.key p.addr).1 ≠ 0 then acceptLine p s p.addr
    else
      let l : LineLock := { line := p.addr / 64, node := p.src, until_ := now s + 1000 * (plotAt s p.plot).lease }
      acceptLine p (modSilt s (fun n => { n with locks := n.locks ++ [l] })) p.addr
  else if p.op = 0x04 ∧ (lockOf s p.addr).isNone then
    if (accessStatus s p.src p.plot p.key p.addr).1 ≠ 0 then acceptLine p s p.addr else inject s (completionOf p 0x0B)
  else if p.op = 0x05 then inject (dropLock s p.addr) (completionOf p 0)
  else (packetLines s p).foldl (acceptLine p) s

/-- The requests that waited at a front are taken again, in arrival order (R194, R195). -/
def serveWaiting (s : State) : State :=
  s.silt.lockWait.foldl frontTakes (modSilt s (fun n => { n with lockWait := [] }))

/-- A request at a front whose queues have room (R232); it serves what a released lock lets pass. -/
def frontRequest (s : State) (p : Packet) : State := if p.op = 0x04 ∨ p.op = 0x05 then serveWaiting (frontTakes s p) else frontTakes s p

/-- A quiesce holds new requests for a line: of its stack, its front or its channel, a register write of HAZ that waits for its front to
drain among them (R17, R224, R233, R241). -/
def lineHeld (s : State) (a : Nat) : Bool :=
  let p := addrStack a
  quiescing s (.stack p) || quiescing s (.front p (frontOf s a)) || quiescing s (.chan p (chanOf s a)) || (frontFor s a).hazDue.isSome

/-- The packet waits before the front for a quiesce to end; a lock's holder still reaches its own line (R241). -/
def heldByQuiesce (s : State) (p : Packet) : Bool :=
  servedForm s p && (packetLines s p).any (lineHeld s) &&
  !(packetLines s p).all (fun a => match lockOf s a with | some l => decide (l.node = p.src) | none => false)

/-- Channels' queues are empty and no lock is held, of the channels and lines chosen (R233, R241). -/
def queuesDrained (s : State) (p : Nat) (cs : List Nat) (mine : Nat → Bool) : Bool :=
  cs.all (fun c => decide ((chanAt s p c).queue = [])) && !s.silt.locks.any (fun l => decide (addrStack (64 * l.line) = p) && mine (64 * l.line))

/-- The channels that serve a front's lines: its own two, and the spare where it stands in for one of them (R228). -/
def frontChans (s : State) (p lx : Nat) : List Nat := [2 * lx, 2 * lx + 1] ++ (if (stackAt s p).spareFor / 2 = lx then [16] else [])

/-- A front has drained (R233). -/
def frontDrained (s : State) (p lx : Nat) : Bool := queuesDrained s p (frontChans s p lx) (fun a => decide (frontOf s a = lx))

/-- A front that has drained takes the mode of HAZ it was given (R233). -/
def hazSettle (s : State) (p lx : Nat) : State :=
  match (frontAt s p lx).hazDue with
  | some h => if frontDrained s p lx then modFront s p lx (fun f => { f with ctrl := setFld f.ctrl 31 31 (b2n h), hazDue := none }) else s
  | none => s

/-- Locks that end without notice (R195): of NAUs with a property. -/
def endLocks (s : State) (f : Nat → Bool) : State :=
  serveWaiting (modSilt s (fun n => { n with locks := n.locks.filter (fun l => !f l.node) }))

/-! ## The choice of a command (R234) -/

/-- Address of a queued request's line. -/
def reqAddr (p : Nat) (q : KReq) : Nat := lineAddr p q.line

/-- Bank and row of a queued request. -/
def reqPlace (s : State) (p : Nat) (q : KReq) : Place := placeOf s (reqAddr p q)

/-- The entries of a queue, each with those that arrived before it. -/
def withEarlier (l : List KReq) : List (KReq × List KReq) := (l.zipIdx).map (fun x => (x.1, l.take x.2))

/-- An order of R232 holds a request back from issue: in source-order mode an earlier request of its source, in address-compare mode an
earlier one to its line, either of them a write. -/
def heldByOrder (so : Bool) (q : KReq) (earlier : List KReq) : Bool :=
  earlier.any (fun e => !e.issued &&
    if so then decide (e.pkt.src = q.pkt.src) else decide (e.line = q.line) && (e.wr || q.wr))

/-- In address-compare mode a write that holds back a read counts as past its age cap. -/
def holdsRead (so : Bool) (l : List KReq) (q : KReq) : Bool :=
  !so && q.wr && (withEarlier l).any (fun x => decide (x.1.line = q.line) && !x.1.wr && x.2.any (fun e => decide (e = q)))

/-- AGE_CAP in nanoseconds (R245). -/
def ageCap (sched : Word) : Nat := 4 * max 1 (fld sched 31 24)
/-- RT_AGE_CAP in nanoseconds (R245). -/
def rtAgeCap (sched : Word) : Nat := 16 * max 1 (fld sched 23 16)
/-- WR_HI. -/
def wrHi (sched : Word) : Nat := max 2 (min 64 (fld sched 15 8))
/-- WR_LO. -/
def wrLo (sched : Word) : Nat := if fld sched 7 0 < wrHi sched then fld sched 7 0 else wrHi sched - 1

/-- A request is past its age cap, by the KAO_SCHED it was accepted under (R233). -/
def pastCap (s : State) (l : List KReq) (so : Bool) (q : KReq) : Bool :=
  let wait := now s - q.at_
  let rt := l.any (fun e => e.pkt.panic && !e.issued)
  holdsRead so l q || decide ((if rt ∧ q.pkt.panic = false then rtAgeCap q.sched else ageCap q.sched) < wait)

/-- The request's row is open in its bank. -/
def rowHit (s : State) (p : Nat) (c : Chan) (q : KReq) : Bool :=
  decide (tget none c.openRow (reqPlace s p q).bank = some (reqPlace s p q).row)

/-- Row hits first, then the oldest. -/
def hitsFirst (s : State) (p : Nat) (c : Chan) (l : List KReq) : Option KReq :=
  match l.find? (rowHit s p c) with
  | some q => some q
  | none => l.head?

/-- The request that the channel chooses, and whether it won by PANIC over an older one without (R234, R235). -/
def chooseReq (s : State) (p : Nat) (so : Bool) (c : Chan) (drain : Bool) : Option (KReq × Bool) :=
  let cand := ((withEarlier c.queue).filter (fun x => !x.1.issued && !heldByOrder so x.1 x.2)).map (·.1)
  match cand.find? (pastCap s c.queue so) with
  | some q => some (q, false)
  | none =>
    let pan := cand.filter (·.pkt.panic)
    match hitsFirst s p c pan with
    | some q => some (q, (cand.takeWhile (fun e => decide (e ≠ q))).any (fun e => !e.pkt.panic))
    | none =>
      let wr := hitsFirst s p c (cand.filter (·.wr))
      let pick := if drain then wr
        else match hitsFirst s p c (cand.filter (fun q => !q.wr)) with
          | some q => some q
          | none => wr
      pick.map (fun q => (q, false))

/-! ## Performing a request -/

/-- Data of a request's line within its packet. -/
def reqData (s : State) (p : Nat) (q : KReq) : Line :=
  q.pkt.data.getD ((packetLines s q.pkt).findIdx (fun a => decide (a = reqAddr p q))) 0#512

/-- A write reaches the DRAM: status and state (R236, R250). -/
def performWrite (s : State) (p : Nat) (q : KReq) : Nat × State :=
  let a := reqAddr p q
  let k : WriteKind :=
    if fullWrite s q.pkt a then .full (writeInline s q.pkt a)
    else .part (if q.pkt.op = 0x01 then BitVec.allOnes 64 else BitVec.ofNat 64 q.pkt.hdr.toNat) (granAt s a).dir
  writeLine s a k (reqData s p q) q.pkt.poison true

/-- Take a request out of its channel's queue. -/
def dropReqK (s : State) (p c : Nat) (q : KReq) : State := modChan s p c (fun x => { x with queue := dropFirst x.queue q })

/-- The read or write command of a request whose row is open. A read takes its line as it stands at that moment and keeps its entry until
the line arrives (R232); a read-modify-write issues a read and a write (R236). -/
def issueColumn (s : State) (p c : Nat) (q : KReq) : State :=
  let b := (reqPlace s p q).bank
  let a := reqAddr p q
  if q.wr then
    let s1 := modChan (dropReqK s p c q) p c (fun x => afterColumn { x with
      cntWr := ctrInc x.cntWr
      cntRd := if q.rmw then ctrInc x.cntRd else x.cntRd } q.ctrl b (now s))
    let r := performWrite s1 p q
    serveWaiting (if q.early then r.2 else lineDone r.2 q.pkt a r.1 0#512)
  else
    let r := readLine s a
    modChan r.2.2 p c (fun x => afterColumn { x with
      cntRd := ctrInc x.cntRd
      queue := x.queue.map (fun e => if e = q then { e with issued := true, got := some (r.1, r.2.1) } else e) } q.ctrl b (now s))

/-- The next command of the chosen request: precharge, activate, read or write. -/
def issueFor (s : State) (p c : Nat) (q : KReq) : State :=
  let pl := reqPlace s p q
  match tget none (chanAt s p c).openRow pl.bank with
  | none =>
    let r := freeValue s
    modChan r.2 p c (fun x => activateRow x pl.bank pl.row r.1.toNat)
  | some row =>
    if row = pl.row then issueColumn s p c q
    else modChan s p c (fun x => { x with openRow := tset none x.openRow pl.bank none })

/-- A bank is idle: no open row and no request for it. -/
def bankIdle (s : State) (p : Nat) (c : Chan) (b : Nat) : Bool :=
  decide (tget none c.openRow b = none) && !c.queue.any (fun q => decide ((reqPlace s p q).bank = b))

/-- Write drain turns on at WR_HI and off at WR_LO (R234), as the request accepted last sets them (R233). -/
def drainState (f : Front) (c : Chan) : Bool :=
  let w := match c.queue.getLast? with | some q => q.sched | none => f.sched
  let n := writesQueued c.queue
  if wrHi w ≤ n then true else if n ≤ wrLo w then false else c.drain

/-- Count the requests an order of R232 holds back, each once. -/
def countHeld (so : Bool) (c : Chan) : Chan :=
  let q := (withEarlier c.queue).map (fun x => if !x.1.issued && !x.1.hazed && heldByOrder so x.1 x.2 then { x.1 with hazed := true } else x.1)
  { c with queue := q, cntHaz := ctrAdd c.cntHaz ((q.filter (·.hazed)).length - (c.queue.filter (·.hazed)).length) }

/-- The front whose lines a channel holds: the spare's is that of the channel it stands in for. -/
def chanFront (s : State) (p c : Nat) : Nat := if c = 16 then (stackAt s p).spareFor / 2 else c / 2

/-- One choice of a channel (R234). -/
def schedule (s0 : State) (p c : Nat) : State :=
  let lx := chanFront s0 p c
  let s := hazSettle s0 p lx
  let f := frontAt s p lx
  let s1 := modChan s p c (fun x => { countHeld (bitOf f.ctrl 31) x with drain := drainState f x })
  let ch := chanAt s1 p c
  match (List.range 32).find? (fun b => decide (8 ≤ tget 0 ch.postponed b)) with
  | some b =>
    if tget none ch.openRow b = none then modChan s1 p c (fun x => { x with postponed := tset 0 x.postponed b 7 })
    else modChan s1 p c (fun x => { x with openRow := tset none x.openRow b none })
  | none =>
    match chooseReq s1 p (bitOf f.ctrl 31) ch ch.drain with
    | some (q, won) => issueFor (if won then modChan s1 p c (fun x => { x with cntPanic := ctrInc x.cntPanic }) else s1) p c q
    | none =>
      match (List.range 32).find? (fun b => bankIdle s1 p ch b && decide (0 < tget 0 ch.postponed b)) with
      | some b => modChan s1 p c (fun x => { x with postponed := tmod 0 x.postponed b (· - 1) })
      | none => s1

/-- KAO_SCHEDULE (R234). -/
def execKaoSchedule (stack : Fin 4) (ch : Fin 17) (s : State) : Host.Outcome State Fault Refusal :=
  if stackUp s stack.val then .next (schedule s stack.val ch.val) else .next s

/-- LINE_READ_COMPLETE (R249, R250): the oldest read issued on the channel arrives and is answered. -/
def execLineReadComplete (stack : Fin 4) (ch : Fin 17) (s : State) : Host.Outcome State Fault Refusal :=
  let p := stack.val
  match (chanAt s p ch.val).queue.find? (fun q => q.issued && !q.wr) with
  | none => .next s
  | some q =>
    let r := q.got.getD (0x05, 0#512)
    .next (hazSettle (serveWaiting (lineDone (dropReqK s p ch.val q) q.pkt (reqAddr p q) r.1 r.2)) p (chanFront s p ch.val))

/-- REFRESH_DUE (R237): a refresh of an idle bank is issued, of a busy bank postponed, at most 8 times. -/
def execRefreshDue (stack : Fin 4) (ch : Fin 17) (bank : Fin 32) (s : State) : Host.Outcome State Fault Refusal :=
  let p := stack.val
  let c := chanAt s p ch.val
  if !stackUp s p || bankIdle s p c bank.val then .next s
  else if tget 0 c.postponed bank.val < 8 then
    .next (modChan s p ch.val (fun x => { x with postponed := tmod 0 x.postponed bank.val (· + 1) }))
  else .next (modChan s p ch.val (fun x => { x with openRow := tset none x.openRow bank.val none }))

/-- ACTIVATION_TABLE_CLEAR (R238). -/
def execActivationTableClear (stack : Fin 4) (ch : Fin 17) (s : State) : Host.Outcome State Fault Refusal :=
  .next (modChan s stack.val ch.val (fun x => { x with act := [] }))

/-- tCK at an operating point, in twelfths of a nanosecond (R239). -/
def clock12 (op : Nat) : Nat := match op with | 0 => 15 | 1 => 20 | _ => 30

/-- OPEN_PAGE_TIMEOUT (R234): under the open-page policy a row with no hit for OPEN_TO clocks is closed. -/
def execOpenPageTimeout (stack : Fin 4) (ch : Fin 17) (bank : Fin 32) (s : State) : Host.Outcome State Fault Refusal :=
  let p := stack.val
  let h := tget (0, 0) (chanAt s p ch.val).hits bank.val
  if h.2 ≠ 0 ∧ h.2 * clock12 (stackAt s p).op ≤ 12 * (now s - h.1) then
    .next (modChan s p ch.val (fun x => { x with openRow := tset none x.openRow bank.val none }))
  else .next s

/-- A stack-temperature event (R237): TEMP_HIGH of every channel, the stack's source, Ohmyx not acting. -/
def execStackTempHigh (stack : Fin 4) (s : State) : Host.Outcome State Fault Refusal :=
  let p := stack.val
  if stackUp s p then
    let s1 := (List.range 17).foldl (fun s c => modChan s p c (fun x => { x with err := x.err ||| 1#8 })) s
    .next (raise (modStack s1 p (fun k => { k with above95 := true, hot := true })) (160 * p + 122))
  else .next s

/-- KAOLIN_STACK_HOT (R237): the stack passes 85 °C; below it is neither hot nor above 95 °C. -/
def execKaolinStackHot (stack : Fin 4) (hot : Bool) (s : State) : Host.Outcome State Fault Refusal :=
  if stackUp s stack.val then .next (modStack s stack.val (fun k => { k with hot := hot, above95 := k.above95 && hot })) else .next s

/-- LEASE_EXPIRY (R195): the lease of a lock has passed; the front releases it, serves the waiting requests and notifies the
holder's NAU. -/
def execLeaseExpiry (line : Nat) (s : State) : Host.Outcome State Fault Refusal :=
  match s.silt.locks.find? (fun l => decide (l.line = line)) with
  | none => .next s
  | some l =>
    if now s < l.until_ then .next s
    else
      let s1 := serveWaiting (dropLock s (64 * line))
      .next (modSilt s1 (fun n => { n with lockNotices := n.lockNotices ++ [l.node] }))

/-- LOCK_BROKEN_NOTICE (R195): the notice reaches the holder's NAU, which sets BROKEN. -/
def execLockBrokenNotice (node : Fin 1024) (s : State) : Host.Outcome State Fault Refusal :=
  if hasElem s.silt.lockNotices node.val then
    .next (modNau (modSilt s (fun n => { n with lockNotices := dropFirst n.lockNotices node.val })) node.val (fun u => { u with broken := true }))
  else .next s

/-! ## Registers of a front (R245, R262) -/

/-- KAO_CH_ERR_READ (R245). -/
def execKaoChErrRead (stack : Fin 4) (ch : Fin 17) (s : State) : Host.Outcome State Fault Refusal :=
  .next (modChan s stack.val ch.val (fun x => { x with err := 0#8 }))

/-- The channel counters at zero. -/
def chanCntClear (c : Chan) : Chan := { c with cntRd := {}, cntWr := {}, cntAct := {}, cntNref := {}, cntPanic := {}, cntHaz := {} }

/-- KAO_CNT_CLR (R245): bit 0 clears. -/
def execKaoCntClr (stack : Fin 4) (ch : Fin 17) (v : Word) (s : State) : Host.Outcome State Fault Refusal :=
  if bitOf v 0 then .next (modChan s stack.val ch.val chanCntClear) else .next s

/-- The protection counters at zero. -/
def protClear (f : Front) : Front := { f with cntCorr := {}, cntUncorr := {}, cntTagf := {}, cntPois := {}, cntRoll := {}, cntCmiss := {} }

/-- KAO_PROT_CLR (R262): bit 0 clears. -/
def execKaoProtClr (stack : Fin 4) (front : Fin 8) (v : Word) (s : State) : Host.Outcome State Fault Refusal :=
  if bitOf v 0 then .next (modFront s stack.val front.val protClear) else .next s

/-- A write of KAO_INJ_CTRL: one that sets ARM clears the status (R262). -/
def injCtrlSet (f : Front) (v : Word) : Front :=
  let w := keepField f.injCtrl v 30 29 (fun m => decide (m ≤ 2))
  if bitOf v 31 then { f with injCtrl := w, injStatus := 0#32, injRead := false } else { f with injCtrl := w }

/-- A write of KAO_INJ_SYMn: a reserved position is not taken (R9, R262). -/
def injSymSet (f : Front) (n : Nat) (v : Word) : Front :=
  { f with injSym := tset 0#32 f.injSym n (keepField (tget 0#32 f.injSym n) v 22 16 (fun m => decide (m ≤ 81))) }

/-- KAO_INJ_CTRL_WRITE (R262). -/
def execKaoInjCtrlWrite (stack : Fin 4) (front : Fin 8) (v : Word) (s : State) : Host.Outcome State Fault Refusal :=
  .next (modFront s stack.val front.val (fun f => injCtrlSet f v))

/-- KAO_INJ_STATUS_READ (R262). -/
def execKaoInjStatusRead (stack : Fin 4) (front : Fin 8) (s : State) : Host.Outcome State Fault Refusal :=
  .next (modFront s stack.val front.val (fun f => { f with injStatus := 0#32 }))

/-- KAO_ID of a front. -/
def kaoIdWord (p lx : Nat) : Nat := frontNode p lx * 2 ^ 16 + p * 2 ^ 14 + lx * 2 ^ 11

/-- Channels RETIRED or REPLACED, one bit each (KAO_STACK). -/
def retiredMask (s : State) (p : Nat) : Nat :=
  (List.range 16).foldl (fun m c =>
    m + 2 ^ c * b2n (decide ((chanAt s p c).state = .retired) || decide ((chanAt s p c).state = .replaced))) 0

/-- KAO_STACK. -/
def kaoStackWord (s : State) (p : Nat) : Nat :=
  let k := stackAt s p
  k.order % 4 * 2 ^ 30 + k.orderNext % 4 * 2 ^ 28 + k.op % 4 * 2 ^ 26 + b2n (decide ((chanAt s p 16).state = .standIn)) * 2 ^ 25 +
    k.spareFor % 32 * 2 ^ 20 + retiredMask s p * 16

/-- Codes of the channel states (R244). -/
def chCode : ChState → Nat
  | .inService => 0
  | .standby => 1
  | .standIn => 2
  | .offline => 3
  | .replaced => 4
  | .retired => 5
  | .absent => 6

/-- Free spare rows of a bank (R243). -/
def spareRowsFree (c : Chan) (b : Nat) : Nat := ((List.range 16).filter (fun i => (tget none c.remap (16 * b + i)).isNone)).length

/-- KAO_CH_STATUS. -/
def kaoChStatusWord (s : State) (p c : Nat) : Nat :=
  let x := chanAt s p c
  chCode (if stackUp s p then x.state else .absent) * 2 ^ 29 +
    ((List.range 32).foldl (fun m b => max m (tget 0 x.postponed b)) 0) % 16 * 2 ^ 25 +
    b2n (stackAt s p).hot * 2 ^ 24 + x.calFails % 4 * 2 ^ 22 + ((List.range 32).foldl (fun m b => min m (spareRowsFree x b)) 16) * 2 ^ 16

/-- KAO_PATROL_n: progress of the current lap in 1/256, and the last lap in seconds. -/
def patrolWord (c : Chan) : Nat := min 255 (c.patrolAt / 32768) * 2 ^ 24 + min 0xFFFFFF c.lastLap

/-- The channel a block of a front's registers belongs to, and the offset within it. -/
def kaoBlock (lx off : Nat) : Option (Nat × Nat) :=
  if off / 256 = 1 then some (2 * lx, off % 256)
  else if off / 256 = 2 then some (2 * lx + 1, off % 256)
  else if off / 256 = 3 ∧ lx = 0 then some (16, off % 256)
  else none

/-- A read of a front's register (R245, R262); reads that clear take effect in `kaoRegTouch`. -/
def kaoReg (s : State) (p lx off : Nat) : Nat :=
  let f := frontAt s p lx
  match kaoBlock lx off with
  | some (c, o) =>
    let x := chanAt s p c
    match o with
    | 0x00 => kaoChStatusWord s p c
    | 0x04 => x.rhCtrl.toNat
    | 0x08 => x.rowSpare.toNat
    | 0x0C => x.err.toNat
    | 0x10 => x.err.toNat
    | 0x20 => ctrWord x.cntRd
    | 0x24 => ctrWord x.cntWr
    | 0x28 => ctrWord x.cntAct
    | 0x2C => ctrWord x.cntNref
    | 0x30 => ctrWord x.cntPanic
    | 0x34 => ctrWord x.cntHaz
    | _ => 0
  | none =>
    match off with
    | 0x000 => kaoIdWord p lx
    | 0x004 => f.ctrl.toNat
    | 0x008 => f.sched.toNat
    | 0x00C => kaoStackWord s p
    | 0x400 => f.injCtrl.toNat
    | 0x404 => f.injLine.toNat
    | 0x408 => (tget 0#32 f.injSym 0).toNat
    | 0x40C => (tget 0#32 f.injSym 1).toNat
    | 0x410 => (tget 0#32 f.injSym 2).toNat
    | 0x414 => f.injStatus.toNat
    | 0x418 => f.injStatus.toNat
    | 0x420 => patrolWord (chanAt s p (2 * lx))
    | 0x424 => patrolWord (chanAt s p (2 * lx + 1))
    | 0x430 => ctrWord f.cntCorr
    | 0x434 => ctrWord f.cntUncorr
    | 0x438 => ctrWord f.cntTagf
    | 0x43C => ctrWord f.cntPois
    | 0x440 => ctrWord f.cntRoll
    | 0x444 => ctrWord f.cntCmiss
    | _ => 0

/-- The registers a read of which clears them (RC). -/
def kaoRegTouch (s : State) (p lx off : Nat) : State :=
  match kaoBlock lx off with
  | some (c, 0x0C) => modChan s p c (fun x => { x with err := 0#8 })
  | some _ => s
  | none => if off = 0x414 then modFront s p lx (fun f => { f with injStatus := 0#32 }) else s

/-- A write of KAO_CTRL: HAZ changes once the front has drained (R233); the rest holds for requests accepted from now on. -/
def kaoCtrlSet (s : State) (p lx : Nat) (v : Word) : State :=
  hazSettle (modFront s p lx (fun f => { f with
    ctrl := setFld v 31 31 (fld f.ctrl 31 31), hazDue := if bitOf v 31 = bitOf f.ctrl 31 then none else some (bitOf v 31) })) p lx

/-- A write of a front's register. -/
def kaoRegWrite (s : State) (p lx off : Nat) (v : Word) : State :=
  match kaoBlock lx off with
  | some (c, 0x04) => modChan s p c (fun x => { x with rhCtrl := v })
  | some (c, 0x08) => modChan s p c (fun x => { x with rowSpare := keepField x.rowSpare v 6 0 (fun n => decide (1 ≤ n ∧ n ≤ 64)) })
  | some (c, 0x3C) => if bitOf v 0 then modChan s p c chanCntClear else s
  | some _ => s
  | none =>
    match off with
    | 0x004 => kaoCtrlSet s p lx v
    | 0x008 => modFront s p lx (fun f => { f with sched := v })
    | 0x400 => modFront s p lx (fun f => injCtrlSet f v)
    | 0x404 => modFront s p lx (fun f => { f with injLine := v })
    | 0x408 => modFront s p lx (fun f => injSymSet f 0 v)
    | 0x40C => modFront s p lx (fun f => injSymSet f 1 v)
    | 0x410 => modFront s p lx (fun f => injSymSet f 2 v)
    | 0x44C => if bitOf v 0 then modFront s p lx protClear else s
    | _ => s

end Machine
end Sys2Proof
end

