-- ==== Sys2Proof/Machine/Operands.lean ====
section
/-! DEFINITION. The operand forms of a command's payload: little-endian fields of one, two, four and eight bytes, and byte
strings (R5, R351). -/

namespace Sys2Proof
namespace Machine

/-- One byte. -/
def u8 (p : Bytes) (off : Nat) : Nat := byteAt p off
/-- Two bytes. -/
def u16 (p : Bytes) (off : Nat) : Nat := leN p off 2
/-- Four bytes. -/
def u32 (p : Bytes) (off : Nat) : Nat := leN p off 4
/-- Eight bytes. -/
def u64 (p : Bytes) (off : Nat) : Nat := leN p off 8
/-- Bytes of a payload. -/
def subBytes (p : Bytes) (off n : Nat) : Bytes := (p.drop off).take n

end Machine
end Sys2Proof
end

