-- ==== Sys2Proof/Machine/Mbx.lean ====
section
/-! DEFINITION. How a mailbox command is carried: who sends it (R46), the checks of R352, its answer and its slot (R338 to
R342), jobs (R347), DMA. -/

namespace Sys2Proof
namespace Machine

/-! ## Status codes (R342) -/

/-- ST_OK. -/
def stOk : Nat := 0
/-- ST_JOB. -/
def stJob : Nat := 1
/-- ST_BUSY. -/
def stBusy : Nat := 2
/-- ST_ABSENT. -/
def stAbsent : Nat := 3
/-- ST_DENIED. -/
def stDenied : Nat := 4
/-- ST_BAD_ARG. -/
def stBadArg : Nat := 5
/-- ST_SIDE_EFFECT. -/
def stSideEffect : Nat := 6
/-- ST_QUIESCE_TIMEOUT. -/
def stQuiesceTimeout : Nat := 7
/-- ST_AUTH. -/
def stAuth : Nat := 8
/-- ST_FAULT. -/
def stFault : Nat := 9

/-! ## Who asks, and the answer -/

/-- The requester of a command: its horizon, its plot, the mailbox; whether its plot is owner-held (R46); a debug session. -/
structure Who where
  hz : Horizon
  plot : Nat := 0
  mbx : Nat := 0
  ownerHeld : Bool := false
  slot : Nat := 0
  consume : Bool := false
  dma : Bool := true
  deriving DecidableEq, Repr

/-- An answer: STATUS, DETAIL, JOB and payload (R341). -/
structure Ans where
  status : Nat
  detail : Nat := 0
  job : Nat := 0
  payload : Bytes := []
  deriving DecidableEq, Repr

/-- ST_OK with a payload. -/
def ansOk (p : Bytes) : Ans := { status := stOk, payload := p }
/-- A refusal. -/
def ansBad (st detail : Nat) : Ans := { status := st, detail := detail }
/-- ST_BAD_ARG naming the field at a byte offset (R354). -/
def badArg (off : Nat) : Ans := ansBad stBadArg (off / 8)

/-- The requester that a mailbox speaks for (R46). -/
def whoOf (s : State) (m slot : Nat) : Who :=
  if 1 ≤ m ∧ m ≤ 16 then
    match plotOfVf s m with
    | none => { hz := .none, mbx := m, slot := slot }
    | some p => { hz := .b, plot := p, mbx := m, ownerHeld := !tenantHeld s p, slot := slot }
  else { hz := .a, mbx := m, slot := slot, dma := decide (m ≠ 17 ∧ m ≠ 18) }

/-- Group of an opcode. -/
def groupOf (op : Nat) : Nat := op / 256

/-- A request of a debug session: opcodes 0x0901 to 0x0908 (R375). -/
def sessionOp (op : Nat) : Bool := decide (0x0901 ≤ op ∧ op ≤ 0x0908)

/-- The mailbox's horizon allows the opcode's group (R46). -/
def groupOk (w : Who) (op : Nat) : Bool :=
  if w.mbx = 17 ∨ w.mbx = 18 then decide (groupOf op = 0x00) || decide (groupOf op = 0x08) || decide (groupOf op = 0x0A)
  else if sessionOp op then true
  else match w.hz with
    | .none => decide (groupOf op = 0x00) || decide (op = 0x0303)
    | .b => !w.ownerHeld || decide (groupOf op = 0x00) || decide (op = 0x0303) || decide (op = 0x0300)
    | _ => true

/-- A command: its opcode, the horizons that may issue it, the lengths its layout allows, and what it does (steps 3 to 6 of
R352 and its effect). -/
structure CmdSpec where
  op : Nat
  a : Bool := true
  b : Bool := false
  o : Bool := false
  unb : Bool := false
  len : Bytes → Bool
  body : Who → Bytes → State → Ans × State

/-- The horizons column of a command (R352 step 1). -/
def horizonOk (c : CmdSpec) (w : Who) : Bool :=
  sessionOp c.op || (match w.hz with | .a => c.a | .b => c.b | .o => c.o | .none => c.unb)

/-- A command checked and run for a requester (R352). -/
def runBody (c : CmdSpec) (w : Who) (p : Bytes) (s : State) : Ans × State :=
  if !groupOk w c.op || !horizonOk c w then (ansBad stDenied 0, s)
  else if !c.len p then (ansBad stBadArg 0xFF, s)
  else c.body w p s

/-! ## Slots (R338 to R342) -/

/-- The request at the head of the resident monitor's queue, which stands as slot 8 of mailbox 18 (R406). -/
def monitorSlot : Nat := 8

/-- Bytes of a slot's request area, or of the monitor's request. -/
def slotReq (s : State) (m i off n : Nat) : Bytes :=
  if i = monitorSlot then
    match (mbxAt s 18).monitor.head? with
    | some (h, p) => ((leBytes 16 h.toNat ++ p ++ zeros (off + n)).drop off).take n
    | none => zeros n
  else (List.range n).map (fun k => tget 0#8 (slotAt s m i).req (off + k))

/-- OPCODE of a slot's request header (R340). -/
def hdrOp (s : State) (m i : Nat) : Nat := leN (slotReq s m i 0 2) 0 2
/-- LEN. -/
def hdrLen (s : State) (m i : Nat) : Nat := leN (slotReq s m i 2 2) 0 2
/-- TOKEN. -/
def hdrToken (s : State) (m i : Nat) : Nat := leN (slotReq s m i 4 4) 0 4
/-- CONSUME. -/
def hdrConsume (s : State) (m i : Nat) : Bool := decide (leN (slotReq s m i 8 1) 0 1 % 2 = 1)
/-- The payload of a slot's request. -/
def hdrPayload (s : State) (m i : Nat) : Bytes := slotReq s m i 16 (hdrLen s m i)

/-- A response header (R341). -/
def rspHeader (op token : Nat) (a : Ans) (retry : Nat) : BitVec 128 :=
  BitVec.ofNat 128 (retry % 65536 * 2 ^ 112 + a.job % 65536 * 2 ^ 96 + a.detail % 256 * 2 ^ 88 + a.status % 256 * 2 ^ 64 +
    token % 2 ^ 32 * 2 ^ 32 + a.payload.length % 65536 * 2 ^ 16 + op % 65536)

/-- Advance the free values drawn. -/
def drawFree (s : State) : State := modMgmt s (fun g => { g with free := g.free + 1 })

/-- A command's response goes to its slot, which becomes DONE; vector 0 fires (R338, R343). A response that FLR has marked is
discarded, and its slot is left IDLE (R344). -/
def reply (s : State) (m i op : Nat) (a : Ans) : State :=
  let retry := if a.status = stBusy then retryHint s else 0
  let s0 := if a.status = stBusy then drawFree s else s
  let s1 := modMbx s0 m (fun b => { b with cntDone := ctrInc b.cntDone })
  if i = monitorSlot then
    modMbx s1 18 (fun b => { b with
      monitor := b.monitor.drop 1, sent := b.sent ++ [(rspHeader op (hdrToken s m i) a retry, a.payload)] })
  else if (slotAt s m i).discard then modSlot s1 m i (fun _ => {})
  else
    let s2 := modSlot s1 m i (fun x => { x with
      state := .done, rspHdr := rspHeader op (hdrToken s m i) a retry, rsp := a.payload })
    if (mbxAt s m).doneEn ∧ m ≤ 16 then msix s2 (jobFn m) 0 else s2

/-- Ohmyx or the boot ROM runs commands now: started, not restarting, its cores not halted (R326, R329, R422). -/
def serving (s : State) : Bool :=
  (decide (s.sys.phase = .ready) || decide (s.sys.phase = .romMode)) && !s.mgmt.restarting && s.mgmt.halted.isNone

/-- What the state of the device refuses before a command is looked at: ROM mode (R326), the fatal state (R398). -/
def gateAns (s : State) (m op : Nat) : Option Ans :=
  if s.sys.phase = .romMode then
    if (m = 0 ∨ m = 18) ∧ (op = 0x0000 ∨ op = 0x0109 ∨ op = 0x0B00) then none else some (ansBad stAbsent 3)
  else if s.sys.fatal ∧ groupOf op ≠ 0x00 ∧ groupOf op ≠ 0x08 ∧ groupOf op ≠ 0x0A ∧ groupOf op ≠ 0x0B then some (ansBad stFault 1)
  else none

/-- In ROM mode the limits of R326 take the place of the group limits (R46): the requester has no mailbox limits. -/
def gateWho (s : State) (w : Who) : Who := if s.sys.phase = .romMode then { w with mbx := 0 } else w

/-- The slot of a command that runs is EXECUTING (R338); a monitor frame has no slot (R406). -/
def running (s : State) (m i : Nat) : State :=
  if i = monitorSlot then s else modSlot s m i (fun x => { x with state := .executing })

/-- Steps 1 and 2 of R352 pass for a command that the device serves. -/
def admits (c : CmdSpec) (m i : Nat) (p : Bytes) (s : State) : Bool :=
  let w := { (gateWho s (whoOf s m i)) with consume := hdrConsume s m i }
  serving s && decide (m ≤ 18) && (gateAns s m c.op).isNone && groupOk w c.op && horizonOk c w && c.len p

/-- Carry out a command on a slot: the gates, the checks, the effect, the response. -/
def runCmd (c : CmdSpec) (m i : Nat) (p : Bytes) (s : State) : State :=
  if serving s = false ∨ 18 < m then s
  else
    let s1 := running s m i
    match gateAns s m c.op with
    | some a => reply s1 m i c.op a
    | none =>
      let r := runBody c { (gateWho s (whoOf s m i)) with consume := hdrConsume s m i } p s1
      reply r.2 m i c.op r.1

/-- Carry out a command whose body hands an operation to the public-key engine (R345): the checks run now; the command answers
when the engine has finished. `pre`: the checks of steps 3 to 6, answering a refusal. -/
def runPk (c : CmdSpec) (pre : Who → Bytes → State → Option Ans) (m i : Nat) (p : Bytes) (s : State) : State :=
  if serving s = false ∨ 18 < m then s
  else
    let s1 := running s m i
    let w := whoOf s m i
    let refuse := match gateAns s m c.op with
      | some a => some a
      | none =>
        if !groupOk w c.op || !horizonOk c w then some (ansBad stDenied 0)
        else if !c.len p then some (ansBad stBadArg 0xFF)
        else pre w p s1
    match refuse with
    | some a => reply s1 m i c.op a
    | none => modVault s1 (fun v => { v with pkQueue := v.pkQueue ++ [{ mbx := m, slot := i, op := c.op, payload := p }] })

/-! ## Lengths and common checks -/

/-- LEN is exactly n. -/
def lenIs (n : Nat) (p : Bytes) : Bool := decide (p.length = n)

/-- A mailbox without DMA (R333). -/
def noDma (w : Who) : Bool := !w.dma

/-- The refusal of a command that needs DMA where there is none (R354, R356). -/
def dmaBad : Ans := ansBad stBadArg 0xFE

/-- A plot number that names a plot: 1 to 16. -/
def plotId (p : Nat) : Bool := decide (1 ≤ p ∧ p ≤ 16)

/-- Bytes of host memory, by DMA. -/
def dmaRead (s : State) (a n : Nat) : Bytes := (List.range n).map (fun i => tget 0#8 s.host (a + i))

/-- A DMA transfer that begins now fails (R354). -/
def dmaFails (s : State) (a : Nat) : Bool := Config.dmaError a (now s)

/-- Write host memory, by DMA. -/
def dmaWrite (s : State) (a : Nat) (b : Bytes) : State :=
  { s with host := (b.zipIdx).foldl (fun h x => tset 0#8 h (a + x.2) x.1) s.host }

/-! ## Jobs (R19 to R22, R347 to R349) -/

/-- Age of a finished record. -/
def jobAge (s : State) (j : Job) : Nat := now s - j.endedAt

/-- Records that may be reused: finished at least 10 s ago (R347). -/
def reusable (s : State) : List (Nat × Nat) :=
  s.mgmt.jobs.filterMap (fun kv => match kv.2 with
    | some j => if j.state ≠ .running ∧ 10000000000 ≤ jobAge s j then some (kv.1, j.endedAt) else none
    | none => none)

/-- The oldest of them. -/
def oldestReusable (s : State) : Option Nat :=
  (reusable s).foldl (fun (b : Option (Nat × Nat)) x => match b with
    | none => some x
    | some y => if x.2 < y.2 then some x else b) none |>.map (·.1)

/-- The identifier after one (R21): 16 bits, never 0. -/
def nextId (n : Nat) : Nat := if n = 65535 then 1 else n + 1

/-- Some function of a list is held, other than by a job (R19). -/
def anyHeld (s : State) (fs : List Func) : Bool := fs.any (held s)

/-- The record that a new job takes when 256 are kept: the oldest finished one (R347). -/
def recordToReuse (s : State) : Option Nat :=
  (oldestReusable s).or ((s.mgmt.jobs.find? (fun kv => match kv.2 with | some j => decide (j.state ≠ .running) | none => true)).map (·.1))

/-- A new job: its record, its identifier, the functions it holds (R19, R21, R347). -/
def newJob (s : State) (w : Who) (op : Nat) (p : Bytes) (fs : List (Func × Bool)) (stage : Nat) : Nat × State :=
  let s1 := if 256 ≤ s.mgmt.jobs.length then
      modMgmt s (fun g => { g with jobs := tset none g.jobs ((recordToReuse s).getD 0) none }) else s
  let id := s1.mgmt.nextJob
  let j : Job := { op := op, mbx := w.mbx, hz := w.hz, plot := w.plot, payload := p, state := .running, stage := stage }
  (id, modMgmt s1 (fun g => { g with
     jobs := tset none g.jobs id (some j)
     nextJob := nextId id
     holds := g.holds ++ fs.map (fun f => { fn := f.1, job := id, quiesce := f.2 }) }))

/-- A further job can be started: fewer than 32 are open, and a record is free (R21, R347). -/
def recordFree (s : State) : Bool :=
  decide ((openJobs s).length < 32) && (decide (s.mgmt.jobs.length < 256) || (oldestReusable s).isSome)

/-- Start a job whatever holds its functions: refused while 32 jobs are open, or without a record (R21, R347). -/
def startJobOver (s : State) (w : Who) (op : Nat) (p : Bytes) (fs : List (Func × Bool)) (stage : Nat) : Ans × State :=
  if !recordFree s then (ansBad stBusy 3, s)
  else
    let r := newJob s w op p fs stage
    ({ status := stJob, job := r.1 }, r.2)

/-- Start a job (R20, R21, R347): refused while a function it acts on is held, while 32 jobs are open, or without a record. -/
def startJob (s : State) (w : Who) (op : Nat) (p : Bytes) (fs : List (Func × Bool)) (stage : Nat) : Ans × State :=
  if anyHeld s (fs.map (·.1)) then (ansBad stBusy 2, s) else startJobOver s w op p fs stage

/-- The sender of Ohmyx's own jobs: no mailbox. -/
def ownSender : Who := { hz := .a, mbx := 24 }

/-- The requester of a job, for the rights that its steps check again (R53). -/
def jobWho (j : Job) : Who := { hz := j.hz, plot := j.plot, mbx := j.mbx }

/-- A job's step completes (R347). -/
def stepDone (s : State) (id : Nat) : State := modJob s id (fun j => { j with steps := j.steps + 1 })

/-- A job ends well. -/
def jobOk (s : State) (id word : Nat) (data : Bytes) : State := endJob (stepDone s id) id .done stOk 0 word data

/-- A job ends with a status. -/
def jobFail (s : State) (id st detail word : Nat) : State := endJob (stepDone s id) id .done st detail word []

/-- The Peat store takes no writes (R267): the refusal of a command that would write it. -/
def peatRefuses (s : State) : Option Ans := if s.peat.readOnly then some (ansBad stFault 2) else none

/-- A record's event sources and notices for a job are raised by `endJob`. The open job that acts on a function. -/
def holderOf (s : State) (f : Func) : Option Nat := (s.mgmt.holds.find? (fun h => decide (h.fn = f))).map (·.job)

/-- DRAIN of a job is done: it goes on to its change (stage 2). -/
def jobDrained (s : State) (id : Nat) : State := modJob s id (fun j => { j with stage := 2 })

/-- The unit check of a position: the die is fitted (DETAIL 1) and in service (DETAIL 2) (R29, R354). -/
def dieAbsent (s : State) (p : Nat) : Option Ans :=
  if !dieFitted s p then some (ansBad stAbsent 1)
  else if !dieUp s p then some (ansBad stAbsent 2) else none

/-- A stack's presence. -/
def stackAbsent (s : State) (p : Nat) : Option Ans :=
  if !hasElem (partStacks s.sys.part) p then some (ansBad stAbsent 1)
  else if !stackUp s p then some (ansBad stAbsent 2) else none

/-- The plot a command names does not exist (R352). -/
def plotAbsent (s : State) (p : Nat) : Option Ans :=
  if p = 0 ∨ (plotAt s p).live = true then none else some (ansBad stAbsent 5)

/-- The requester's right over a plot's contents (R53): the owner over the shell and owner-held plots, the tenant over its own. -/
def holderRight (s : State) (w : Who) (p : Nat) : Bool :=
  match w.hz with
  | .a => !tenantHeld s p
  | .b => decide (p = w.plot)
  | _ => false

/-- First refusal of a list of checks. -/
def firstRefusal (l : List (Option Ans)) : Option Ans := l.findSome? id

/-- Presence of the stacks that a range of Kaolin addresses meets (R29, R352 step 4). -/
def kaoAbsent (s : State) (a n : Nat) : Option Ans :=
  firstRefusal (([0, 1, 2, 3].filter (fun p => decide (stackBase p < a + n ∧ a < stackBase (p + 1)))).map (stackAbsent s))

end Machine
end Sys2Proof
end

