-- ==== Sys2Proof/Machine/Fabric.lean ====
section
/-! DEFINITION. Fabric resources: check-value units (R283 to R289), Grit groups (R275 to R282), block RAM (R271 to R274), as
the fabric and their registers drive them. -/

namespace Sys2Proof
namespace Machine

/-! ## Regions -/

/-- The region's logic is clocked: the die in service, and the device Configured for the shell's logic, the plot Running for a plot's
(R50, R294). -/
def regionRuns (s : State) (pos lx ly : Nat) : Bool :=
  dieUp s pos &&
  (let pl := plotAtLocal s pos lx ly
   if pl = 0 then configured s && decide ((plotAt s 0).state ≠ .frozen) else decide ((plotAt s pl).state = .running))

/-- The region of a block RAM; block RAMs are numbered as Grit groups are. -/
def bramRegion (b : Nat) : Nat × Nat := unitRegion 54 96 45 b

/-! ## Check-value units -/

/-- The key of a unit among the check-value units: 64 × position + unit, and 256 + m on the Marl die. -/
def crcKey : CrcUnitId → Nat
  | .loam p u => 64 * p.val + u.val
  | .marl m => 256 + m.val

/-- W, the check width. -/
def crcWidth (c : Crc) : Nat := fld c.ctrl 5 0 + 1

/-- One bit into the running value. -/
def crcBit (c : Crc) (v : Nat) (b : Bool) : Nat :=
  let w := crcWidth c
  let top := decide (v / 2 ^ (w - 1) % 2 = 1)
  let sh := 2 * v % 2 ^ w
  if top != b then nxor sh (c.poly.toNat % 2 ^ w) else sh

/-- One byte into the running value, least significant bit first with REFIN (R283). -/
def crcByte (c : Crc) (v b : Nat) : Nat :=
  let order := if bitOf c.ctrl 7 then [0, 1, 2, 3, 4, 5, 6, 7] else [7, 6, 5, 4, 3, 2, 1, 0]
  order.foldl (fun v i => crcBit c v (decide (b / 2 ^ i % 2 = 1))) (v % 2 ^ crcWidth c)

/-- Bytes fed, in order. -/
def crcFeed (c : Crc) (bs : List Nat) : Crc := { c with val := BitVec.ofNat 64 (bs.foldl (crcByte c) c.val.toNat) }

/-- The low w bits of a number in reverse order. -/
def reflect (w v : Nat) : Nat := (List.range w).foldl (fun r i => r + (v / 2 ^ i % 2) * 2 ^ (w - 1 - i)) 0

/-- The check from a running value: REFOUT, then XOROUT. -/
def crcFinal (c : Crc) (v : Nat) : Nat :=
  let w := crcWidth c
  let r := v % 2 ^ w
  nxor (if bitOf c.ctrl 8 then reflect w r else r) (c.xorout.toNat % 2 ^ w)

/-- WIN; 0 acts as 1. -/
def crcWin (c : Crc) : Nat := max 1 (fld c.ctrl 23 16)

/-- FIRST is set. -/
def crcFirst (c : Crc) : Bool := bitOf c.alive 8

/-- END (R284): in GEN mode the check and the alive value used; in CHECK mode the status for a received alive value and
check. -/
def crcEndOp (c : Crc) (a check : Nat) : Crc :=
  let reinit := fun (c : Crc) => { c with val := c.init }
  if !bitOf c.ctrl 9 then
    let al := fld c.alive 7 0
    reinit { c with
      res := BitVec.ofNat 64 (crcFinal c (crcByte c c.val.toNat al))
      endAlive := al
      endStatus := 0
      alive := setFld c.alive 7 0 (al + 1) }
  else
    let ok := decide (crcFinal c (crcByte c c.val.toNat a) = check % 2 ^ crcWidth c)
    let d := (a + 256 - fld c.alive 7 0) % 256
    let st := if !ok then 1 else if crcFirst c then 0 else if d = 0 then 2 else if crcWin c < d then 3 else 0
    let last := if st = 0 ∨ st = 3 ∨ crcFirst c = true then a else fld c.alive 7 0
    let first := crcFirst c && !ok
    reinit { c with
      alive := BitVec.ofNat 9 (last % 256 + 256 * b2n first)
      endAlive := a
      endStatus := st
      status := if st = 0 then c.status else c.status ||| (1#3 <<< (st - 1))
      cntErr := if st = 0 then c.cntErr else ctrInc c.cntErr }

/-- A write of CRC_CTRL (R285). -/
def crcCtrlSet (c : Crc) (v : Word) : Crc := { c with ctrl := v, val := c.init }

/-- A write of CRC_ALIVE sets FIRST (R284). -/
def crcAliveSet (c : Crc) (v : Word) : Crc := { c with alive := BitVec.ofNat 9 (256 + fld v 7 0) }

/-- A write of half of a 64-bit quantity. -/
def setHalf (q : DWord) (hi : Bool) (v : Word) : DWord := if hi then setFld q 63 32 v.toNat else setFld q 31 0 v.toNat

/-- The unit exists: its die is in service; the Marl die's always. -/
def crcUp (s : State) (u : CrcUnitId) : Bool := match u with | .loam p _ => dieUp s p.val | .marl _ => true

/-- Change a unit that exists. -/
def onCrc (s : State) (u : CrcUnitId) (f : Crc → Crc) : State := if crcUp s u then modCrc s (crcKey u) f else s

/-- CRC_CTRL_WRITE (R285). -/
def execCrcCtrlWrite (u : CrcUnitId) (v : Word) (s : State) : Host.Outcome State Fault Refusal := .next (onCrc s u (fun c => crcCtrlSet c v))

/-- CRC_ALIVE_WRITE (R284). -/
def execCrcAliveWrite (u : CrcUnitId) (v : Word) (s : State) : Host.Outcome State Fault Refusal := .next (onCrc s u (fun c => crcAliveSet c v))

/-- CRC_VAL_WRITE (R285). -/
def execCrcValWrite (u : CrcUnitId) (hi : Bool) (v : Word) (s : State) : Host.Outcome State Fault Refusal :=
  .next (onCrc s u (fun c => { c with val := setHalf c.val hi v }))

/-- CRC_STATUS_READ (R287). -/
def execCrcStatusRead (u : CrcUnitId) (s : State) : Host.Outcome State Fault Refusal := .next (onCrc s u (fun c => { c with status := 0#3 }))

/-- CRC_CNT_CLR (R287): bit 0 clears. -/
def execCrcCntClr (u : CrcUnitId) (v : Word) (s : State) : Host.Outcome State Fault Refusal :=
  .next (if bitOf v 0 then onCrc s u (fun c => { c with cntErr := {} }) else s)

/-- The low n bytes of a word, lowest first. -/
def wordBytes (n : Nat) (v : Word) : List Nat := (leBytes n v.toNat).map (·.toNat)

/-- CRC_FEED_B (R289). -/
def execCrcFeedB (m : Fin 8) (v : Word) (s : State) : Host.Outcome State Fault Refusal :=
  .next (modCrc s (256 + m.val) (fun c => crcFeed c (wordBytes 1 v)))

/-- CRC_FEED_H (R289). -/
def execCrcFeedH (m : Fin 8) (v : Word) (s : State) : Host.Outcome State Fault Refusal :=
  .next (modCrc s (256 + m.val) (fun c => crcFeed c (wordBytes 2 v)))

/-- CRC_FEED_W (R289). -/
def execCrcFeedW (m : Fin 8) (v : Word) (s : State) : Host.Outcome State Fault Refusal :=
  .next (modCrc s (256 + m.val) (fun c => crcFeed c (wordBytes 4 v)))

/-- CRC_END (R289): the received check comes from CRC_RX. -/
def execCrcEnd (m : Fin 8) (v : Word) (s : State) : Host.Outcome State Fault Refusal :=
  .next (modCrc s (256 + m.val) (fun c => crcEndOp c (fld v 7 0) c.rx.toNat))

/-- CRC_PORT_FEED (R283). -/
def execCrcPortFeed (pos : Fin 4) (unit : Fin 64) (bytes : Bytes) (s : State) : Host.Outcome State Fault Refusal :=
  if regionRuns s pos.val (unit.val % 8) (unit.val / 8) then
    .next (modCrc s (64 * pos.val + unit.val) (fun c => crcFeed c (bytes.map (·.toNat))))
  else .next s

/-- CRC_PORT_END (R284). -/
def execCrcPortEnd (pos : Fin 4) (unit : Fin 64) (alive : Byte) (check : DWord) (s : State) : Host.Outcome State Fault Refusal :=
  if regionRuns s pos.val (unit.val % 8) (unit.val / 8) then
    .next (modCrc s (64 * pos.val + unit.val) (fun c => crcEndOp c alive.toNat check.toNat))
  else .next s

/-- Whether a check-value unit register of an offset clears on read. -/
def crcRegTouch (s : State) (k off : Nat) : State := if off = 0x30 then modCrc s k (fun c => { c with status := 0#3 }) else s

/-- A read of a check-value unit's register (R287, R289). -/
def crcReg (s : State) (k off : Nat) : Nat :=
  let c := crcAt s k
  let marl := decide (256 ≤ k)
  match off with
  | 0x00 => c.ctrl.toNat
  | 0x08 => fld c.poly 31 0
  | 0x0C => fld c.poly 63 32
  | 0x10 => fld c.init 31 0
  | 0x14 => fld c.init 63 32
  | 0x18 => fld c.xorout 31 0
  | 0x1C => fld c.xorout 63 32
  | 0x20 => fld c.val 31 0
  | 0x24 => fld c.val 63 32
  | 0x28 => c.alive.toNat
  | 0x30 => c.status.toNat
  | 0x34 => c.status.toNat
  | 0x38 => ctrWord c.cntErr
  | 0x50 => if marl then fld c.rx 31 0 else 0
  | 0x54 => if marl then fld c.rx 63 32 else 0
  | 0x58 => if marl then fld c.res 31 0 else 0
  | 0x5C => if marl then fld c.res 63 32 else 0
  | 0x60 => if marl then c.endAlive % 256 * 256 + c.endStatus % 8 else 0
  | _ => 0

/-- A write of a check-value unit's register. -/
def crcRegWrite (s : State) (k off : Nat) (v : Word) : State :=
  let marl := decide (256 ≤ k)
  match off with
  | 0x00 => modCrc s k (fun c => crcCtrlSet c v)
  | 0x08 => modCrc s k (fun c => { c with poly := setHalf c.poly false v })
  | 0x0C => modCrc s k (fun c => { c with poly := setHalf c.poly true v })
  | 0x10 => modCrc s k (fun c => { c with init := setHalf c.init false v })
  | 0x14 => modCrc s k (fun c => { c with init := setHalf c.init true v })
  | 0x18 => modCrc s k (fun c => { c with xorout := setHalf c.xorout false v })
  | 0x1C => modCrc s k (fun c => { c with xorout := setHalf c.xorout true v })
  | 0x20 => modCrc s k (fun c => { c with val := setHalf c.val false v })
  | 0x24 => modCrc s k (fun c => { c with val := setHalf c.val true v })
  | 0x28 => modCrc s k (fun c => crcAliveSet c v)
  | 0x3C => if bitOf v 0 then modCrc s k (fun c => { c with cntErr := {} }) else s
  | 0x40 => if marl then modCrc s k (fun c => crcFeed c (wordBytes 1 v)) else s
  | 0x44 => if marl then modCrc s k (fun c => crcFeed c (wordBytes 2 v)) else s
  | 0x48 => if marl then modCrc s k (fun c => crcFeed c (wordBytes 4 v)) else s
  | 0x4C => if marl then modCrc s k (fun c => crcEndOp c (fld v 7 0) c.rx.toNat) else s
  | 0x50 => if marl then modCrc s k (fun c => { c with rx := setHalf c.rx false v }) else s
  | 0x54 => if marl then modCrc s k (fun c => { c with rx := setHalf c.rx true v }) else s
  | _ => s

/-! ## Grit groups -/

/-- The active register bank of a group (R280). -/
def gbank (g : Grit) : GBank := if g.shadow then g.shad else g.prim

/-- Change the active bank. -/
def modBank (g : Grit) (f : GBank → GBank) : Grit := if g.shadow then { g with shad := f g.shad } else { g with prim := f g.prim }

/-- An operand as SGN reads it. -/
def gOperand (sgn : Bool) (v : BitVec 24) : Int := if sgn then v.toInt else (v.toNat : Int)

/-- An accumulator as SGN reads it. -/
def gAcc (sgn : Bool) (v : BitVec 56) : Int := if sgn then v.toInt else (v.toNat : Int)

/-- Saturate at the limits of w bits: the value, and whether it saturated (R275). -/
def saturate (sgn : Bool) (w : Nat) (v : Int) : Int × Bool :=
  let lo : Int := if sgn then -(2 ^ (w - 1)) else 0
  let hi : Int := if sgn then 2 ^ (w - 1) - 1 else 2 ^ w - 1
  if v < lo then (lo, true) else if hi < v then (hi, true) else (v, false)

/-- Round (acc >> SHIFT) as RND selects: truncate, half up, half to even (R275). -/
def roundShift (rnd sh : Nat) (v : Int) : Int :=
  let q := v / 2 ^ sh
  let r := v % 2 ^ sh
  match rnd with
  | 1 => if 2 * r ≥ 2 ^ sh ∧ sh ≠ 0 then q + 1 else q
  | 2 => if 2 * r > 2 ^ sh ∨ (2 * r = 2 ^ sh ∧ q % 2 = 1) then q + 1 else q
  | _ => q

/-- The output of an accumulator: the word, and whether it saturated (R275). -/
def gOutput (c : Word) (sh : Nat) (acc : BitVec 56) : BitVec 24 × Bool :=
  let r := saturate (bitOf c 28) 24 (roundShift (fld c 27 26) sh (gAcc (bitOf c 28) acc))
  (BitVec.ofInt 24 r.1, r.2)

/-- Word of an operand memory. -/
def gMem (g : Grit) (tile a : Nat) : BitVec 24 := tget 0#24 g.mem (512 * tile + a % 512)

/-- Set an error flag: 0 OUT_SAT, 1 ACC_SAT, 2 PROG_WHILE_RUN, 3 RET_PRIMARY. -/
def gErr (g : Grit) (i : Nat) (b : Bool) : Grit := if b then { g with err := g.err ||| (1#4 <<< i) } else g

/-- The updates of the pipeline that take effect at the start of a clock (R276). -/
def gApply (g : Grit) (w : GWrite) : Grit :=
  match w with
  | .mem t a v => { g with mem := tset 0#24 g.mem (512 * t + a % 512) v }
  | .x sh inc v =>
    let f := fun (b : GBank) => { b with x := if inc then b.x + v else v }
    if sh then { g with shad := f g.shad } else { g with prim := f g.prim }
  | .lc sh v => if sh then { g with shad := { g.shad with lc := v } } else { g with prim := { g.prim with lc := v } }
  | .out l => { g with outs := (l.zipIdx).foldl (fun t x => tset 0#24 t x.2 x.1) [], outReady := true }

/-- A Grit clock passes in the pipeline. -/
def gClock (g : Grit) : Grit :=
  let due := (g.pipe.filter (fun e => decide (e.1 ≤ 1))).map (·.2)
  due.foldl gApply { g with pipe := (g.pipe.filter (fun e => decide (1 < e.1))).map (fun e => (e.1 - 1, e.2)) }

/-- Everything in the pipeline takes effect. -/
def gDrain (g : Grit) : Grit := gClock (gClock (gClock (gClock g)))

/-- The eight tiles. -/
def tiles : List Nat := [0, 1, 2, 3, 4, 5, 6, 7]

/-- Instruction fields (R278). -/
def iOp (w : Word) : Nat := fld w 31 28
/-- AA. -/
def iAA (w : Word) : Nat := fld w 27 19
/-- AB. -/
def iAB (w : Word) : Nat := fld w 18 10
/-- ARG. -/
def iArg (w : Word) : Nat := fld w 5 0

/-- The instruction at the active PC. -/
def gInstr (g : Grit) : Word := tget 0#32 g.live (gbank g).pc.toNat

/-- Address of operand A, and of operand B or the STORE destination. -/
def addrA (g : Grit) (w : Word) : Nat := (iAA w + (if bitOf w 9 then (gbank g).x.toNat else 0)) % 512
/-- Address B. -/
def addrB (g : Grit) (w : Word) : Nat := (iAB w + (if bitOf w 8 then (gbank g).x.toNat else 0)) % 512

/-- Accumulate in one tile: MAC, MUL or MSU (R275, R279). -/
def gAccumulate (w : Word) (g : Grit) (t : Nat) : Grit :=
  let sgn := bitOf g.ctrl 28
  let p := gOperand sgn (gMem g t (addrA g w)) * gOperand sgn (gMem g t (addrB g w))
  let old := gAcc sgn (tget 0#56 (gbank g).acc t)
  let r := saturate sgn 56 (match iOp w with | 1 => old + p | 2 => p | _ => old - p)
  gErr (modBank g (fun b => { b with acc := tset 0#56 b.acc t (BitVec.ofInt 56 r.1) })) 1 r.2

/-- The output of a tile for STORE and OUT; a shift above 32 is reserved, and its result is open. -/
def gOutOf (free : Nat) (w : Word) (g : Grit) (t : Nat) : BitVec 24 × Bool :=
  if iArg w ≤ 32 then gOutput g.ctrl (iArg w) (tget 0#56 (gbank g).acc t) else (BitVec.ofNat 24 (free / 2 ^ (24 * t)), false)

/-- STORE in one tile: the operand memory is written in stage 4 (R276). -/
def gStore (free : Nat) (w : Word) (g : Grit) (t : Nat) : Grit :=
  let r := gOutOf free w g t
  gErr { g with pipe := g.pipe ++ [(4, .mem t (addrB g w) r.1)] } 0 r.2

/-- OUT: the outputs of the eight tiles are presented in stage 4 (R276), and issue stalls (R279). -/
def gOut (free : Nat) (w : Word) (g : Grit) : Grit :=
  let r := tiles.map (gOutOf free w g)
  gErr { g with
    pipe := g.pipe ++ [(3, .out (r.map (·.1)))], outStall := true, outOf := g.shadow, outReady := false, seq := .waiting } 0 (r.any (·.2))

/-- The next instruction. -/
def gNext (g : Grit) : Grit := modBank g (fun b => { b with pc := b.pc + 1#6 })

/-- An update of X in stage 2 (R276). -/
def gX (g : Grit) (inc : Bool) (v : Nat) : Grit := { g with pipe := g.pipe ++ [(2, .x g.shadow inc (BitVec.ofNat 9 v))] }

/-- An update of LC in stage 2 (R276). -/
def gLc (g : Grit) (v : BitVec 18) : Grit := { g with pipe := g.pipe ++ [(2, .lc g.shadow v)] }

/-- Take an event: the shadow bank, its PC at EVT_PC (R280). -/
def gTake (g : Grit) (ret : GSeq) : Grit :=
  { g with shadow := true, evtPend := false, retTo := ret, seq := .running, shad := { g.shad with pc := BitVec.ofNat 6 (fld g.ctrl 21 16) } }

/-- RET: back to the primary bank, and a latched event is taken at once; RET in the primary bank acts as NOP (R280). -/
def gRet (g : Grit) : Grit :=
  if g.shadow then
    let g1 := { gNext g with shadow := false, seq := g.retTo }
    if g1.evtPend ∧ bitOf g.ctrl 29 = true then gTake g1 g.retTo else g1
  else gNext (gErr g 3 true)

/-- Issue the instruction at PC (R279). An OUT waits unissued while the outputs of the other bank's OUT are not accepted yet. -/
def gIssue (free : Nat) (g : Grit) : Grit :=
  let w := gInstr g
  let xi := fun (g : Grit) => if bitOf w 7 then gX g true 1 else g
  match iOp w with
  | 0 => gNext (xi g)
  | 4 => gNext (xi (tiles.foldl (gStore free w) g))
  | 5 => if g.outStall then g else xi (gOut free w g)
  | 6 => gNext (xi (gLc g (BitVec.ofNat 18 (fld w 27 10))))
  | 7 => gNext (xi (gX g false (iAA w)))
  | 8 => gNext (xi (gX g true (iAA w)))
  | 9 =>
    if (gbank g).lc = 0#18 then gNext (xi g)
    else modBank (xi (gLc g ((gbank g).lc - 1#18))) (fun b => { b with pc := BitVec.ofNat 6 (iArg w) })
  | 10 => if g.go then gNext (xi g) else { xi g with seq := .waiting }
  | 11 => gRet (xi g)
  | 12 => gNext { xi g with seq := .halted }
  | o => if o ≤ 3 then gNext (xi (tiles.foldl (gAccumulate w) g)) else gNext (xi g)

/-- The program uses P1 in this clock (R277): it reads operand B, or a STORE is in its stage 4. -/
def usesP1 (g : Grit) : Bool :=
  (decide (g.seq = .running) && decide (1 ≤ iOp (gInstr g) ∧ iOp (gInstr g) ≤ 3)) ||
  g.pipe.any (fun e => match e.2 with | .mem .. => decide (e.1 = 2) | _ => false)

/-- The load port writes one word in a clock in which the program leaves P1 free. -/
def gLoad (g : Grit) : Grit :=
  match g.load with
  | [] => g
  | e :: l => { g with mem := tset 0#24 g.mem (512 * e.1 + e.2.1 % 512) e.2.2, load := l }

/-- One Grit clock of sequenced mode: the pipeline, the load port, an event at the instruction boundary, and an issue. -/
def gStep (free : Nat) (g : Grit) : Grit :=
  let p1 := usesP1 g
  let g1 := gClock g
  let g2 := if p1 then g1 else gLoad g1
  let g3 := if g2.seq ≠ .running then g2
    else if g2.evtPend ∧ g2.shadow = false ∧ bitOf g2.ctrl 29 = true then gTake g2 .running
    else gIssue free g2
  { g3 with go := false }

/-! ## Direct mode (R275 to R277) -/

/-- One port of a tile's operand memory as the fabric drives it: it writes, the address, the word. -/
def portDrive (d : BitVec 96) (lo : Nat) : Bool × Nat × BitVec 24 := (bitOf d lo, fld d (lo + 9) (lo + 1), BitVec.ofNat 24 (fld d (lo + 33) (lo + 10)))

/-- What a tile takes in: both ports read the old words, a write takes effect after, and where both write one word P1's value is stored
(R277). The operands are the words read; the operation, the shift and the kind of output are the fabric's. -/
def directIn (free : Nat) (g : Grit) (t : Nat) : Grit :=
  let d := Config.directDrive free t
  let p0 := portDrive d 0
  let p1 := portDrive d 34
  let sgn := bitOf g.ctrl 28
  let p := gOperand sgn (gMem g t p0.2.1) * gOperand sgn (gMem g t p1.2.1)
  let m0 := if p0.1 then tset 0#24 g.mem (512 * t + p0.2.1) p0.2.2 else g.mem
  let m1 := if p1.1 then tset 0#24 m0 (512 * t + p1.2.1) p1.2.2 else m0
  { g with
    mem := m1
    direct := g.direct ++ [{ left := 4, tile := t, op := fld d 69 68, shift := fld d 75 70 % 33, wide := bitOf d 76, p := p, acc := 0#56 }] }

/-- CASC of a tile: the stage-4 output of the tile before it; tile 0 receives zero. -/
def cascOf (sgn : Bool) (dout : Tbl (BitVec 56)) (t : Nat) : Int := if t = 0 then 0 else gAcc sgn (tget 0#56 dout (t - 1))

/-- An operation moves on by one clock: it accumulates in stage 3, and its result is presented four clocks after its operands. -/
def directMove (casc : Tbl (BitVec 56)) (g : Grit) (o : GDirect) : Grit :=
  let sgn := bitOf g.ctrl 28
  let acc := gAcc sgn (tget 0#56 g.prim.acc o.tile)
  match o.left with
  | 3 =>
    let r := saturate sgn 56 (match o.op with
      | 0 => o.p
      | 1 => acc + o.p
      | 2 => acc - o.p
      | _ => acc + o.p + cascOf sgn casc o.tile)
    let v := BitVec.ofInt 56 r.1
    gErr { g with prim := { g.prim with acc := tset 0#56 g.prim.acc o.tile v }, direct := g.direct ++ [{ o with left := 2, acc := v }] } 1 r.2
  | 1 =>
    let r := gOutput g.ctrl o.shift o.acc
    if o.wide then { g with dout := tset 0#56 g.dout o.tile o.acc }
    else gErr { g with dout := tset 0#56 g.dout o.tile (if sgn then r.1.signExtend 56 else r.1.setWidth 56) } 0 r.2
  | k => { g with direct := g.direct ++ [{ o with left := k - 1 }] }

/-- One Grit clock of direct mode: the pipeline moves on, and every tile takes in what the fabric drives. -/
def gDirectStep (free : Nat) (g : Grit) : Grit :=
  tiles.foldl (directIn free) (g.direct.foldl (directMove g.dout) { gClock g with direct := [] })

/-- The group is on a die in service. -/
def gritUp (s : State) (pos : Nat) : Bool := dieUp s pos

/-- The group's registers of sequenced mode exist (R281, R42). -/
def gritSeqUp (s : State) (pos : Nat) : Bool := dieUp s pos && s.sys.eff.gseq

/-- The region of a group is clocked. -/
def gritRuns (s : State) (pos g : Nat) : Bool := regionRuns s pos (gritRegion g).1 (gritRegion g).2

/-- GRT_ERR_READ (R282). -/
def execGrtErrRead (pos : Fin 4) (g : Fin 480) (s : State) : Host.Outcome State Fault Refusal :=
  if gritUp s pos.val then .next (modGrit s (480 * pos.val + g.val) (fun x => { x with err := 0#4 })) else .next s

/-- A write of GRT_SEQ_CTRL with RUN 1 (R281): the whole program of GRT_PROG is applied at once; RESTART starts at START_PC with
X, LC and the accumulators cleared, once the operations in flight have completed. An event latched while stopped is taken (R280). While the
sequencer runs or waits, a write without RESTART leaves it where it is. -/
def gRun (g : Grit) (v : Word) : Grit :=
  let w := keepField g.ctrl v 27 26 (fun r => decide (r ≤ 2))
  let g1 := { g with ctrl := w }
  if bitOf w 30 = false ∧ (g.seq = .running ∨ g.seq = .waiting) then g1
  else
    let g2 : Grit := if bitOf w 30 then
        let d := gDrain g1
        { d with
          shadow := false, live := g.prog, seq := .running, outStall := false, outReady := false, outs := []
          prim := { d.prim with acc := [], x := 0#9, lc := 0#18, pc := BitVec.ofNat 6 (fld w 13 8) } }
      else { g1 with live := g.prog, seq := .running }
    if g2.evtPend ∧ g2.shadow = false ∧ bitOf w 29 = true then gTake g2 .running else g2

/-- A stalled WAIT or OUT ends at once (R281), in the bank that runs and in the primary bank that an event has left. -/
def endStalls (g : Grit) : Grit :=
  let g1 := if g.seq = .waiting then gNext g else g
  if g.shadow ∧ g.retTo = .waiting then { g1 with prim := { g1.prim with pc := g1.prim.pc + 1#6 }, retTo := .running } else g1

/-- A write of GRT_SEQ_CTRL with RUN 0 (R281): a stalled WAIT or OUT ends, the operations in flight complete, STOPPED. -/
def gStop (g : Grit) (v : Word) : Grit :=
  let w := keepField g.ctrl v 27 26 (fun r => decide (r ≤ 2))
  if bitOf g.ctrl 31 then
    { gDrain (endStalls g) with ctrl := w, seq := .stopped, outStall := false, outReady := false, outs := [] }
  else { g with ctrl := w }

/-- A write of GRT_SEQ_CTRL. -/
def gCtrlSet (g : Grit) (v : Word) : Grit := if bitOf v 31 then gRun g v else gStop g v

/-- A write of GRT_PROG (R281): reserved encodings of OP, and of ARG for STORE and OUT, are not taken (R9). -/
def gProgSet (g : Grit) (i : Nat) (v : Word) : Grit :=
  if g.seq = .stopped ∨ g.seq = .halted then
    let old := tget 0#32 g.prog i
    let w := keepField old v 31 28 (fun o => decide (o ≤ 12))
    let w2 := if iOp w = 4 ∨ iOp w = 5 then keepField old w 5 0 (fun a => decide (a ≤ 32)) else w
    { g with prog := tset 0#32 g.prog i w2 }
  else gErr g 2 true

/-- GRT_SEQ_RUN (R281). -/
def execGrtSeqRun (pos : Fin 4) (g : Fin 480) (v : Word) (s : State) : Host.Outcome State Fault Refusal :=
  if gritSeqUp s pos.val then .next (modGrit s (480 * pos.val + g.val) (fun x => gRun x (setFld v 31 31 1))) else .next s

/-- GRT_SEQ_STOP (R281). -/
def execGrtSeqStop (pos : Fin 4) (g : Fin 480) (v : Word) (s : State) : Host.Outcome State Fault Refusal :=
  if gritSeqUp s pos.val then .next (modGrit s (480 * pos.val + g.val) (fun x => gStop x (setFld v 31 31 0))) else .next s

/-- GRT_PROG_WRITE (R281). -/
def execGrtProgWrite (pos : Fin 4) (g : Fin 480) (i : Fin 64) (v : Word) (s : State) : Host.Outcome State Fault Refusal :=
  if gritSeqUp s pos.val then .next (modGrit s (480 * pos.val + g.val) (fun x => gProgSet x i.val v)) else .next s

/-- The frames put the group in direct mode, and its sequencer is stopped. -/
def directMode (s : State) (pos g : Nat) : Bool :=
  decide ((gritAt s (480 * pos + g)).seq = .stopped) &&
  Config.gritDirect (480 * pos + g) (regionEpoch s (nodeLocal pos (gritRegion g).1 (gritRegion g).2 0)).1

/-- GRIT_ISSUE (R279): a Grit clock. In sequenced mode the sequencer issues one instruction to all eight tiles; in direct mode each tile takes
what the fabric drives. -/
def execGritIssue (pos : Fin 4) (g : Fin 480) (s : State) : Host.Outcome State Fault Refusal :=
  if gritRuns s pos.val g.val then
    let r := freeValue s
    .next (modGrit r.2 (480 * pos.val + g.val) (if directMode s pos.val g.val then gDirectStep r.1.toNat else gStep r.1.toNat))
  else .next s

/-- GRIT_EVENT (R280): a rising edge on the event input. -/
def gEvent (g : Grit) : Grit :=
  if g.shadow ∨ g.seq = .stopped ∨ bitOf g.ctrl 29 = false then { g with evtPend := g.evtPend || g.shadow || decide (g.seq = .stopped) }
  else match g.seq with
    | .running => { g with evtPend := true }
    | q => gTake g q

/-- GRIT_EVENT (R280). -/
def execGritEvent (pos : Fin 4) (g : Fin 480) (s : State) : Host.Outcome State Fault Refusal :=
  if gritRuns s pos.val g.val then .next (modGrit s (480 * pos.val + g.val) gEvent) else .next s

/-- The go input goes high (R279): a stalled WAIT resumes. It stays high to the end of the next Grit clock, since no row tells when it
falls. -/
def gGo (g : Grit) : Grit :=
  let g1 := { g with go := true }
  if g.seq = .waiting ∧ (g.outStall = false ∨ g.outOf ≠ g.shadow) then { gNext g1 with seq := .running } else g1

/-- GRIT_GO (R279). -/
def execGritGo (pos : Fin 4) (g : Fin 480) (s : State) : Host.Outcome State Fault Refusal :=
  if gritRuns s pos.val g.val then .next (modGrit s (480 * pos.val + g.val) gGo) else .next s

/-- The fabric accepts the outputs presented: the OUT that stalled has been issued, and its bank goes on, at once or when RET comes back
to it (R279, R280). -/
def gAccept (g : Grit) : Grit :=
  if g.outStall ∧ g.outReady = true then
    let g1 := { g with outStall := false, outReady := false, outs := [] }
    if g.outOf = g.shadow then { gNext g1 with seq := .running }
    else { g1 with prim := { g1.prim with pc := g1.prim.pc + 1#6 }, retTo := .running }
  else g

/-- GRIT_OUT_ACCEPT (R279). -/
def execGritOutAccept (pos : Fin 4) (g : Fin 480) (s : State) : Host.Outcome State Fault Refusal :=
  if gritRuns s pos.val g.val then .next (modGrit s (480 * pos.val + g.val) gAccept) else .next s

/-- OPERAND_LOAD (R277): the load port takes P1 when the program leaves it free; while the group issues, the write waits for such
a clock. -/
def execOperandLoad (pos : Fin 4) (g : Fin 480) (tile : Fin 8) (addr : Fin 512) (v : BitVec 24) (s : State) : Host.Outcome State Fault Refusal :=
  if gritRuns s pos.val g.val then
    .next (modGrit s (480 * pos.val + g.val) (fun x =>
      if x.seq = .running then { x with load := x.load ++ [(tile.val, addr.val, v)] }
      else { x with mem := tset 0#24 x.mem (512 * tile.val + addr.val) v }))
  else .next s

/-- Codes of the sequencer states (R282). -/
def gSeqCode : GSeq → Nat
  | .stopped => 0
  | .running => 1
  | .waiting => 2
  | .halted => 3

/-- A read of a group's register; none: a dead target (R281). -/
def gritReg (s : State) (pos g off : Nat) : Option Nat :=
  let x := gritAt s (480 * pos + g)
  let seq := s.sys.eff.gseq
  if off = 0x000 then some (b2n seq * 2 ^ 31 + plotAtLocal s pos (gritRegion g).1 (gritRegion g).2 * 2 ^ 9 + g)
  else if off = 0x00C ∨ off = 0x010 then some x.err.toNat
  else if off = 0x004 then (if seq then some x.ctrl.toNat else none)
  else if off = 0x008 then
    (if seq then
      some (gSeqCode x.seq * 2 ^ 30 + b2n x.shadow * 2 ^ 29 + b2n x.evtPend * 2 ^ 28 + (gbank x).pc.toNat * 2 ^ 22 + (gbank x).lc.toNat)
    else none)
  else if 0x100 ≤ off ∧ off < 0x200 then (if seq then some (tget 0#32 x.prog ((off - 0x100) / 4)).toNat else none)
  else some 0

/-- A read of GRT_ERR clears it. -/
def gritRegTouch (s : State) (pos g off : Nat) : State :=
  if off = 0x00C then modGrit s (480 * pos + g) (fun x => { x with err := 0#4 }) else s

/-- A write of a group's register; none: a dead target. -/
def gritRegWrite (s : State) (pos g off : Nat) (v : Word) : Option State :=
  let seq := s.sys.eff.gseq
  if off = 0x004 then (if seq then some (modGrit s (480 * pos + g) (fun x => gCtrlSet x v)) else none)
  else if off = 0x008 then (if seq then some s else none)
  else if 0x100 ≤ off ∧ off < 0x200 then
    (if seq then some (modGrit s (480 * pos + g) (fun x => gProgSet x ((off - 0x100) / 4) v)) else none)
  else some s

/-! ## Block RAM (R271 to R273) -/

/-- Width of a shape. -/
def shapeWidth (sh : Nat) : Nat := [1, 2, 4, 9, 18, 36, 72].getD sh 36

/-- Depth of a shape. -/
def shapeDepth (sh : Nat) : Nat := [32768, 16384, 8192, 4096, 2048, 1024, 512].getD sh 1024

/-- Flat position, among the 36,864 bits, of bit b of the word at an address. The shapes of 1, 2 and 4 bits lie in the low eight
of each nine bits. -/
def bramBit (sh a b : Nat) : Nat :=
  let w := shapeWidth sh
  let i := a % shapeDepth sh * w + b
  if sh < 3 then i / 8 * 9 + i % 8 else i

/-- A block RAM as the last load or blank of its region left it, and what has been written since (R274). -/
def bramView (s : State) (pos block : Nat) : Bram :=
  let key := 5400 * pos + block
  let e := regionEpoch s (nodeLocal pos (bramRegion block).1 (bramRegion block).2 0)
  let b := tget {} s.fab.brams key
  if b.epoch = e.1 then b
  else if e.2 then { epoch := e.1, blank := true }
  else
    let c := Config.bramConfig key e.1
    let r := Config.bramRegs key e.1
    { epoch := e.1, blank := false, shapeA := c.1 % 7, shapeB := c.2.1 % 7, modeA := c.2.2.1 % 3, modeB := c.2.2.2 % 3, regA := r.1, regB := r.2.1 }

/-- A 36-bit word of a block RAM. -/
def bramWord (key : Nat) (b : Bram) (i : Nat) : BitVec 36 :=
  (tget none b.words i).getD (if b.blank then 0#36 else Config.bramContent key b.epoch i)

/-- A bit of a block RAM. -/
def bramGet (key : Nat) (b : Bram) (i : Nat) : Bool := bitOf (bramWord key b (i / 36)) (i % 36)

/-- Set a bit. -/
def bramSet (key : Nat) (b : Bram) (i : Nat) (v : Bool) : Bram :=
  { b with words := tset none b.words (i / 36) (some (setFld (bramWord key b (i / 36)) (i % 36) (i % 36) (b2n v))) }

/-- The bits of an access, lowest first. -/
def bramBits (sh a : Nat) : List Nat := (List.range (shapeWidth sh)).map (bramBit sh a)

/-- The word an access reads. -/
def bramRead (key : Nat) (b : Bram) (sh a : Nat) : Nat :=
  ((bramBits sh a).zipIdx).foldl (fun n x => n + b2n (bramGet key b x.1) * 2 ^ x.2) 0

/-- Write a word. -/
def bramWrite (key : Nat) (b : Bram) (sh a : Nat) (v : Nat) : Bram :=
  ((bramBits sh a).zipIdx).foldl (fun b x => bramSet key b x.1 (decide (v / 2 ^ x.2 % 2 = 1))) b

/-- Data out of an access with the overlapped bits replaced by open ones (R273). -/
def bramMix (mine other : List Nat) (v free : Nat) : Nat :=
  (mine.zipIdx).foldl (fun n x => n + (if hasElem other x.1 then free / 2 ^ x.2 % 2 else v / 2 ^ x.2 % 2) * 2 ^ x.2) 0

/-- Data out of a port after its access (R272). -/
def bramOut (mode : Nat) (old new : Nat) (wr : Bool) (prev : BitVec 72) : BitVec 72 :=
  if !wr then BitVec.ofNat 72 old
  else match mode with
    | 0 => BitVec.ofNat 72 old
    | 1 => BitVec.ofNat 72 new
    | _ => prev

/-- A port's data out and BUSY a clock on: with the output register they pass through it (R272, R273). -/
def bramClock (reg : Bool) (mid now : BitVec 72 × Bool) : (BitVec 72 × Bool) × (BitVec 72 × Bool) := if reg then (now, mid) else (mid, now)

/-- Port B is the later port of a collision: on one clock net always, else the manual leaves it open here (R273). -/
def laterB (key free : Nat) (b : Bram) : Bool := (Config.bramRegs key b.epoch).2.2 || decide (free / 4 % 2 = 0)

/-- An access at each port, `near` within the collision window (R271 to R273). In the 72-bit shape port A only writes and port B
only reads. -/
def bramStep (key free : Nat) (b : Bram) (a c : Option BramAcc) (near : Bool) : Bram :=
  let sdp := decide (b.shapeA = 6 ∨ b.shapeB = 6)
  let sa := b.shapeA
  let sb := b.shapeB
  let bitsA := match a with | some x => bramBits sa x.addr | none => []
  let bitsB := match c with | some x => bramBits sb x.addr | none => []
  let wa := match a with | some x => x.wr | none => none
  let wb := if sdp then none else match c with | some x => x.wr | none => none
  let hit := near && bitsA.any (fun i => hasElem bitsB i)
  let coll := hit && (wa.isSome || wb.isSome)
  let oldA := match a with | some x => bramRead key b sa x.addr | none => 0
  let oldB := match c with | some x => bramRead key b sb x.addr | none => 0
  let first := coll && wa.isSome && wb.isSome && decide (free % 2 = 1)
  let putA := fun (b : Bram) => match a, wa with | some x, some v => bramWrite key b sa x.addr v.toNat | _, _ => b
  let putB := fun (b : Bram) => match c, wb with | some x, some v => bramWrite key b sb x.addr v.toNat | _, _ => b
  let b1 := if first then putA (putB b) else putB (putA b)
  let rdA := if coll && wa.isNone then bramMix bitsA bitsB oldA (free / 8) else oldA
  let rdB := if coll && wb.isNone then bramMix bitsB bitsA oldB (free / 8) else oldB
  let lastA := if b.regA then b.midA.1 else b.outA
  let lastB := if b.regB then b.midB.1 else b.outB
  let nowA := match a with
    | some _ => if sdp then lastA else bramOut b.modeA rdA ((wa.map (fun v => v.toNat % 2 ^ shapeWidth sa)).getD 0) wa.isSome lastA
    | none => lastA
  let nowB := match c with
    | some _ => bramOut b.modeB rdB ((wb.map (fun v => v.toNat % 2 ^ shapeWidth sb)).getD 0) wb.isSome lastB
    | none => lastB
  let x := bramClock b.regA b.midA (nowA, hit && !laterB key free b)
  let y := bramClock b.regB b.midB (nowB, hit && laterB key free b)
  { b1 with midA := x.1, outA := x.2.1, busyA := x.2.2, midB := y.1, outB := y.2.1, busyB := y.2.2 }

/-- BRAM_ACCESS (R272). -/
def execBramAccess (pos : Fin 4) (block : Fin 5400) (a : Option BramAcc) (b : Option BramAcc) (near : Bool) (s : State) :
    Host.Outcome State Fault Refusal :=
  let r := bramRegion block.val
  if regionRuns s pos.val r.1 r.2 then
    let key := 5400 * pos.val + block.val
    let f := freeValue s
    let x := bramStep key f.1.toNat (bramView s pos.val block.val) a b near
    .next (modFab f.2 (fun e => { e with brams := tset {} e.brams key x }))
  else .next s

/-! ## Fabric events and plot watchdogs (R381, R423) -/

/-- Event source of the fabric event output of region r of a die, die-local 8ly + lx. -/
def regionSrc (pos r : Nat) : Nat :=
  let l := localXY pos (r % 8) (r / 8)
  160 * pos + 8 * l.2 + l.1

/-- The region r (package 8y + x) of a die is clocked. -/
def regionClocked (s : State) (pos r : Nat) : Bool :=
  let l := localXY pos (r % 8) (r / 8)
  regionRuns s pos l.1 l.2

/-- FABRIC_EVENT_OUTPUT (R381): a low-to-high transition raises; the source is active while the output is high. -/
def execFabricEventOutput (pos : Fin 4) (region : Fin 64) (s : State) : Host.Outcome State Fault Refusal :=
  let i := regionSrc pos.val region.val
  if regionClocked s pos.val region.val && !(srcAt s i).active then .next (modSrc (raise s i) i (fun c => { c with active := true }))
  else .next s

/-- FABRIC_EVENT_OUTPUT_FALL (R381). -/
def execFabricEventOutputFall (pos : Fin 4) (region : Fin 64) (s : State) : Host.Outcome State Fault Refusal :=
  .next (modSrc s (regionSrc pos.val region.val) (fun c => { c with active := false }))

/-- PLOT_WATCHDOG_KICK (R423): the count restarts from one full period. -/
def execPlotWatchdogKick (pos : Fin 4) (region : Fin 64) (s : State) : Host.Outcome State Fault Refusal :=
  if regionClocked s pos.val region.val then
    .next (modDbg s (fun d => { d with kicked := withElem d.kicked (64 * pos.val + region.val) }))
  else .next s

/-- PLOT_WATCHDOG_EXPIRY (R423): a pulse of the region's event output, which raises its source unless the output is high. The
count stops while the region is not clocked. -/
def execPlotWatchdogExpiry (pos : Fin 4) (region : Fin 64) (s : State) : Host.Outcome State Fault Refusal :=
  let i := regionSrc pos.val region.val
  if regionClocked s pos.val region.val then
    let s1 := modDbg s (fun d => { d with kicked := without d.kicked (64 * pos.val + region.val) })
    .next (if (srcAt s i).active then s1 else raise s1 i)
  else .next s

end Machine
end Sys2Proof
end

