-- ==== Sys2Proof/Machine/PortOps.lean ====
section
/-! DEFINITION. The links of the coherent ports: their lanes (R74), the messages they send to the partner (R102, R139), and what
a link does when it stops (R81, R86). -/

namespace Sys2Proof
namespace Machine

/-! ## Lanes -/

/-- First port lane and width of engine e in a row of the bifurcation table (R74); width 0: off. -/
def engineLanes (row e : Nat) : Nat × Nat :=
  match row, e with
  | 0, 0 => (0, 16)
  | 1, 0 => (0, 8)
  | 1, 1 => (8, 8)
  | 2, 0 => (0, 8)
  | 2, 1 => (8, 4)
  | 3, 0 => (0, 4)
  | 3, 1 => (8, 8)
  | 4, 0 => (0, 4)
  | 4, 1 => (8, 4)
  | 5, 0 => (0, 8)
  | 6, 0 => (0, 4)
  | _, _ => (0, 0)

/-- The lanes of link l under its port's bifurcation, as fabric lanes. -/
def linkLanes (s : State) (l : Nat) : List Nat :=
  let w := engineLanes (portAt s (l / 2)).bifRow (l % 2)
  (List.range w.2).map (fun k => 16 * (l / 2) + w.1 + k)

/-- The lanes in use at a width: from the lowest lane, or from the highest when reversed (R74). -/
def usedLanes (s : State) (l width : Nat) (reversed : Bool) : List Nat :=
  let ls := linkLanes s l
  if reversed then ls.drop (ls.length - width) else ls.take width

/-- The link that a fabric lane belongs to. -/
def linkOfLane (s : State) (f : Nat) : Option Nat :=
  if f < 128 then [2 * (f / 16), 2 * (f / 16) + 1].find? (fun l => hasElem (linkLanes s l) f) else none

/-- Active DFE taps of a lane's die (R41, R42). -/
def dieTaps (s : State) (f : Nat) : Nat :=
  if f < 128 then (if s.sys.eff.dfe16 && decide (0xC0 ≤ (dieAt s (portDie (f / 16))).rev) then 16 else 12) else 12

/-- A receiver adapts (R70): awake, equalized, not frozen; reach lanes have no equalization. -/
def adapts (f : Nat) (x : Lane) : Bool := (decide (128 ≤ f) || decide (x.eqPhases = 4 ∧ 3 ≤ x.rate)) && !x.frozen

/-- A receiver of a port's lane adapts now: not while its port runs a near-end loopback (R70). -/
def adaptsIn (s : State) (f : Nat) (x : Lane) : Bool := adapts f x && !(decide (f < 128) && (portAt s (f / 16)).nearEnd)

/-- A lane is awake at a rate. -/
def wakeLane (s : State) (rate : Nat) (reversed : Bool) (f : Nat) : State :=
  modLane s f (fun x => { x with
    rate := rate, reversed := reversed, rxSleep := false, txSleep := false, locked := true, los := false, lol := false,
    adapt := adaptsIn s f { x with rate := rate }, taps := dieTaps s f })

/-- A lane sleeps in both directions; it keeps its adapted values. -/
def sleepLane (s : State) (f : Nat) : State :=
  modLane s f (fun x => { x with
    rate := 0, rxSleep := true, txSleep := true, locked := false, adapt := false, taps := 0, reversed := false })

/-! ## Training (R69, R72, R74, R76) -/

/-- The widest width, up to the configured one, that a link can take from its lowest lane, or its highest when reversed, with every
lane good (R74); none where there is none. -/
def widest (s : State) (l : Nat) (reversed : Bool) (good : Nat → Bool) : Option Nat :=
  [16, 8, 4, 2, 1].find? (fun w => decide (w ≤ (linkLanes s l).length) && (usedLanes s l w reversed).all good)

/-- The highest rate a link steps up to (R76): the lower of its own and the partner's; 64 GT/s needs flit mode (R78), and under CXL a
256B flit format (R79). -/
def topRateOf (x : Link) (partner : Nat) (flit cxl : Bool) : Nat :=
  let m := min x.maxRate partner
  if m = 6 ∧ (flit = false ∨ (cxl = true ∧ x.flits / 2 % 4 = 0)) then 5 else m

/-- The next rate of the steps 2.5, 8, 16, 32, 64 GT/s; 5 GT/s is a step where it is the final rate (R76). -/
def nextRate (now_ top : Nat) : Nat := if now_ = 1 then (if top = 2 then 2 else 3) else now_ + 1

/-- The preset, of up to 11 tried, under which the eye is widest (R69). DESIGN CHOICE (log 191): of several equally wide, the lowest. -/
def widestEye (eyes : List Nat) : Nat :=
  (List.range (min 11 eyes.length)).foldl (fun b k => if eyes.getD b 0 < eyes.getD k 0 then k else b) 0

/-! ## Message units (R139) -/

/-- Put a field into a unit; width 0 puts nothing. -/
def putBits (u : BitVec 512) (off w v : Nat) : BitVec 512 := if w = 0 then u else setFld u (off + w - 1) off v

/-- The message unit of a header under a template (R139): `entry` is the tag-map entry where it has one. DESIGN CHOICE (log 202): TAGSRC 2 on
a template without ANSWER takes no entry, and the tag field is 0. -/
def formUnit (t : BitVec 128) (h : BitVec 128) (base entry : Nat) : BitVec 512 :=
  let u1 := putBits 0#512 (fld t 117 109) (fld t 108 106 + 1) (fld t 105 98)
  let u2 := putBits u1 (fld t 97 89) (fld t 88 83) (64 * mLine h / 2 ^ fld t 82 80)
  let u3 := match fld t 121 120 with
    | 1 => putBits u2 (fld t 79 71) (fld t 70 67 + 1) (mTag h)
    | 2 => putBits u2 (fld t 79 71) (fld t 70 67 + 1) entry
    | _ => u2
  let u4 := putBits u3 (fld t 66 58) (fld t 57 54) (mAgent h - base)
  let u5 := putBits u4 (fld t 53 45) (fld t 44 40) (fld t 39 24)
  if bitOf t 23 then putBits u5 (fld t 22 14) 1 (b2n (mPoison h)) else u5

/-- Header and template of a MSG packet at a port front. -/
def msgHdr (p : Packet) : BitVec 128 := BitVec.ofNat 128 p.hdr.toNat
/-- The template. -/
def msgTmpl (p : Packet) : BitVec 128 := BitVec.ofNat 128 (p.hdr.toNat / 2 ^ 128)

/-- The slice whose tracker a message belongs to: the one that sent it, or for a line that a Kaolin front forwards its home (R132). -/
def trkSlice (s : State) (p : Packet) : Nat := match attOf p.src with | .slice i => i | _ => homeSlice s (mLine (msgHdr p))

/-- A message leaves on a link; none: the tag map is full and it waits (R102). DESIGN CHOICE (log 142): it takes the lowest free
entry of the tag map. -/
def linkSend (s : State) (l : Nat) (p : Packet) : Option State :=
  let t := msgTmpl p
  let h := msgHdr p
  let x := linkAt s l
  let base := tget 0 s.pce.linkBase l
  let data := if p.data = [] then none else some p.data
  let unit := fun (e : Nat) => ({ cls := fld t 126 123, len := fld t 12 7 + 1, bits := formUnit t h base e, data := data, poison := p.poison } : SentUnit)
  let viral := fun (s : State) => if bitOf t 13 then modLink s l (fun x => { x with viralSent := true }) else s
  if bitOf t 122 then
    match (List.range 4096).find? (fun e => decide (tget none x.tags e = none)) with
    | none => none
    | some e => some (viral (modLink s l (fun x => { x with
        tags := tset none x.tags e (some (trkSlice s p, mTrk h, mTgen h))
        waiting := x.waiting ++ [(e, p)]
        sent := x.sent ++ [unit e] })))
  else some (viral (modLink s l (fun x => { x with sent := x.sent ++ [unit 0] })))

/-- The link transmits: L0, or an Insecure link, which discards only what it receives (R86). -/
def linkSends (x : Link) : Bool := decide (x.state = .l0) || decide (x.state = .insecure)

/-- Send messages that a link held, each in its turn. One that needs a tag-map entry and finds none free waits, and behind it those of its
source and class, for no other has an order to it (R102, R149). -/
def linkPumpGo : List Packet → State → Nat → State
  | [], s, _ => s
  | p :: ps, s, l =>
    let keep := modLink s l (fun x => { x with heldMsgs := x.heldMsgs ++ [p] })
    if (linkAt s l).heldMsgs.any (fun q => decide (q.src = p.src ∧ q.cls = p.cls)) then linkPumpGo ps keep l
    else match linkSend s l p with
      | none => linkPumpGo ps keep l
      | some s1 => linkPumpGo ps (freeBuffer s1 p.dst p.cls) l

/-- Send what a link holds, if it transmits (R84). -/
def linkPump (s : State) (l : Nat) : State :=
  if linkSends (linkAt s l) && !(linkAt s l).holding then
    linkPumpGo (linkAt s l).heldMsgs (modLink s l (fun x => { x with heldMsgs := [] })) l
  else s

/-- PORT_DOWN (R81): the error response to a message, at the slice that sent it or for which a front did; one that awaits no answer
is discarded there. -/
def portDownTo (s : State) (p : Packet) : State :=
  inject s { completionOf p 0x07 with
    dst := (match attOf p.src with | .front _ _ => sliceNode (trkSlice s p) | _ => p.src)
    tag := if bitOf (msgTmpl p) 122 then p.tag else noTag }

/-- A MSG packet that has come to a port front (R81, R84): it waits in its buffer until the link sends it. An error response of a slice is
discarded (R117): no template forms a message of it for the partner (log 187). -/
def portMsg (s : State) (p : Packet) : State :=
  let l := mLink (msgHdr p)
  let x := linkAt s l
  if p.status ≠ 0 then freeBuffer s p.dst p.cls
  else if linkSends x || x.holding || decide (x.state = .recovery) then
    linkPump (modLink s l (fun x => { x with heldMsgs := x.heldMsgs ++ [p] })) l
  else portDownTo (freeBuffer s p.dst p.cls) p

/-- What a link holds for its partner ends with PORT_DOWN, and what it holds of the partner's ends with an error (R81): the messages
sent and not answered, those not sent, the configuration requests, the units a held decoder has not taken. -/
def failHeld (s : State) (l : Nat) : State :=
  let x := linkAt s l
  let s1 := modLink s l (fun x => { x with
    heldMsgs := [], waiting := [], tags := [], holding := false, cfgReqs := [], cfgDone := x.cfgDone ++ x.cfgReqs.map (fun q => (q.2, none)) })
  let s2 := modPort s1 (l / 2) (fun y => { y with heldUnits := y.heldUnits.filter (fun u => decide (u.engine.val ≠ l % 2)) })
  let s3 := x.heldMsgs.foldl (fun s p => freeBuffer s p.dst p.cls) s2
  (x.waiting.map (·.2) ++ x.heldMsgs).foldl portDownTo s3

/-- A link with IDE on becomes Insecure, with the IDE event (R86). -/
def ideInsecure (s : State) (l : Nat) : State :=
  let x := linkAt s l
  if x.ide && !x.insecure then
    raise (modLink s l (fun x => { x with insecure := true, state := if x.state = .l0 then .insecure else x.state })) (linkSrc l)
  else s

/-- A link goes to Down (R81, R86); under its port's drain its share is complete (R83). -/
def linkToDown (s : State) (l : Nat) : State :=
  let s1 := failHeld s l
  ideInsecure (modLink s1 l (fun x => { x with state := .down, width := 0, rate := 0, power := .active, settled := false, drained := quiescing s (.port (l / 2)) })) l

/-- A link is taken to Disabled: its lanes sleep; one with IDE on that was up is Insecure (R86). -/
def linkOff (s : State) (l : Nat) : State :=
  let x := linkAt s l
  let s1 := failHeld (if linkSends x || decide (x.state = .recovery) then ideInsecure s l else s) l
  (linkLanes s1 l).foldl sleepLane (modLink s1 l (fun x => { x with state := .disabled, width := 0, rate := 0, power := .active, settled := false }))

/-- Every coherent link goes to Disabled and every reach lane to idle (R294, R296). -/
def linksOff (s : State) : State :=
  let s1 := (List.range 16).foldl linkOff s
  let s2 := (List.range 8).foldl (fun s n => modPort s n (fun x => { x with bifRow := 7 })) s1
  (List.range 32).foldl (fun s j => sleepLane (modReach s j (fun x => { x with mode := 0, buf := [], tx := [], filler := none })) (128 + j)) s2

/-- A link starts training (R76). -/
def linkStart (s : State) (l : Nat) (holding : Bool) : State :=
  modLink s l (fun x => { x with state := .training, width := 0, rate := 0, settled := false, holding := holding })

end Machine
end Sys2Proof
end

