-- ==== Sys2Proof/Machine/Pce.lean ====
section
/-! DEFINITION. The commands of the coherence engine: decoders, evaluation, trackers, emissions; the producer, consumer and
coherent ports of NAUs; the Grain dispatcher's own steps. -/

namespace Sys2Proof
namespace Machine

/-! ## Decoders (R100 to R102) -/

/-- w bits of a message unit at an offset. -/
def unitBits (u : BitVec 512) (off w : Nat) : Nat := u.toNat / 2 ^ off % 2 ^ w

/-- A descriptor matches a unit: VALID, class, masked match field (R100). -/
def descMatches (d : BitVec 128) (cls : Nat) (u : BitVec 512) : Bool :=
  bitOf d 127 && decide (fld d 126 123 = cls) &&
  decide (Nat.land (unitBits u (fld d 122 114) 16) (fld d 97 82) = Nat.land (fld d 113 98) (fld d 97 82))

/-- The lowest-indexed matching descriptor. -/
def findDesc (b : Bank) (cls : Nat) (u : BitVec 512) : Option (BitVec 128) :=
  ((List.range 64).map (bkDesc b)).find? (fun d => descMatches d cls u)

/-- Agent of a unit (R100, AGT_SEL). -/
def descAgent (s : State) (d : BitVec 128) (l : Nat) (u : BitVec 512) : Nat :=
  let base := tget 0 s.pce.linkBase l
  let f := unitBits u (fld d 28 20) (fld d 19 16)
  match fld d 30 29 with
  | 1 => base + f
  | 2 => f
  | _ => base

/-- The address that an HDM decoder of the link gives (R79), for CXL.mem requests of a host to an endpoint or upstream link; an address
that no decoder covers passes as it is (DESIGN CHOICE, log 150). -/
def hdmAddr (x : Link) (cls a : Nat) : Nat :=
  if (x.role = 2 ∨ x.role = 3) ∧ (cls = 6 ∨ cls = 7) then
    match ((List.range 8).filterMap (fun k => tget none x.hdm k)).find? (fun r => r.on && decide (r.base ≤ a ∧ a < r.base + r.size)) with
    | some r => a - r.base + r.target
    | none => a
  else a

/-- Line address of a unit: the field placed at ADDR_LSB, decoded, bits [5:0] discarded. -/
def descLine (x : Link) (d : BitVec 128) (u : MsgUnit) : Nat :=
  hdmAddr x u.cls (unitBits u.bits (fld d 61 53) (fld d 52 47) * 2 ^ fld d 46 44 % 2 ^ 52) % 2 ^ 52 / 64

/-- Payload of a unit and its length in 8-byte units (R100, PAY): the attached data unit, or the bytes after the 16-byte header slot,
as many as the unit has. -/
def descPayload (d : BitVec 128) (u : MsgUnit) : Option (List Line) × Nat :=
  match fld d 15 14 with
  | 1 => (some (u.attached.getD []), 8 * (u.attached.getD []).length)
  | 2 => if u.len.val ≤ 16 then (none, 0) else (some [BitVec.ofNat 512 (u.bits.toNat / 2 ^ 128 % 2 ^ (8 * (u.len.val - 16)))], (u.len.val - 9) / 8)
  | _ => (none, 0)

/-- Count a decode miss or agent-range fault of a link and raise its event (R101). -/
def decodeMiss (s : State) (l : Nat) : State := raise (modLink s l (fun x => { x with miss := ctrInc x.miss })) (linkSrc l)
/-- R101. -/
def agentRange (s : State) (l : Nat) : State := raise (modLink s l (fun x => { x with agentFault := ctrInc x.agentFault })) (linkSrc l)

/-- A decoded message leaves its source: a new request is held while its agent is under quiesce (R122). -/
def sendDecoded (s : State) (p : Packet) : State :=
  let h := BitVec.ofNat 128 p.hdr.toNat
  if newRequest s h && agentHeld s (mAgent h) then modPce s (fun x => { x with held := x.held ++ [p] }) else inject s p

/-- The packet of a decoded message to a slice. -/
def decodedPacket (src slice plot : Nat) (h : BitVec 128) (cls : Cls) (data : List Line) : Packet :=
  { mkPacket src (sliceNode slice) cls 0x08 with
    plot := plot, addr := 64 * mLine h, poison := mPoison h, hdr := BitVec.ofNat 384 h.toNat, data := data }

/-- The Silt class of a decoded message: REQ for a request; RSP or DAT for an answer. DEDUCED (log 188): an answer that carries an address goes
as a tag-routed one does, since answers always sink (R116). -/
def decodedCls (s : State) (h : BitVec 128) (data : Bool) : Cls := if newRequest s h then .req else if data then .dat else .rsp

/-- A unit routed by its tag (R102): to the tracker its tag-map entry names, or stray. -/
def tagRouted (s : State) (port l : Nat) (d : BitVec 128) (u : MsgUnit) (h : Nat → Nat → BitVec 128) (pay : Option (List Line)) : State :=
  let tag := unitBits u.bits (fld d 43 35) (fld d 34 31 + 1)
  match tget none (linkAt s l).tags tag with
  | none => raise (modLink s l (fun x => { x with stray := ctrInc x.stray })) (linkSrc l)
  | some (i, t, g) =>
    let s1 := modLink s l (fun x => { x with tags := tset none x.tags tag none, waiting := x.waiting.filter (fun w => decide (w.1 ≠ tag)) })
    inject s1 (decodedPacket (portNode port) i 0 (h t g) (if pay.isSome then .dat else .rsp) (pay.getD []))

/-- The descriptor that a port's decoder uses for a unit, in the active bank of the port's profile. -/
def unitDesc (s : State) (port : Nat) (u : MsgUnit) : Option (BitVec 128) :=
  ((portAt s port).profile.bind (activeBank s)).bind (fun b => findDesc b u.cls u.bits)

/-- The header of a decoded unit with an address, or of a tag-routed one for a tracker (R82: a viral link poisons every message). -/
def unitHdr (s : State) (port : Nat) (d : BitVec 128) (u : MsgUnit) (trk : Option (Nat × Nat)) : BitVec 128 :=
  let l := 2 * port + u.engine.val
  let x := linkAt s l
  let pay := descPayload d u
  let ty := (fld d 69 62 + unitBits u.bits (fld d 81 73) (fld d 72 70 + 1)) % 256
  let tag := unitBits u.bits (fld d 43 35) (fld d 34 31 + 1)
  let pois := u.poison || (bitOf d 13 && decide (unitBits u.bits (fld d 12 4) 1 = 1)) || x.viral
  match trk with
  | some (t, g) => mkHdr (descAgent s d l u.bits) ty 0 tag l pois x.viral pay.1.isSome 0 t true pay.2 g
  | none => mkHdr (descAgent s d l u.bits) ty (descLine x d u) tag l pois x.viral pay.1.isSome 0 0 false pay.2 0

/-- A port hands its decoder one message unit (R100, R101, R102); a new request of the partner in sink mode is answered with SINK
(R202). -/
def decodeUnit (s : State) (port : Nat) (u : MsgUnit) : State :=
  let l := 2 * port + u.engine.val
  match unitDesc s port u with
  | none => decodeMiss s l
  | some d =>
    let a := descAgent s d l u.bits
    let base := tget 0 s.pce.linkBase l
    if a < base ∨ base + tget 0 s.pce.linkCount l ≤ a then agentRange s l
    else
      let pay := (descPayload d u).1
      if fld d 52 47 = 0 then tagRouted s port l d u (fun t g => unitHdr s port d u (some (t, g))) pay
      else
        let h := unitHdr s port d u none
        if s.silt.sink && newRequest s h then modLink s l (fun x => { x with sunk := x.sunk ++ [h] })
        else sendDecoded s (decodedPacket (portNode port) (targetSlice s (portDie port) (mLine h)) 0 h (decodedCls s h pay.isSome) (pay.getD []))

/-- The port's decoder holds new requests: its profile number is under a swap (R144), or the port is under quiesce and its partners
get no request credits (R83). -/
def decoderHeld (s : State) (port : Nat) : Bool := (portAt s port).profile.any (profileHeld s) || quiescing s (.port port)

/-- The unit carries an answer: it is routed by its tag, or of a type that the agent's profile calls an answer (R127). -/
def unitAnswers (s : State) (port : Nat) (u : MsgUnit) : Bool :=
  match unitDesc s port u with
  | some d => decide (fld d 52 47 = 0) || !newRequest s (unitHdr s port d u none)
  | none => false

/-- A unit comes to a port's decoder: what is not an answer waits while the decoder is held. -/
def takeUnit (s : State) (port : Nat) (u : MsgUnit) : State :=
  if decoderHeld s port && !unitAnswers s port u then modPort s port (fun x => { x with heldUnits := x.heldUnits ++ [u] })
  else decodeUnit s port u

/-- Decoders no longer held take what waited, in order (R83, R144). -/
def releaseUnits (s : State) : State :=
  (List.range 8).foldl (fun s n =>
    if decoderHeld s n then s
    else (portAt s n).heldUnits.foldl (fun s u => decodeUnit s n u) (modPort s n (fun x => { x with heldUnits := [] }))) s

/-- The link carries the protocol of a unit's class (R75, R79, R100): CXL was chosen, and .cache or .mem is enabled for it. -/
def carriesClass (x : Link) (cls : Nat) : Bool :=
  x.cxl && (if cls ≤ 5 then decide (x.proto / 4 % 2 = 1) else if cls ≤ 11 then decide (x.proto / 8 % 2 = 1) else true)

/-- DECODE (R100): a unit of a link in L0, of a protocol that the link carries, reaches the port's decoder. -/
def execDecode (port : Fin 8) (u : MsgUnit) (s : State) : Host.Outcome State Fault Refusal :=
  if portUp s port.val = true ∧ (linkAt s (2 * port.val + u.engine.val)).state = .l0 ∧
      carriesClass (linkAt s (2 * port.val + u.engine.val)) u.cls = true then
    .next (linkPump (takeUnit s port.val u) (2 * port.val + u.engine.val))
  else .next s

/-! ## Slices -/

/-- A CONTINUE chain is under way in the slice: the rule cycle is the chain's (R134). -/
def chainPending (s : State) (i : Nat) : Bool := (sliceAt s i).trks.any (fun kv => kv.2.chain.isSome && decide (kv.2.state = .eval))

/-- The slice is present, and its emission unit has room; a full queue holds the evaluator back (R29, R137). -/
def sliceReady (s : State) (i : Nat) : Bool := dieUp s (sliceDie i) && decide ((sliceAt s i).emits.length < 64)

/-- The slice's evaluator can take a message. -/
def evaluatorFree (s : State) (i : Nat) : Bool := sliceReady s i && !chainPending s i

/-- A new request needs an eviction for which no reserved tracker is free: it waits in the intake behind the engine's work (R117). -/
def evictionBlocked (s : State) (i : Nat) (m : SliceMsg) : Bool :=
  decide (32 ≤ reservedBusy s i) && newRequest s m.hdr && (homeFor s (mLine m.hdr)).isSome && !m.homeLost && (admitFail s i m).isNone &&
  (match makeRoom s i (mLine m.hdr) with
   | .blocked _ => true
   | _ => false)

/-- A new request that waits in the intake, while what stands behind it of other agents passes: it finds every parking entry full and would
need one (R116), or no reserved tracker free (R117). -/
def intakeWaits (s : State) (i : Nat) (m : SliceMsg) : Bool :=
  decide (m.tag < 65536) &&
  ((decide (256 ≤ (sliceAt s i).parked.length) && newRequest s m.hdr && (!mayTake s i (mAgent m.hdr) || hasParked s i (mAgent m.hdr))) ||
   evictionBlocked s i m)

/-- EVALUATE (R125): the slice takes the first message of its intake that it can take. -/
def execEvaluate (slice : Fin 16) (s : State) : Host.Outcome State Fault Refusal :=
  match (sliceAt s slice.val).intake.find? (fun m => !intakeWaits s slice.val m) with
  | none => .next s
  | some m =>
    if evaluatorFree s slice.val then
      .next (handleMsg (modSlice s slice.val (fun x => { x with intake := dropFirst x.intake m })) slice.val m false)
    else .next s

/-- The CONTINUE target group on the same tracker and message (R134, R125). -/
def continueOn (s : State) (i t : Nat) : State :=
  let x := trkAt s i t
  match x.chain, x.msg, activeBank s x.profile with
  | some (g, cnt, usel), some m, some b =>
    let s0 := modTrk s i t (fun y => { y with chain := none })
    let e : Ev := {
      slice := i, trk := some t, msg := m, typ := x.chainTyp, isNew := x.chainNew, line := x.line, home := homeFor s x.line,
      prof := x.profile, last := decide (x.pend = 0), engine := x.agent.isNone }
    let d := dirView s0 i x.line e.home
    let pv := predVector s0 e d (decide (bkStates b ≤ d.state)) usel
    match matchGroup b pv g cnt with
    | some r => doWord (modProfile s0 x.profile (fun p => { p with hits := tmod {} p.hits (b.base + r.1) ctrInc })) e b d r.2 usel
    | none => runRule (profFault s0 i x.profile 0) { e with typ := bkFault b }
  | _, _, _ => s

/-- CONTINUE (R134). -/
def execContinueChain (slice : Fin 16) (trk : Fin 1024) (s : State) : Host.Outcome State Fault Refusal :=
  if (trkAt s slice.val trk.val).state = .eval ∧ (trkAt s slice.val trk.val).chain.isSome = true ∧ sliceReady s slice.val = true then
    .next (continueOn s slice.val trk.val)
  else .next s

/-- The evaluation of a tracker that waited (R113, R115): its message as a new request. -/
def waitedEv (s : State) (i t : Nat) (m : SliceMsg) : Ev :=
  { evOf s i m with trk := some t, prof := (trkAt s i t).profile, engine := (trkAt s i t).agent.isNone }

/-- DIRECTORY_FETCH_COMPLETE (R113): the entry arrives from its backing, and the waiting tracker is evaluated. -/
def execDirectoryFetchComplete (slice : Fin 16) (trk : Fin 1024) (status : Byte) (s : State) : Host.Outcome State Fault Refusal :=
  let i := slice.val
  let t := trk.val
  let x := trkAt s i t
  if x.state = .waitMem ∧ evaluatorFree s i = true then
    match x.msg, homeFor s x.line with
    | some m, some (_, e) =>
      match makeRoom s i x.line with
      | .wait s1 => .next (roomWait s1 (waitedEv s1 i t m))
      | .blocked s1 => .next s1
      | .ready s1 =>
        let s2 := if (dirCached s1 i x.line).isSome then s1 else placeEntry s1 i x.line status.toNat e
        .next (evalHere (modTrk s2 i t (fun y => { y with state := .eval })) (waitedEv s2 i t m))
    | some m, none => .next (runRule (modTrk s i t (fun y => { y with state := .eval })) (waitedEv s i t m))
    | none, _ => .next s
  else .next s

/-- LOCK_QUEUE_HEAD (R115): a waiting tracker at the head of its line's queue is evaluated again, when no other tracker holds the lock. -/
def execLockQueueHead (slice : Fin 16) (trk : Fin 1024) (s : State) : Host.Outcome State Fault Refusal :=
  let i := slice.val
  let t := trk.val
  match (trkAt s i t).msg with
  | some m =>
    if (trkAt s i t).state = .waitLock ∧ hasAhead s i t = false ∧ evaluatorFree s i = true ∧
        (lockHolder s i (trkAt s i t).line = none ∨ lockHolder s i (trkAt s i t).line = some t) then
      .next (evalNew (modTrk s i t (fun y => { y with state := .eval, head := true })) (waitedEv s i t m))
    else .next s
  | none => .next s

/-- DELIVERY_REPORT (R114). -/
def execDeliveryReport (slice : Fin 16) (trk : Fin 1024) (status : Byte) (s : State) : Host.Outcome State Fault Refusal :=
  .next (deliveryReport s slice.val trk.val status.toNat (decide ((trkAt s slice.val trk.val).deliver = 0)))

/-- PARKED_REQUEST_SERVE (R116): the first parked request whose agent may take a tracker is handled. -/
def execParkedRequestServe (slice : Fin 16) (s : State) : Host.Outcome State Fault Refusal :=
  match (sliceAt s slice.val).parked.find? (fun m => mayTake s slice.val (mAgent m.hdr)) with
  | some m =>
    if evaluatorFree s slice.val then
      .next (handleMsg (modSlice s slice.val (fun x => { x with parked := dropFirst x.parked m })) slice.val m true)
    else .next s
  | none => .next s

/-- EMISSION (R137): two messages of the queue leave; none in sink mode (R202). -/
def execEmission (slice : Fin 16) (s : State) : Host.Outcome State Fault Refusal :=
  if s.silt.sink then .next s
  else
    let i := slice.val
    let two := (sliceAt s i).emits.take 2
    .next (refillEmits (two.foldl (fun s em => sendEmit s i em) (modSlice s i (fun x => { x with emits := x.emits.drop 2 }))) i)

/-- The evaluation that a timeout or a refusal of an escalation brings about (R121, R170). -/
def escalationEnds (s : State) (i t st : Nat) : State :=
  let x := trkAt s i t
  let m : SliceMsg := {
    hdr := mkHdr (x.agent.getD 0) 0 x.line 0 0 false false false 2 t true 0 x.gen, data := none, status := st,
    homeLost := false, stamp := 0, responder := x.agent, timeout := true, mem := false, src := sliceNode i, tag := 0, counted := false }
  endGrainWait s i t m

/-- ESCALATION_TIMEOUT (R121): ESC_TO of the agent has passed; 15 never does. -/
def execEscalationTimeout (slice : Fin 16) (trk : Fin 1024) (s : State) : Host.Outcome State Fault Refusal :=
  let x := trkAt s slice.val trk.val
  if x.state = .waitGrain ∧ aEscTo (agentAt s (x.agent.getD 0)) ≠ 15 then .next (escalationEnds s slice.val trk.val 0) else .next s

/-- A drop notice reaches a slice (R171): a refusal of status CONSUMER_RESET, or stray. -/
def dropNotice (s : State) (i t g st : Nat) : State :=
  if (trkAt s i t).state = .waitGrain ∧ (trkAt s i t).gen = g then escalationEnds s i t st else strayAt s i

/-- DROP_NOTICE (R171). -/
def execDropNotice (slice : Fin 16) (trk : Fin 1024) (tgen : Fin 16) (status : Byte) (s : State) : Host.Outcome State Fault Refusal :=
  .next (dropNotice s slice.val trk.val tgen.val status.toNat)

/-! ## Ports of NAUs (R160 to R166, R290 to R292) -/

/-- An NAU is fitted, up, and not a dead target. -/
def nauUp (s : State) (n : Nat) : Bool := attUp s n && (nauNumber n).isSome

/-- NAU_REQUEST (R190). -/
def execNauRequest (node : Fin 1024) (r : NauReq) (s : State) : Host.Outcome State Fault Refusal :=
  if nauUp s node.val then .next (nauAccept s node.val r) else .next s

/-- A configuration request of a link of the port ends (R75): a value, or none for an error. -/
def cfgDoneAt (s : State) (n tag : Nat) (v : Option Nat) : State :=
  [2 * n, 2 * n + 1].foldl (fun s l =>
    match (linkAt s l).cfgReqs.find? (fun q => decide (q.1 = tag)) with
    | some q => modLink s l (fun x => { x with
        cfgReqs := x.cfgReqs.filter (fun y => decide (y.1 ≠ tag)), cfgDone := x.cfgDone ++ [(q.2, v)], cfgSent := tset 0 x.cfgSent tag 0 })
    | none => s) s

/-- The wait of a front for a delivery that it is to report has passed 1 ms (R132, R189): it reports TIMEOUT. -/
def fwdTimeout (s : State) (n pos lx tag : Nat) : State :=
  match (frontAt s pos lx).fwds.find? (fun x => decide (x.tag = tag ∧ x.sent + 1000000 ≤ now s)) with
  | none => s
  | some x => (fwdDelivered (noteDelivered s n tag) pos lx { mkPacket n n .rsp 0x12 with status := 0x14, tag := x.tag, addr := x.addr }).getD s

/-- The wait of the configuration manager for a frame writer's answer has passed 1 ms (R189). -/
def frameTimeout (s : State) (tag : Nat) : State :=
  modCfg s (fun c => { c with passed := c.passed.filter (fun x => !decide (x.1 = tag ∧ x.2 + 1000000 ≤ now s)) })

/-- ANSWER_TIMEOUT (R189): at an NAU, a slice, a port front that waits for a configuration answer, a Kaolin front that waits for a delivery, or
the configuration manager. Grain quarters and the other blocks of the Marl die send nothing that they await an answer to. -/
def execAnswerTimeout (node : Fin 1024) (tag : Nat) (s : State) : Host.Outcome State Fault Refusal :=
  match attOf node.val with
  | .nau _ => .next (nauTimeout s node.val tag)
  | .slice i => .next (sliceTimeout s i tag)
  | .port n =>
    if [2 * n, 2 * n + 1].any (fun l => (linkAt s l).cfgReqs.any (fun q => decide (q.1 = tag)) &&
        decide (tget 0 (linkAt s l).cfgSent tag + 1000000 ≤ now s)) then .next (cfgDoneAt s n tag none) else .next s
  | .front p lx => .next (fwdTimeout s node.val p lx tag)
  | .cfgMgr => .next (frameTimeout s tag)
  | _ => .next s

/-- Bytes as lines of 64. -/
def linesOf : Nat → Bytes → List Line
  | 0, _ => []
  | n + 1, b => if b = [] then [] else lineOf b 0 :: linesOf n (b.drop 64)

/-- A message of fabric leaves by the coherent out port (R290); the slice checks its agent against the stamp (R102). In sink mode new requests
are refused, and answers still go (R202). -/
def coherentOut (s : State) (n : Nat) (h : BitVec 128) (data : Bytes) : State :=
  let pl := plotOfNau s n
  let la := mLine h
  let cls := decodedCls s h (decide (data ≠ []))
  if plotBlank s pl then portStatusSet s n 0x10
  else if s.silt.sink && newRequest s h then portStatusSet s n 0x11
  else
    let h1 := setFld h 38 37 1
    let p := { decodedPacket n (targetSlice s (nodeDie n) la) pl h1 cls (linesOf 4 data) with
      ctx := nauCtx (nauAt s n), panic := decide (cls = .req) && nauPanics (nauAt s n) }
    sendDecoded (portStatusSet s n 0) p

/-- A shell NAU answers a configuration request of a link (R293). -/
def cfgAnswer (s : State) (n : Nat) (h : BitVec 128) (data : Bytes) : Option State :=
  (List.range 16).findSome? (fun l =>
    if (linkAt s l).cfgNode = n ∧ (linkAt s l).cfgReqs.any (fun q => decide (q.1 = mTag h ∧ mLink h = l)) then
      some (modLink s l (fun x => { x with
        cfgDone := x.cfgDone ++ ((x.cfgReqs.filter (fun q => decide (q.1 = mTag h))).map (fun q => (q.2, some (leN data 0 4))))
        cfgReqs := x.cfgReqs.filter (fun q => decide (q.1 ≠ mTag h)) }))
    else none)

/-- COHERENT_OUT (R290, R293): while its plot is quiesced only answers pass (R318). -/
def execCoherentOut (node : Fin 1024) (header : BitVec 128) (data : Bytes) (s : State) : Host.Outcome State Fault Refusal :=
  if nauUp s node.val = true ∧ portsShut s node.val = false ∧ (plotQuiesced s node.val = false ∨ mTrkV header = true) then
    match cfgAnswer s node.val header data with
    | some s1 => .next s1
    | none => .next (coherentOut s node.val header data)
  else .next s

/-- PRODUCER_GRAIN (R160). -/
def execProducerGrain (node : Fin 1024) (flow : Fin 8192) (user : DWord) (pay : Option Line) (s : State) : Host.Outcome State Fault Refusal :=
  if nauUp s node.val = true ∧ portsHeld s node.val = false then .next (produce s node.val flow.val user pay) else .next s

/-- SLOT_OPEN (R162, R292). -/
def execSlotOpen (node : Fin 1024) (slot : Fin 256) (mask : DWord) (s : State) : Host.Outcome State Fault Refusal :=
  if nauUp s node.val = true ∧ portsHeld s node.val = false then
    if slotHolder s (nodeDie node.val) slot.val = some node.val then
      .next (portStatusSet (modEslot s (nodeDie node.val) slot.val (fun x => { x with isOpen := true, closing := false, mask := mask })) node.val 0)
    else .next (portStatusSet s node.val 0x12)
  else .next s

/-- SLOT_CLOSE (R162). -/
def execSlotClose (node : Fin 1024) (slot : Fin 256) (s : State) : Host.Outcome State Fault Refusal :=
  if nauUp s node.val = true ∧ portsHeld s node.val = false then
    if slotHolder s (nodeDie node.val) slot.val = some node.val then
      .next (portStatusSet (closeSlot s (nodeDie node.val) slot.val) node.val 0)
    else .next (portStatusSet s node.val 0x12)
  else .next s

/-- ENTRY_TAKE (R292): only an entry that shows valid is taken. -/
def execEntryTake (node : Fin 1024) (slot : Fin 256) (entry : Fin 3) (s : State) : Host.Outcome State Fault Refusal :=
  let p := nodeDie node.val
  match entryAt s p slot.val entry.val with
  | some x =>
    if nauUp s node.val = true ∧ portsHeld s node.val = false ∧ slotHolder s p slot.val = some node.val ∧ x.arrived = true ∧ x.taken = false ∧
        entry.val < slotEntries s then
      .next (setEntry s p slot.val entry.val (some { x with taken := true }))
    else .next s
  | none => .next s

/-- DIRECTIVE_WRITE (R152, R166): a quiesced plot's directives pass (R318). -/
def execDirectiveWrite (node : Fin 1024) (d : BitVec 128) (data : Option Line) (s : State) : Host.Outcome State Fault Refusal :=
  if nauUp s node.val = true ∧ portsShut s node.val = false then
    .next (directiveWrite s node.val d data)
  else .next s

/-- COHERENT_IN_ACCEPT (R291): the fabric accepts the answer or snoop that the coherent in port offers first. -/
def execCoherentInAccept (node : Fin 1024) (answer : Bool) (s : State) : Host.Outcome State Fault Refusal :=
  if answer then .next (modNau s node.val (fun u => { u with cohAns := u.cohAns.drop 1 }))
  else
    match (nauAt s node.val).cohSnp with
    | [] => .next s
    | p :: rest => .next (freeBuffer (modNau s node.val (fun u => { u with cohSnp := rest })) node.val p.cls)

/-! ## The Grain dispatcher (R163, R168) -/

/-- GRAIN_REFILL (R168). -/
def execGrainRefill (pos : Fin 4) (s : State) : Host.Outcome State Fault Refusal :=
  if quarterUp s pos.val = true ∧ (quarterAt s pos.val).spillHigh ≤ (freeOnChip s pos.val).length then
    match refillPick s pos.val with
    | some f => .next (refillGrains (modQuarter s pos.val (fun q => { q with nextRefill := tset 0 q.nextRefill (flowAt s f).prio (f + 1) })) f 32 [] (flowAt s f).q)
    | none => .next s
  else .next s

/-- SLOT_FILL (R163). -/
def execSlotFill (pos : Fin 4) (slot : Fin 256) (s : State) : Host.Outcome State Fault Refusal :=
  .next (fillSlot s pos.val slot.val)

/-! ## NAU registers (R191, R193) -/

/-- NAU_ERR_READ (R193): the RC register is cleared by the read. -/
def execNauErrRead (node : Fin 1024) (s : State) : Host.Outcome State Fault Refusal := .next (modNau s node.val (fun u => { u with err := 0#9 }))

/-- NAU_CNT_CLR (R193). -/
def execNauCntClr (node : Fin 1024) (v : Word) (s : State) : Host.Outcome State Fault Refusal :=
  .next (modNau s node.val (fun u => nauRegWrite u 0x03C v))

/-- NAU_RATE_WRITE (R191). -/
def execNauRateWrite (node : Fin 1024) (cls : Cls) (v : Word) (s : State) : Host.Outcome State Fault Refusal :=
  .next (modNau s node.val (fun u => nauRateSet u (clsCode cls) v))

/-- One microsecond of a regulator's refill (R191). -/
def rateRefill (g : Regul) : Regul := { g with tokens := max g.tokens (min (g.tokens + fld g.reg 23 8) (rateBurst g.reg)) }

/-- NAU_REGULATOR_REFILL (R191): every bucket gains RATE tokens, and what waited for them may leave. -/
def execNauRegulatorRefill (node : Fin 1024) (s : State) : Host.Outcome State Fault Refusal :=
  .next (nauServe (offerHeld (modNau s node.val (fun u => { u with
    rates := [0, 1, 2, 3].foldl (fun t c => tmod {} t c rateRefill) u.rates })) node.val) node.val)

end Machine
end Sys2Proof
end

