-- ==== Sys2Proof/Machine/PlotOps.lean ====
section
/-! DEFINITION. What happens to a whole plot: its reset, blank and destruction (R51, R52), its freeze and resume (R417, R420),
and the end of its debug session (R408). -/

namespace Sys2Proof
namespace Machine

/-! ## What a plot holds -/

/-- The NAUs of a holder that differ from their reset state or, of a plot, all of them. -/
def nausOf (s : State) (p : Nat) : List Nat :=
  if p = 0 then (s.silt.naus.map (·.1)).filter (fun n => decide (plotOfNau s n = 0)) else (plotAt s p).res.naus

/-- Granules of a window, as stack and granule. -/
def windowGranules (w : Window) : List (Nat × Nat) :=
  (List.range (2 ^ (w.sizeLog2 - 21))).map (fun i => (w.base / 0x200000000, w.base % 0x200000000 / 0x200000 + i))

/-- Granules of all windows of a plot. -/
def plotGranules (s : State) (p : Nat) : List (Nat × Nat) := (plotAt s p).res.windows.flatMap windowGranules

/-- A window of the plot stands at the limit of its unswept count (R251). -/
def plotAtLimit (s : State) (p : Nat) : Bool :=
  (plotGranules s p).any (fun g => decide ((tget {} (stackAt s g.1).granules g.2).unswept = 32767))

/-- A frame address lies in a range (R303). -/
def inRange (r : FrameRange) (a : Nat) : Bool :=
  decide (bits a 25 24 = r.die ∧ r.rowLo ≤ bits a 23 18 ∧ bits a 23 18 ≤ r.rowHi ∧ r.colLo ≤ bits a 17 8 ∧ bits a 17 8 ≤ r.colHi)

/-- A frame address lies in a plot's frame map. -/
def inMap (s : State) (p a : Nat) : Bool := (plotAt s p).res.ranges.any (fun r => inRange r a)

/-- The plot whose frame map holds a frame; 0 the shell. -/
def plotOfFrame (s : State) (a : Nat) : Nat := (plotWhere s (fun p => p.res.ranges.any (fun r => inRange r a))).getD 0

/-- Zero the listed frames with a property. -/
def zeroFrames (s : State) (f : Nat → Bool) : State :=
  modCfg s (fun c => { c with frames := c.frames.filter (fun kv => !f kv.1) })

/-- Draw fresh keys for key slots (R51, R60). -/
def freshKeys (s : State) (ks : List Nat) : State :=
  ks.foldl (fun s k => drawn (modVault s (fun v => { v with slotKeys := tset 0#256 v.slotKeys k ((drawOf s).truncate 256) })) 1) s

/-! ## Sessions -/

/-- The session bound to a plot. -/
def sessionOf (s : State) (p : Nat) : Option Nat :=
  (s.dbg.sessions.find? (fun kv => match kv.2 with | some x => decide (x.plot = p ∧ x.hz ≠ .o) | none => false)).map (·.1)

/-- Session of a number. -/
def sessionAt (s : State) (id : Nat) : Option Session := tget none s.dbg.sessions id

/-- Change a session. -/
def modSession (s : State) (id : Nat) (f : Session → Session) : State :=
  modDbg s (fun d => { d with sessions := tmod none d.sessions id (fun x => x.map f) })

/-- A session's units are cleared and its key zeroized. -/
def dropSession (s : State) (id : Nat) : State := modDbg s (fun d => { d with sessions := tset none d.sessions id none })

/-! ## Halt and resume (R417, R420) -/

/-- A tracker of an agent of the plot holds its line lock. -/
def trkLocks (s : State) (p : Nat) : List (Nat × Nat) :=
  (slicesUp s).flatMap (fun i => ((sliceAt s i).trks.filter (fun kv =>
    kv.2.lock && (match kv.2.agent with | some a => decide (plotOfAgent s a = p) | none => false))).map (fun kv => (i, kv.1)))

/-- Line locks held by NAUs of the plot. -/
def nauLocksOf (s : State) (p : Nat) : List LineLock := s.silt.locks.filter (fun l => decide (plotOfNau s l.node = p))

/-- The lock set of a plot is empty. -/
def lockSetEmpty (s : State) (p : Nat) : Bool := decide (nauLocksOf s p = []) && decide (trkLocks s p = [])

/-- Every region clock gate of the plot closes: it is Frozen, its flip-flops captured (R417, R419). -/
def closeGates (s : State) (p kind : Nat) : State :=
  modPlot s p (fun x => { x with state := .frozen, halt := kind, halting := none, captured := true })

/-- Every tracker of the plot's agents is freed (R119). -/
def freePlotTrks (s : State) (p : Nat) : State :=
  (slicesUp s).foldl (fun s i =>
    ((sliceAt s i).trks.filter (fun kv => decide (kv.2.state ≠ .free) &&
      (match kv.2.agent with | some a => decide (plotOfAgent s a = p) | none => false))).foldl (fun s kv => releaseTrk s i kv.1) s) s

/-- A hard halt's release of the lock set (R119, R195): the NAU locks with BROKEN set, the trackers, the broken flag; the number
of locks released is kept. -/
def breakLocks (s : State) (p : Nat) : State :=
  let n := (nauLocksOf s p).length + (trkLocks s p).length
  let hold := (nauLocksOf s p).map (·.node)
  let s1 := hold.foldl (fun s k => modNau s k (fun u => { u with broken := true })) s
  let s2 := endLocks s1 (fun k => decide (plotOfNau s k = p))
  modPlot (freePlotTrks s2 p) p (fun x => { x with broken := decide (0 < n) || x.broken, haltBroken := n })

/-- The breaks of sessions bound to the plot. -/
def clearCaptures (s : State) (p : Nat) : State :=
  modDbg s (fun d => { d with sessions := d.sessions.map (fun kv => (kv.1, kv.2.map (fun x =>
    if x.plot = p then { x with capSrc := 0#32, cap := 0#128 } else x))) })

/-- A packet held by a break is injected (R420). -/
def releaseHeld (s : State) (n : Nat) : State :=
  match (nauAt s n).brkHeld with
  | none => s
  | some p => inject (modNau s n (fun u => { u with brkHeld := none })) p

/-- Key of the plot watchdog of a region's router node: 64 × position + package coordinates. -/
def watchdogOf (n : Nat) : Nat := 64 * nodeDie n + 8 * nodeY n + nodeX n

/-- DBG_RESUME (R420): the gates and the NAU ports open; held packets go first. -/
def resumePlot (s : State) (p : Nat) : State :=
  if (plotAt s p).state = .frozen then
    let s1 := modPlot s p (fun x => { x with state := .running, halt := 2, byBreak := false, captured := false, haltBroken := 0 })
    let s2 := modDbg (clearCaptures s1 p) (fun d => { d with
      kicked := (plotAt s p).res.regions.foldl (fun l n => withElem l (watchdogOf n)) d.kicked })
    let ns := nausOf s2 p
    ns.foldl nauServe (ns.foldl releaseHeld s2)
  else s

/-- The DBG_FREEZE that waits for the plot's halt is answered with a status. -/
def failHalt (s : State) (p st detail : Nat) : State :=
  match (plotAt s p).haltBy with
  | some h => reply (modPlot s p (fun x => { x with haltBy := none })) h.mbx h.slot 0x0902 (ansBad st detail)
  | none => s

/-- A freeze that waits is given up: the plot runs on. A DBG_FREEZE that still waits for it ends as cancelled. -/
def undoHalt (s : State) (p : Nat) : State :=
  let s1 := modPlot (failHalt s p stFault 4) p (fun x => { x with halting := none, haltBy := none, byBreak := false })
  (nausOf s1 p).foldl nauServe s1

/-- A session ends (R408): if its plot is Frozen and has not been reset, the plot resumes. -/
def endSession (s : State) (id : Nat) : State :=
  match sessionAt s id with
  | none => s
  | some x =>
    let s1 := dropSession s id
    if (plotAt s1 x.plot).halting.isSome then resumePlot (undoHalt s1 x.plot) x.plot else resumePlot s1 x.plot

/-- The sessions bound to a plot end with its reset. -/
def endPlotSessions (s : State) (p : Nat) : State :=
  modDbg s (fun d => { d with sessions := d.sessions.filter (fun kv => match kv.2 with | some x => decide (x.plot ≠ p) | none => false) })

/-! ## Reset (R51) -/

/-- Requests of an NAU that agents under quiesce or an epoch switch hold back, and that are not injected yet, are dropped. -/
def dropHeldOf (s : State) (n : Nat) : State :=
  modSilt (modPce s (fun e => { e with held := e.held.filter (fun p => decide (p.src ≠ n)) }))
    (fun x => { x with heldOut := x.heldOut.filter (fun p => decide (p.src ≠ n) || decide (planeOf p.cls = 1)) })

/-- The snoops and requests that wait at an NAU's coherent in port are answered PLOT_BLANK, and their buffers are free. -/
def refuseSnoops (s : State) (n : Nat) : State :=
  let l := (nauAt s n).cohSnp
  modNau (injectAll (l.foldl (fun s q => freeBuffer s n q.cls) s) (l.map (fun q => completionOf q 0x10))) n (fun u => { u with cohSnp := [] })

/-- The traffic of a reset plot's NAU ends: requests held are dropped, injected ones end toward the fabric and keep their Silt
tags until answered, snoops are answered PLOT_BLANK, nothing reaches the reset logic. -/
def endTraffic (s : State) (n : Nat) : State :=
  let s1 := refuseSnoops s n
  modNau (unitWasReset (dropHeldOf s1 n) n) n (fun u => { u with
    held := [], out := u.out.map (fun q => { q with dead := true }), answers := [], cohAns := [], cohSnp := [], directives := [],
    portStatus := 0, brkHeld := none, streams := [], broken := false })

/-- The traffic of an NAU whose plot a frame-map violation ends (R321): as in a reset, and every request outstanding at its fabric ports
gets an error response. -/
def failTraffic (s : State) (n : Nat) : State :=
  let u := nauAt s n
  let s1 := (u.out.filter (fun q => !q.dead)).foldl (fun s q => if 64 ≤ q.ftag then portStatusSet s n 0x10 else nauRefuse s n q.ftag 0x10) (endTraffic s n)
  u.held.foldl (fun s q => nauRefuse s n q.1.tag 0x10) s1

/-- Keys of the Grit groups of a plot that differ from reset. -/
def plotGrits (s : State) (p : Nat) : List Nat :=
  (s.fab.grits.map (·.1)).filter (fun k => decide (plotAtLocal s (k / 480) (gritRegion (k % 480)).1 (gritRegion (k % 480)).2 = p))

/-- The Grit pipelines and check-value running values of a plot are reset. -/
def resetUnits (s : State) (p : Nat) : State :=
  let s1 := (plotGrits s p).foldl (fun s k => modGrit s k (fun g => { g with pipe := [], outs := [], outStall := false, outReady := false, load := [], direct := [], dout := [] })) s
  let us := if p = 0 then (s.fab.crcs.map (·.1)).filter (fun k => decide (k < 256) && decide (plotOfCrc s (256 * (k / 64) + k % 64) = 0))
    else (plotAt s p).res.crcs.map (fun k => 64 * (k / 256) + k % 256)
  us.foldl (fun s k => modCrc s k (fun c => { c with val := c.init })) s1

/-- The plot's frames are zeroed in hardware from now on (R363); with a blank its state is Empty. -/
def blankPlot (s : State) (p : Nat) : State :=
  markRegions (modPlot s p (fun x => { x with state := .empty, meas := 0#384, zeroing := true, ffInit := false, quiesced := false }))
    (plotAt s p).res.regions true

/-- A plot reset (R51, R171, R195). A Frozen plot is Running after a reset that does not blank it: DESIGN CHOICE, R51 does not say (log 141). -/
def plotReset (s : State) (p : Nat) (blank : Bool) : State :=
  let s0 := modPlot (failHalt s p stFault 4) p (fun x => { x with
    halting := none, haltBy := none, halt := 2, byBreak := false, captured := false, haltBroken := 0, broken := false,
    state := if x.state = .frozen then .running else x.state, ffInit := true, gen := x.gen + 1 })
  let s1 := if blank then blankPlot s0 p else s0
  let s2 := freshKeys (resetUnits s1 p) (plotAt s p).res.slots
  let s3 := (plotGranules s p).foldl (fun s g => bumpGranule s g.1 g.2) s2
  let s4 := (plotAt s p).res.naus.foldl endTraffic (endPlotSessions s3 p)
  let s5 := resetPlotFlows (endLocks s4 (fun n => hasElem (plotAt s p).res.naus n)) p
  if blank ∧ (plotAt s p).state ≠ .empty then plotNotice s5 p else s5

/-- An NAU changes its holder: every register returns to its reset value (R193). -/
def nausReset (s : State) (ns : List Nat) : State := ns.foldl nauReset s

/-- The granules of windows go back to unassigned; their counts of generations stay. -/
def releaseGranules (s : State) (gs : List (Nat × Nat)) : State :=
  gs.foldl (fun s g => modGran s g.1 g.2 (fun e => { e with kind := .unassigned, plot := 0, slot := 0 })) s

/-- The routes of event sources that leave a plot are cleared (R382). -/
def clearRoutes (s : State) (es : List Nat) : State :=
  es.foldl (fun s i => modSrc s i (fun c => { c with func := 0xFF, vector := 0, pins := 0#4, fabric := none, fw := false })) s

/-- Slots lent to the NAUs of a plot return to the pool (R161). -/
def unlend (s : State) (n : Nat) : State :=
  let p := nodeDie n
  (quarterAt s p).slots.foldl (fun s sl => if sl.2.lentTo = some n then modEslot s p sl.1 (fun x => { x with lentTo := none }) else s) s

/-- The dump sections of a plot are erased. -/
def eraseSections (s : State) (p : Nat) : State :=
  let e := fun (d : Dump) => { d with sects := d.sects.filter (fun x => !(decide (x.1 = 2) && decide (x.2.1 = p))) }
  modDumps s (fun d => { d with kaolin := d.kaolin.map e, peat := d.peat.map e })

/-- Result word of a load that meets the end of its plot: DESTROYED (R320, R321). -/
def destroyedWord (stage : Nat) : Nat := 0x10 * 2 ^ 58 + stage * 2 ^ 54

/-- LENGTH of a payload. -/
def memLen (p : Bytes) : Nat := u32 p 4
/-- SADDR of a payload. -/
def memAddr (p : Bytes) : Nat := u64 p 8
/-- ADDR of a payload. -/
def memHost (p : Bytes) : Nat := u64 p 16

/-- A job of MEM_READ or MEM_WRITE. -/
def memJob (j : Job) : Bool := decide (j.op = 0x0400) || decide (j.op = 0x0401)

/-- A job runs on plot p: it holds the plot, or its request names the plot, its windows or its flows. -/
def jobOfPlot (s : State) (p id : Nat) (j : Job) : Bool :=
  s.mgmt.holds.any (fun h => decide (h.job = id ∧ h.fn = .plot p)) || ((memJob j || decide (j.op = 0x0409)) && decide (u8 j.payload 0 = p)) ||
  (decide (j.op = 0x0206) && (List.range (u16 j.payload 2)).any (fun i => decide (plotOfFlow s (u16 j.payload 0 + i) = p)))

/-- The jobs running on a plot end with ST_ABSENT (R52); a load's word says DESTROYED. -/
def endPlotJobs (s : State) (p : Nat) (except : Nat) : State :=
  (openJobs s).foldl (fun s id =>
    match jobAt s id with
    | some j =>
      if id = except || !jobOfPlot s p id j then s
      else
        let w := if j.op = 0x0204 then destroyedWord (if j.stage = 2 then 3 else if j.stage = 1 then 2 else 0) else 0
        modCfg (endJob s id .done stAbsent 5 w []) (fun c => { c with loads := c.loads.filter (fun l => decide (l.job ≠ id)) })
    | none => s) s

/-- The jobs a plot's tenant started are no later tenant's (R22): their records belong to nobody. -/
def disownJobs (s : State) (p : Nat) : State :=
  modMgmt s (fun g => { g with jobs := tmap none g.jobs (fun _ o => o.map (fun j => if j.hz = .b ∧ j.plot = p then { j with hz := .none } else j)) })

/-- PLOT_DESTROY (R52). -/
def plotDestroy (s : State) (p : Nat) (job : Nat) : State :=
  let r := (plotAt s p).res
  let s1 := disownJobs (plotReset (endPlotJobs s p job) p true) p
  let s2 := zeroFrames (eraseSections s1 p) (inMap s p)
  let s3 := (plotFlows s2 p).foldl (fun s f => modFlow s f (fun x => { x with enable := false })) s2
  let s4 := clearRoutes (releaseGranules s3 (plotGranules s p)) r.events
  let s5 := nausReset (r.naus.foldl unlend s4) r.naus
  let s6 := modVault s5 (fun v => { v with slotKeys := r.slots.foldl (fun t k => tset 0#256 t k 0#256) v.slotKeys })
  refreshFlows (modPlot s6 p (fun _ => {}))

/-- Every plot is destroyed. -/
def destroyAll (s : State) : State := plotIds.foldl (fun s p => if (plotAt s p).live then plotDestroy s p 0 else s) s

/-! ## Records shared by several chapters -/

/-- Node of an NAU's die-local place, for records. -/
def violationOf (s : State) (src cause plot sub node info : Nat) : State :=
  report s { src := src, sev := sevViolation, cause := cause, plot := plot, sub := sub, node := node, info := info }

end Machine
end Sys2Proof
end

