-- ==== Sys2Proof/Machine/Links.lean ====
section
/-! DEFINITION. The commands of fabric lanes, coherent-port links and reach lanes (the chapter on fabric lanes and ports). -/

namespace Sys2Proof
namespace Machine

/-- Count in counter k of a lane. -/
def laneCount (s : State) (f k : Nat) : State := modLane s f (fun x => { x with cnt := tmod {} x.cnt k ctrInc })

/-- The link is up: it carries traffic, though an Insecure one discards what it receives. -/
def linkIsUp (x : Link) : Bool := decide (x.state = .l0) || decide (x.state = .insecure)

/-- The state of a link whose link layer is up (R86). -/
def upState (x : Link) : LState := if x.insecure then .insecure else .l0

/-- A lane of a link in L0 has lost signal or lock: the link goes to Recovery (R72). -/
def toRecovery (s : State) (f : Nat) : State :=
  match linkOfLane s f with
  | none => s
  | some l =>
    if linkIsUp (linkAt s l) ∧ hasElem (usedLanes s l (linkAt s l).width (linkAt s l).reversed) f = true then
      (usedLanes s l (linkAt s l).width (linkAt s l).reversed).foldl (fun s k => laneCount s k 3)
        (modLink s l (fun x => { x with state := .recovery }))
    else s

/-- The step's training sets arrive on a lane of the link, and a lane that lost signal or lock in Recovery does not count (R72). -/
def stepGood (s : State) (l : Nat) (t : TrainStep) (f : Nat) : Bool :=
  t.lanes.getLsbD (f - ((linkLanes s l).headD 0)) && !(decide ((linkAt s l).state = .recovery) && ((laneAt s f).los || (laneAt s f).lol))

/-- The lanes of a link run at a rate and width (R69, R73, R74): the others sleep; polarity is applied as detected; after an equalization
each lane holds its phases and the preset it asked for, by its own eyes. -/
def runLanes (s : State) (l rate w : Nat) (t : TrainStep) (reversed equalized : Bool) : State :=
  let s1 := (linkLanes s l).foldl sleepLane s
  (usedLanes s1 l w reversed).foldl (fun s f =>
    wakeLane (modLane s f (fun x => { x with
      polInv := t.inverted.getLsbD (f - ((linkLanes s l).headD 0))
      eqPhases := if equalized then (t.phases.getD (f - ((linkLanes s l).headD 0)) 0).val else x.eqPhases
      asked := if equalized then widestEye (t.eyes.getD (f - ((linkLanes s l).headD 0)) []) else x.asked })) rate reversed f) s1

/-- The first step of training, at 2.5 GT/s (R76): width, lane order, polarity, and the choice of CXL and flit mode. CXL runs from 8 GT/s only
(R79). -/
def trainFirst (s : State) (l : Nat) (t : TrainStep) : State :=
  let x := linkAt s l
  match widest s l t.reversed (stepGood s l t) with
  | none => s
  | some w =>
    let cxl := t.partnerCxl && decide (x.proto % 2 = 1) && decide (3 ≤ min x.maxRate t.partnerRate.val)
    let top := topRateOf x t.partnerRate.val t.partnerFlit cxl
    modLink (runLanes s l 1 w t t.reversed false) l (fun x => { x with
      rate := 1, width := w, trainedWidth := w, reversed := t.reversed, flitMode := t.partnerFlit, cxl := cxl, topRate := top
      settled := decide (top ≤ 1) })

/-- Every lane that a link uses has passed the four phases of the step's equalization (R69). -/
def stepEqualized (s : State) (l : Nat) (t : TrainStep) : Bool :=
  (usedLanes s l (linkAt s l).width (linkAt s l).reversed).all (fun f => decide ((t.phases.getD (f - ((linkLanes s l).headD 0)) 0).val = 4))

/-- A further step (R69, R76): with the four phases of equalization passed the link runs at the rate; else it stays at the highest that
passed, with the speed-degraded event, below 8 GT/s without CXL (R79). -/
def trainNext (s : State) (l : Nat) (t : TrainStep) : State :=
  let x := linkAt s l
  if t.rate.val < 3 ∨ stepEqualized s l t = true then
    modLink (runLanes s l t.rate.val x.width t x.reversed (decide (3 ≤ t.rate.val))) l (fun x => { x with
      rate := t.rate.val, settled := decide (x.topRate ≤ t.rate.val) })
  else raise (modLink s l (fun x => { x with settled := true, cxl := x.cxl && decide (3 ≤ x.rate) })) (linkSrc l)

/-- Record uncorrectable errors under AER (R78), by their bits of the standard: 5 surprise down, 18 malformed TLP, 20 unsupported request.
PRESUMED (log 190): PCIe 6.0. -/
def aerSet (s : State) (l b : Nat) : State := modLink s l (fun x => { x with aer := setFld x.aer b b 1 })

/-- A link goes down of itself (R81): its lanes sleep, the link-down event; AER records a surprise down. -/
def linkFails (s : State) (l : Nat) : State := raise ((linkLanes s l).foldl sleepLane (aerSet (linkToDown s l) l 5)) (linkSrc l)

/-- A link in Recovery whose lane did not return retrains at the widest width that excludes it, with the width-degraded event where that
is narrower; without such a width it goes down (R72). -/
def retrain (s : State) (l : Nat) (t : TrainStep) : State :=
  let x := linkAt s l
  match widest s l x.reversed (stepGood s l t) with
  | none => linkFails s l
  | some w =>
    let s1 := if w < x.width then raise s (linkSrc l) else s
    modLink (runLanes s1 l x.rate w t x.reversed false) l (fun x => { x with
      state := .training, width := w, trainedWidth := w, settled := true, holding := true })

/-- LINK_TRAINING (R69, R72, R74, R76): a step of training ends: 2.5 GT/s first, then each rate of the steps up to the final one; or a
link in Recovery retrains. -/
def execLinkTraining (link : Fin 16) (rate : Fin 8) (lanes : TrainLanes) (reversed : Bool) (eq : TrainEq) (s : State) :
    Host.Outcome State Fault Refusal :=
  let l := link.val
  let t : TrainStep := { toTrainLanes := lanes, toTrainEq := eq, rate := rate, reversed := reversed }
  let x := linkAt s l
  if portUp s (l / 2) then
    match x.state with
    | .recovery => .next (retrain s l t)
    | .training =>
      if x.rate = 0 then .next (if t.rate.val = 1 then trainFirst s l t else s)
      else if x.settled = false ∧ t.rate.val = nextRate x.rate x.topRate then .next (trainNext s l t)
      else .next s
    | _ => .next s
  else .next s

/-- LINK_UP (R76, R84): the link layer is up at the final rate; held messages go. -/
def execLinkUp (link : Fin 16) (s : State) : Host.Outcome State Fault Refusal :=
  let l := link.val
  let x := linkAt s l
  if x.state = .training ∧ x.settled = true then
    .next (linkPump (raise (modLink s l (fun x => { x with state := upState x, holding := false })) (linkSrc l)) l)
  else .next s

/-- TRAINING_TIMEOUT (R77, R84): 200 ms have passed without link-up: Down, the training-failed event, PORT_DOWN for what is held. -/
def execTrainingTimeout (link : Fin 16) (s : State) : Host.Outcome State Fault Refusal :=
  let l := link.val
  if (linkAt s l).state = .training then
    .next (linkFails s l)
  else .next s

/-- TRAINING_RETRY (R77). -/
def execTrainingRetry (link : Fin 16) (s : State) : Host.Outcome State Fault Refusal :=
  if (linkAt s link.val).state = .down then .next (linkStart s link.val false) else .next s

/-- A lane's report of loss of signal (R71): index of its counter by kind of lane. -/
def losReport (s : State) (f : Nat) : State :=
  let s1 := laneCount (modLane s f (fun x => { x with los := true, locked := false })) f (if f < 128 then 1 else 4)
  toRecovery (raise s1 (laneSrc f)) f

/-- LOSS_OF_SIGNAL (R71): reported once it has persisted for 2 µs; shorter dropouts count as glitches. -/
def execLossOfSignal (lane : Fin 160) (ns : Nat) (s : State) : Host.Outcome State Fault Refusal :=
  if laneUp s lane.val && !(laneAt s lane.val).rxSleep then
    if 2000 ≤ ns then .next (losReport s lane.val)
    else if lane.val < 128 then .next (laneCount s lane.val 0) else .next s
  else .next s

/-- A lane's report of loss of lock. -/
def lolReport (s : State) (f : Nat) : State :=
  let s1 := modLane s f (fun x => { x with lol := true, locked := false })
  toRecovery (raise (if f < 128 then laneCount s1 f 2 else s1) (laneSrc f)) f

/-- LOSS_OF_LOCK (R71): reported after 1 µs; a quad PLL's loss is reported by each lane of the quad. -/
def execLossOfLock (lane : Fin 160) (ns : Nat) (quadPll : Bool) (s : State) : Host.Outcome State Fault Refusal :=
  if laneUp s lane.val then
    if quadPll then .next (((List.range 4).map (fun i => lane.val / 4 * 4 + i)).foldl lolReport s)
    else if 1000 ≤ ns ∧ (laneAt s lane.val).rxSleep = false then .next (lolReport s lane.val)
    else .next s
  else .next s

/-- LANE_RETURN (R72): the lane is back; a link in Recovery whose lanes all work resumes at its width. -/
def execLaneReturn (lane : Fin 160) (s : State) : Host.Outcome State Fault Refusal :=
  let f := lane.val
  let x := laneAt s f
  if laneUp s f && !x.rxSleep then
    let s1 := modLane s f (fun x => { x with los := false, lol := false, locked := true })
    match linkOfLane s1 f with
    | none => .next s1
    | some l =>
      let k := linkAt s1 l
      let good := (usedLanes s1 l k.width k.reversed).all (fun g => !(laneAt s1 g).los && !(laneAt s1 g).lol)
      if k.state = .recovery ∧ good = true then
        .next (linkPump (modLink s1 l (fun k => { k with state := upState k, recovery := ctrInc k.recovery })) l)
      else .next s1
  else .next s

/-- LINK_DOWN (R81): the link leaves L0 other than by command. -/
def execLinkDown (link : Fin 16) (s : State) : Host.Outcome State Fault Refusal :=
  let l := link.val
  let x := linkAt s l
  if linkIsUp x = true ∨ x.state = .recovery then
    .next (linkFails s l)
  else .next s

/-- VIRAL_RECEIVED (R82): every later message from the link carries the poison flag until the link is reset. -/
def execViralReceived (link : Fin 16) (s : State) : Host.Outcome State Fault Refusal :=
  let l := link.val
  if (linkAt s l).state = .l0 ∧ (linkAt s l).proto % 2 = 1 then .next (raise (modLink s l (fun x => { x with viral := true })) (linkSrc l))
  else .next s

/-- IDE_INTEGRITY_FAIL (R86). -/
def execIdeIntegrityFail (link : Fin 16) (s : State) : Host.Outcome State Fault Refusal :=
  let l := link.val
  if (linkAt s l).state = .l0 ∧ (linkAt s l).ide = true then
    .next (raise (modLink s l (fun x => { x with state := .insecure, insecure := true })) (linkSrc l))
  else .next s

/-- A counter crosses a threshold. -/
def crosses (old new : Ctr) (t : Nat) : Bool := decide (old.n ≤ t ∧ t < new.n)

/-- Corrected FEC symbols of a lane are counted; the lane's event is raised when the count crosses its threshold (R82). -/
def countSymbols (s : State) (f k : Nat) : State :=
  let o := tget {} (laneAt s f).cnt 4
  let s1 := modLane s f (fun y => { y with cnt := tset {} y.cnt 4 (ctrAdd o k) })
  if crosses o (ctrAdd o k) (Config.fecThreshold f) then raise s1 (laneSrc f) else s1

/-- A replay of a link is counted, recorded under AER as a bad TLP, and raises the link's event when the count crosses its threshold
(R78, R82). -/
def countReplay (s : State) (l : Nat) : State :=
  let o := (linkAt s l).replay
  let s1 := modLink s l (fun x => { x with replay := ctrInc o, aerCor := setFld x.aerCor 6 6 1 })
  if crosses o (ctrInc o) (Config.replayThreshold l) then raise s1 (linkSrc l) else s1

/-- FLIT_REPLAY (R82): the FEC symbols corrected in a flit are counted per lane, in the lanes' order; a CRC failure after FEC causes a
replay, counted per link. -/
def execFlitReplay (flit : FlitSeen) (s : State) : Host.Outcome State Fault Refusal :=
  let l := flit.link.val
  let x := linkAt s l
  if linkIsUp x then
    let s1 := ((usedLanes s l x.width x.reversed).zip flit.corrected).foldl (fun s fk => countSymbols s fk.1 fk.2) s
    .next (if flit.crcFail then countReplay s1 l else s1)
  else .next s

/-- DFE_ADAPTATION_UPDATE (R70): the receiver's parameters move while adaptation runs. -/
def execDfeAdaptationUpdate (lane : Fin 160) (v : Nat) (s : State) : Host.Outcome State Fault Refusal :=
  let x := laneAt s lane.val
  if x.adapt && !x.rxSleep && !x.frozen then .next (modLane s lane.val (fun x => { x with adapted := v })) else .next s

/-- Coefficients that lie within FS 48 and LF 12 (R69). -/
def coeffOk (pre main post : Nat) : Bool := decide (pre ≤ 12 ∧ pre + main + post = 48 ∧ pre + post + 12 ≤ main)

/-- PARTNER_PRESET_REQUEST (R69): honoured within FS and LF, else refused: the lane keeps its coefficients and its training sets carry
the standard's refusal. -/
def execPartnerPresetRequest (lane : Fin 128) (req : PresetReq) (s : State) : Host.Outcome State Fault Refusal :=
  if laneUp s lane.val && !(laneAt s lane.val).txSleep then
    match req with
    | .preset n => .next (modLane s lane.val (fun x => if n ≤ 10 then { x with preset := n, refused := false } else { x with refused := true }))
    | .coeff a b c => .next (modLane s lane.val (fun x =>
        if coeffOk a b c then { x with preset := 15, fir := (a, b, c), refused := false } else { x with refused := true }))
  else .next s

/-- PARTNER_MARGIN_REQUEST (R78): served in arrival order with the device's own margining. -/
def execPartnerMarginRequest (lane : Fin 128) (cmd : Word) (s : State) : Host.Outcome State Fault Refusal :=
  match linkOfLane s lane.val with
  | none => .next s
  | some l =>
    if linkIsUp (linkAt s l) then .next (modLane s lane.val (fun x => { x with margins := x.margins ++ [cmd] })) else .next s

/-- A Silt tag for a configuration request of a link: the link in its low four bits. -/
def cfgTag (s : State) (l : Nat) : Nat :=
  l + 16 * (((List.range 1024).find? (fun k => !(linkAt s l).cfgReqs.any (fun q => decide (q.1 = l + 16 * k)))).getD 0)

/-- A word of the hardened configuration space of an endpoint or upstream link (R75): the device identifier is the device code of the part;
the AER status words show what was recorded (R78); what the standard capabilities hold otherwise is left open. -/
def hardWord (s : State) (l off : Nat) : Word :=
  let w := Config.hardConfig off (tget 0#32 (linkAt s l).cfgWords off)
  if off = 0 then setFld w 31 16 (partCode s.sys.part)
  else if off = Config.aerBase + 4 then (linkAt s l).aer
  else if off = Config.aerBase + 16 then (linkAt s l).aerCor
  else w

/-- A write of a word of that space: the AER status words clear the bits written as 1 (R78). -/
def hardWrite (x : Link) (off : Nat) (w : Word) : Link :=
  if off = Config.aerBase + 4 then { x with aer := x.aer &&& ~~~w }
  else if off = Config.aerBase + 16 then { x with aerCor := x.aerCor &&& ~~~w }
  else { x with cfgWords := tset 0#32 x.cfgWords off w }

/-- A completion goes back to the partner: the offset, and the value or Unsupported Request. -/
def completeCfg (s : State) (l off : Nat) (v : Option Nat) : State := modLink s l (fun x => { x with cfgDone := x.cfgDone ++ [(off, v)] })

/-- A request goes to the shell's configuration NAU of the link; while the shell is unconfigured it completes with Unsupported Request
(R293). -/
def forwardCfg (s : State) (l off : Nat) (wr : Option Word) : State :=
  if configured s then
    let t := cfgTag s l
    let p : Packet := { mkPacket (portNode (l / 2)) (linkAt s l).cfgNode .req (if wr.isSome then 0x07 else 0x06) with
      tag := t, addr := off, hdr := BitVec.ofNat 384 ((wr.map (·.toNat)).getD 0) }
    inject (modLink s l (fun x => { x with cfgReqs := x.cfgReqs ++ [(t, off)], cfgSent := tset 0 x.cfgSent t (now s) })) p
  else completeCfg (aerSet s l 20) l off none

/-- CONFIG_SPACE_FORWARD (R75, R78, R293): offsets from 0x400 and DOE requests go to the shell's configuration NAU; the hardware answers
the standard capabilities below and the DOE discovery protocol. -/
def execConfigSpaceForward (link : Fin 16) (req : CfgReq) (off : Fin 4096) (wr : Option Word) (s : State) : Host.Outcome State Fault Refusal :=
  let l := link.val
  let x := linkAt s l
  if x.state = .l0 ∧ (x.role = 2 ∨ x.role = 3) then
    match req with
    | .discovery i => .next (completeCfg s l off.val (some (if i.val = 0 then 1 else (Config.doeProtocol i.val).toNat)))
    | .doe => .next (forwardCfg s l off.val wr)
    | .config =>
      if 0x400 ≤ off.val then .next (forwardCfg s l off.val wr)
      else match wr with
        | none => .next (completeCfg s l off.val (some (hardWord s l off.val).toNat))
        | some w => .next (completeCfg (modLink s l (fun x => hardWrite x off.val w)) l off.val (some 0))
  else .next s

/-- LINK_POWER_STATE_CHANGE (R78): L1 and L1.1 put the link's lanes to sleep; under L0p its width changes between x16, x8 and x4. -/
def execLinkPowerStateChange (link : Fin 16) (width : Fin 17) (power : LinkPower) (s : State) : Host.Outcome State Fault Refusal :=
  let l := link.val
  let x := linkAt s l
  if linkIsUp x then
    let w := if hasElem [4, 8, 16] width.val && decide (width.val ≤ x.trainedWidth) then width.val else x.width
    let s1 := (linkLanes s l).foldl sleepLane s
    let s2 := if power ≠ .active then s1 else (usedLanes s1 l w x.reversed).foldl (wakeLane · x.rate x.reversed) s1
    .next (modLink s2 l (fun x => { x with power := power, width := w }))
  else .next s

/-- The transaction keeps the limits of R78: 512 bytes of payload, 4,096 of a read request. -/
def tlpOk (t : Tlp) : Bool := decide (4 * t.words.length ≤ 512 ∧ t.readLen ≤ 4096)

/-- PCIE_TLP_RECEIVE (R75, R78, R79, R86): a TLP goes through the bridges of the switch group to another link of the group, which sends it at once or when it
returns from Recovery, or to the shell, or programs an HDM decoder of an endpoint or upstream link; one over the limits is malformed, dropped and recorded under AER; an Insecure
link discards it. -/
def execPcieTlpReceive (link : Fin 16) (tlp : Tlp) (s : State) : Host.Outcome State Fault Refusal :=
  let l := link.val
  let x := linkAt s l
  if x.state = .l0 then
    if tlpOk tlp = false then .next (aerSet s l 18)
    else match tlp.hdm, tlp.toLink with
    | some (k, d), _ =>
      .next (if x.role = 2 ∨ x.role = 3 then modLink s l (fun y => { y with hdm := tset none y.hdm k.val (some d) }) else s)
    | none, none => .next (modLink s l (fun y => { y with tlps := y.tlps ++ [tlp] }))
    | none, some d =>
      let y := linkAt s d.val
      if 3 ≤ x.role ∧ 3 ≤ y.role ∧ x.group = y.group ∧ (linkSends y = true ∨ y.state = .recovery) then
        .next (modLink s d.val (fun y => { y with tlps := y.tlps ++ [tlp] }))
      else .next s
  else .next s

/-- The port's links retrain, those with a role that are Disabled; a device that is not Configured leaves its lanes idle (R84, R294). -/
def portRetrain (s : State) (n : Nat) : State :=
  let s1 := modSilt s (fun x => if hasElem x.stalled (portNode n) then { x with unitReset := withElem x.unitReset (portNode n) } else x)
  [2 * n, 2 * n + 1].foldl (fun s l =>
    if (linkAt s l).state ≠ .disabled then s
    else if (linkAt s l).role ≠ 0 ∧ (linkLanes s l) ≠ [] ∧ configured s = true then linkStart s l true
    else failHeld s l) s1

/-! ## Reach lanes (R87, R88) -/

/-- The sink of a lane takes data. -/
def sinkTakes (s : State) (j : Nat) : Bool :=
  let n := (reachAt s j).sink
  attUp s n && configured s && nauEnabled (nauAt s n) && !decide ((plotAt s 0).state = .frozen)

/-- The STREAM packet of received data (R183). -/
def streamPacket (j sink : Nat) (raw : Bool) (x : Bytes × Word × Nat) : Packet :=
  { mkPacket (bridgeNode j) sink .dat 0x0D with
    tag := j, hdr := BitVec.ofNat 384 (x.2.1.toNat + x.2.2 % 65536 * 2 ^ 32 + b2n raw * 2 ^ 48),
    data := (List.range 4).map (fun i => lineOf x.1 (64 * i)) }

/-- The bridge sends what the receive buffer holds. -/
def reachPump (s : State) (j : Nat) : State :=
  let r := reachAt s j
  if sinkTakes s j then
    modReach (injectAll s (r.buf.map (streamPacket j r.sink (decide (r.mode = 1))))) j (fun r => { r with buf := [] })
  else s

/-- Codewords that the FEC of a reach lane corrected, and could not correct, are counted (R87). -/
def countFec (s : State) (j corrected uncorrected : Nat) : State :=
  if (reachAt s j).mode = 3 then
    modLane s (128 + j) (fun x => { x with cnt := tmod {} (tmod {} x.cnt 0 (fun c => ctrAdd c corrected)) 1 (fun c => ctrAdd c uncorrected) })
  else s

/-- REACH_RECEIVE (R87, R88): 256 bytes, or 32 blocks with their control mask; discarded and counted while the buffer is full. Without
XLREF the lane has no lock and receives nothing (R427). -/
def execReachReceive (lane : Fin 32) (pkt : Bytes) (seen : ReachSeen) (s0 : State) : Host.Outcome State Fault Refusal :=
  let j := lane.val
  let s := countFec s0 j seen.corrected seen.uncorrected
  let r := reachAt s j
  if laneUp s (128 + j) = true ∧ (laneAt s (128 + j)).rxSleep = false ∧ r.mode ≠ 0 ∧ s.sys.xlrefLost = false then
    if r.buf.length < 256 then
      .next (reachPump (modReach s j (fun r => { r with
        buf := r.buf ++ [((pkt ++ zeros 256).take 256, seen.mask, r.seq)], seq := (r.seq + 1) % 65536 })) j)
    else
      let s1 := modReach (laneCount s (128 + j) 2) j (fun r => { r with seq := (r.seq + 1) % 65536, discardRaised := true })
      .next (if r.discardRaised then s1 else raise s1 (laneSrc (128 + j)))
  else .next s0

/-- The content of a 64b/66b control block of idle characters: block type 0x1E and eight idle codes, which are zero. -/
def idleBlock : DWord := 0x1E#64

/-- REACH_UNDERFLOW (R88): the lane has sent what it had, and sends idle blocks, or a raw lane its fill word, until more comes; counted, with an
event the first time. Without XLREF it sends nothing (R427). -/
def execReachUnderflow (lane : Fin 32) (s : State) : Host.Outcome State Fault Refusal :=
  let j := lane.val
  let r := reachAt s j
  if laneUp s (128 + j) = true ∧ (laneAt s (128 + j)).txSleep = false ∧ r.mode ≠ 0 ∧ s.sys.xlrefLost = false then
    let s1 := modReach (laneCount s (128 + j) 3) j (fun r => { r with
      tx := [], underRaised := true, filler := some (if r.mode = 1 then r.fill else idleBlock) })
    .next (if r.underRaised then s1 else raise s1 (laneSrc (128 + j)))
  else .next s

end Machine
end Sys2Proof
end

