-- ==== Sys2Proof/Machine/Loads.lean ====
section
/-! DEFINITION. Full loads and plot loads: the container (R300 to R306), its checks (R307, R308), its blocks (R309), and what a
load leaves behind (R316 to R321). -/

namespace Sys2Proof
namespace Machine

/-! ## Keys (R57, R61) -/

/-- AES-256 of a zero block, its first 64 bits (R57). -/
def keyCheckOf (k : BitVec 256) : DWord := (Config.aes k 0#128 >>> 64).truncate 64

/-- OWNER_CTRL bits (R56). -/
def ownerSet (s : State) : Bool := bitOf s.vault.ownerCtrl 0
/-- PLAIN_DIS. -/
def plainDis (s : State) : Bool := bitOf s.vault.ownerCtrl 3
/-- KEY_SRC. -/
def keySrcBbram (s : State) : Bool := bitOf s.vault.ownerCtrl 4
/-- VDBG_CONSENT. -/
def vdbgConsent (s : State) : Bool := bitOf s.vault.ownerCtrl 6
/-- FUSE_LOCK. -/
def fuseLock (s : State) : Bool := bitOf s.vault.ownerCtrl 7

/-- The owner key in use (R58, R66): none where it is reported absent or blocked. With KEY_SRC 0 it is the fuse key, programmed or not:
DESIGN CHOICE (log 138). -/
def ownerKey (s : State) : Option (BitVec 256) :=
  if s.vault.vdbg then none
  else if keySrcBbram s then (if s.vault.keyCheckOk then some s.vault.ownerKeyB else none)
  else some s.vault.ownerKeyF

/-- "gk-cfg". -/
def infoCfg : Bytes := [0x67#8, 0x6B#8, 0x2D#8, 0x63#8, 0x66#8, 0x67#8]
/-- "gk-rdbk". -/
def infoRdbk : Bytes := [0x67#8, 0x6B#8, 0x2D#8, 0x72#8, 0x64#8, 0x62#8, 0x6B#8]
/-- "gk-dump". -/
def infoDump : Bytes := [0x67#8, 0x6B#8, 0x2D#8, 0x64#8, 0x75#8, 0x6D#8, 0x70#8]
/-- "gk-dump-v". -/
def infoDumpV : Bytes := infoDump ++ [0x2D#8, 0x76#8]
/-- "gk-dbg". -/
def infoDbg : Bytes := [0x67#8, 0x6B#8, 0x2D#8, 0x64#8, 0x62#8, 0x67#8]
/-- "gk-tk". -/
def infoTk : Bytes := [0x67#8, 0x6B#8, 0x2D#8, 0x74#8, 0x6B#8]
/-- "gk-sess". -/
def infoSess : Bytes := [0x67#8, 0x6B#8, 0x2D#8, 0x73#8, 0x65#8, 0x73#8, 0x73#8]

/-- A derived key of a plot (R61): none without a tenant key. -/
def tenantDerived (s : State) (p : Nat) (info : Bytes) : Option (BitVec 256) :=
  (plotAt s p).tenantKey.map (fun k => Config.hkdf (beBytes 32 k.toNat) (leBytes 4 (plotAt s p).gen) info)

/-! ## Container fields -/

/-- Bits [9:5] of a feature word (R41). -/
def featBits (f : Features) : Nat :=
  b2n f.dfe16 * 512 + b2n f.slot3 * 256 + b2n f.grn * 128 + b2n f.gseq * 64 + b2n f.ime * 32

/-- Index of a part in VARIANT_MASK (R300). -/
def partIndex : Part → Nat
  | .gk4800 => 0
  | .gk4600 => 1
  | .gk4400 => 2
  | .gk2400 => 3

/-- NRANGES. -/
def imgRanges (b : Bytes) : Nat := leN b 0x140 2
/-- SETTINGS_LEN. -/
def imgSetLen (b : Bytes) : Nat := leN b 0x144 4
/-- SIG_OFF (R302). -/
def imgSigOff (b : Bytes) : Nat := 0x150 + 8 * imgRanges b + imgSetLen b
/-- DIE_MASK. -/
def imgMask (b : Bytes) : Nat := byteAt b 0x3C
/-- ENC. -/
def imgEnc (b : Bytes) : Bool := decide (byteAt b 7 % 2 = 1)
/-- KEY_SEL. -/
def imgKeySel (b : Bytes) : Nat := byteAt b 0x40
/-- The positions of a DIE_MASK. -/
def imgDies (b : Bytes) : List Nat := [0, 1, 2, 3].filter (fun p => bitOf (BitVec.ofNat 4 (imgMask b)) p)
/-- Range entry i (R303). -/
def rangeOf (w : Nat) : FrameRange :=
  { die := bits w 63 62, rowLo := bits w 61 56, rowHi := bits w 55 50, colLo := bits w 49 40, colHi := bits w 39 30 }
/-- The range table of an image. -/
def imgRangeTable (b : Bytes) : List FrameRange := (List.range (imgRanges b)).map (fun i => rangeOf (leN b (0x150 + 8 * i) 8))
/-- The settings records of an image, as bytes. -/
def imgSettings (b : Bytes) : Bytes := subBytes b (0x150 + 8 * imgRanges b) (imgSetLen b)
/-- The bytes a signature and a measurement cover (R302, R310). -/
def imgSigned (b : Bytes) : Bytes := b.take 0x40 ++ subBytes b 0x80 (imgSigOff b + 96 - 0x80)
/-- SHA-384 of them (R310). -/
def imgMeas (b : Bytes) : BitVec 384 := Config.sha384 (imgSigned b)
/-- SIGNER. -/
def imgSigner (b : Bytes) : Bytes := subBytes b (imgSigOff b) 96

/-- The ranges a readback names. -/
def rbRanges (p : Bytes) : List FrameRange := (List.range (u16 p 2)).map (fun i => rangeOf (leN p (32 + 8 * i) 8))

/-- A stretch of a string is zero. -/
def zeroAt (b : Bytes) (off n : Nat) : Bool := (subBytes b off n).all (fun x => decide (x = 0#8))

/-- The header and key block are well formed (R300, R301, R308). -/
def hdrFormed (b : Bytes) : Bool :=
  let man := 400 + 8 * imgRanges b + imgSetLen b
  let body := (0x80 + man + 4095) / 4096 * 4096
  decide (0x80 + man ≤ b.length) && decide (leN b 0 4 = 0x53424B47) && decide (leN b 4 2 = 1) && decide (byteAt b 6 ≤ 1) &&
  decide (byteAt b 7 ≤ 1) && decide (byteAt b 0x0A < 16) && decide (byteAt b 0x0B < 4) && decide (leN b 0x0C 2 % 1024 / 32 * 32 = leN b 0x0C 2) &&
  [Part.gk4800, .gk4600, .gk4400, .gk2400].any (fun p => decide (leN b 8 2 = partCode p) && decide (byteAt b 0x0A / 2 ^ partIndex p % 2 = 1)) &&
  decide (leN b 0x18 4 = leN b 0x20 4 + leN b 0x24 4 * 65536) && decide (leN b 0x1C 4 = man) && decide (leN b 0x20 4 = body) &&
  decide (1 ≤ leN b 0x24 4) && zeroAt b (0x80 + man) (body - 0x80 - man) && decide (imgMask b < 16) && zeroAt b 0x3D 3 &&
  decide (imgKeySel b ≤ 2) && zeroAt b 0x41 7 && zeroAt b 0x70 16 &&
  (if imgKeySel b = 0 then !imgEnc b && zeroAt b 0x48 40 else imgEnc b)

/-- The image is for this device (R300): variant mask and serial. -/
def imgForDevice (s : State) (b : Bytes) : Bool :=
  decide (byteAt b 0x0A / 2 ^ partIndex s.sys.part % 2 = 1) &&
  (decide (leN b 0x10 8 = 0) || decide (leN b 0x10 8 = s.vault.serial.toNat))

/-- Dies, revisions and features an image asks for are there (R30, R316). -/
def imgFeatures (s : State) (b : Bytes) : Bool :=
  (imgDies b).all (fun p => dieUp s p && decide (byteAt b 0x0B / (if (dieAt s p).rev = 0xB0 then 1 else 2) % 2 = 1)) &&
  decide (Nat.land (leN b 0x0C 2) (featBits s.sys.eff) = leN b 0x0C 2)

/-- A failure of a load (R320, R321): reason, stage, status, die, block, frame. -/
structure LoadFail where
  reason : Nat
  stage : Nat
  status : Nat
  die : Nat := 0
  block : Nat := 0
  frame : Nat := 0
  deriving DecidableEq, Repr

/-- The load result word (R320). -/
def loadWord (f : LoadFail) : Nat := f.reason * 2 ^ 58 + f.stage * 2 ^ 54 + f.die * 2 ^ 52 + f.block % 2 ^ 20 * 2 ^ 32 + f.frame % 2 ^ 32

/-- Stage 0: the header. -/
def checkHeader (s : State) (plot : Nat) (b : Bytes) : Option LoadFail :=
  if !hdrFormed b then some { reason := 0x01, stage := 0, status := stBadArg }
  else if !imgForDevice s b then some { reason := 0x02, stage := 0, status := stBadArg }
  else if !imgFeatures s b then some { reason := 0x03, stage := 0, status := stAbsent }
  else if s.mgmt.fw.2.1 * 256 + s.mgmt.fw.2.2 < leN b 0x0E 2 then some { reason := 0x04, stage := 0, status := stBadArg }
  else if byteAt b 6 ≠ (if plot = 0 then 0 else 1) then some { reason := 0x05, stage := 0, status := stBadArg }
  else none

/-- The columns of a range hold frames (R297). -/
def rangeExists (r : FrameRange) : Bool :=
  (List.range (r.colHi + 1 - r.colLo)).all (fun i => decide (0 < Config.columnMinors r.die (r.colLo + i)))

/-- The manifest body is well formed (R302, R303). -/
def manifestFormed (b : Bytes) : Bool :=
  decide (1 ≤ imgRanges b ∧ imgRanges b ≤ 1024) && zeroAt b 0x142 2 && decide (imgSetLen b % 4 = 0) && zeroAt b 0x148 8 &&
  (byteAt b 6 = 0 || decide (imgSetLen b = 0)) &&
  [0, 1, 2, 3].all (fun p => hasElem (imgDies b) p || zeroAt b (0x80 + 48 * p) 48) &&
  (List.range (imgRanges b)).all (fun i => decide (leN b (0x150 + 8 * i) 8 % 2 ^ 30 = 0)) &&
  (imgRangeTable b).all (fun r => decide (r.rowLo ≤ r.rowHi ∧ r.colLo ≤ r.colHi) && hasElem (imgDies b) r.die && rangeExists r)

/-- The signer of an image is accepted (R307). -/
def signerOk (s : State) (plot : Nat) (b : Bytes) : Bool :=
  if tenantHeld s plot then decide (Config.sha384 (imgSigner b) = (plotAt s plot).signHash)
  else if ownerSet s then decide (Config.sha384 (imgSigner b) = s.vault.ownerSignHash)
  else true

/-- The signature verifies. -/
def sigOk (b : Bytes) : Bool :=
  Config.ecdsaOk (BitVec.ofNat 768 (beN b (imgSigOff b) 96)) (imgMeas b) (BitVec.ofNat 768 (beN b (imgSigOff b + 96) 96))

/-- The content key of an image (R308): none where the key is refused, unavailable or fails to unwrap. -/
def contentKey (s : State) (plot : Nat) (b : Bytes) : Option (Option (BitVec 256)) :=
  let wrapped : BitVec 320 := BitVec.ofNat 320 (beN b 0x48 40)
  match imgKeySel b with
  | 0 => if plot = 0 ∧ plainDis s = true then none else some none
  | 1 => if plot ≠ 0 ∧ tenantHeld s plot = true then none
    else (ownerKey s).bind (fun k => (Config.keyUnwrap k wrapped).map some)
  | _ => if tenantHeld s plot then (tenantDerived s plot infoCfg).bind (fun k => (Config.keyUnwrap k wrapped).map some) else none

/-- DIE_MASK and the ranges of an image lie within a plot's frame map (R317): else the address of the first frame that does not. -/
def rangesInMap (s : State) (plot : Nat) (b : Bytes) : Option Nat :=
  ((imgDies b).findSome? (fun p => if (plotAt s plot).res.ranges.any (fun r => decide (r.die = p)) then none else some (p * 2 ^ 24))).or
  ((imgRangeTable b).findSome? (fun r =>
    (List.range (r.rowHi + 1 - r.rowLo)).findSome? (fun i => (List.range (r.colHi + 1 - r.colLo)).findSome? (fun j =>
      let a := r.die * 2 ^ 24 + (r.rowLo + i) * 2 ^ 18 + (r.colLo + j) * 2 ^ 8
      if inMap s plot a then none else some a))))

/-- Stage 1: the manifest. `settings` is the refusal of a settings record, if one is refused (R304). -/
def checkManifest (s : State) (plot : Nat) (b : Bytes) (settings : Option Nat) : Option LoadFail :=
  if !manifestFormed b then some { reason := 0x01, stage := 1, status := stBadArg }
  else if !signerOk s plot b || !sigOk b then some { reason := 0x06, stage := 1, status := stAuth }
  else if contentKey s plot b = none then some { reason := 0x07, stage := 1, status := stAuth }
  else match settings with
    | some st => some { reason := 0x08, stage := 1, status := st }
    | none =>
      if plot = 0 then none
      else (rangesInMap s plot b).map (fun a => { reason := 0x09, stage := 1, status := stDenied, die := bits a 25 24, frame := a })

/-! ## Frames (R297, R306) -/

/-- The frame address word of its fields. -/
def frameAddr (die row col minor : Nat) : Nat := die * 2 ^ 24 + row * 2 ^ 18 + col * 2 ^ 8 + minor

/-- The address names a frame. -/
def frameExists (a : Nat) : Bool := decide (a < 2 ^ 26) && decide (bits a 7 0 < Config.columnMinors (bits a 25 24) (bits a 17 8))

/-- The frame that follows a frame (R297): MINOR ascending, then COLUMN, then ROW. -/
def nextFrame (a : Nat) : Option Nat :=
  let d := bits a 25 24
  let col := bits a 17 8
  if bits a 7 0 + 1 < Config.columnMinors d col then some (a + 1)
  else
    match (List.range (1023 - col)).find? (fun i => decide (0 < Config.columnMinors d (col + 1 + i))) with
    | some i => some (frameAddr d (bits a 23 18) (col + 1 + i) 0)
    | none =>
      if bits a 23 18 < 63 then
        ((List.range 1024).find? (fun c => decide (0 < Config.columnMinors d c))).map (fun c => frameAddr d (bits a 23 18 + 1) c 0)
      else none

/-- The frame k frames on. -/
def frameAfter : Nat → Nat → Option Nat
  | 0, a => if frameExists a then some a else none
  | k + 1, a => (frameAfter k a).bind nextFrame

/-- What a load does to one frame. -/
inductive FrameWrite where
  | bytes (b : Bytes) | ess (e : BitVec 128) | dynamic
  deriving DecidableEq, Repr

/-- A frame with the check bits of what it holds (R298). -/
def sealFrame (f : Frame) : Frame :=
  let g : Frame := { f with check := 0#27 }
  if g = {} then g else { g with check := Config.frameCode ((f.bytes ++ zeros 512).take 512) (f.ess.getD (BitVec.allOnes 128)) f.dynamic }

/-- Apply a frame write: the writer sets the hidden bits, and the check bits over all of it (R298). -/
def writeFrame (s : State) (a : Nat) (w : FrameWrite) : State :=
  modCfg s (fun c => { c with frames := tmod {} c.frames a (fun f => sealFrame (match w with
    | .bytes b => { f with bytes := if b.all (fun x => decide (x = 0#8)) then [] else b }
    | .ess e => { f with ess := some e }
    | .dynamic => { f with dynamic := true })) })

/-- Before the body of a plot load, no frame of the plot has a mask or a flag: those that stand after it are the image's (R298). -/
def clearHidden (s : State) (p : Nat) : State :=
  modCfg s (fun c => { c with frames := tmap {} c.frames (fun a f => if inMap s p a then sealFrame { f with ess := none, dynamic := false } else f) })

/-- The two regions of a boundary switch have different holders; the shell and each plot are one holder each (R299). -/
def switchCrosses (s : State) (x : Nat × Bool × Nat × Nat) : Bool := decide (plotOfRegion s x.2.2.1 ≠ plotOfRegion s x.2.2.2)

/-- A frame's bytes say that a boundary switch is closed. -/
def saysClosed (b : Bytes) (x : Nat × Bool × Nat × Nat) : Bool := decide (byteAt b (x.1 / 8) / 2 ^ (x.1 % 8) % 2 = b2n x.2.1)

/-- A frame would close a boundary switch between two holders (R269, R299). -/
def closesBoundary (s : State) (a : Nat) (b : Bytes) : Bool := (Config.boundarySwitches a).any (fun x => switchCrosses s x && saysClosed b x)

/-- A boundary switch of frame a is open: forced open between two holders, whatever the frame says, else as the frame says (R299). -/
def switchOpen (s : State) (a : Nat) (x : Nat × Bool × Nat × Nat) : Bool :=
  switchCrosses s x || !saysClosed ((tget {} s.cfg.frames a).bytes ++ zeros 512) x

/-- One frame of a record: refused outside the image's ranges, outside the plot, or where it closes a boundary switch (R299). -/
def frameStep (s : State) (ld : Load) (die a : Nat) (w : FrameWrite) : Sum LoadFail (State × Load) :=
  let blk := tget 0 ld.next die
  let bad : Bool := match w with | .bytes b => closesBoundary s a b | _ => false
  if !frameExists a || decide (bits a 25 24 ≠ die) then .inl { reason := 0x0D, stage := 3, status := stBadArg, die := die, block := blk, frame := a }
  else if ld.plot ≠ 0 ∧ (inMap s ld.plot a = false ∨ bad = true) then
    .inl { reason := 0x09, stage := 3, status := stDenied, die := die, block := blk, frame := a }
  else if !(imgRangeTable ld.image).any (fun r => inRange r a) then
    .inl { reason := 0x0D, stage := 3, status := stBadArg, die := die, block := blk, frame := a }
  else match w with
    | .bytes _ => .inr (writeFrame s a w, { ld with wrote := withElem ld.wrote a })
    | _ => .inr (writeFrame s a w, ld)

/-- The frames of a record, `n` of them from an address on. -/
def framesStep (w : Nat → FrameWrite) (die : Nat) : Nat → Nat → Option Nat → State → Load → Sum LoadFail (State × Load)
  | 0, _, _, s, ld => .inr (s, ld)
  | n + 1, i, a, s, ld =>
    match a with
    | none => .inl { reason := 0x0D, stage := 3, status := stBadArg, die := die, block := tget 0 ld.next die }
    | some a => match frameStep s ld die a (w i) with
      | .inl f => .inl f
      | .inr x => framesStep w die n (i + 1) (nextFrame a) x.1 x.2

/-- The records of a payload (R306), at most `n` of them; `last` is the block's LAST flag. -/
def recordsStep (die : Nat) (last : Bool) : Nat → Bytes → State → Load → Sum LoadFail (State × Load)
  | 0, _, s, ld => .inr (s, ld)
  | n + 1, p, s, ld =>
    let bad : Sum LoadFail (State × Load) :=
      .inl { reason := 0x0D, stage := 3, status := stBadArg, die := die, block := tget 0 ld.next die, frame := leN p 4 4 }
    if p = [] then .inr (s, ld)
    else if p.length < 4 then bad
    else
      let op := leN p 0 4 / 2 ^ 28
      let k := leN p 0 4 % 2 ^ 28
      let a := leN p 4 4
      let go := fun (len : Nat) (w : Nat → FrameWrite) =>
        if k = 0 ∨ p.length < len then bad
        else match framesStep w die k 0 (some a) s ld with
          | .inl f => .inl f
          | .inr x => recordsStep die last n (p.drop len) x.1 x.2
      match op with
      | 0 => .inr (s, ld)
      | 1 => go (8 + 512 * k) (fun i => .bytes (subBytes p (8 + 512 * i) 512))
      | 2 => go 8 (fun _ => .bytes [])
      | 3 => go 520 (fun _ => .bytes (subBytes p 8 512))
      | 4 => go (8 + 16 * k) (fun i => .ess (BitVec.ofNat 128 (leN p (8 + 16 * i) 16)))
      | 5 => go 8 (fun _ => .dynamic)
      | 15 => if last then .inr (s, { ld with ended := withElem ld.ended die }) else bad
      | _ => bad

/-- The nonce of a block (R309): NONCE_SALT, DIE, three zero bytes, INDEX. -/
def blockNonce (img : Bytes) (die index : Nat) : Bytes := subBytes img 0x38 4 ++ leBytes 4 die ++ leBytes 4 index

/-- A block authenticates, and its payload (R309). -/
def blockOpen (ld : Load) (b : Bytes) : Option Bytes :=
  let die := byteAt b 4
  let i := tget 0 ld.next die
  if b.length = 65536 ∧ leN b 0 4 = i ∧ hasElem (imgDies ld.image) die = true ∧ hasElem ld.ended die = false ∧
     Config.sha384 b = tget 0#384 ld.hash die then
    match ld.key with
    | none => some (subBytes b 0x10 65456)
    | some k => Config.gcmOpen k (blockNonce ld.image die i) (subBytes ld.image 0x28 16 ++ b.take 16) (subBytes b 0x10 65456)
        (BitVec.ofNat 128 (beN b 0xFFC0 16))
  else none

/-- One body block. An empty block says that the stream has ended. -/
def blockStep (s : State) (ld : Load) (b : Bytes) : Sum LoadFail (State × Load) :=
  let die := byteAt b 4 % 4
  let i := tget 0 ld.next die
  if b = [] then .inl { reason := 0x0C, stage := 3, status := stAuth }
  else match blockOpen ld b with
    | none => .inl { reason := 0x0B, stage := 3, status := stAuth, die := die, block := i }
    | some pay =>
      let last := decide (byteAt b 5 % 2 = 1)
      let plen := leN b 8 4
      if plen = 0 ∨ 65456 < plen ∨ 1 < byteAt b 5 ∨ zeroAt b 6 2 = false ∨ zeroAt b 0x0C 4 = false then
        .inl { reason := 0x0D, stage := 3, status := stBadArg, die := die, block := i }
      else match recordsStep die last plen (pay.take plen) s ld with
        | .inl f => .inl f
        | .inr x =>
          if last ∧ hasElem x.2.ended die = false then .inl { reason := 0x0C, stage := 3, status := stAuth, die := die, block := i }
          else .inr (x.1, { x.2 with
            next := tset 0 x.2.next die (i + 1), hash := tset 0#384 x.2.hash die (BitVec.ofNat 384 (beN b 0xFFD0 48)) })

/-! ## The course of a load -/

/-- A load that has begun its body. -/
def newLoad (s : State) (job plot : Nat) (img : Bytes) : Load :=
  { job := job, plot := plot, image := img, key := (contentKey s plot img).getD none, next := [],
    hash := (imgDies img).foldl (fun t p => tset 0#384 t p (BitVec.ofNat 384 (beN img (0x80 + 48 * p) 48))) [], ended := [], wrote := [] }

/-- The load of a job. -/
def loadOf (s : State) (job : Nat) : Option Load := s.cfg.loads.find? (fun l => decide (l.job = job))

/-- Keep a load's progress. -/
def putLoad (s : State) (ld : Load) : State :=
  modCfg s (fun c => { c with loads := c.loads.map (fun l => if l.job = ld.job then ld else l) })

/-- A load is over: its content key is zeroized. -/
def dropLoad (s : State) (job : Nat) : State := modCfg s (fun c => { c with loads := c.loads.filter (fun l => decide (l.job ≠ job)) })

/-- The NAUs of the dies in service that no plot holds. -/
def shellNaus (s : State) : List Nat :=
  ((diesUp s).flatMap (fun p => (List.range 96).map (fun k => nauNode p k))).filter (fun n => decide (plotOfNau s n = 0))

/-- ENABLE of NAU_CTRL is clear (R190). -/
def disableNau (s : State) (n : Nat) : State := modNau s n (fun u => { u with ctrl := u.ctrl &&& 0x7FFFFFFF#32 })

/-- The device is Unconfigured (R294): every frame zero, the shell's NAUs disabled, slow I/O in high impedance, CFG_DONE low. -/
def unconfigure (s : State) : State :=
  (shellNaus s).foldl disableNau
    (modSys (modCfg s (fun c => { c with frames := [], loading := false })) (fun y => { y with cfgDone := false, userIo := false }))

/-- CFG_CLEAR (R296). -/
def cfgClear (s : State) : State := modSys (unconfigure (linksOff (destroyAll s))) (fun y => { y with cfgErr := false })

/-- The shell has gone: its plot record. -/
def shellGone (s : State) : State := markAll (modPlot s 0 (fun p => { p with state := .empty, meas := 0#384, ffInit := false })) true

/-- CFG_CLEAR with the shell's record. -/
def clearConfig (s : State) : State := shellGone (cfgClear s)

/-- Source 34, the configuration manager (R380). -/
def srcCfg : Nat := 674

/-- What a failed full load leaves (R295, R321). -/
def failFull (s : State) (f : LoadFail) : State :=
  let s1 := raise (modCfg s (fun c => { c with lastResult := BitVec.ofNat 64 (loadWord f) })) srcCfg
  let s2 := if f.reason = 0x0F ∧ configured s1 = true then clearConfig s1 else if s1.cfg.loading then shellGone (unconfigure s1) else s1
  modSys s2 (fun y => { y with cfgErr := true })

/-- A failed plot load leaves its plot Empty and blanked (R321): from the body on, for a frame-map violation or a lost die at any stage, for
its source from the quiesce on. -/
def plotBlanked (f : LoadFail) : Bool :=
  decide (3 ≤ f.stage) || decide (f.reason = 0x09) || decide (f.reason = 0x0F) || (decide (f.reason = 0x0E) && decide (2 ≤ f.stage))

/-- What a failed plot load leaves (R321). -/
def failPlot (s : State) (p : Nat) (f : LoadFail) : State :=
  let s1 := if f.reason = 0x09 then violationOf s srcCfg 0x25 p 0 cfgNode f.frame else s
  let s2 := modPlot s1 p (fun x => { x with quiesced := false })
  if plotBlanked f then
    plotNotice ((plotAt s2 p).res.naus.foldl (if f.reason = 0x09 then failTraffic else endTraffic) (blankPlot s2 p)) p
  else plotNotice ((nausOf s2 p).foldl nauServe s2) p

/-- The plot that a load job is for; 0: the device. -/
def jobPlot (j : Job) : Nat := if j.op = 0x0204 then u8 j.payload 0 else 0

/-- Whether a job is a boot load: started by no mailbox (R313). -/
def bootJob (j : Job) : Bool := decide (j.op = 0x0100 ∧ j.mbx = 24)

/-- Start the job of a full load; CFG_ERR_N goes high as the load begins (R295). -/
def startFull (s : State) (w : Who) (p : Bytes) : Ans × State :=
  let r := startJob s w 0x0100 p [(.shell, false)] 0
  if r.1.status = stJob then (r.1, modSys r.2 (fun y => { y with cfgErr := false })) else r

/-- Start the load of a boot entry (R313). -/
def startBoot (s : State) (entry : Nat) : State :=
  (startFull s { hz := .a, mbx := 24 } ([0#8, BitVec.ofNat 8 entry] ++ zeros 14)).2

/-- After a failed boot load: the fallback entry, if it has not been tried (R313). -/
def bootNext (s : State) : State :=
  if s.cfg.bootTry = 1 ∧ s.peat.fallback ≠ 0xFF then
    startBoot (modCfg s (fun c => { c with bootTry := 2, usedFallback := true })) s.peat.fallback
  else s

/-- A load job ends in failure. -/
def failLoad (s : State) (id : Nat) (f : LoadFail) (st : JobState) (detail : Nat) : State :=
  match jobAt s id with
  | none => s
  | some j =>
    let p := jobPlot j
    let s1 := dropLoad s id
    let s2 := if p = 0 then failFull s1 f else failPlot s1 p f
    let s3 := modCfg s2 (fun c => if c.taking = some id then { c with taking := none } else c)
    let s4 := endJob (stepDone s3 id) id st f.status detail (loadWord f) []
    if bootJob j then bootNext s4 else s4

/-- A full load that a command's own status refuses before its body (R251): it has failed (R295, R313). -/
def failRefused (s : State) (id st detail : Nat) : State :=
  match jobAt s id with
  | none => s
  | some j =>
    let s1 := jobFail (modSys s (fun y => { y with cfgErr := true })) id st detail 0
    if bootJob j then bootNext s1 else s1

/-- A plot load begins its body after the drain (R319): the plot is Loading, its generation advances, its snoops are answered. -/
def beginPlotLoad (s : State) (id p : Nat) (img : Bytes) : State :=
  let ld := newLoad s id p img
  let s1 := modPlot (clearHidden s p) p (fun x => { x with
    state := .loading, gen := x.gen + 1, quiesced := false, halt := 2, byBreak := false, captured := false, meas := 0#384 })
  let s2 := clearCaptures (modCfg s1 (fun c => { c with loads := c.loads ++ [ld] })) p
  let s3 := (plotAt s2 p).res.naus.foldl refuseSnoops s2
  (plotAt s3 p).res.naus.foldl nauServe s3

/-- A full load begins its body (R316): CFG_CLEAR where the device is Configured, then Loading. DESIGN CHOICE (log 193): on a device that is not
Configured the plots that exist stay. -/
def beginFullLoad (s : State) (id : Nat) (img : Bytes) : State :=
  let ld := newLoad s id 0 img
  let s1 := if configured s then clearConfig s else s
  modSys (modCfg s1 (fun c => { c with loading := true, loads := c.loads ++ [ld] })) (fun y => { y with cfgErr := false })

/-- Every die of the image has passed its END record. -/
def bodyDone (ld : Load) : Bool := (imgDies ld.image).all (hasElem ld.ended)

/-- ENABLE of NAU_CTRL is set (R190). -/
def enableNau (s : State) (n : Nat) : State := modNau s n (fun u => { u with ctrl := u.ctrl ||| 0x80000000#32 })

/-- The end of a plot load (R319): frames the image did not write are zeroed; the plot runs. -/
def finishPlotLoad (s : State) (ld : Load) : State :=
  let p := ld.plot
  let s1 := zeroFrames s (fun a => inMap s p a && !hasElem ld.wrote a)
  let s2 := modPlot s1 p (fun x => { x with
    state := .running, meas := imgMeas ld.image, dbgSinceLoad := (sessionOf s p).isSome, ffInit := true, zeroing := false })
  let s3 := (plotAt s2 p).res.naus.foldl enableNau (markRegions s2 (plotAt s2 p).res.regions false)
  jobOk (plotNotice (dropLoad s3 ld.job) p) ld.job 0 []

/-- The end of a full load once its settings records stand (R316): flip-flops at their initial values, user I/O, the shell's NAUs, CFG_DONE. -/
def finishFullLoad (s : State) (ld : Load) : State :=
  let s1 := modCfg (dropLoad s ld.job) (fun c => { c with loading := false, lastResult := 0#64, taking := none })
  let s2 := modPlot s1 0 (fun x => { x with state := .running, meas := imgMeas ld.image, dbgSinceLoad := (sessionOf s 0).isSome, ffInit := true })
  let s3 := (shellNaus s2).foldl enableNau (modSys (markAll s2 false) (fun y => { y with userIo := true, cfgDone := true }))
  jobOk s3 ld.job 0 []

end Machine
end Sys2Proof
end

