-- ==== Sys2Proof/Machine/Mgmt.lean ====
section
/-! DEFINITION. The management complex: cancelled jobs (R349), the fatal path (R397), management restarts (R329), the scratchpad
(R330 to R332), transports, slots and functions (R334 to R344, R91). -/

namespace Sys2Proof
namespace Machine

/-! ## Route changes of Ohmyx's own (R197, R218, R464) -/

/-- Bypassed routers (node div 2). -/
def bypassedRouters (s : State) : List Nat := (s.silt.routers.filter (fun kv => kv.2.bypassed)).map (·.1)

/-- Failed links (node div 2, code). -/
def failedLinks (s : State) : List (Nat × Nat) :=
  s.silt.routers.flatMap (fun kv => (linkCodes.filter (fun c => bitOf kv.2.linkDown c)).map (fun c => (kv.1, c)))

/-- The set Ohmyx computes now, without further routers and links. -/
def computedSet (s : State) (outR : List Nat) (outL : List (Nat × Nat)) : RouteSet :=
  .computed (diesUp s) (bypassedRouters s ++ outR) (failedLinks s ++ s.tilth.detours ++ outL)

/-- The shadow bank is written in every router, which acknowledges it (R197); a disabled link that the set routes through is put to use
again (R200). -/
def startChange (s : State) (job : Nat) (rs : RouteSet) (removing : List Nat) : State :=
  let off := s.silt.routers.flatMap (fun kv => (linkCodes.filter (fun c => bitOf kv.2.linkOff c && routesThrough s rs (2 * kv.1) c)).map (fun c => (kv.1, c)))
  let s1 := off.foldl (fun s x => modTilth (switchLink s (2 * x.1) x.2 true) (fun t => { t with
    detours := t.detours.filter (fun y => !routesThrough s rs (2 * y.1) y.2) })) s
  modSilt s1 (fun n => { n with
    bank0 := if n.epoch then rs else n.bank0, bank1 := if n.epoch then n.bank1 else rs, change := some (job, false), removing := removing,
    routers := n.routers.map (fun kv => (kv.1, { kv.2 with shadowOk := false })) })

/-- A set routes nothing through the elements that a change removes (R200). -/
def avoids (s : State) (rs : RouteSet) (outR : List Nat) (outL : List (Nat × Nat)) : Bool :=
  outL.all (fun x => !routesThrough s rs (2 * x.1) x.2) &&
  outR.all (fun r => (presentRouters s).all (fun n => linkCodes.all (fun c =>
    decide (n / 2 = r) || decide (linkTo n c ≠ some (2 * r)) || !routesThrough s rs n c)))

/-- The set that Ohmyx finds for a change of its own: the fewest-links set, else another that R188 accepts; which, the manual leaves open. -/
def tilthRoutes (s : State) (outR : List Nat) (outL : List (Nat × Nat)) : Option RouteSet :=
  [computedSet s outR outL, .loaded (Config.tilthSet s.mgmt.free)].find? (fun rs => validSet s rs outR && avoids s rs outR outL)

/-- Elements that a change removes: routers, and links from 4096 on. -/
def removedElems (outR : List Nat) (outL : List (Nat × Nat)) : List Nat := outR ++ outL.map (fun x => 4096 + 8 * x.1 + x.2)

/-- Tilth's job for a route change of its own, which waits while another change runs or its old packets are left, or without room for a
job (R21, R218, R227). Without
a set that R188 accepts there is no detour (R219). -/
def ownChange (s : State) (outR : List Nat) (outL : List (Nat × Nat)) : State :=
  if held s .routes || oldAnywhere s || !recordFree s then
    modSilt s (fun n => { n with
      changeOwed := true, owedRouters := (n.owedRouters ++ outR).dedup, owedLinks := (n.owedLinks ++ outL).dedup })
  else
    let s1 := modMgmt s (fun g => { g with free := g.free + 1 })
    match tilthRoutes s outR outL with
    | none => s1
    | some rs =>
      let r := newJob s1 ownSender 0x0500 [] [(.routes, false)] 2
      startChange r.2 r.1 rs (removedElems outR outL)

/-- A change has ended, whatever its outcome: the one that Tilth owes starts (R218). -/
def afterChange (s : State) : State :=
  if s.silt.changeOwed then
    ownChange (modSilt s (fun n => { n with changeOwed := false, owedRouters := [], owedLinks := [] })) s.silt.owedRouters s.silt.owedLinks
  else s

/-! ## Cancelled jobs (R349) -/

/-- Source 35, the management complex (R380). -/
def srcMgmt : Nat := 675

/-- SILT_ROUTE_LOAD's and SILT_BYPASS's change, or Tilth's (R197). -/
def changeOf (s : State) (id : Nat) : Option Bool :=
  match s.silt.change with
  | some (j, flipped) => if j = id then some flipped else none
  | none => none

/-- A route change ends before its flip: no epoch changes. -/
def dropChange (s : State) : State :=
  modSilt s (fun n => { n with change := none, removing := [], routers := n.routers.map (fun kv => (kv.1, { kv.2 with shadowOk := false })) })

/-- Flows no longer under quiesce deliver again (R157). -/
def resumeFlows (s : State) : State :=
  (s.flows.filter (fun kv => kv.2.stopped)).foldl (fun s kv =>
    if quiescing s (.flow kv.1) then s else refreshReady (modFlow s kv.1 (fun f => { f with stopped := false })) kv.1) s

/-- Slots no longer under quiesce are filled again (R161). -/
def resumeSlots (s : State) : State :=
  s.quarters.foldl (fun s q => (q.2.slots.filter (fun kv => kv.2.reclaiming)).foldl (fun s kv =>
    if quiescing s (.slot q.1 kv.1) then s else modEslot s q.1 kv.1 (fun x => { x with reclaiming := false })) s) s

/-- Ports no longer under a change take messages from Silt again, and no test runs on them; links that are still down for it retrain
(R84). -/
def resumePorts (s : State) : State :=
  (List.range 8).foldl (fun s n =>
    if quiescing s (.port n) then s
    else
      let s1 := if (portAt s n).quiesced then portRetrain (modPort s n (fun x => { x with quiesced := false, loopback := false, nearEnd := false })) n else s
      [2 * n, 2 * n + 1].foldl (fun s l => modLink s l (fun x => { x with drained := false })) s1) s

/-- Requests that waited for a quiesce go on (R18). -/
def resumeAll (s : State) : State :=
  let s1 := releaseUnits (resumePorts (resumeSlots (resumeFlows (releaseAgents s))))
  let s2 := (s1.silt.naus.map (·.1)).foldl nauServe s1
  (List.range 16).foldl linkPump s2

/-- A copy that ends before its change: the channel's writes go to it alone again (R224). -/
def endCopy (s : State) (j : Job) : State :=
  if j.op = 0x0705 ∨ j.op = 0x0406 ∨ j.op = 0x0407 then modStack s (byteAt j.payload 0) (fun k => { k with copying := none, both := [] }) else s

/-- A job ends before its time, with what it has begun undone: a load fails (R321), a route change does not flip (R197), a copy's writes
go to one channel again (R224). A change that has flipped goes on to its end. -/
def stopJob (s : State) (id : Nat) (st : JobState) (status detail : Nat) : State :=
  match jobAt s id with
  | none => s
  | some j =>
    if j.op = 0x0100 ∨ j.op = 0x0204 then
      failLoad s id { reason := 0x0E, stage := if j.stage = 0 then 1 else j.stage + 1, status := status } st detail
    else match changeOf s id with
      | some true => s
      | some false => afterChange (endJob (dropChange s) id st status detail 0 [])
      | none => (if j.op = 0x0500 ∨ j.op = 0x0502 then afterChange else resumeAll) (endJob (endCopy s j) id st status detail 0 [])

/-- A job is cancelled at its step boundary, unless it cannot fail any more (R349). -/
def cancelNow (s : State) (id detail : Nat) : State :=
  match jobAt s id with
  | none => s
  | some j => if j.state ≠ .running ∨ j.sure = true then s else stopJob s id .cancelled stFault detail

/-- Every open job is cancelled. -/
def cancelAll (s : State) (detail : Nat) : State := (openJobs s).foldl (fun s id => cancelNow s id detail) s

/-- The opcode in the record of the job that writes a dump: no command starts it. -/
def opDump : Nat := 0x0000

/-- The dump being written is given up (R399): its job ends with ST_FAULT, what stands of it goes. -/
def stopDump (s : State) (detail : Nat) : State :=
  let js := (openJobs s).filter (fun id => match jobAt s id with | some j => decide (j.op = opDump) | none => false)
  let s1 := js.foldl (fun s id => endJob s id .done stFault detail 0 []) s
  if s.dumps.plan.isSome then modDumps s1 (fun d => { d with plan := none, kaolin := none }) else s1

/-! ## The fatal path (R396 to R399) -/

/-- Source 40 (R380). -/
def srcFatal : Nat := 680

/-- A FATAL cause: the path is taken in hardware; Ohmyx ends every job and starts the dump, where one is made. A further FATAL
cause makes its record and sets SECOND_FATAL. -/
def fatalPath (s : State) (r : RecOf) (dump direct : Bool) : State :=
  let r1 := { r with sev := sevFatal }
  if s.sys.fatal then modSys (record s r1) (fun y => { y with secondFatal := true })
  else
    let nested := s.evt.ring.any (·.isOpen)
    let seq := s.evt.nextSeq
    let s1 := modSys (record s r1) (fun y => { y with fatal := true, nested := nested, fatalPin := true })
    let s2 := raise (modSilt s1 (fun n => { n with sink := true })) srcFatal
    if dump then
      modDumps (cancelAll s2 4) (fun d => { d with
        wanted := true, complete := false, direct := direct, head := some (seq, r.src, r.cause, now s) })
    else s2

/-! ## Management restart (R328, R329) -/

/-- Slots whose command executes. -/
def executing (s : State) : List (Nat × Nat) :=
  s.mbxs.flatMap (fun kv => (kv.2.slots.filter (fun x => decide (x.2.state = .executing))).map (fun x => (kv.1, x.1)))

/-- Commands that execute are completed with ST_FAULT; the public-key engine's queue is empty. -/
def faultExecuting (s : State) (detail : Nat) : State :=
  let s1 := (executing s).foldl (fun s x => reply s x.1 x.2 (hdrOp s x.1 x.2) (ansBad stFault detail)) s
  let s2 := modVault s1 (fun v => { v with pkQueue := [] })
  plotIds.foldl (fun s p => modPlot s p (fun x => { x with haltBy := none })) (modPlot s2 0 (fun x => { x with haltBy := none }))

/-- A restart begins. `why`, the INFO of its record, names the cause: 0 a lockstep mismatch, 1 the watchdog, 2 the scratchpad,
3 FW_ACTIVATE. A second restart within 10 s of one that was not takes the fatal path; in the
fatal state a restart restarts the dump once, and a second one ends the path with no dump (R399). -/
def restartBegin (s : State) (why : Nat) : State :=
  let fw := decide (why = 3)
  let soon := match s.mgmt.lastRestart with | some t => decide (now s - t < 10000000000) | none => false
  let s0 := faultExecuting s 5
  let s1 := modMgmt s0 (fun g => { g with restarting := true, restartFw := fw, halted := none, lastRestart := if fw then g.lastRestart else some (now s) })
  let s2 := cancelAll (stopDump s1 5) 5
  let s3 := report s2 { src := srcMgmt, sev := sevInfo, cause := 0x22, node := mgmtNode, info := why }
  if s.sys.fatal then
    modDumps s3 (fun d => { d with
      restarts := d.restarts + 1,
      wanted := d.wanted && decide (d.restarts = 0) })
  else if soon then fatalPath s3 { src := srcMgmt, sev := sevFatal, cause := 0x31, node := mgmtNode } true false
  else s3

/-- The cores run: started, not restarting. -/
def coresRun (s : State) : Bool := decide (s.sys.phase = .ready) && !s.mgmt.restarting

/-- Ohmyx's own activity goes on: Tilth repairs, background tasks, telemetry (R13): the cores run and are not halted. -/
def ohmyxRuns (s : State) : Bool := coresRun s && s.mgmt.halted.isNone

/-- The core pair runs code that serves: Ohmyx while it fills the stacks and after, or the boot ROM in ROM mode (R33, R326). -/
def coresUp (s : State) : Bool :=
  (decide (s.sys.phase = .filling) || decide (s.sys.phase = .ready) || decide (s.sys.phase = .romMode)) && !s.mgmt.restarting

/-- MGMT_WATCHDOG_EXPIRY (R328): Ohmyx services it, so it runs where Ohmyx runs; it pauses while a horizon O session
holds the cores halted. -/
def execMgmtWatchdogExpiry (s : State) : Host.Outcome State Fault Refusal :=
  if coresUp s && decide (s.sys.phase ≠ .romMode) && s.mgmt.halted.isNone then .next (restartBegin s 1) else .next s

/-- LOCKSTEP_MISMATCH (R328). -/
def execLockstepMismatch (s : State) : Host.Outcome State Fault Refusal :=
  if coresUp s then .next (restartBegin s 0) else .next s

/-- SCRATCHPAD_UNCORRECTABLE (R328, R332): banks 0 to 3 restart the complex; elsewhere only the reader fails. -/
def execScratchpadUncorrectable (word : Fin 524288) (victim : SpdVictim) (s : State) : Host.Outcome State Fault Refusal :=
  let bank := word.val / 65536
  let s1 := raise (modMgmt s (fun g => { g with spdErr := setFld (setFld g.spdErr 2 2 1) 11 9 bank })) srcMgmt
  if bank < 4 then (if coresUp s then .next (restartBegin s1 2) else .next s1)
  else match victim with
    | .none => .next s1
    | .slot m i =>
      if (slotAt s m.val i.val).state = .executing then .next (reply s1 m.val i.val (hdrOp s1 m.val i.val) (ansBad stFault 7)) else .next s1
    | .job id =>
      match jobAt s id.val with
      | some j => if j.state = .running then .next (stopJob s1 id.val .done stFault 7) else .next s1
      | none => .next s1

/-- The firmware of a slot. -/
def fwOf (s : State) (k : Nat) : Nat × Nat × Nat :=
  match tget none s.peat.fw k with | some (b, _) => Config.firmwareVersion b | none => s.mgmt.fw

/-- MANAGEMENT_RESTART_DONE (R327, R329): Ohmyx serves again; after FW_ACTIVATE the other slot's image runs and a capability event
follows. -/
def execManagementRestartDone (s : State) : Host.Outcome State Fault Refusal :=
  if s.mgmt.restarting then
    let fns := s.mgmt.owed
    let fw := s.mgmt.restartFw
    let s1 := modMgmt s (fun g => { g with
      restarting := false, restartFw := false, owed := [],
      slot := if fw then 1 - g.slot else g.slot })
    let s2 := if fw then capEvent (modMgmt s1 (fun g => { g with fw := fwOf s1 g.slot })) else s1
    .next (fns.foldl (fun s f => notice s 64 [f]) (markActed s2 0x22 mgmtNode))
  else .next s

/-- FW_PIECE_TIMEOUT (R360): a sequence with no piece for 10 s is discarded. -/
def execFwPieceTimeout (s : State) : Host.Outcome State Fault Refusal := .next (modMgmt s (fun g => { g with pieces := none }))

/-! ## Scratchpad (R330 to R332) -/

/-- Code of a master. -/
def masterCode : SpdMaster → Nat
  | .core => 0
  | .endpoint => 1
  | .silt => 2

/-- Owner of a bank. -/
def bankOwner (s : State) (b : Nat) : Nat := tget 0 s.mgmt.owners b

/-- SPD_BANK_OWNERn as a word; a hand-over is over within two cycles. -/
def bankOwnerWord (s : State) (b : Nat) : Nat := tget 0 s.mgmt.ownerHi b * 4 + bankOwner s b

/-- Write SPD_BANK_OWNERn. -/
def bankOwnerSet (s : State) (b : Nat) (v : Word) : State :=
  modMgmt s (fun g => { g with owners := tset 0 g.owners b (fld v 1 0), ownerHi := tset 0 g.ownerHi b (fld v 30 2) })

/-- SPD_BANK_OWNER_WRITE (R330). -/
def execSpdBankOwnerWrite (bank : Fin 8) (v : Word) (s : State) : Host.Outcome State Fault Refusal := .next (bankOwnerSet s bank.val v)

/-- A master may reach a bank (R330): it owns it, or the bank is shared. -/
def bankLets (s : State) (b : Nat) (m : SpdMaster) : Bool := decide (bankOwner s b = 3 ∨ bankOwner s b = masterCode m)

/-- An access of a master that does not own the bank: OWNER_VIOL with the bank and the master (R330, R332). -/
def ownerViol (s : State) (b : Nat) (m : SpdMaster) : State :=
  modMgmt s (fun g => { g with spdErr := setFld (setFld (setFld g.spdErr 0 0 1) 11 9 b) 8 7 (masterCode m) })

/-- The bank of a mailbox's slots. -/
def slotBank (m : Nat) : Nat := 4 + m / 8

/-- Mailbox, slot and byte offset in its page that a scratchpad word of banks 4 to 6 lies at. -/
def spdSlot (word : Nat) : Option (Nat × Nat × Nat) :=
  if 262144 ≤ word ∧ word < 458752 then
    some ((word - 262144) / 8192, (word - 262144) % 8192 / 1024, 4 * ((word - 262144) % 1024))
  else none

/-- Put bytes into a slot's request area (R338). -/
def fillSlotReq (s : State) (m i off : Nat) (data : Bytes) : State :=
  modSlot s m i (fun x => { x with req := (data.zipIdx).foldl (fun t d => if off + d.2 < 2048 then tset 0#8 t (off + d.2) d.1 else t) x.req })

/-- Change the word at an offset of a slot's page: of the request area, or of the response that a DONE slot holds. -/
def slotWordMod (s : State) (m i off : Nat) (f : Word → Word) : State :=
  if off < 2048 then
    fillSlotReq s m i off (leBytes 4 (f (BitVec.ofNat 32 (leN ((List.range 4).map (fun k => tget 0#8 (slotAt s m i).req (off + k))) 0 4))).toNat)
  else if (slotAt s m i).state = .done then
    let a := off - 2048
    let b := leBytes 16 (slotAt s m i).rspHdr.toNat ++ (slotAt s m i).rsp ++ zeros (a + 4 - (16 + (slotAt s m i).rsp.length))
    let c := b.take a ++ leBytes 4 (f (BitVec.ofNat 32 (leN b a 4))).toNat ++ b.drop (a + 4)
    modSlot s m i (fun x => { x with rspHdr := BitVec.ofNat 128 (leN c 0 16), rsp := c.drop 16 })
  else s

/-- A write through an alias (R331): `f` combines the stored word with the written one. The endpoint port has no alias windows. -/
def aliasWrite (s : State) (m : SpdMaster) (word : Nat) (f : Word → Word) : State :=
  if m = .endpoint then s
  else if bankLets s (word / 65536) m then
    match spdSlot word with
    | some (k, i, off) => slotWordMod s k i off f
    | none => modMgmt s (fun g => { g with spd := tmod 0#32 g.spd word f })
  else ownerViol s (word / 65536) m

/-- SPD_SET_ALIAS_WRITE (R331). -/
def execSpdSetAliasWrite (master : SpdMaster) (word : Fin 524288) (v : Word) (s : State) : Host.Outcome State Fault Refusal :=
  .next (aliasWrite s master word.val (· ||| v))

/-- SPD_CLEAR_ALIAS_WRITE (R331). -/
def execSpdClearAliasWrite (master : SpdMaster) (word : Fin 524288) (v : Word) (s : State) : Host.Outcome State Fault Refusal :=
  .next (aliasWrite s master word.val (· &&& ~~~v))

/-- SPD_ERR_READ (R332): a read returns the flags and clears them. -/
def execSpdErrRead (s : State) : Host.Outcome State Fault Refusal := .next (modMgmt s (fun g => { g with spdErr := 0#12 }))

/-- SPD_CNT_CLR (R332). -/
def spdCntClear (s : State) (v : Word) : State := if bitOf v 0 then modMgmt s (fun g => { g with cntConflict := {}, cntCorr := {} }) else s

/-- SPD_CNT_CLR. -/
def execSpdCntClr (v : Word) (s : State) : Host.Outcome State Fault Refusal := .next (spdCntClear s v)

/-- A read of an SPD register (R332). -/
def spdReg (s : State) (off : Nat) : Nat :=
  if off < 0x20 then bankOwnerWord s (off / 4)
  else match off with
    | 0x020 => s.mgmt.spdErr.toNat
    | 0x024 => s.mgmt.spdErr.toNat
    | 0x028 => ctrWord s.mgmt.cntConflict
    | 0x02C => ctrWord s.mgmt.cntCorr
    | _ => 0

/-- A write of an SPD register. -/
def spdRegWrite (s : State) (off : Nat) (v : Word) : State :=
  if off < 0x20 ∧ off % 4 = 0 then bankOwnerSet s (off / 4) v else if off = 0x03C then spdCntClear s v else s

/-! ## Mailbox control pages (R338, R339, R343) -/

/-- What the management endpoint presents (R89, R90): the device code of the part, the SR-IOV capability, MSI-X, its limits. -/
def epIdentity (s : State) : EpIdentity := { device := partCode s.sys.part, vfDevice := partCode s.sys.part }

/-- MSI-X vectors of a function (R90). -/
def fnVectors (s : State) (f : Nat) : Nat := if f = 0 then (epIdentity s).pfVectors else (epIdentity s).vfVectors

/-- The host reaches mailbox m through the management endpoint, which is up: mailbox 0, or an enabled VF's (R89, R91). -/
def mbxReached (s : State) (m : Nat) : Bool :=
  decide (s.sys.phase ≠ .held ∧ s.sys.phase ≠ .tripHeld) && s.sys.endpointUp && (decide (m = 0) || fnEnabled s m)

/-- MBX_DB_RESULT (R343). -/
def dbWord (retry st seq slot : Nat) : Word := BitVec.ofNat 32 (retry % 65536 * 65536 + st * 256 + seq % 16 * 16 + slot)

/-- A slot becomes QUEUED. -/
def queueSlot (s : State) (m i : Nat) : State :=
  let q := (mbxAt s m).nextSeq
  modMbx (modSlot s m i (fun x => { x with state := .queued, seq := q, queuedAt := now s, discard := false })) m (fun b => { b with nextSeq := q + 1 })

/-- RETRY_US of a mailbox: Ohmyx's estimate, and 1,000 µs where all its slots are DONE (R339, R350). -/
def retryAt (s : State) (m : Nat) : Nat :=
  if (List.range 8).all (fun k => decide ((slotAt s m k).state = .done)) then 1000 else retryHint s

/-- A doorbell (R339). -/
def doorbell (s : State) (m : Nat) (v : Word) : State :=
  let i := fld v 2 0
  let b := mbxAt s m
  let seq := b.nextSeq + 1
  let anyIdle := (List.range 8).any (fun k => decide ((slotAt s m k).state = .idle))
  let bump := fun (s : State) => modMbx s m (fun b => { b with nextSeq := seq })
  if !serving s then
    let r := if s.mgmt.restarting then 25000 else retryAt s m
    modMbx (bump (drawFree s)) m (fun b => { b with dbResult := dbWord r stBusy seq i, cntRej := ctrInc b.cntRej })
  else if (slotAt s m i).state = .idle then modMbx (queueSlot s m i) m (fun b => { b with dbResult := dbWord 0 stOk seq i })
  else if anyIdle then modMbx (bump s) m (fun b => { b with dbResult := dbWord 0 stBadArg seq i, err := b.err ||| 2#4 })
  else modMbx (bump (drawFree s)) m (fun b => { b with dbResult := dbWord (retryAt s m) stBusy seq i, err := b.err ||| 4#4, cntRej := ctrInc b.cntRej })

/-- MBX_DOORBELL (R339). -/
def execMbxDoorbell (m : Fin 17) (value : Word) (s : State) : Host.Outcome State Fault Refusal :=
  if mbxReached s m.val then .next (doorbell s m.val value) else .next s

/-- A write of MBX_ACK (R338, R343). -/
def ackSlots (s : State) (m : Nat) (v : Word) : State :=
  (List.range 8).foldl (fun s i =>
    if bitOf v i then
      if (slotAt s m i).state = .done then modSlot s m i (fun x => { x with zeroizing := true })
      else modMbx s m (fun b => { b with err := b.err ||| 8#4 })
    else s) s

/-- MBX_ACK (R338). -/
def execMbxAck (m : Fin 17) (value : Word) (s : State) : Host.Outcome State Fault Refusal :=
  if mbxReached s m.val then .next (ackSlots s m.val value) else .next s

/-- SLOT_ZEROIZED (R338): the slot shows IDLE. -/
def execSlotZeroized (m : Fin 17) (slot : Fin 8) (s : State) : Host.Outcome State Fault Refusal :=
  if (slotAt s m.val slot.val).zeroizing then .next (modSlot s m.val slot.val (fun _ => {})) else .next s

/-- MBX_ID (R343): the plot is 0 for mailbox 0 and 0x1F where none is bound. -/
def mbxId (s : State) (m : Nat) : Nat :=
  let r := if 1 ≤ m ∧ m ≤ 16 then (match plotOfVf s m with | some p => (p, 1) | none => (0x1F, 2)) else (0, 0)
  r.1 * 2 ^ 19 + r.2 * 2 ^ 17 + m

/-- Code of a slot's state (R338). -/
def slotCode : SlotState → Nat
  | .idle => 0
  | .queued => 1
  | .executing => 2
  | .done => 3

/-- MBX_STATE (R343). -/
def mbxState (s : State) (m : Nat) : Nat :=
  b2n (serving s) * 2 ^ 31 + b2n s.mgmt.restarting * 2 ^ 30 + b2n (decide (s.sys.phase = .romMode)) * 2 ^ 29 +
    ((List.range 8).map (fun i => slotCode (slotAt s m i).state * 4 ^ i)).sum

/-- What a read of a mailbox control page returns (R6, R343): write-only registers and reserved offsets read 0, and the peek alias of
MBX_ERR gives its value (R7). -/
def mbxReg (s : State) (m off : Nat) : Nat :=
  let b := mbxAt s m
  match off with
  | 0x000 => mbxId s m
  | 0x004 => mbxState s m
  | 0x00C => b.dbResult.toNat
  | 0x014 => 2 * b.irqHi.toNat + b2n b.doneEn
  | 0x018 => b.err.toNat
  | 0x01C => b.err.toNat
  | 0x020 => ctrWord b.cntRej
  | 0x024 => ctrWord b.cntDone
  | _ => 0

/-- MBX_ERR_READ (R343): the read returns the flags, then clears them. -/
def execMbxErrRead (m : Fin 17) (s : State) : Host.Outcome State Fault Refusal :=
  if mbxReached s m.val then
    .next (modMbx s m.val (fun b => { b with readData := BitVec.ofNat 32 (mbxReg s m.val 0x018), err := 0#4 }))
  else .next s

/-- MBX_CNT_CLR's effect. -/
def mbxCntClear (s : State) (m : Nat) (v : Word) : State := if bitOf v 0 then modMbx s m (fun b => { b with cntRej := {}, cntDone := {} }) else s

/-- MBX_CNT_CLR (R343). -/
def execMbxCntClr (m : Fin 17) (v : Word) (s : State) : Host.Outcome State Fault Refusal :=
  if mbxReached s m.val then .next (mbxCntClear s m.val v) else .next s

/-- A write of the endpoint port into a slot's request area: taken while IDLE, dropped with WRITE_LOCKED else (R338); of a bank that the
port does not reach nothing is written (R330). -/
def hostSlotWrite (s : State) (m i off : Nat) (data : Bytes) : State :=
  if (slotAt s m i).state = .idle then
    (if bankLets s (slotBank m) .endpoint then fillSlotReq s m i off data else ownerViol s (slotBank m) .endpoint)
  else modMbx s m (fun b => { b with err := b.err ||| 1#4 })

/-- SLOT_REQUEST_WRITE (R338). -/
def execSlotRequestWrite (m : Fin 17) (slot : Fin 8) (off : Fin 2048) (data : Bytes) (s : State) : Host.Outcome State Fault Refusal :=
  if mbxReached s m.val then .next (hostSlotWrite s m.val slot.val off.val data) else .next s

/-! ## Mailboxes 17 and 18 (R334, R335) -/

/-- A request message for mailbox 17 or 18: queued on a free slot, or answered ST_BUSY. -/
def transportRequest (s : State) (m : Nat) (header : BitVec 128) (payload : Bytes) : State :=
  let busy := fun (detail retry : Nat) =>
    modMbx s m (fun b => { b with sent := b.sent ++ [(rspHeader (fld header 15 0) (fld header 63 32) (ansBad stBusy detail) retry, [])] })
  if !serving s then (if s.sys.phase = .ready then busy 4 25000 else s)
  else match (List.range 8).find? (fun i => decide ((slotAt s m i).state = .idle)) with
    | none => drawFree (busy 1 (retryAt s m))
    | some i => queueSlot (fillSlotReq (modSlot s m i (fun _ => {})) m i 0 (leBytes 16 header.toNat ++ payload)) m i

/-- MCTP_REQUEST (R334). -/
def execMctpRequest (pecOk : Bool) (header : BitVec 128) (payload : Bytes) (s : State) : Host.Outcome State Fault Refusal :=
  if pecOk then .next (transportRequest s 17 header payload) else .next (modMgmt s (fun g => { g with pecErr := ctrInc g.pecErr }))

/-- TRANSPORT_RESPONSE_SENT (R335): the response has been sent and its slot is free. -/
def execTransportResponseSent (uart : Bool) (slot : Fin 8) (s : State) : Host.Outcome State Fault Refusal :=
  let m := if uart then 18 else 17
  let x := slotAt s m slot.val
  if x.state = .done then
    .next (modSlot (modMbx s m (fun b => { b with sent := b.sent ++ [(x.rspHdr, x.rsp)] })) m slot.val (fun _ => {}))
  else .next s

/-- A control response goes out. -/
def controlSent (s : State) (b : Bytes) : State := modMgmt s (fun g => { g with ctrlSent := g.ctrlSent ++ [b] })

/-- The device answers on SMBus: out of reset. -/
def smbusUp (s : State) : Bool := decide (s.sys.phase ≠ .held ∧ s.sys.phase ≠ .tripHeld)

/-- SET_ENDPOINT_ID (R334): command 1; completion code, assignment accepted, the identifier, no pool. -/
def execSetEndpointId (eid : Byte) (s : State) : Host.Outcome State Fault Refusal :=
  if smbusUp s then .next (controlSent (modMgmt s (fun g => { g with eid := eid })) [1#8, 0#8, 0#8, eid, 0#8]) else .next s

/-- GET_ENDPOINT_ID (R334): command 2. -/
def execGetEndpointId (s : State) : Host.Outcome State Fault Refusal :=
  if smbusUp s then .next (controlSent s [2#8, 0#8, s.mgmt.eid, 0#8, 0#8]) else .next s

/-- GET_MCTP_VERSION_SUPPORT (R334): command 4; base version 1.3, for the base, control and vendor message types. -/
def execGetMctpVersionSupport (msgType : Byte) (s : State) : Host.Outcome State Fault Refusal :=
  if smbusUp s then
    if msgType = 0xFF#8 ∨ msgType = 0#8 ∨ msgType = 0x7F#8 then .next (controlSent s [4#8, 0#8, 1#8, 0xF1#8, 0xF3#8, 0xF0#8, 0#8])
    else .next (controlSent s [4#8, 0x80#8])
  else .next s

/-- GET_MESSAGE_TYPE_SUPPORT (R334): command 5; type 0x7F. -/
def execGetMessageTypeSupport (s : State) : Host.Outcome State Fault Refusal :=
  if smbusUp s then .next (controlSent s [5#8, 0#8, 1#8, 0x7F#8]) else .next s

/-! ## Functions (R90, R91, R344, R386) -/

/-- The slots of a reset function: QUEUED ones go without effect, executing ones lose their response, all are zeroized. -/
def flrSlots (b : Mbx) : Mbx :=
  { b with slots := (List.range 8).foldl (fun t i =>
      tset {} t i (if (tget {} b.slots i).state = .executing then { (tget {} b.slots i) with discard := true } else {})) b.slots }

/-- FLR of one function (R91): its mailbox and its MSI-X state. -/
def flrOne (s : State) (f : Nat) : State := modFn (modMbx s f flrSlots) f (fun _ => {})

/-- FLR (R91): PF0's does the same for every VF and clears NumVFs. -/
def execFlr (f : Fin 17) (s : State) : Host.Outcome State Fault Refusal :=
  if f.val = 0 then .next (modMgmt ((List.range 17).foldl flrOne s) (fun g => { g with numVfs := 0 }))
  else if fnEnabled s f.val then .next (flrOne s f.val) else .next s

/-- NumVFs changes (R90, R91): a VF that is taken away is disabled. -/
def setNumVfs (s : State) (n : Nat) : State :=
  let gone := (List.range 17).filter (fun f => decide (n < f ∧ f ≤ s.mgmt.numVfs))
  (List.range 17).foldl flushMsix (modMgmt (gone.foldl flrOne s) (fun g => { g with numVfs := min n (epIdentity s).totalVfs }))

/-- VF_DISABLE (R91). -/
def execVfDisable (numVfs : Fin 17) (s : State) : Host.Outcome State Fault Refusal :=
  if numVfs.val < s.mgmt.numVfs then .next (setNumVfs s numVfs.val) else .next s

/-- NUMVFS_WRITE (R90). -/
def execNumvfsWrite (n : Fin 17) (s : State) : Host.Outcome State Fault Refusal := .next (setNumVfs s n.val)

/-- A vector's mask bit is cleared: a pending message is sent (R386). -/
def unmaskVector (s : State) (f v : Nat) : State := flushMsix (modFn s f (fun n => { n with unmasked := withElem n.unmasked v })) f

/-- MSIX_VECTOR_UNMASK (R386): a pending message of the vector is sent. 64 vectors at PF0, 8 at a VF. -/
def execMsixVectorUnmask (f : Fin 17) (v : Fin 64) (s : State) : Host.Outcome State Fault Refusal :=
  if fnEnabled s f.val = true ∧ v.val < fnVectors s f.val then .next (unmaskVector s f.val v.val) else .next s

/-! ## Saturation (R350) -/

/-- Some mailbox holds a QUEUED command that has waited longer than 1 ms. -/
def overdue (s : State) : Bool :=
  s.mbxs.any (fun kv => decide (kv.1 ≤ 18) && kv.2.slots.any (fun x => decide (x.2.state = .queued ∧ 1000000 < now s - x.2.queuedAt)))

/-- An event of a kind may be raised: none in the last second. -/
def secondPast (s : State) (t : Option Nat) : Bool := match t with | none => true | some t => decide (1000000000 ≤ now s - t)

/-- SATURATION (R350): saturation starts or ends, with a management-busy notice at most once a second each. -/
def execSaturation (s : State) : Host.Outcome State Fault Refusal :=
  if overdue s && !s.mgmt.saturated then
    let s1 := modMgmt s (fun g => { g with saturated := true })
    .next (if secondPast s s.mgmt.busyAt.1 then notice (modMgmt s1 (fun g => { g with busyAt := (some (now s), g.busyAt.2) })) 70 [0] else s1)
  else if !overdue s && s.mgmt.saturated then
    let s1 := modMgmt s (fun g => { g with saturated := false })
    .next (if secondPast s s.mgmt.busyAt.2 then notice (modMgmt s1 (fun g => { g with busyAt := (g.busyAt.1, some (now s)) })) 70 [0] else s1)
  else .next s

end Machine
end Sys2Proof
end

