-- ==== Sys2Proof/Machine/Silt.lean ====
section
/-! DEFINITION. Silt's own commands: tokens, forwarding, link protection, dead targets, route changes (the Silt chapter), and the
isolation of a die (R216 to R218). -/

namespace Sys2Proof
namespace Machine

/-! ## Tokens and forwarding -/

/-- RESERVATION_TOKEN_REQUEST (R186): tokens are for classes REQ and SNP; the target serves all who ask it in round robin, and what waited for
tokens at a source leaves. -/
def execReservationTokenRequest (src dst : Fin 1024) (cls : Cls) (n : Nat) (s : State) : Host.Outcome State Fault Refusal :=
  if planeOf cls = 0 then
    let s1 := offerHeld (grantAsked (askTokens s src.val dst.val cls n) dst.val cls) src.val
    .next (match attOf src.val with | .nau _ => nauServe s1 src.val | _ => s1)
  else .next s

/-- TOKEN_RETURN (R186): a source gives back what it has not spent, which goes to those that ask. -/
def execTokenReturn (src dst : Fin 1024) (cls : Cls) (s : State) : Host.Outcome State Fault Refusal :=
  let k := tokensHeld s src.val dst.val cls
  .next (grantAsked (modSilt s (fun x => { x with
    tokens := tset 0 x.tokens (tokKey src.val dst.val cls) 0
    granted := tmod 0 x.granted (acKey dst.val cls) (· - k) })) dst.val cls)

/-- SILT_PACKET_FORWARD (R178). -/
def execSiltPacketForward (f : Flight) (s : State) : Host.Outcome State Fault Refusal :=
  if hasElem s.silt.flights f then .next (forward s f) else .next s

/-! ## Route changes (R197 to R200) -/

/-- Keys of the attachments and classes that have packets in flight (R199). -/
def busyClasses (s : State) : List Nat :=
  (s.silt.flights.map (fun f => acKey f.pkt.src f.pkt.cls) ++ (unconsumed s).map (fun p => acKey p.src p.cls) ++ s.silt.tracked.map (·.1)).eraseDups

/-- The device epoch flips; an attachment with packets of a class in flight lags (R199). -/
def flipEpoch (s : State) : State :=
  modSilt s (fun n => { n with
    epoch := !n.epoch, lagging := (busyClasses s).foldl (fun t k => tset false t k true) n.lagging,
    change := n.change.map (fun c => (c.1, true)), routers := n.routers.map (fun kv => (kv.1, { kv.2 with shadowOk := false })) })

/-- SHADOW_BANK_ACK (R197): when every router has acknowledged, the epoch flips and the change cannot fail any more. -/
def execShadowBankAck (node : Fin 1024) (s : State) : Host.Outcome State Fault Refusal :=
  match s.silt.change with
  | some (job, false) =>
    if hasElem (presentRouters s) (node.val / 2 * 2) then
      let s1 := modRouter s node.val (fun r => { r with shadowOk := true })
      if (presentRouters s1).all (fun n => (routerAt s1 n).shadowOk) then .next (modJob (flipEpoch s1) job (fun j => { j with sure := true }))
      else .next s1
    else .next s
  | _ => .next s

/-- ROUTER_ACK_TIMEOUT (R197): no epoch changes. -/
def execRouterAckTimeout (node : Fin 1024) (s : State) : Host.Outcome State Fault Refusal :=
  match s.silt.change with
  | some (job, false) =>
    if hasElem (presentRouters s) (node.val / 2 * 2) ∧ (routerAt s node.val).shadowOk = false then
      .next (afterChange (jobFail (dropChange s) job stQuiesceTimeout 0 0))
    else .next s
  | _ => .next s

/-- ATTACHMENT_EPOCH_SWITCH (R199): with nothing of the class in flight the attachment switches, and what it held goes. -/
def execAttachmentEpochSwitch (node : Fin 1024) (cls : Cls) (s : State) : Host.Outcome State Fault Refusal :=
  if lagging s node.val cls = true ∧ inFlight s node.val cls = 0 then
    let s1 := offerHeld (modSilt s (fun n => { n with lagging := tset false n.lagging (acKey node.val cls) false })) node.val
    .next (match attOf node.val with | .nau _ => nauServe s1 node.val | _ => s1)
  else .next s

/-- A plot loses NAUs: they leave its resources, and the plot is reset (R200). -/
def loseNaus (s : State) (gone : Nat → Bool) (blank : Bool) : State :=
  plotIds.foldl (fun s p =>
    if (plotAt s p).res.naus.any gone then
      let out := (plotAt s p).res.naus.filter gone
      nausReset (modPlot (plotReset s p blank) p (fun x => { x with res := { x.res with naus := x.res.naus.filter (fun n => !gone n) } })) out
    else s) s

/-- A router is bypassed: powered down, its NAUs leave their plots (R200). -/
def bypassRouter (s : State) (r : Nat) : State :=
  loseNaus (modSilt s (fun n => { n with routers := tmod {} n.routers r (fun x => { x with bypassed := true }) }))
    (fun n => decide (n / 2 = r)) false

/-- Keep an entry in the repair record; while the Peat store is read-only the repair is not recorded. -/
def saveRepair (s : State) (kind unit : Nat) : State :=
  if s.peat.readOnly then report s { src := srcPeat, sev := sevInfo, cause := 0x2C, sub := kind, node := peatNode, info := unit }
  else sysWrite (modTilth s (fun t => { t with recorded := withElem t.recorded (kind, unit) })) 0

/-- UNIT of a router. -/
def unitRouter (n : Nat) : Nat := n

/-- An element that a change has removed is disabled (R200); a bypass goes into the repair record (R221). From 4096 on, links that Tilth
detours; from 16,384 on, links of a loaded set. -/
def disableElem (s : State) (e : Nat) : State :=
  if e < 4096 then saveRepair (bypassRouter s e) 3 (unitRouter (2 * e))
  else if e < 16384 then
    let k := e - 4096
    modTilth (switchLink s (2 * (k / 8)) (k % 8) false) (fun t => { t with detours := withElem t.detours (k / 8, k % 8) })
  else switchLink s (2 * ((e - 16384) / 8)) ((e - 16384) % 8) false

/-- A Tilth action has taken place (R226): one event and one record. -/
def tilthAction (s : State) (src sub node info : Nat) : State :=
  report (notice s 69 [0]) { src := src, sev := sevInfo, cause := 0x20, sub := sub, node := node, info := info }

/-- ROUTE_CHANGE_END (R197, R200): no old-epoch packet is left; the job ends with a route-change event, and removed elements are
disabled. A change that Tilth owes starts now (R218). -/
def execRouteChangeEnd (s : State) : Host.Outcome State Fault Refusal :=
  match s.silt.change with
  | some (job, true) =>
    if oldAnywhere s then .next s
    else
      let s1 := s.silt.removing.foldl disableElem (modSilt s (fun n => { n with change := none, removing := [] }))
      let s2 := notice (jobOk s1 job 0 []) 68 [0]
      .next (afterChange s2)
  | _ => .next s

/-! ## Link protection and dead targets (R185, R201) -/

/-- Resends in the running second of an output, this one included. -/
def resendWindow (s : State) (w : Nat × Nat) : Nat × Nat := if now s - w.1 < 1000000000 then (w.1, w.2 + 1) else (now s, 1)

/-- The link of output code c at router n is a die-link group pair (R206). -/
def dieLink (n c : Nat) : Bool := decide (c = 5) || (decide (nodeDie n = 4) && decide (c = 6))

/-- Failures of a flit in a row after one more: on a die link the second one starts a lane check, and neither counts (R213). -/
def failRun (n c k : Nat) : Nat := if dieLink n c && decide (k = 1) then 0 else k + 1

/-- LINK_CRC_FAIL (R185): the flit is resent and counted; the fourth failure in a row fails the link; more than 100 resends in a
second degrade it. -/
def execLinkCrcFail (node : Fin 1024) (code : Fin 7) (data : Bool) (s : State) : Host.Outcome State Fault Refusal :=
  let n := node.val / 2 * 2
  let c := code.val
  if linkOk s n c then
    let w := resendWindow s (tget (0, 0) (routerAt s n).window c)
    let k := 8 * b2n data + c
    let s1 := modRouter s n (fun r => { r with
      resends := tmod {} r.resends c ctrInc, window := tset (0, 0) r.window c w, fails := tmod 0 r.fails k (failRun n c) })
    let s2 := if w.2 = 101 then raise s1 (routerSrc n) else s1
    if 4 ≤ tget 0 (routerAt s2 n).fails k then
      .next (raise (modRouter (failLink s2 n c) n (fun r => { r with fails := tset 0 r.fails k 0 })) (routerSrc n))
    else .next s2
  else .next s

/-- Packets in an attachment's ejection buffer. -/
def ejected (s : State) (n : Nat) : List Flight := s.silt.flights.filter (fun f => decide (f.inCode = 15 ∧ f.pkt.dst = n))

/-- The attachment's buffers let go of the packets that have come to it and that it has not consumed (R201). -/
def dropUnconsumed (s : State) (n : Nat) : State :=
  let s1 := { s with io := { s.io with links := s.io.links.map (fun kv => (kv.1, { kv.2 with
    heldMsgs := kv.2.heldMsgs.filter (fun p => !(needsToken p && decide (p.dst = n))) })) } }
  match attOf n with
  | .nau _ => modNau s1 n (fun u => { u with cohSnp := [] })
  | _ => s1

/-- A buffer of the attachment has been full, and nothing has been consumed from it, for the dead-target bound (R201). -/
def boundPassed (s : State) (n : Nat) : Bool :=
  [Cls.req, .snp, .rsp, .dat].any (fun c => match tget none s.silt.fullSince (acKey n c) with
    | some t => decide (t + 1000 * s.silt.deadBound ≤ now s)
    | none => false)

/-- DEAD_TARGET_STALL (R201): the attachment is a dead target; what stands in its buffer is answered as such. The bound does not
apply to the NAUs of a Frozen plot (R418). -/
def execDeadTargetStall (node : Fin 1024) (s : State) : Host.Outcome State Fault Refusal :=
  let n := node.val
  if attUp s n = true ∧ boundPassed s n = true ∧ ¬((nauNumber n).isSome = true ∧ (plotAt s (plotOfNau s n)).state = .frozen) then
    let fs := ejected s n
    let ps := (unconsumed s).filter (fun p => decide (p.dst = n))
    let s1 := modSilt (dropUnconsumed s n) (fun x => { x with
      stalled := withElem x.stalled n, unitReset := without x.unitReset n, flights := x.flights.filter (fun f => !hasElem fs f) })
    .next (raise ((fs.map (·.pkt) ++ ps).foldl (fun s p => deadPacket s (n / 2 * 2) p) s1) (routerSrc n))
  else .next s

/-! ## Die isolation (R216 to R218) -/

/-- A held function stands on the die at position p (R45). -/
def funcOnDie (p : Nat) : Func → Bool
  | .port n => decide (portDie n = p)
  | .slot q _ => decide (q = p)
  | .front k _ => decide (k = p)
  | .chan k _ => decide (k = p)
  | .stack k => decide (k = p)
  | .scrub k => decide (k = p)
  | .lane l => decide (l < 128 ∧ portDie (l / 16) = p)
  | .group g => decide (g / 32 = p) || (decide (g / 16 % 2 = 1) && decide ((g / 32 + 1) % 4 = p))
  | .flow f => decide (flowHome f = p)
  | _ => false

/-- The dies a readback reads: of its ranges, or without any of its plot's frame map; the shell's frames lie on every die. -/
def readbackDies (s : State) (b : Bytes) : List Nat :=
  if u16 b 2 ≠ 0 then (rbRanges b).map (·.die)
  else if u8 b 0 = 0 then [0, 1, 2, 3]
  else (plotAt s (u8 b 0)).res.ranges.map (·.die)

/-- A job acts on a unit of the die: by what it holds, by the lines or ranges that its request names, by its image's DIE_MASK, or by the
router that it bypasses (R45). -/
def jobOnDie (s : State) (p id : Nat) (j : Job) : Bool :=
  s.mgmt.holds.any (fun h => decide (h.job = id) && funcOnDie p h.fn) ||
  (memJob j && decide (addrStack (memAddr j.payload) = p)) || (decide (j.op = 0x0107) && hasElem (readbackDies s j.payload) p) ||
  ((decide (j.op = 0x0100) || decide (j.op = 0x0204)) && hasElem (imgDies j.data) p) ||
  (decide (j.op = 0x0502) && decide (nodeDie (u16 j.payload 0) = p))

/-- Jobs acting on units of the die end with ST_ABSENT; a load ends with ABSENT (R45, R321). -/
def endDieJobs (s : State) (p : Nat) : State :=
  (openJobs s).foldl (fun s id =>
    match jobAt s id with
    | some j =>
      if !jobOnDie s p id j then s
      else if j.op = 0x0100 ∨ j.op = 0x0204 then
        failLoad s id { reason := 0x0F, stage := if j.stage = 0 then 1 else j.stage + 1, status := stAbsent, die := p } .done 2
      else stopJob (stepDone s id) id .done stAbsent 2
    | none => s) s

/-- A plot holds a region or NAU on the die, or a window in its stack. -/
def plotOnDie (s : State) (p q : Nat) : Bool :=
  let r := (plotAt s q).res
  r.regions.any (fun n => decide (nodeDie n = p)) || r.naus.any (fun n => decide (nodeDie n = p)) ||
  r.windows.any (fun w => decide (w.base / 0x200000000 = p))

/-- The die's resources leave a plot. -/
def withoutDie (r : Resources) (p : Nat) : Resources :=
  { r with
    regions := r.regions.filter (fun n => decide (nodeDie n ≠ p)), naus := r.naus.filter (fun n => decide (nodeDie n ≠ p))
    ranges := r.ranges.filter (fun x => decide (x.die ≠ p)), windows := r.windows.filter (fun w => decide (w.base / 0x200000000 ≠ p))
    crcs := r.crcs.filter (fun u => decide (u / 256 ≠ p)), events := r.events.filter (fun i => decide (i / 160 ≠ p)) }

/-- The slices act on flows that were homed on the die (R172). -/
def lostFlows (s : State) (p : Nat) : State :=
  (slicesUp s).foldl (fun s i =>
    ((sliceAt s i).trks.filter (fun kv => decide (kv.2.state = .waitGrain ∧ flowHome kv.2.flow = p))).foldl
      (fun s kv => escalationEnds s i kv.1 0x01) s) s

/-- Grains another die's quarter has spilled into the lost stack go, with drop notices of status DEAD (R217). -/
def lostSpills (s : State) (p : Nat) : State :=
  (s.flows.map (·.1)).foldl (fun s f =>
    if flowHome f ≠ p ∧ spillStack s (flowHome f) = p then
      let gone := (flowAt s f).q.filter (·.spilled)
      let s1 := gone.foldl (fun s g => dropNoticeOf s g 0x01) s
      refreshReady (modFlow s1 f (fun x => { x with q := x.q.filter (fun g => !g.spilled) })) f
    else s) s

/-- A packet that is lost ends the wait for a tracked one (R199): it is that packet, or the notice of its delivery. -/
def trackEnds (x : Nat × Nat) (p : Packet) : Bool :=
  (p.track && decide (x = (acKey p.src p.cls, p.tag))) || (decide (p.op = 0x12) && decide (x.1 / 4 = p.dst ∧ x.2 = p.tag))

/-- What stood on the die is lost: its packets, slices, quarter, links, NAU registers. -/
def loseDie (s : State) (p : Nat) : State :=
  let lost := s.silt.flights.filter (fun f => decide (nodeDie f.node = p))
  let gone := lost.map (·.pkt) ++ s.silt.heldOut.filter (fun q => decide (nodeDie q.src = p))
  let s0 := lost.foldl (fun s f => freeBuffer s f.pkt.dst f.pkt.cls) s
  let s1 := modSilt s0 (fun n => { n with
    flights := n.flights.filter (fun f => decide (nodeDie f.node ≠ p)), heldOut := n.heldOut.filter (fun q => decide (nodeDie q.src ≠ p)),
    tracked := n.tracked.filter (fun x => decide (nodeDie (x.1 / 4) ≠ p) && !gone.any (trackEnds x))
    naus := n.naus.filter (fun kv => decide (nodeDie kv.1 ≠ p)) })
  let s2 := modPce s1 (fun x => { x with slices := x.slices.filter (fun kv => decide (kv.1 / 4 ≠ p)) })
  let s3 := { s2 with quarters := tset {} s2.quarters p {} }
  let s4 := ((List.range 16).filter (fun l => decide (portDie (l / 2) = p))).foldl (fun s l => linkToDown s l) s3
  (s4.flows.map (·.1)).foldl (fun s f => if flowHome f = p then modFlow s f (fun x => { x with q := [], inflight := false }) else s) s4

/-- Steps 1 and 2 of an isolation, in hardware (R217): the die is out of service and held in reset, what stood on it is lost, its event is
raised. Position 0 takes the fatal path. -/
def isolateHw (s : State) (p src : Nat) : State :=
  let s1 := raise s src
  let s2 := modDie s1 p (fun d => { d with state := .isolated, heldInReset := true, vidCode := 0, ramping := false })
  if p = 0 then fatalPath (capEvent s2) { src := src, sev := sevFatal, cause := 0x28, node := nodeXY 0 0 0 0 } true true
  else loseDie (record s2 { src := src, sev := sevInfo, cause := 0x28, sub := p, node := nodeXY p 0 0 0 }) p

/-- Steps 3 to 7, a job of Ohmyx (R217). A snoop-filter share lost with its stack answers every fetch with DEAD from now on, which
leaves the line in the recovery state (R117). -/
def isolateRest (s : State) (p : Nat) : State :=
  let s4 := capEvent s
  let s5 := plotIds.foldl (fun s q =>
    if (plotAt s q).live && plotOnDie s p q then modPlot (plotReset s q true) q (fun x => { x with res := withoutDie x.res p }) else s) s4
  lostSpills (lostFlows (endLocks (ownChange s5 [] []) (fun n => decide (nodeDie n = p))) p) p

/-- DIE_ISOLATE's opcode, which Ohmyx's own job for an isolation carries too. -/
def opIsolate : Nat := 0x0704

/-- Ohmyx's job for the steps of an isolation from 3 on, which waits for a place among the 32 (R21). -/
def isolateJob (s : State) (p : Nat) : State :=
  if recordFree s then
    let r := newJob s ownSender opIsolate [BitVec.ofNat 8 p, 0#8, 0#8, 0#8] [(.die p, false)] 2
    modJob r.2 r.1 (fun j => { j with sure := true })
  else modMgmt s (fun g => { g with owedIsolations := g.owedIsolations ++ [p] })

/-- The die at position p is isolated (R216, R217): the hardware's steps and the end of the jobs on its units at once, so that none of them
takes a later step (R45); the others as a job of Ohmyx that cannot fail. `src` is the source that raises. -/
def isolateDie (s : State) (p src : Nat) : State :=
  if !dieUp s p then s
  else if p = 0 then isolateHw s p src
  else isolateJob (endDieJobs (isolateHw s p src) p) p

/-- Jobs of Ohmyx's own that waited start: isolations, and a route change that is owed (R21, R218). -/
def startOwed (s : State) : State :=
  let ps := s.mgmt.owedIsolations
  afterChange (ps.foldl isolateJob (modMgmt s (fun g => { g with owedIsolations := [] })))

/-- DIE_ISOLATION (R216): a trigger of the hardware. -/
def execDieIsolation (pos : Fin 4) (s : State) : Host.Outcome State Fault Refusal := .next (isolateDie s pos.val (160 * pos.val + 131))

end Machine
end Sys2Proof
end

