-- ==== Sys2Proof/Machine/Tilth.lean ====
section
/-! DEFINITION. The die-link groups and Tilth (the Die links and Tilth repair chapter): group states, margin events, lane checks,
spare rows and channels, retirement, the repair record, with calibration, patrol and sweeps of Kaolin and the blocks of the Peat
store. -/

namespace Sys2Proof
namespace Machine

/-! ## Groups (R206, R207) -/

/-- Position of a group's die. -/
def groupPos (g : Nat) : Nat := g / 32
/-- EDGE: 0 inner, 1 clockwise. -/
def groupEdge (g : Nat) : Nat := g / 16 % 2
/-- PAIR. -/
def groupPair (g : Nat) : Nat := g / 2 % 8

/-- The group exists on the part (R206, R207, R31). -/
def groupFitted (s : State) (g : Nat) : Bool :=
  decide (g < 128) && dieFitted s (groupPos g) &&
  (decide (groupEdge g = 0) || (decide (groupPair g < 4) && dieFitted s ((groupPos g + 1) % 4)))

/-- The group's dies are in service. -/
def groupUp (s : State) (g : Nat) : Bool :=
  groupFitted s g && dieUp s (groupPos g) && (decide (groupEdge g = 0) || dieUp s ((groupPos g + 1) % 4))

/-- NODE: the Loam router on the die at POS. -/
def groupNode (g : Nat) : Nat :=
  if groupEdge g = 0 then nodeLocal (groupPos g) (groupPair g) 0 0 else nodeLocal (groupPos g) 7 (groupPair g + 2) 0

/-- PEER: the router at the far end. -/
def groupPeer (g : Nat) : Nat := (linkTo (groupNode g) 5).getD 0

/-- The other direction of the group pair. -/
def groupPartner (g : Nat) : Nat := if g % 2 = 0 then g + 1 else g - 1

/-- Event source of a group (R379). -/
def groupSrc (g : Nat) : Nat := 160 * groupPos g + 131

/-! ## States (R214) -/

/-- Order of the states toward FAILED. -/
def gRank : GState → Nat
  | .full => 0
  | .spared => 1
  | .half => 2
  | .failed => 3

/-- Lanes out of service in a half. -/
def halfOos (oos : BitVec 33) (hi : Bool) : List Nat :=
  (List.range 16).filterMap (fun i => let l := if hi then 16 + i else i; if bitOf oos l then some l else none)

/-- A half qualifies. -/
def halfFits (oos : BitVec 33) (hi : Bool) : Bool :=
  decide ((halfOos oos hi).length = 0) || (decide ((halfOos oos hi).length = 1) && !bitOf oos 32)

/-- SPARE_FOR when the spare carries nothing. -/
def spareIdle (oos : BitVec 33) : Nat := if bitOf oos 32 then 0x3E else 0x3F

/-- HALF on the half that R214 chooses, or FAILED: state, HALF_HI, SPARE_FOR. -/
def halfState (oos : BitVec 33) : GState × Bool × Nat :=
  let lo := halfOos oos false
  let hi := halfOos oos true
  let useHi := halfFits oos true && (!halfFits oos false || decide (hi.length < lo.length))
  if halfFits oos false || halfFits oos true then
    (.half, useHi, match if useHi then hi else lo with | l :: _ => l | [] => spareIdle oos)
  else (.failed, false, spareIdle oos)

/-- The state R214 gives for a set of out-of-service lanes, moving only toward FAILED from the present one. -/
def groupNext (cur : GState) (oos : BitVec 33) : GState × Bool × Nat :=
  let data := halfOos oos false ++ halfOos oos true
  match cur with
  | .failed => (.failed, false, spareIdle oos)
  | .half => halfState oos
  | _ =>
    match data with
    | [] => (.full, false, spareIdle oos)
    | [l] => if bitOf oos 32 then halfState oos else (.spared, false, l)
    | _ => halfState oos

/-- A group's state word (R208). -/
def groupWord (s : State) (g : Nat) : Nat :=
  let x := groupAt s g
  gRank x.state * 2 ^ 30 + b2n x.halfHi * 2 ^ 29 + b2n x.trained * 2 ^ 28 + x.spareFor % 64 * 2 ^ 22 + groupPeer g % 1024 * 2 ^ 10 +
    groupNode g % 1024

/-- A group is degraded (R215). -/
def groupDegraded (s : State) (g : Nat) : Bool :=
  decide (2 ≤ gRank (groupAt s g).state) || decide ((groupAt s (groupPartner g)).state = .failed)

/-- Degraded groups of the Marl edge of a die. -/
def edgeDegraded (s : State) (p : Nat) : Nat := ((List.range 16).filter (fun i => groupDegraded s (32 * p + i))).length

/-! ## The repair record (R221, R222, R226) -/

/-- The last spare of a unit is taken (R226). -/
def sparesExhausted (s : State) (src sub node : Nat) : State :=
  report s { src := src, sev := sevInfo, cause := 0x21, sub := sub, node := node }

/-- UNIT of a lane (R373). -/
def unitLane (g l : Nat) : Nat := g + 256 * l
/-- UNIT of a row. -/
def unitRow (p c b r : Nat) : Nat := p + 256 * c + 65536 * b + 2 ^ 24 * r
/-- UNIT of a channel. -/
def unitChan (p c : Nat) : Nat := p + 256 * c
/-- UNIT of a Silt link. -/
def unitLink (n plane code : Nat) : Nat := n + 65536 * plane + 2 ^ 24 * code
/-- Policy i of R220 is REPORT. -/
def policyReport (s : State) (i : Nat) : Bool := tget false s.tilth.report i

/-! ## Hard repair and swaps (R212, R213) -/

/-- A group fails: its pair fails as a Silt link (R215). -/
def groupFails (s : State) (g : Nat) : State := raise (failLink s (groupNode g) 5) (routerSrc (groupNode g))

/-- Too many degraded groups on the Marl edge isolate the die (R216). -/
def edgeCheck (s : State) (g : Nat) : State :=
  if groupEdge g = 0 ∧ 4 < edgeDegraded s (groupPos g) then isolateDie s (groupPos g) (groupSrc g) else s

/-- Record the lanes newly out of service. -/
def saveLanes (s : State) (g : Nat) (old new : BitVec 33) : State :=
  (List.range 33).foldl (fun s l => if bitOf new l && !bitOf old l then saveRepair s 0 (unitLane g l) else s) s

/-- A group takes a state with its set of out-of-service lanes: counters, events, records, what a failed or degraded group brings. -/
def groupTake (s : State) (g : Nat) (oos : BitVec 33) (n : GState × Bool × Nat) : State :=
  let old := groupAt s g
  let swap := decide (n.2.2 < 32 ∧ n.2.2 ≠ old.spareFor)
  let halved := decide (n.1 = .half ∧ old.state ≠ .half)
  let s1 := modGroup s g (fun x => { x with
    state := n.1, halfHi := n.2.1, spareFor := n.2.2, oos := oos
    swaps := if swap then ctrInc x.swaps else x.swaps, halves := if halved then ctrInc x.halves else x.halves })
  let s2 := saveLanes s1 g old.oos oos
  let s3 := if n.1 ≠ old.state ∨ oos ≠ old.oos then tilthAction s2 (groupSrc g) (if halved then 1 else 0) (groupNode g) g else s2
  let s4 := if swap then sparesExhausted s3 (groupSrc g) 0 (groupNode g) else s3
  let s5 := if halved then sparesExhausted s4 (groupSrc g) 1 (groupNode g) else s4
  let s6 := if n.1 = .failed ∧ old.state ≠ .failed then groupFails s5 g else s5
  edgeCheck s6 g

/-- The group takes the state of R214 for a larger set of lanes out of service. -/
def groupLose (s : State) (g : Nat) (bad : BitVec 33) : State :=
  let oos := (groupAt s g).oos ||| bad
  groupTake s g oos (groupNext (groupAt s g).state oos)

/-- A swap or halve that a hard repair overtakes ends with ST_FAULT (R227). -/
def overtake (s : State) (g : Nat) : State :=
  match holderOf s (.group g) with
  | some id => jobFail s id stFault 0 0
  | none => s

/-- The spare of a group is idle, and a swap can take place: the group carries traffic (R212). -/
def spareIdles (x : Group) : Bool := decide (x.state ≠ .failed ∧ x.spareFor = 0x3F)

/-- A planned swap of a data lane onto the idle spare (R212); a group at half width keeps its half. -/
def plannedSwap (s : State) (g l : Nat) : State :=
  let x := groupAt s g
  if x.state = .half then groupTake s g (x.oos ||| (1#33 <<< l)) (.half, x.halfHi, l) else groupLose s g (1#33 <<< l)

/-- DLINK_MARGIN_SAMPLE (R211): one measurement of a lane, in service or not; the third low one in a row is a margin event. -/
def sampleLane (s : State) (g l t v : Nat) : State :=
  let x := groupAt s g
  let w := match tget none x.worst l with | none => (t, v) | some y => (min y.1 t, min y.2 v)
  let low := if t < x.tThr ∨ v < x.vThr then tget 0 x.low l + 1 else 0
  let s1 := modGroup s g (fun x => { x with worst := tset none x.worst l (some w), low := tset 0 x.low l low })
  if low = 3 then
    let s2 := raise s1 (groupSrc g)
    if bitOf x.oos l then s2
    else if l = 32 then groupLose s2 g (1#33 <<< 32)
    else if policyReport s 0 then record s2 { src := groupSrc g, sev := sevInfo, cause := 0x20, sub := 0, node := groupNode g, info := unitLane g l }
    else s2
  else s1

/-- DLINK_MARGIN_SAMPLE: margins of the lanes from lane 0 on (timing, voltage). -/
def execDlinkMarginSample (group : Fin 128) (margins : List (Byte × Byte)) (s : State) : Host.Outcome State Fault Refusal :=
  let g := group.val
  if groupUp s g = true ∧ (groupAt s g).trained = true then
    .next ((margins.zipIdx).foldl (fun s x => if x.2 < 33 then sampleLane s g x.2 x.1.1.toNat x.1.2.toNat else s) s)
  else .next s

/-- DLINK_SWAP's opcode, which Tilth's own planned swap carries too. -/
def opSwap : Nat := 0x0701

/-- PLANNED_SWAP_AUTO (R212): Tilth starts the swap's job, under AUTO, for a data lane whose margin event stands, while the spare is idle
and no job runs on the group (R227). -/
def execPlannedSwapAuto (group : Fin 128) (lane : Fin 33) (s : State) : Host.Outcome State Fault Refusal :=
  let g := group.val
  let x := groupAt s g
  if ohmyxRuns s = true ∧ groupUp s g = true ∧ spareIdles x = true ∧ lane.val < 32 ∧ 3 ≤ tget 0 x.low lane.val ∧
     bitOf x.oos lane.val = false ∧ policyReport s 0 = false ∧ held s (.group g) = false ∧ recordFree s = true then
    .next (newJob s ownSender opSwap [BitVec.ofNat 8 g, BitVec.ofNat 8 lane.val, 0#8, 0#8] [(.group g, false)] 0).2
  else .next s

/-- A lane check that finds no bad lane (R213): counted; 16 more within a second raise an event. -/
def noFault (s : State) (g : Nat) : State :=
  let ts := now s :: (groupAt s g).nfTimes.filter (fun t => decide (now s - t < 1000000000))
  let s1 := modGroup s g (fun x => { x with noFault := ctrInc x.noFault, nfTimes := if 16 ≤ ts.length then [] else ts })
  if 16 ≤ ts.length then raise s1 (groupSrc g) else s1

/-- The run of failed flits that has led to a lane check does not count, and counting starts again after it (R213): at the sending router
of the group. -/
def restartCount (s : State) (g : Nat) : State :=
  let n := if g % 2 = 0 then groupNode g else groupPeer g
  let c := codeToward n (if g % 2 = 0 then groupPeer g else groupNode g)
  modRouter s n (fun r => { r with fails := tset 0 (tset 0 r.fails c 0) (8 + c) 0 })

/-- LANE_CHECK (R213): `bad` are the lanes found bad. -/
def execLaneCheck (group : Fin 128) (bad : BitVec 33) (s : State) : Host.Outcome State Fault Refusal :=
  let g := group.val
  if groupUp s g = true ∧ (groupAt s g).state ≠ .failed then
    let s1 := restartCount (modGroup s g (fun x => { x with checks := ctrInc x.checks })) g
    let new := bad &&& ~~~(groupAt s g).oos
    if new = 0#33 then .next (noFault s1 g) else .next (groupLose (overtake s1 g) g bad)
  else .next s

/-- DLINK_FORWARDED_CLOCK_LOSS (R214): the group is FAILED. -/
def execDlinkForwardedClockLoss (group : Fin 128) (s : State) : Host.Outcome State Fault Refusal :=
  let g := group.val
  let x := groupAt s g
  if groupUp s g = true ∧ x.state ≠ .failed then .next (groupTake (overtake s g) g x.oos (.failed, false, spareIdle x.oos)) else .next s

/-! ## Detours and bypasses (R185, R200, R219) -/

/-- A router that may be bypassed: no attachment of it is one that R200 lists. -/
def bypassable (n : Nat) : Bool :=
  [0, 1].all (fun a => match attOf (n / 2 * 2 + a) with
    | .nau _ => true
    | .bridge _ => true
    | .crcHub _ => true
    | .reserved => true
    | _ => false)

/-- Failed links of a router. -/
def failedCount (s : State) (n : Nat) : Nat := (linkCodes.filter (fun c => bitOf (routerAt s n).linkDown c)).length

/-- A router that R200 forbids to bypass fails: its die is isolated, or the spine takes the fatal path (R216, R219). -/
def routerFails (s : State) (n : Nat) : State :=
  if nodeDie n = 4 then fatalPath (raise s (routerSrc n)) { src := routerSrc n, sev := sevFatal, cause := 0x27, node := n / 2 * 2 } true false
  else isolateDie s (nodeDie n) (routerSrc n)

/-- Tilth removes a router (R219). -/
def detourRouter (s : State) (n : Nat) : State :=
  if policyReport s 2 then record s { src := routerSrc n, sev := sevInfo, cause := 0x20, sub := 3, node := n, info := 0 }
  else tilthAction (ownChange s [n / 2] []) (routerSrc n) 3 n 0

/-- Tilth detours a link (R219). -/
def detourLink (s : State) (n c : Nat) : State :=
  if policyReport s 1 then record s { src := routerSrc n, sev := sevInfo, cause := 0x20, sub := 2, node := n, info := c }
  else tilthAction (ownChange s [] [(n / 2, c)]) (routerSrc n) 2 n c

/-- A link that has failed goes into the repair record, whatever Tilth then does (R221). -/
def recordLink (s : State) (n c : Nat) : State :=
  if bitOf (routerAt s n).linkDown c then saveRepair s 2 (unitLink n 0 c) else s

/-- TILTH_DETOUR (R219): for a link that has failed, or that is degrading: two failed links of one router take the router. -/
def execTilthDetour (node : Fin 1024) (code : Fin 7) (s : State) : Host.Outcome State Fault Refusal :=
  let n := node.val / 2 * 2
  let c := code.val
  if ohmyxRuns s = true ∧ routerUp s n = true ∧ (linkTo n c).isSome = true ∧
     (bitOf (routerAt s n).linkDown c = true ∨ 100 < (tget (0, 0) (routerAt s n).window c).2) then
    let s1 := recordLink s n c
    if 2 ≤ failedCount s n then (if bypassable n then .next (detourRouter s1 n) else .next (routerFails s1 n))
    else .next (detourLink s1 n c)
  else .next s

/-! ## Kaolin rows and channels (R223 to R225, R242 to R244) -/

/-- Node of a channel's front. -/
def chanNode (p c : Nat) : Nat := if c = 16 then frontNode p 0 else frontNode p (c / 2)

/-- The logical channel whose lines a channel holds: its own, or for the spare the one it serves. -/
def logicalChan (s : State) (p c : Nat) : Nat := if c = 16 then (stackAt s p).spareFor else c

/-- Copy lines as R223 does: corrected as stored; an uncorrectable one poisoned. -/
def copyLines (s : State) (p : Nat) (f : Place → Bool) : State :=
  ((stackAt s p).lines.filter (fun kv => f (place (stackAt s p).order kv.1))).foldl (fun s kv =>
    let a := lineAddr p kv.1
    let x := findLine s a false
    match x.kind with
    | .uncorr => poisonFound (noteUncorr s a) a x
    | _ => if x.syms = 0 then s else writeBack s a x) s

/-- The free spare row of a bank (R243). -/
def freeRow (c : Chan) (b : Nat) : Option Nat := (List.range 16).find? (fun i => decide (tget none c.remap (16 * b + i) = none))

/-- Spare a row (R223), with a record that names the spare row, the bank and the row (R226): none where the bank has no spare row left. A spare row that fails is itself remapped. -/
def spareRow (s : State) (p c b r : Nat) : Option State :=
  (freeRow (chanAt s p c) b).map (fun i =>
    let s1 := copyLines s p (fun pl => decide (pl.ch = logicalChan s p c ∧ pl.bank = b ∧ pl.row = r))
    let s2 := modChan s1 p c (fun x => { x with
      remap := tset none x.remap (16 * b + i) (some r), tracker := x.tracker.filter (fun e => decide (e.1 ≠ b * 16384 + r))
      openRow := tset none x.openRow b none })
    let s3 := saveRepair (tilthAction s2 (chanSrc p c) c (chanNode p c) (i * 2 ^ 24 + b * 16384 + r)) 4 (unitRow p c b r)
    if freeRow (chanAt s3 p c) b = none then sparesExhausted s3 (chanSrc p c) c (chanNode p c) else s3)

/-- The spare channel is ready to stand in: in STANDBY, its BIST good. -/
def spareReady (s : State) (p : Nat) : Bool := decide ((chanAt s p 16).state = .standby) && !(chanAt s p 16).bistBad

/-- KAO_CHAN_REPLACE. -/
def opReplace : Nat := 0x0705
/-- KAO_CHAN_OFFLINE. -/
def opOffline : Nat := 0x0406
/-- KAO_CHAN_ONLINE. -/
def opOnline : Nat := 0x0407

/-- Functions of a stack: the stack, its fronts and its channels. -/
def stackFuncs (p : Nat) : List Func :=
  .stack p :: ((List.range 8).map (fun lx => .front p lx) ++ (List.range 17).map (fun c => .chan p c))

/-- Functions that a job on a channel would meet: the stack, the channel's front, the channel. -/
def chanFuncs (p c : Nat) : List Func := [.stack p, .front p (if c = 16 then 0 else c / 2), .chan p c]

/-- Functions that a copy between a channel and the spare would meet (R224). -/
def copyFuncs (p c : Nat) : List Func := chanFuncs p c ++ chanFuncs p 16

/-- A quiesce of the stack, or of a front or channel of it, is in force. -/
def stackQuiet (s : State) (p : Nat) : Bool := (stackFuncs p).any (quiescing s)

/-- A job that copies a channel starts (R224): it acts on the channel and the spare; writes go to both channels from now on. -/
def copyStart (s : State) (w : Who) (op p c : Nat) : Ans × State :=
  let r := startJob s w op [BitVec.ofNat 8 p, BitVec.ofNat 8 c, 0#8, 0#8] [(.chan p c, false), (.chan p 16, false)] 0
  if r.1.status = stJob then (r.1, modStack r.2 p (fun k => { k with copying := some c, both := [] })) else r

/-- The requests in the queues of a channel end with UNCORR and a record each (R225). -/
def failQueue (s : State) (p c : Nat) : State :=
  (chanAt s p c).queue.foldl (fun s q =>
    let a := reqAddr p q
    let s1 := chanReport s a (granAt s a).plot 0x05
    if q.early then s1 else lineDone s1 q.pkt a 0x05 0#512) (modChan s p c (fun x => { x with queue := [] }))

/-- A channel is retired (R225). -/
def retireChan (s : State) (p c : Nat) : State :=
  let s1 := failQueue (modChan s p c (fun x => { x with state := .retired })) p c
  let s2 := saveRepair (report s1 { src := chanSrc p c, sev := sevContained, cause := 0x05, sub := c, node := chanNode p c }) 5 (unitChan p c)
  capEvent (if s.peat.readOnly then s2 else sysWrite (modTilth s2 (fun t => { t with recRetired := withElem t.recRetired (unitChan p c) })) 0)

/-- A channel's BIST or calibration has failed, or (`bad` false) its rows are over the trigger with no spare row: Tilth replaces it;
with the spare in use a channel that has failed is retired (R219, R225). The replacement waits for its turn while a job holds what it acts
on (R227). -/
def channelTrigger (s : State) (p c : Nat) (bad : Bool) : State :=
  if c = 16 then (if bad ∧ (chanAt s p 16).state = .standIn then retireChan s p 16 else s)
  else if (chanAt s p c).state ≠ .inService then s
  else if spareReady s p then
    if policyReport s 4 then record s { src := chanSrc p c, sev := sevInfo, cause := 0x20, sub := c, node := chanNode p c }
    else if anyHeld s (copyFuncs p c) || !recordFree s then modChan s p c (fun x => { x with trigger := some (bad || x.trigger.getD false) })
    else (copyStart s ownSender opReplace p c).2
  else if bad then retireChan s p c
  else s

/-- The triggers that waited take their turn (R227). -/
def runTriggers (s : State) : State :=
  s.kstacks.foldl (fun s kv => kv.2.chans.foldl (fun s cv => match cv.2.trigger with
    | some bad => channelTrigger (modChan s kv.1 cv.1 (fun x => { x with trigger := none })) kv.1 cv.1 bad
    | none => s) s) s

/-- The front serves a channel's addresses from the spare. -/
def standIn (s : State) (p c : Nat) (st : ChState) : State :=
  let s1 := modStack s p (fun k => { k with spareFor := c, copying := none, both := [] })
  let s2 := modChan (modChan s1 p 16 (fun x => { x with state := .standIn })) p c (fun x => { x with state := st, queue := [] })
  modChan s2 p 16 (fun x => { x with queue := x.queue ++ (chanAt s p c).queue })

/-- The channel moves to the spare for good (R224 step 5), or goes offline (R244). -/
def moveToSpare (s : State) (op p c : Nat) : State :=
  let s1 := if op = opOffline then standIn s p c .offline
    else saveRepair (tilthAction (standIn s p c .replaced) (chanSrc p c) c (chanNode p c) c) 5 (unitChan p c)
  sparesExhausted s1 (160 * p + 122) 16 (frontNode p 0)

/-- The channel comes back, the spare to STANDBY (R244). -/
def moveBack (s : State) (p c : Nat) : State :=
  let s1 := modStack s p (fun k => { k with spareFor := 0x1F, copying := none, both := [] })
  let s2 := modChan (modChan s1 p c (fun x => { x with state := .inService, queue := (chanAt s p 16).queue })) p 16 (fun x =>
    { x with state := .standby, queue := [], patrolAt := 0 })
  s2

/-- A job's copy has been made; its channel is quiesced next (R224 step 4). -/
def copyDone (s : State) (id p c : Nat) : State :=
  let s1 := copyLines s p (fun pl => decide (pl.ch = c))
  modMgmt (modJob (stepDone s1 id) id (fun j => { j with stage := 1 })) (fun g => { g with
    holds := g.holds.map (fun h => if h.job = id then { h with quiesce := true } else h) })

/-- The change of a copy job. -/
def copyMove (s : State) (id op p c : Nat) : State :=
  resumeAll (jobOk (if op = opOnline then moveBack s p c else moveToSpare s op p c) id 0 [])

/-- A channel stops answering during its copy (R224): the front moves at once; lines not yet copied, nor written to both channels since, are
lost, and a record gives their count. -/
def execChannelStopsAnswering (stack : Fin 4) (s : State) : Host.Outcome State Fault Refusal :=
  let p := stack.val
  match (stackAt s p).copying, (stackAt s p).copying.bind (fun c => holderOf s (.chan p c)) with
  | some c, some id =>
    match jobAt s id with
    | some j =>
      let copied := if j.stage = 0 then (freeValue s).1.toNat % 2 ^ 23 else 2 ^ 23
      let late := fun (l : Nat) => decide ((place (stackAt s p).order l).ch = c ∧ copied ≤ chanIndex (stackAt s p).order l)
      let kept := (stackAt s p).both.filter late
      let s1 := modStack (freeValue s).2 p (fun k => { k with
        lines := k.lines.filter (fun kv => !late kv.1 || hasElem kept kv.1), lost := k.lost ++ [(c, copied)] })
      let s2 := report s1 {
        src := chanSrc p c, sev := sevContained, cause := 0x05, sub := c, node := chanNode p c, info := 2 ^ 23 - copied - kept.length }
      .next (copyMove s2 id j.op p c)
    | none => .next s
  | _, _ => .next s

/-- ROW_SPARE_AUTO (R219, R223): for a row whose tracker entry has reached the trigger. -/
def execRowSpareAuto (stack : Fin 4) (ch : Fin 17) (bank : Fin 32) (row : Fin 16384) (s : State) : Host.Outcome State Fault Refusal :=
  let p := stack.val
  let c := ch.val
  let key := bank.val * 16384 + row.val
  let x := chanAt s p c
  let due := x.tracker.any (fun e => decide (e.1 = key ∧ fld x.rowSpare 6 0 ≤ e.2.length))
  if ohmyxRuns s = true ∧ stackUp s p = true ∧ due = true ∧ anyHeld s (chanFuncs p c) = false then
    if policyReport s 3 then
      .next (report s { src := chanSrc p c, sev := sevInfo, cause := 0x20, sub := c, node := chanNode p c, info := key })
    else match spareRow s p c bank.val row.val with
      | some s1 => .next s1
      | none =>
        let s1 := modChan (sparesExhausted s (chanSrc p c) c (chanNode p c)) p c (fun x => { x with rowsOver := withElem x.rowsOver key })
        if 9 ≤ (chanAt s1 p c).rowsOver.length then .next (channelTrigger s1 p c false)
        else .next s1
  else .next s

/-- PERIODIC_CALIBRATION (R242): started by Ohmyx, skipped while the stack is quiesced; a second failure in a row triggers replacement. -/
def execPeriodicCalibration (stack : Fin 4) (ch : Fin 17) (ok : Bool) (s : State) : Host.Outcome State Fault Refusal :=
  let p := stack.val
  let c := ch.val
  if ohmyxRuns s = true ∧ stackUp s p = true ∧ stackQuiet s p = false then
    if ok then .next (modChan s p c (fun x => { x with calFails := 0 }))
    else
      let n := min 3 ((chanAt s p c).calFails + 1)
      let s1 := modChan s p c (fun x => { x with calFails := n, err := x.err ||| 0x40#8 })
      let s2 := report s1 { src := chanSrc p c, sev := sevInfo, cause := 0x20, sub := c, node := chanNode p c, info := n }
      if 2 ≤ n then .next (channelTrigger s2 p c true) else .next s2
  else .next s

/-! ## Patrol and sweeps (R251, R259, R260) -/

/-- Patrol of a channel runs: Ohmyx runs, the channel holds lines, and no change of operating point, copy or test pauses it. -/
def patrolRuns (s : State) (p c : Nat) : Bool :=
  ohmyxRuns s && stackUp s p && (decide ((chanAt s p c).state = .inService) || decide ((chanAt s p c).state = .standIn)) && !(chanFuncs p c).any (quiescing s) &&
  decide ((stackAt s p).copying ≠ some (logicalChan s p c))

/-- Lines of a channel. -/
def chanLines : Nat := 2 ^ 23

/-- A job that scrubs lines of the address runs: KAO_SCRUB's range (R261). -/
def scrubbing (s : State) (a : Nat) : Bool :=
  (openJobs s).any (fun id => match jobAt s id with
    | some j => decide (j.op = 0x0409 ∧ leN j.payload 8 8 ≤ a ∧ a < leN j.payload 8 8 + leN j.payload 16 8)
    | none => false)

/-- PATROL_READ (R259): the next line of the lap is read and repaired; patrol pauses for a sweep or a range scrub of the same lines. -/
def execPatrolRead (stack : Fin 4) (ch : Fin 17) (s : State) : Host.Outcome State Fault Refusal :=
  let p := stack.val
  let c := ch.val
  let k := (chanAt s p c).patrolAt
  let a := lineAddr p (chanLine (stackAt s p).order (logicalChan s p c) k)
  if patrolRuns s p c = true ∧ k < chanLines ∧ (granAt s a).sweep = none ∧ scrubbing s a = false then
    .next (modChan (patrolLine s a).2 p c (fun x => { x with patrolAt := k + 1 }))
  else .next s

/-- The unswept count after a common lap of the stack's channels, whose earliest lap began at t: the increments made since then (R251). -/
def lapSwept (g : Granule) (t : Nat) : Granule :=
  let l := g.incs.filter (fun x => decide (t ≤ x))
  { g with unswept := min g.unswept l.length, incs := l }

/-- PATROL_LAP_END (R251, R260): every line has been read; once each channel has completed a lap, unswept counts fall. -/
def execPatrolLapEnd (stack : Fin 4) (ch : Fin 17) (s : State) : Host.Outcome State Fault Refusal :=
  let p := stack.val
  let c := ch.val
  if patrolRuns s p c = true ∧ (chanAt s p c).patrolAt = chanLines then
    let s1 := modChan s p c (fun x => { x with
      patrolAt := 0, tracker := [], lastLap := (now s - x.lapStart) / 1000000000, lapStart := now s })
    let lapped := (stackAt s1 p).lapped.filter (fun e => decide (e.1 ≠ c)) ++ [(c, (chanAt s p c).lapStart)]
    let serving := (List.range 17).filter (fun d => decide ((chanAt s1 p d).state = .inService) || decide ((chanAt s1 p d).state = .standIn))
    if serving.all (hasElem (lapped.map (·.1))) then
      let t : Nat := lapped.foldl (fun m e => min m e.2) (now s)
      .next (modStack s1 p (fun k => { k with lapped := [], granules := tmap {} k.granules (fun _ g => lapSwept g t) }))
    else .next (modStack s1 p (fun k => { k with lapped := lapped }))
  else .next s

/-- FORCED_SWEEP (R251): an unswept count of 16,384 starts it. -/
def execForcedSweep (stack : Fin 4) (granule : Fin 4096) (s : State) : Host.Outcome State Fault Refusal :=
  let p := stack.val
  let g := tget {} (stackAt s p).granules granule.val
  if stackUp s p = true ∧ 16384 ≤ g.unswept ∧ g.sweep = none then .next (modGran s p granule.val (fun e => { e with sweep := some 0 }))
  else .next s

/-- FORCED_SWEEP_END (R251): poisoned lines are explicit poison under the current G; the unswept count is what the sweep has seen. -/
def execForcedSweepEnd (stack : Fin 4) (granule : Fin 4096) (s : State) : Host.Outcome State Fault Refusal :=
  let p := stack.val
  match (tget {} (stackAt s p).granules granule.val).sweep with
  | some n => .next (modGran (sweepGranule s p granule.val) p granule.val (fun e => { e with unswept := n, sweep := none }))
  | none => .next s

/-! ## Peat blocks (R266, R267) -/

/-- Retire a block: the next spare takes its contents and its place, or the store turns read-only. -/
def retireBlock (s : State) (b : Nat) : State :=
  if 0 < s.peat.spares then
    let s1 := sysWrite (modPeat s (fun x =>
      let y := moveBlock x b (8438 - x.spares)
      { y with spares := y.spares - 1, retired := withElem y.retired b, toRetire := y.toRetire.filter (fun k => decide (k ≠ b)) })) 2
    let s2 := saveRepair (tilthAction s1 srcPeat 6 peatNode b) 6 b
    if s2.peat.spares = 0 then sparesExhausted s2 srcPeat 6 peatNode else s2
  else if s.peat.readOnly then modPeat s (fun x => { x with due := withElem x.due b })
  else
    report (modPeat s (fun x => { x with due := withElem x.due b, readOnly := true }))
      { src := srcPeat, sev := sevInfo, cause := 0x2B, node := peatNode, info := b }

/-- A block has reached its write count or its correction threshold, and is not yet known to be due without a spare (R267). -/
def blockDue (s : State) (b : Nat) : Bool := hasElem s.peat.toRetire b && !hasElem s.peat.due b

/-- BLOCK_RETIRE (R267): a block has reached its write count or its correction threshold. -/
def execBlockRetire (block : Fin 8192) (s : State) : Host.Outcome State Fault Refusal :=
  if ohmyxRuns s && blockDue s block.val then .next (retireBlock s block.val) else .next s

end Machine
end Sys2Proof
end

