-- ==== Sys2Proof/Machine/Start.lean ====
section
/-! DEFINITION. Start-up, resets, power, thermal protection, board pins and the test access port (the start-up and the pins
chapters), tamper (R59), and what every device reset keeps (R432). -/

namespace Sys2Proof
namespace Machine

/-! ## Device reset (R431 to R433) -/

/-- What is fused into a die, and how its site straps it. -/
def dieFused (d : Die) : Die :=
  { rev := d.rev, dfe16 := d.dfe16, slot3 := d.slot3, grn := d.grn, gseq := d.gseq, ime := d.ime, strap := d.strap }

/-- Start-up and pin state after a device reset: the part, its dies, the board's inputs and sensor readings stand. -/
def sysAfterReset (y : Sys) : Sys :=
  { part := y.part, porLow := y.porLow, marlLow := y.marlLow, auxLow := y.auxLow, bootSrc := y.bootSrc
    dies := tmap {} y.dies (fun _ d => dieFused d), lanerefLost := y.lanerefLost, mgmtRefLost := y.mgmtRefLost, xlrefLost := y.xlrefLost
    sysclkLost := y.sysclkLost, temp := y.temp, volt := y.volt, tap := y.tap, tapDrives := y.tapDrives, brdLow := y.brdLow }

/-- The vault after a device reset: fuses as programmed so far take effect (R57), BBRAM and the tamper latch stay (R58, R59). -/
def vaultAfterReset (v : Vault) : Vault :=
  { vendorRootHash := v.vendorRootHash, serial := v.serial, ownerKeyF := v.nextOwnerKeyF, ownerSignHash := v.nextOwnerSignHash
    ownerCtrl := v.nextOwnerCtrl, minFw := v.nextMinFw, identityPriv := v.identityPriv, trim := v.trim, nextOwnerKeyF := v.nextOwnerKeyF, nextOwnerSignHash := v.nextOwnerSignHash
    nextOwnerCtrl := v.nextOwnerCtrl, nextMinFw := v.nextMinFw, ownerKeyB := v.ownerKeyB, keyCheck := v.keyCheck
    tamperLatch := v.tamperLatch, draws := v.draws }

/-- The repair record that start-up uses, without the entries that TILTH_CLEAR has removed (R221, R265). -/
def tilthAfterReset (s : State) : Tilth :=
  match sysPick s 0 with
  | some (.repair r c k) => { recorded := r.filter (fun e => !hasElem k e), recRetired := c.filter (fun u => !hasElem k (5, u)) }
  | _ => {}

/-- Stored mapping order of a stack (R230, R265). -/
def orderAfterReset (s : State) (p : Nat) : Nat := match sysPick s 1 with | some (.settings o _ _ _) => tget 1 o p | _ => 1

/-- The stored DUMP_POLICY (R404, R265). -/
def copyAfterReset (s : State) : Bool := match sysPick s 1 with | some (.settings _ _ _ c) => c | _ => true

/-- The Peat store after a device reset: what its pages hold, and of the system area the records that start-up uses (R265). -/
def peatAfterReset (s : State) : Peat :=
  let b := match sysPick s 1 with | some (.settings _ p f _) => (p, f) | _ => (0xFF, 0xFF)
  let m := match sysPick s 2 with | some (.blocks r d n t y) => (r, d, n, t, y) | _ => ([], [], 246, 24, [])
  let e := match sysPick s 3 with | some (.directory l) => l | _ => []
  { s.peat with
    primary := b.1, fallback := b.2, retired := m.1, due := m.2.1, spares := m.2.2.1, t := m.2.2.2.1, map := m.2.2.2.2
    toRetire := [], hist := [], histNow := [], lapPage := 0, lapStart := 0, lastLapH := 0
    images := s.peat.images.filter (fun kv => hasElem e kv.1), sysDue := [] }

/-- A stack after a device reset: its stored mapping orders (R230) and its temperature. -/
def stackAfterReset (k : Stack) (next : Nat) : Stack := { order := k.order, orderNext := next, hot := k.hot, above95 := k.above95, temp := k.temp }

/-- Device reset (R432): everything at its reset value but fuses, BBRAM, the tamper latch and what the Peat store holds. -/
def deviceReset (s : State) : State :=
  { State.reset with
    pending := s.pending, host := s.host, sys := sysAfterReset s.sys, vault := vaultAfterReset s.vault, peat := peatAfterReset s
    kstacks := tmap {} s.kstacks (fun p k => stackAfterReset k (orderAfterReset s p))
    tilth := tilthAfterReset s
    dumps := { peat := s.dumps.peat, copy := copyAfterReset s } }

/-- The TAP instructions that act on the pins (R460). -/
def tapActs : TapInstr → Bool
  | .extest => true
  | .extestPulse => true
  | .extestTrain => true
  | .clamp => true
  | .highz => true
  | _ => false

/-- POR_N_ASSERT (R431): a low level of at least 10 µs resets the device; a loaded test instruction takes effect (R460). -/
def execPorNAssert (lowUs : Nat) (s : State) : Host.Outcome State Fault Refusal :=
  if lowUs < 10 then .next s
  else .next (modSys (deviceReset s) (fun y => { y with porLow := true, tapDrives := tapActs y.tap }))

/-- Versions that MIN_FW encodes: the number of its ones (R55). -/
def minFwOf (s : State) : Nat := ((List.range 64).filter (fun i => bitOf s.vault.minFw i)).length

/-- The boot ROM accepts a firmware slot (R326), which it must be able to read (R264). -/
def slotAccepted (s : State) (k : Nat) : Bool :=
  match tget none s.peat.fw k with
  | some (b, true) => fwReadable s.peat k && Config.firmwareOk b && decide (minFwOf s ≤ (Config.firmwareVersion b).1)
  | _ => false

/-- Order of firmware versions. -/
def versionRank (v : Nat × Nat × Nat) : Nat := v.2.1 * 256 + v.2.2

/-- The slot the boot ROM starts (R326): the accepted one with the higher version. -/
def bootSlot (s : State) : Option Nat :=
  match slotAccepted s 0, slotAccepted s 1 with
  | true, true => if versionRank (fwOf s 0) < versionRank (fwOf s 1) then some 1 else some 0
  | true, false => some 0
  | false, true => some 1
  | false, false => none

/-- Start-up begins (R429 step 1 and 2): the time base at 0, KEY_CHECK recomputed, the endpoint up, the TAP reset. -/
def startUp (s : State) (bootSrc : BitVec 2) : State :=
  let s1 := modSys s (fun y => { y with
    phase := .booting, bootSrc := bootSrc, timeNs := 0, tap := .idcode, tapDrives := false, endpointUp := !y.mgmtRefLost })
  let s2 := modVault s1 (fun v => { v with keyCheckOk := decide (v.keyCheck = keyCheckOf v.ownerKeyB) })
  if bootSrc = 2#2 then modCfg s2 (fun c => { c with armed := true, armedBy := none }) else s2

/-- POR_N_RELEASE (R429, R431): start-up begins unless a brown-out rail is still low (R433). -/
def execPorNRelease (bootSrc : BitVec 2) (s : State) : Host.Outcome State Fault Refusal :=
  if s.sys.phase = .held ∧ s.sys.porLow = true then
    let s1 := modSys s (fun y => { y with porLow := false, tap := .idcode, tapDrives := false })
    if s.sys.marlLow ∨ s.sys.auxLow then .next s1 else .next (startUp s1 bootSrc)
  else .next s

/-- The logical blocks whose pages a job rewrites: the image area for PEAT_CONFIG, its range for PEAT_SCRUB. -/
def rewriting (j : Job) : List Nat :=
  if j.op = 0x040C ∧ j.stage = 1 then (List.range 8192).filter (fun b => !Config.peatSystem b)
  else if j.op = 0x040D ∧ j.stage = 1 then (List.range (u16 j.payload 2)).map (fun i => u16 j.payload 0 + i)
  else []

/-- Power is lost: what was being written to the Peat store is cut short (R265). -/
def peatCut (s : State) : State :=
  (openJobs s).foldl (fun s id => match jobAt s id with
    | some j => if rewriting j = [] then s else pageCut s (rewriting j)
    | none => s) (sysCut s)

/-- BROWN_OUT (R433): a device reset, held; a page write of the Peat store is cut short (R265). -/
def execBrownOut (rail : BrownRail) (s : State) : Host.Outcome State Fault Refusal :=
  .next (modSys (deviceReset (peatCut s)) (fun y => match rail with
    | .vccMarl => { y with marlLow := true }
    | .vccAux => { y with auxLow := true }))

/-- RAIL_RECOVERY (R433): both rails have recovered; with POR_N high, start-up begins. -/
def execRailRecovery (bootSrc : BitVec 2) (s : State) : Host.Outcome State Fault Refusal :=
  if s.sys.marlLow ∨ s.sys.auxLow then
    let s1 := modSys s (fun y => { y with marlLow := false, auxLow := false })
    if s.sys.porLow then .next s1 else .next (startUp s1 bootSrc)
  else .next s

/-! ## Training (R32, R33, R39, R41, R42, R209, R210, R426) -/

/-- The position a die samples from its straps. -/
def strapOf (s : State) (p : Nat) : Nat := match (dieAt s p).strap with | some q => q.val | none => p

/-- The die fails the position check (R33): it does not match its side, or repeats another die's position. -/
def strapBad (s : State) (p : Nat) : Bool :=
  decide (strapOf s p ≠ p) || (partDies s.sys.part).any (fun q => decide (q ≠ p ∧ strapOf s q = strapOf s p))

/-- Lanes of a group that the repair record holds. -/
def recordedLanes (s : State) (g : Nat) : BitVec 33 :=
  (List.range 33).foldl (fun m l => if hasElem s.tilth.recorded (0, unitLane g l) then m ||| (1#33 <<< l) else m) 0#33

/-- What training finds on a group. -/
def testOf (ts : List GroupTest) (g : Nat) : BitVec 33 × Bool :=
  match ts.find? (fun t => decide (t.group.val = g)) with | some t => (t.oos, t.clockLost) | none => (0#33, false)

/-- One group trains (R209); lanes newly found bad go into the repair record (R221). -/
def trainGroup (ts : List GroupTest) (s : State) (g : Nat) : State :=
  if groupFitted s g then
    let t := testOf ts g
    let oos := t.1 ||| recordedLanes s g
    let n := if t.2 then (GState.failed, false, spareIdle oos) else groupNext .full oos
    let s1 := modGroup s g (fun x => { x with state := n.1, halfHi := n.2.1, spareFor := n.2.2, oos := oos, trained := true })
    let s2 := saveLanes s1 g (recordedLanes s g) oos
    if n.1 = .failed then failLink s2 (groupNode g) 5 else s2
  else s

/-- The fate of one die after training: strap fault, isolation for groups or synthesizers, or service. -/
def dieVerdict (s : State) (synthBad : List (Fin 4)) (p : Nat) : DieState :=
  if strapBad s p then .strapFault
  else if synthBad.any (fun q => decide (q.val = p)) then .isolated
  else if 4 < edgeDegraded s p then .isolated
  else .inService

/-- The effective feature set (R42): over all fitted dies that trained. DESIGN CHOICE (log 192): a die that trained but was left out of service
at the end of training counts neither here nor in the mismatch event. -/
def effective (s : State) : Features :=
  let all := fun (f : Die → Bool) => decide (diesUp s ≠ []) && (diesUp s).all (fun p => f (dieAt s p))
  { dfe16 := all (·.dfe16), slot3 := all (·.slot3), grn := all (·.grn), gseq := all (·.gseq), ime := all (·.ime) }

/-- The dies disagree on GRN, GSEQ or IME (R42). -/
def dieMismatch (s : State) : Bool :=
  let differ := fun (f : Die → Bool) => (diesUp s).any (fun p => f (dieAt s p)) && (diesUp s).any (fun p => !f (dieAt s p))
  differ (·.grn) || differ (·.gseq) || differ (·.ime)

/-- A die takes its verdict. -/
def placeDie (synthBad : List (Fin 4)) (s : State) (p : Nat) : State :=
  let v := dieVerdict s synthBad p
  let s1 := modDie s p (fun d => { d with
    state := v, heldInReset := decide (v ≠ .inService), synthLocked := !(synthBad.any (fun q => decide (q.val = p)))
    vidCode := if v = .isolated then 0 else d.vidCode })
  if v = .strapFault then
    report s1 { src := 160 * p + 133, sev := if p = 0 then sevFatal else sevInfo, cause := 0x29, sub := p, node := nodeXY p 0 0 0 }
  else s1

/-- LOAM_RESET_RELEASE (R39, R209, R210): the dies sample their straps and train; the effective set is fixed. Without the die at
position 0 the device does not leave start-up. -/
def execLoamResetRelease (synthBad : List (Fin 4)) (groups : List GroupTest) (s : State) : Host.Outcome State Fault Refusal :=
  if s.sys.phase = .booting ∧ s.sys.tampered = false then
    let s1 := (List.range 128).foldl (trainGroup groups) s
    let s2 := (partDies s.sys.part).foldl (placeDie synthBad) s1
    let s3 := modSys s2 (fun y => { y with eff := effective s2 })
    let s4 := if dieMismatch s3 then raise s3 133 else s3
    if dieUp s4 0 then .next (modSys s4 (fun y => { y with phase := .trained }))
    else .next (modSys s4 (fun y => { y with phase := .stuck, fatalPin := true }))
  else .next s

/-! ## Start of Ohmyx (R221, R230, R252, R429 step 4) -/

/-- First granule of the counter table of a stack (R255). -/
def ctrGranule : Nat := 4088
/-- First granule of the dump area of stack 0 (R404). -/
def dumpGranule : Nat := 3896

/-- A reserved granule. -/
def reserve (s : State) (p g n : Nat) (k : GKind) : State :=
  (List.range n).foldl (fun s i => modGran s p (g + i) (fun e => { e with kind := k, plot := 0, slot := if imePresent s then 63 else 0 })) s

/-- The reservations of Ohmyx in a stack (R49, R167, R255, R404). -/
def reserveStack (s : State) (p : Nat) : State :=
  let s1 := if imePresent s then reserve s p ctrGranule 8 .counters else s
  let s2 := reserve s1 p spillGranule 32 (.spill p)
  let q := (p + 1) % 4
  let s3 := if hasElem (partDies s.sys.part) q && !hasElem (partStacks s.sys.part) q then reserve s2 p spillGranule2 32 (.spill q) else s2
  if p = 0 then reserve s3 0 dumpGranule 128 .dump else s3

/-- The recorded repairs of a stack: spare rows, and the replaced or retired channels (R221). -/
def applyKaolin (s : State) (e : Nat × Nat) : State :=
  let u := e.2
  let p := u % 256
  let c := u / 256 % 256
  if stackUp s p = false ∨ 16 < c then s
  else match e.1 with
    | 4 =>
      let b := u / 65536 % 256
      (match freeRow (chanAt s p c) b with
       | some i => modChan s p c (fun x => { x with remap := tset none x.remap (16 * b + i) (some (u / 2 ^ 24 % 65536)) })
       | none => s)
    | 5 => if c ≠ 16 ∧ hasElem s.tilth.recRetired u = false ∧ (chanAt s p 16).state = .standby then standIn s p c .replaced else modChan s p c (fun x => { x with state := .retired })
    | _ => s

/-- The recorded routers and links (R221). -/
def applySilt (s : State) (e : Nat × Nat) : State :=
  match e.1 with
  | 2 => modTilth (failLink s (e.2 % 65536) (e.2 / 2 ^ 24 % 256)) (fun t => { t with
      detours := withElem t.detours (e.2 % 65536 / 2, e.2 / 2 ^ 24 % 256) })
  | 3 => modRouter s e.2 (fun r => { r with bypassed := true })
  | _ => s

/-- A stack is trained and filled: its mapping order in force, and the fill (R230, R252). -/
def fillStack (s : State) (p : Nat) : State :=
  reserveStack (modStack s p (fun k => { k with
    zeroFill := decide (k.order ≠ k.orderNext), order := k.orderNext, fillKey := tget 0#256 s.vault.slotKeys 63 })) p

/-- OHMYX_START (R326, R429 step 4): the repair record is applied, the start-up route tables are checked and
stand in bank 0 (R464), the stacks are filled;
or no firmware slot is accepted, and the boot ROM serves. -/
def execOhmyxStart (kaolinBad : List (Fin 4)) (s : State) : Host.Outcome State Fault Refusal :=
  if s.sys.phase = .trained ∧ s.sys.tampered = false then
    match bootSlot s with
    | none => .next (modSys s (fun y => { y with phase := .romMode, trained := true, stackBad := kaolinBad.map (·.val) }))
    | some k =>
      let s1 := modMgmt s (fun g => { g with slot := k, fw := fwOf s k })
      let s2 := modSys s1 (fun y => { y with phase := .filling, stackBad := kaolinBad.map (·.val) })
      let s3 := s2.tilth.recorded.foldl applySilt s2
      let set := computedSet s3 [] []
      let s4 := modSilt s3 (fun n => { n with bank0 := set, startValid := validSet s3 set [] })
      let s5 := if imePresent s4 then freshKeys s4 [63] else s4
      let s6 := ((partStacks s5.sys.part).filter (stackUp s5)).foldl fillStack s5
      .next (s6.tilth.recorded.foldl applyKaolin s6)
  else .next s

/-- What Ohmyx does with BOOT_SRC (R313); with 2 the device has been armed since reset (R315). -/
def bootAct (s : State) : State :=
  match s.sys.bootSrc.toNat with
  | 0 =>
    if s.peat.primary ≠ 0xFF then startBoot (modCfg s (fun c => { c with bootTry := 1 })) s.peat.primary
    else if s.peat.fallback ≠ 0xFF then startBoot (modCfg s (fun c => { c with bootTry := 2, usedFallback := true })) s.peat.fallback
    else modSys s (fun y => { y with cfgErr := true })
  | _ => s

/-- MAILBOX_READY (R429 step 5 and 6). -/
def execMailboxReady (s : State) : Host.Outcome State Fault Refusal :=
  if s.sys.phase = .filling ∧ s.sys.tampered = false then .next (bootAct (modSys s (fun y => { y with phase := .ready, trained := true })))
  else .next s

/-! ## Rails, clocks (R427, R433, R436) -/

/-- Source 38, telemetry (R380). -/
def srcTele : Nat := 678

/-- The vault zeroizes the BBRAM (R58). -/
def clearBbram (s : State) : State := modVault s (fun v => { v with ownerKeyB := 0#256, keyCheck := 0#64, keyCheckOk := false })

/-- The device runs: out of reset, and its Marl die not tripped. -/
def powered (s : State) : Bool := decide (s.sys.phase ≠ .held ∧ s.sys.phase ≠ .tripHeld)

/-- LOAM_RAIL_LOW (R433): the die is isolated, or at position 0 the fatal path. -/
def execLoamRailLow (pos : Fin 4) (s : State) : Host.Outcome State Fault Refusal := .next (isolateDie s pos.val (160 * pos.val + 133))

/-- VBATT_LOW (R58, R433). -/
def execVbattLow (s : State) : Host.Outcome State Fault Refusal := .next (clearBbram s)

/-- RAIL_OUT_OF_LIMITS (R433): a rail outside its TEL_THRESH limits for more than 1 ms: a voltage event. -/
def execRailOutOfLimits (monitor : Fin 32) (mv : Nat) (s : State) : Host.Outcome State Fault Refusal :=
  if powered s then
    let i := monitor.val
    let s1 := modSys s (fun y => { y with volt := tset 0 y.volt i mv })
    if mv < tget 0 s.sys.voltLow i ∨ (tget 0 s.sys.voltHigh i ≠ 0 ∧ tget 0 s.sys.voltHigh i < mv) then .next (raise s1 srcTele) else .next s1
  else .next s

/-- Number of a reference input, for records. -/
def refCode : RefClk → Nat
  | .sysclk => 0
  | .laneref => 1
  | .mgmtRefclk => 2
  | .xlref => 3

/-- The reach lanes have their clock again. -/
def reachRelock (s : State) : State :=
  (List.range (partReach s.sys.part)).foldl (fun s j => modLane s (128 + j) (fun x => { x with lol := false, locked := !x.rxSleep })) s

/-- Every reach lane reports loss of lock, with one event each, and sends nothing (R71, R427). -/
def reachUnlock (s : State) : State :=
  (List.range (partReach s.sys.part)).foldl (fun s j =>
    let t := modReach (modLane s (128 + j) (fun x => { x with lol := true, locked := false })) j (fun x => { x with filler := none })
    if (laneAt s (128 + j)).lol then t else raise t (laneSrc (128 + j))) s

/-- REFCLK_LOSS (R427). -/
def execRefclkLoss (input : RefClk) (s : State) : Host.Outcome State Fault Refusal :=
  if powered s then
    let s1 := match input with
      | .sysclk => modSys s (fun y => { y with holdover := true, sysclkLost := true })
      | .laneref => modSys s (fun y => { y with lanerefLost := true })
      | .mgmtRefclk => modSys s (fun y => { y with mgmtRefLost := true, endpointUp := false })
      | .xlref => reachUnlock (modSys s (fun y => { y with xlrefLost := true }))
    .next (report s1 { src := srcTele, sev := sevInfo, cause := 0x2A, sub := refCode input, node := mgmtNode })
  else .next s

/-- REFCLK_RETURN (R427): holdover lasts. -/
def execRefclkReturn (input : RefClk) (s : State) : Host.Outcome State Fault Refusal :=
  match input with
  | .sysclk => .next (modSys s (fun y => { y with sysclkLost := false }))
  | .laneref => .next (modSys s (fun y => { y with lanerefLost := false }))
  | .mgmtRefclk =>
    let t := modSys s (fun y => { y with mgmtRefLost := false })
    .next (if powered s then endpointOn t else t)
  | .xlref => if s.sys.xlrefLost then .next (reachRelock (modSys s (fun y => { y with xlrefLost := false }))) else .next s

/-- SYNTH_LOCK_LOSS (R38): the die is isolated. -/
def execSynthLockLoss (pos : Fin 4) (s : State) : Host.Outcome State Fault Refusal :=
  if dieUp s pos.val then .next (isolateDie (modDie s pos.val (fun d => { d with synthLocked := false })) pos.val (160 * pos.val + 133))
  else .next s

/-- VID code of a target (R435). -/
def vidCodeOf (mv : Nat) : Nat := (mv - 700) / 5

/-- VID_RAMP_STEP (R436): one code toward the target. -/
def execVidRampStep (pos : Fin 4) (s : State) : Host.Outcome State Fault Refusal :=
  let d := dieAt s pos.val
  let t := vidCodeOf d.vidTarget
  if dieUp s pos.val = true ∧ d.ramping = true ∧ d.clamp = false then
    let c := if d.vidCode < t then d.vidCode + 1 else if t < d.vidCode then d.vidCode - 1 else d.vidCode
    .next (modDie s pos.val (fun d => { d with vidCode := c, ramping := decide (c ≠ t) }))
  else .next s

/-- VOLTAGE_DRIFT (R436): more than 25 mV from the driven code for 1 ms after a ramp: an event; the code is kept. -/
def execVoltageDrift (pos : Fin 4) (s : State) : Host.Outcome State Fault Refusal :=
  if dieUp s pos.val = true ∧ (dieAt s pos.val).ramping = false then .next (raise s srcTele) else .next s

/-! ## Thermal protection (R440 to R442) -/

/-- Warning threshold of a sensor, m°C. -/
def warnAt (s : State) (i : Nat) : Int := tget 95000 s.sys.tempThresh i

/-- THERMAL_WARNING (R440). -/
def execThermalWarning (sensor : Fin 64) (mc : Int) (s : State) : Host.Outcome State Fault Refusal :=
  if powered s then
    let s1 := modSys s (fun y => { y with temp := tset 0 y.temp sensor.val mc })
    if warnAt s sensor.val ≤ mc ∧ hasElem s.sys.warned sensor.val = false then
      .next (raise (modSys s1 (fun y => { y with warned := withElem y.warned sensor.val })) srcTele)
    else .next s1
  else .next s

/-- THERMAL_WARNING_END (R440): 2 °C below the value. -/
def execThermalWarningEnd (sensor : Fin 64) (mc : Int) (s : State) : Host.Outcome State Fault Refusal :=
  let s1 := modSys s (fun y => { y with temp := tset 0 y.temp sensor.val mc })
  if mc ≤ warnAt s sensor.val - 2000 then .next (modSys s1 (fun y => { y with warned := without y.warned sensor.val })) else .next s1

/-- THERMAL_CLAMP (R440): the die's VID is forced to code 0. -/
def execThermalClamp (sensor : Fin 56) (s : State) : Host.Outcome State Fault Refusal :=
  let p := sensor.val / 14
  if dieUp s p = true ∧ (dieAt s p).clamp = false then
    .next (raise (modDie s p (fun d => { d with clamp := true, vidCode := 0, ramping := false })) srcTele)
  else .next s

/-- CLAMP_END (R440): the owner's target is ramped to. -/
def execClampEnd (pos : Fin 4) (s : State) : Host.Outcome State Fault Refusal :=
  let p := pos.val
  if dieUp s p = true ∧ (dieAt s p).clamp = true then
    .next (modDie s p (fun d => { d with clamp := false, ramping := decide (vidCodeOf d.vidTarget ≠ d.vidCode) }))
  else .next s

/-- What tripped is on the Marl die. -/
def tripOnMarl : TripSrc → Bool
  | .sensor i => decide (56 ≤ i.val)
  | .stack _ => false

/-- THERMAL_TRIP (R441, R442): where the Marl die itself is tripped, a Peat write is cut short. -/
def execThermalTrip (src : TripSrc) (s : State) : Host.Outcome State Fault Refusal :=
  if powered s then
    let s1 := (List.range 16).foldl linkOff (if tripOnMarl src then peatCut s else s)
    let s2 := (List.range 32).foldl (fun s j => sleepLane s (128 + j)) s1
    let s3 := (partDies s.sys.part).foldl (fun s p => modDie s p (fun d => { d with
      state := if d.state = .inService then .isolated else d.state, heldInReset := true, vidCode := 0, ramping := false })) s2
    let s4 := capEvent { s3 with kstacks := tmap {} s3.kstacks (fun _ k => stackAfterReset k k.orderNext) }
    let s5 := modSys s4 (fun y => { y with thermtrip := true })
    let s6 := fatalPath s5 { src := srcTele, sev := sevFatal, cause := 0x30, node := mgmtNode } false false
    let s7 := modVault (cancelAll (stopDump s6 4) 4) (fun v => { v with slotKeys := [] })
    let s8 := modDumps s7 (fun d => { d with wanted := false, complete := false, kaolin := none })
    .next (if tripOnMarl src then modSys s8 (fun y => { y with phase := .tripHeld, endpointUp := false }) else s8)
  else .next s

/-! ## Tamper, the random source (R59, R60) -/

/-- Every key of R59 is zeroized. -/
def zeroizeKeys (s : State) : State :=
  let s1 := (List.range 16).foldl ideInsecure (modVault s (fun v => { v with slotKeys := [], ideKeys := [] }))
  let s2 := plotIds.foldl (fun s p => modPlot s p (fun x => { x with tenantKey := none })) s1
  modDbg s2 (fun d => { d with sessions := [] })

/-- The commands whose operation the public-key engine holds end; the engine is empty. -/
def dropPkOps (s : State) : State :=
  s.vault.pkQueue.foldl (fun s o => reply s o.mbx o.slot o.op (ansBad stFault 1)) (modVault s (fun v => { v with pkQueue := [] }))

/-- Every load ends, with no result (R321): its job is gone, and so is its content key. -/
def dropLoads (s : State) : State :=
  let l := (openJobs s).filter (fun id => match jobAt s id with | some j => decide (j.op = 0x0100) || decide (j.op = 0x0204) | none => false)
  l.foldl (fun s id => modMgmt (releaseHolds s id) (fun g => { g with jobs := tset none g.jobs id none }))
    (modCfg s (fun c => { c with loads := [], armed := false, armedBy := none, taking := none }))

/-- TAMPER (R59): the device stays in this state until POR_N. -/
def execTamper (s : State) : Host.Outcome State Fault Refusal :=
  let s1 := modVault (clearBbram s) (fun v => { v with tamperLatch := true })
  if powered s then
    let s2 := fatalPath (raise (destroyAll (dropLoads s1)) srcVault) { src := srcVault, sev := sevFatal, cause := 0x2F, node := mgmtNode } false false
    let s3 := modSys (dropPkOps (zeroizeKeys (cancelAll (stopDump s2 4) 4))) (fun y => { y with tampered := true })
    .next (modDumps s3 (fun d => { d with wanted := false, complete := false, kaolin := none }))
  else .next s1

/-- RANDOM_SOURCE_HEALTH_FAILURE (R60, R380). -/
def execRandomSourceHealthFailure (s : State) : Host.Outcome State Fault Refusal :=
  if powered s then .next (raise (modVault s (fun v => { v with randomOk := false })) srcVault) else .next s

/-! ## Pins (R381, R434, R459, R460) -/

/-- TAP_INSTRUCTION (R460): the instructions that drive pins act only while POR_N is low. -/
def execTapInstruction (i : TapInstr) (s : State) : Host.Outcome State Fault Refusal :=
  .next (modSys s (fun y => { y with tap := i, tapDrives := y.porLow && tapActs i }))

/-- TAP_RESET (R460). -/
def execTapReset (s : State) : Host.Outcome State Fault Refusal := .next (modSys s (fun y => { y with tap := .idcode, tapDrives := false }))

/-- BRD_EVT_INPUT (R381): the input raises on assertion and is active while low. -/
def execBrdEvtInput (i : Fin 2) (s : State) : Host.Outcome State Fault Refusal :=
  if powered s = true ∧ hasElem s.sys.brdLow i.val = false then
    .next (raise (modSrc (modSys s (fun y => { y with brdLow := withElem y.brdLow i.val })) (681 + i.val) (fun c => { c with active := true })) (681 + i.val))
  else .next s

/-- BRD_EVT_RELEASE (R381). -/
def execBrdEvtRelease (i : Fin 2) (s : State) : Host.Outcome State Fault Refusal :=
  .next (modSrc (modSys s (fun y => { y with brdLow := without y.brdLow i.val })) (681 + i.val) (fun c => { c with active := false }))

/-- ENDPOINT_HOT_RESET (R434): FLR of PF0. -/
def execEndpointHotReset (s : State) : Host.Outcome State Fault Refusal :=
  .next (modMgmt ((List.range 17).foldl flrOne s) (fun g => { g with numVfs := 0 }))

end Machine
end Sys2Proof
end

