-- ==== Sys2Proof/Machine/Arrive.lean ====
section
/-! DEFINITION. Packets at their destinations: what each attachment does with each operation it serves, and BAD_OP for the rest
(R183, R462). An arrival row acts on a packet of its operation whose destination is up. -/

namespace Sys2Proof
namespace Machine

/-! ## Guards -/

/-- The packet is one of the operation that stands at an attachment that is up, first of its source and class (R149); a malformed one
never gets there (R182). -/
def arrives (s : State) (p : Packet) (op : Nat) : Bool := decide (p.op = op) && attUp s p.dst && !badPacket p && (standing s p).isSome

/-- What an attachment that does not serve an operation answers (R462): BAD_OP to REQ and SNP, nothing to RSP and DAT. -/
def unserved (s : State) (p : Packet) : State := if planeOf p.cls = 0 then inject s (completionOf p 0x12) else s

/-- An answer that nobody awaits is discarded and counted (R189). -/
def lateAnswer (s : State) : State := modSilt s (fun x => { x with lateStray := ctrInc x.lateStray })

/-! ## Kaolin fronts (R183, R250) -/

/-- A memory operation arrives: a front with room serves it; without room, or under a quiesce, it waits in its buffer (R17, R186). -/
def memArrive (s : State) (p : Packet) : State :=
  match attOf p.dst with
  | .front _ _ => if frontRoom s p && !heldByQuiesce s p then frontRequest (arrive s p) p else s
  | _ => unserved (arrive s p) p

/-- READ (R250). -/
def execRead (p : Packet) (s : State) : Host.Outcome State Fault Refusal := if arrives s p 0x00 then .next (memArrive s p) else .next s
/-- WRITE (R250). -/
def execWrite (p : Packet) (s : State) : Host.Outcome State Fault Refusal := if arrives s p 0x01 then .next (memArrive s p) else .next s
/-- WRITE_PART (R236). -/
def execWritePart (p : Packet) (s : State) : Host.Outcome State Fault Refusal := if arrives s p 0x02 then .next (memArrive s p) else .next s
/-- LOCK_READ (R194). -/
def execLockRead (p : Packet) (s : State) : Host.Outcome State Fault Refusal := if arrives s p 0x03 then .next (memArrive s p) else .next s
/-- UNLOCK_WRITE (R195). -/
def execUnlockWrite (p : Packet) (s : State) : Host.Outcome State Fault Refusal := if arrives s p 0x04 then .next (memArrive s p) else .next s
/-- UNLOCK (R194). -/
def execUnlock (p : Packet) (s : State) : Host.Outcome State Fault Refusal := if arrives s p 0x05 then .next (memArrive s p) else .next s

/-! ## Registers (R179, R180, R462) -/

/-- The check-value unit a hub's offset names, and the offset in its registers. -/
def crcOfOff (p off : Nat) : Option (Nat × Nat) := if off < 0x4000 then some (64 * p + off / 256, off % 256) else none

/-- A read at an attachment: status, value, state; none: no registers (R462). -/
def regRead (s : State) (node off : Nat) : Option (Nat × Nat × State) :=
  match attOf node with
  | .nau _ => some (0, nauReg s node off, if off = 0x020 then modNau s node (fun u => { u with err := 0#9 }) else s)
  | .front p lx => some (0, kaoReg s p lx off, kaoRegTouch s p lx off)
  | .crcHub p =>
    match crcOfOff p off with
    | some (k, o) => some (0, crcReg s k o, crcRegTouch s k o)
    | none => match gritOfOff off with
      | some g => (match gritReg s p g (off % 512) with
        | some v => some (0, v, gritRegTouch s p g (off % 512))
        | none => some (0x01, 0, s))
      | none => some (0, 0, s)
  | .crcHubMarl => if off < 0x800 then some (0, crcReg s (256 + off / 256) (off % 256), crcRegTouch s (256 + off / 256) (off % 256)) else some (0, 0, s)
  | .mgmt => some (0, spdReg s off, if off = 0x020 then modMgmt s (fun g => { g with spdErr := 0#12 }) else s)
  | .dbgMaster => some (0, 0, s)
  | _ => none

/-- A write at an attachment: status and state; none: no registers. -/
def regWrite (s : State) (node off : Nat) (v : Word) : Option (Nat × State) :=
  match attOf node with
  | .nau _ => some (0, modNau s node (fun u => nauRegWrite u off v))
  | .front p lx => some (0, kaoRegWrite s p lx off v)
  | .crcHub p =>
    match crcOfOff p off with
    | some (k, o) => some (0, crcRegWrite s k o v)
    | none => match gritOfOff off with
      | some g => (match gritRegWrite s p g (off % 512) v with
        | some t => some (0, t)
        | none => some (0x01, s))
      | none => some (0, s)
  | .crcHubMarl => if off < 0x800 then some (0, crcRegWrite s (256 + off / 256) (off % 256) v) else some (0, s)
  | .mgmt => some (0, spdRegWrite s off v)
  | .dbgMaster => some (0, s)
  | _ => none

/-- A configuration request of a port's link reaches its shell NAU, which presents it to the fabric (R293). -/
def fromPort (p : Packet) : Bool := match attOf p.src with | .port _ => true | _ => false

/-- REG_READ (R180, R462). -/
def execRegRead (p : Packet) (s : State) : Host.Outcome State Fault Refusal :=
  if arrives s p 0x06 then
    if fromPort p && (nauNumber p.dst).isSome then .next (modNau (arriveHeld s p) p.dst (fun u => { u with cohSnp := u.cohSnp ++ [p] }))
    else
    let s1 := arrive s p
    match regRead s1 p.dst (regOff p.addr) with
      | some (st, v, t) => .next (inject t (dataOf p st false (BitVec.ofNat 384 v) []))
      | none => .next (unserved s1 p)
  else .next s

/-- REG_WRITE (R180, R462): an NAU's registers take writes of the Marl die only. -/
def execRegWrite (p : Packet) (s : State) : Host.Outcome State Fault Refusal :=
  if arrives s p 0x07 then
    if fromPort p && (nauNumber p.dst).isSome then .next (modNau (arriveHeld s p) p.dst (fun u => { u with cohSnp := u.cohSnp ++ [p] }))
    else
    let s1 := arrive s p
    if (nauNumber p.dst).isSome ∧ nodeDie p.src ≠ 4 then .next (inject s1 (completionOf p 0))
    else match regWrite s1 p.dst (regOff p.addr) (BitVec.ofNat 32 p.hdr.toNat) with
      | some (st, t) => .next (inject t (completionOf p st))
      | none => .next (unserved s1 p)
  else .next s

/-! ## Coherent messages (R183, R291) -/

/-- A MSG at an NAU: a blank plot refuses snoops; else the coherent in port holds it, a snoop in its buffer. -/
def nauMsg (s : State) (p : Packet) : State :=
  if p.cls = .snp then
    if plotBlank s (plotOfNau s p.dst) then inject (arrive s p) (completionOf p 0x10)
    else modNau (arriveHeld s p) p.dst (fun u => { u with cohSnp := u.cohSnp ++ [p] })
  else if plotBlank s (plotOfNau s p.dst) then arrive s p
  else modNau (arrive s p) p.dst (fun u => { u with cohAns := u.cohAns ++ [p] })

/-- MSG (R183). -/
def execMsg (p : Packet) (s : State) : Host.Outcome State Fault Refusal :=
  if arrives s p 0x08 then
    let s1 := arrive s p
    match attOf p.dst with
    | .slice i => .next (sliceMsg s1 i p)
    | .nau _ => .next (nauMsg s p)
    | .port n => if mLink (msgHdr p) / 2 = n then .next (portMsg (arriveHeld s p) p) else .next (unserved s1 p)
    | _ => .next (unserved s1 p)
  else .next s

/-! ## Grains (R163, R164, R168) -/

/-- GRAIN_CREATE (R168): the home quarter accepts the grain, or refuses it. -/
def execGrainCreate (p : Packet) (s : State) : Host.Outcome State Fault Refusal :=
  if arrives s p 0x09 then
    let s1 := arrive s p
    match attOf p.dst with
    | .quarter q =>
      let d : BitVec 256 := BitVec.ofNat 256 p.hdr.toNat
      if flowHome (gFlow d) = q then
        let r := acceptGrain s1 (gFlow d) d p.data.head?
        .next (inject r.2 (completionOf p r.1))
      else .next (inject s1 (completionOf p 0x0C))
    | _ => .next (unserved s1 p)
  else .next s

/-- GRAIN_PUSH (R163, R292): the entry shows valid. -/
def execGrainPush (p : Packet) (s : State) : Host.Outcome State Fault Refusal :=
  if arrives s p 0x0A then
    let s1 := arrive s p
    let h := gHandle (BitVec.ofNat 256 p.hdr.toNat)
    match entryOfHandle s1 p.dst h with
    | some (i, e, x) => .next (setEntry s1 (h / 4096) i e (some { x with arrived := true }))
    | none => .next s1
  else .next s

/-- DIRECTIVE (R120). -/
def execDirective (p : Packet) (s : State) : Host.Outcome State Fault Refusal :=
  if arrives s p 0x0B then
    let s1 := arrive s p
    match attOf p.dst with
    | .slice i => .next (sliceDirective s1 i p)
    | _ => .next (unserved s1 p)
  else .next s

/-- DIR_REPORT (R164). -/
def execDirReport (p : Packet) (s : State) : Host.Outcome State Fault Refusal :=
  if arrives s p 0x0C then
    let s1 := arrive s p
    match attOf p.dst with
    | .nau _ => .next (nauTakes s1 p.dst p)
    | _ => .next (lateAnswer s1)
  else .next s

/-! ## Streams, events, frames (R87, R183) -/

/-- The reach lane of a bridge that a stream of an NAU feeds. -/
def bridgeLane (s : State) (xl src : Nat) : Option Nat := [xl, xl + 1].find? (fun j => decide ((reachAt s j).source = src ∧ (reachAt s j).mode ≠ 0))

/-- STREAM (R87, R293): to the shell NAU of a receiving lane, or to the lane an NAU feeds. -/
def execStream (p : Packet) (s : State) : Host.Outcome State Fault Refusal :=
  if arrives s p 0x0D then
    let s1 := arrive s p
    match attOf p.dst with
    | .nau _ => .next (modNau s1 p.dst (fun u => { u with streams := u.streams ++ [p] }))
    | .bridge xl =>
      match bridgeLane s1 xl p.src with
      | some j => .next (modReach s1 j (fun x => { x with tx := x.tx ++ [p], filler := none }))
      | none => .next s1
    | _ => .next s1
  else .next s

/-- EVENT (R183): at the event controller the source raises; the raises the sender coalesced count with it. -/
def execEvent (p : Packet) (s : State) : Host.Outcome State Fault Refusal :=
  if arrives s p 0x0E then
    let s1 := arrive s p
    let i := fld p.hdr 15 0
    if decide (attOf p.dst = .evtCtl) && srcUp s1 i && !srcReserved i then .next (modSrc (raise s1 i) i (fun c => { c with count := ctrAdd c.count (fld p.hdr 31 16) })) else .next s1
  else .next s

/-- A running load's authenticated block has put these bytes into half h of frame a (R309). -/
def frameStands (s : State) (a h : Nat) (b : Bytes) : Bool :=
  s.cfg.loads.any (fun ld => hasElem ld.wrote a) && decide (subBytes ((tget {} s.cfg.frames a).bytes ++ zeros 512) (256 * h) 256 = b)

/-- FRAME (R183): half a frame reaches the frame writer of its die, which writes no frame but from an authenticated block (R309): it
answers OK where that half stands, else an error. The configuration manager passes one on to that writer and acknowledges it (log 153). -/
def execFrame (p : Packet) (s : State) : Host.Outcome State Fault Refusal :=
  if arrives s p 0x0F then
    let s1 := arrive s p
    match attOf p.dst with
    | .frameWriter d =>
      let a := fld p.hdr 31 0
      if frameExists a = true ∧ bits a 25 24 = d ∧ frameStands s1 a (b2n (bitOf p.hdr 32)) (p.data.flatMap lineBytes) = true then
        .next (inject s1 (completionOf p 0))
      else .next (inject s1 (completionOf p 0x12))
    | .cfgMgr =>
      let a := fld p.hdr 31 0
      if frameExists a = true ∧ p.data.length = 4 then
        let s2 := modCfg s1 (fun c => { c with passed := c.passed ++ [(p.tag, now s1)] })
        .next (inject (inject s2 { p with src := p.dst, dst := nodeLocal (bits a 25 24) 0 0 0, epoch := false, track := false }) (completionOf p 0))
      else .next (inject s1 (completionOf p 0x12))
    | _ => .next (unserved s1 p)
  else .next s

/-! ## Answers (R151, R187, R189) -/

/-- A configuration answer reaches its port (R75, R189): one that no link awaits is counted. -/
def cfgTakes (s : State) (n : Nat) (p : Packet) : State :=
  if [2 * n, 2 * n + 1].any (fun l => (linkAt s l).cfgReqs.any (fun q => decide (q.1 = p.tag))) then
    cfgDoneAt s n p.tag (if p.status = 0 then some (fld p.hdr 31 0) else none)
  else lateAnswer s

/-- An answer reaches the configuration manager: that of a frame it passed on, or a stray one (R189). -/
def frameTakes (s : State) (p : Packet) : State :=
  if s.cfg.passed.any (fun x => decide (x.1 = p.tag)) then modCfg s (fun c => { c with passed := c.passed.filter (fun x => decide (x.1 ≠ p.tag)) })
  else lateAnswer s

/-- An answer reaches the attachment that asked. -/
def answerArrive (s : State) (p : Packet) : State :=
  match attOf p.dst with
  | .nau _ => nauTakes s p.dst p
  | .slice i => if p.op = 0x10 ∧ bitOf p.hdr 64 = true then dropNotice s i p.tag (fld p.hdr 3 0) p.status else sliceTakes s i p
  | .port n => cfgTakes s n p
  | .cfgMgr => frameTakes s p
  | _ => lateAnswer s

/-- COMPLETION (R151). -/
def execCompletion (p : Packet) (s : State) : Host.Outcome State Fault Refusal :=
  if arrives s p 0x10 then .next (answerArrive (arrive s p) p) else .next s

/-- DATA (R183). -/
def execData (p : Packet) (s : State) : Host.Outcome State Fault Refusal :=
  if arrives s p 0x11 then .next (answerArrive (arrive s p) p) else .next s

/-- DELIVERED (R187): a slice's delivery report; at a front, that of a line it sent on for a slice (R132). -/
def execDelivered (p : Packet) (s : State) : Host.Outcome State Fault Refusal :=
  if arrives s p 0x12 then
    match attOf p.dst with
    | .slice i => .next (sliceTakes (noteDelivered (arrive s p) p.dst p.tag) i p)
    | .front q lx =>
      let s1 := noteDelivered (arrive s p) p.dst p.tag
      .next ((fwdDelivered s1 q lx p).getD (lateAnswer s1))
    | _ => .next (lateAnswer (noteDelivered (arrive s p) p.dst p.tag))
  else .next s

end Machine
end Sys2Proof
end

