-- ==== Sys2Proof/Machine/CmdInfo.lean ====
section
/-! DEFINITION. The information and job commands: CAPS, ID_CERT, JOB_STATUS, JOB_CANCEL, JOB_LIST (R337, R347 to R349, R357, R358). -/

namespace Sys2Proof
namespace Machine

/-! ## The checks of a command (R352) -/

/-- A check that holds, or its refusal. -/
def chk (b : Bool) (a : Ans) : Option Ans := if b then none else some a

/-- A refusal changes nothing; without one the command goes on. -/
def orElse (c : Option Ans) (s : State) (k : Ans × State) : Ans × State :=
  match c with
  | some a => (a, s)
  | none => k

/-- A function that a quiesce or job acts on (R19). -/
def busy2 : Ans := ansBad stBusy 2

/-- No open job acts on any of the functions (R19). -/
def freeOf (s : State) (fs : List Func) : Option Ans := chk (!anyHeld s fs) busy2

/-- An address that shall be a multiple of 64 (R353). -/
def aligned (p : Bytes) (off : Nat) : Option Ans := chk (decide (u64 p off % 64 = 0)) (badArg off)

/-- CLEAR is 0 or 1 (R353). -/
def flag01 (p : Bytes) (off : Nat) : Option Ans := chk (decide (u8 p off ≤ 1)) (badArg off)

/-- The drain of a job begins: its quiesce is in force (R16). -/
def beginDrain (s : State) (id : Nat) : State :=
  modMgmt (modJob (stepDone s id) id (fun j => { j with stage := 1 })) (fun g => { g with
    holds := g.holds.map (fun h => if h.job = id then { h with quiesce := true } else h) })

/-! ## The capability page (R337) -/

/-- Die capability word of a position (R41), with the position its straps gave: zero for a die not fitted or not yet trained. -/
def dieWord (s : State) (p : Nat) : Nat :=
  let d := dieAt s p
  if dieFitted s p && decide (d.state ≠ .untrained) && s.sys.trained then
    d.rev * 65536 + b2n d.dfe16 * 512 + b2n d.slot3 * 256 + b2n d.grn * 128 + b2n d.gseq * 64 + b2n d.ime * 32 +
      b2n (hasElem (partStacks s.sys.part) p) * 16 + strapOf s p
  else 0

/-- State code of a die in CAP_DIE_STATE. -/
def dieStateCode (s : State) (p : Nat) : Nat :=
  if !dieFitted s p then 0
  else match (dieAt s p).state with
    | .untrained => 0
    | .inService => 1
    | .isolated => 2
    | .strapFault => 3

/-- CAP_STATE. -/
def capState (s : State) : Nat :=
  b2n s.sys.trained * 2 ^ 31 + b2n (decide (s.sys.phase = .ready) && !s.mgmt.restarting) * 2 ^ 30 + b2n s.sys.cfgDone * 2 ^ 29 +
    b2n s.sys.fatal * 2 ^ 28 + b2n (decide (s.sys.phase = .romMode)) * 2 ^ 27 + s.sys.change.toNat

/-- The firmware word: CAP_FW. -/
def capFw (s : State) : Nat := s.mgmt.fw.1 % 256 * 2 ^ 24 + s.mgmt.fw.2.1 % 256 * 256 + s.mgmt.fw.2.2 % 256

/-- Usable capacity of a stack, in units of 512 MiB: 16 channels of 512 MiB less the retired ones (R225). -/
def stackUsable (s : State) (p : Nat) : Nat :=
  if stackUp s p then 16 - ((List.range 17).filter (fun c => decide ((chanAt s p c).state = .retired))).length else 0

/-- Reach lanes present: those of a bypassed spine router are absent (R219). -/
def reachUp (s : State) (j : Nat) : Bool := decide (j < partReach s.sys.part) && !(routerAt s (bridgeNode (j / 2 * 2))).bypassed

/-- Number of positions with a property. -/
def countPos (f : Nat → Bool) : Nat := ([0, 1, 2, 3].filter f).length
/-- Mask of positions with a property. -/
def maskPos (f : Nat → Bool) : Nat := [0, 1, 2, 3].foldl (fun m p => m + b2n (f p) * 2 ^ p) 0

/-- CAP_MBX of a mailbox. -/
def capMbx (s : State) (m : Nat) : Nat :=
  let plot := if 1 ≤ m ∧ m ≤ 16 then (match plotOfVf s m with | some p => p | none => 0x1F) else 0
  2032 * 2 ^ 20 + 8 * 2 ^ 16 + plot * 256 + m

/-- A die was removed at run time. -/
def dieLost (s : State) (p : Nat) : Bool := dieFitted s p && decide ((dieAt s p).state = .isolated)

/-- Bytes 0x000 to 0x03F of the capability page as a mailbox sees it; Loam fields are zero until TRAINED (R40). -/
def capBytes (s : State) (m : Nat) : Bytes :=
  let t := s.sys.trained
  let n := fun (v : Nat) => if t then v else 0
  let dies := (diesUp s).length
  let ports := ((List.range 8).filter (portUp s)).length
  leBytes 4 0x50434B47 ++ leBytes 2 1 ++ leBytes 2 (partCode s.sys.part) ++ leBytes 4 (capState s) ++ leBytes 4 (capFw s) ++
  [0, 1, 2, 3].flatMap (fun p => leBytes 4 (n (dieWord s p))) ++
  leBytes 4 (0xA1 * 65536 + n ([0, 1, 2, 3].foldl (fun w p => w + dieStateCode s p * 16 ^ p) 0)) ++
  leBytes 4 (n (featBits s.sys.eff)) ++
  leBytes 4 (n (4 * dies + ports * 256 + 2 * ports * 65536 + 16 * ports * 2 ^ 24)) ++
  leBytes 4 (n (((List.range 32).filter (reachUp s)).length + maskPos (stackUp s) * 256 + maskPos (quarterUp s) * 4096 +
    maskPos (fun p => stackUp s p && imePresent s) * 65536)) ++
  leBytes 4 (n ([0, 1, 2, 3].foldl (fun w p => w + stackUsable s p * 256 ^ p) 0)) ++
  leBytes 4 (n (maskPos (dieLost s) + maskPos (fun p => dieLost s p && hasElem (partStacks s.sys.part) p) * 16 +
    ((List.range 8).foldl (fun m k => m + b2n (dieLost s (portDie k)) * 2 ^ k) 0) * 256 +
    ((List.range 16).foldl (fun m k => m + b2n (dieLost s (k / 4)) * 2 ^ k) 0) * 65536)) ++
  leBytes 4 (capMbx s m) ++ leBytes 4 0

/-- Address of the counter table of a stack. -/
def ctrBase (s : State) (p : Nat) : Nat := if stackUp s p && imePresent s then stackBase p + ctrGranule * 2 ^ 21 else 0

/-- Address of the dump area. -/
def dumpBase (s : State) : Nat := if stackUp s 0 then dumpGranule * 2 ^ 21 else 0

/-- CAPS (R357). -/
def capsBody (w : Who) (_p : Bytes) (s : State) : Ans × State :=
  (ansOk (capBytes s w.mbx ++ leBytes 4 Config.iana.toNat ++ leBytes 8 (s.pce.sfBase.getD 0) ++
    [0, 1, 2, 3].flatMap (fun p => leBytes 8 (spillBase s p)) ++ [0, 1, 2, 3].flatMap (fun p => leBytes 8 (ctrBase s p)) ++
    leBytes 8 (dumpBase s) ++
    (List.range 32).flatMap (fun i => leBytes 2 (Config.colBand (i / 8) (i % 8)).1 ++ leBytes 2 (Config.colBand (i / 8) (i % 8)).2)), s)

/-- CAPS. -/
def specCaps : CmdSpec := { op := 0x0000, b := true, o := true, unb := true, len := lenIs 0, body := capsBody }

/-- CAPS (R357). -/
def execCaps (m : Fin 24) (slot : Fin 8) (p : Bytes) (s : State) : Host.Outcome State Fault Refusal := .next (runCmd specCaps m.val slot.val p s)

/-- 96 bytes of a public key, x then y. -/
def pubBytes (k : BitVec 768) : Bytes := beBytes 96 k.toNat

/-- ID_CERT (R60, R357). -/
def idCertBody (_w : Who) (_p : Bytes) (s : State) : Ans × State :=
  let c := Config.identityCert.take 1900
  (ansOk (pubBytes Config.vendorRootPub ++ leBytes 2 c.length ++ zeros 2 ++ c), s)

/-- ID_CERT. -/
def specIdCert : CmdSpec := { op := 0x0001, b := true, o := true, unb := true, len := lenIs 0, body := idCertBody }

/-- ID_CERT (R357). -/
def execIdCert (m : Fin 24) (slot : Fin 8) (p : Bytes) (s : State) : Host.Outcome State Fault Refusal := .next (runCmd specIdCert m.val slot.val p s)

/-! ## Jobs (R22, R347 to R349, R358) -/

/-- A job belongs to the requester (R22): the owner sees every job of horizon A, a tenant those it started for its plot, a session of
horizon O those of that horizon (R377). -/
def ownJob (w : Who) (j : Job) : Bool :=
  match w.hz with
  | .a => decide (j.hz = .a)
  | .b => decide (j.hz = .b ∧ j.mbx = w.mbx ∧ j.plot = w.plot)
  | .o => decide (j.hz = .o)
  | .none => false

/-- Code of a job's state. -/
def jobCode : JobState → Nat
  | .running => 0
  | .done => 1
  | .cancelled => 2

/-- The JOB_STATUS response (R347). -/
def jobBytes (s : State) (id : Nat) (j : Job) : Bytes :=
  let data := if j.state = .running then [] else j.data.take 2000
  let est := max j.steps (Config.stepsEstimate id).toNat
  leBytes 2 id ++ leBytes 2 j.op ++ leBytes 1 (jobCode j.state) ++ leBytes 1 (if j.state = .running then 0 else j.result) ++
  leBytes 2 data.length ++ leBytes 4 j.steps ++ leBytes 4 est ++ leBytes 4 j.steps ++
  leBytes 4 (if j.state = .running then 0 else min (2 ^ 32 - 1) ((now s - j.endedAt) / 1000000)) ++ leBytes 8 (if j.state = .running then 0 else j.word.toNat) ++ data

/-- The refusal of a job identifier: no record (R347), or a job of another horizon (R22). -/
def jobRefusal (s : State) (w : Who) (id : Nat) : Option Ans :=
  match jobAt s id with
  | none => some (badArg 0)
  | some j => if ownJob w j then none else some (ansBad stDenied 0)

/-- JOB_STATUS (R22, R347). -/
def jobStatusBody (w : Who) (p : Bytes) (s : State) : Ans × State :=
  let id := u16 p 0
  orElse (jobRefusal s w id) s (match jobAt s id with
    | none => (badArg 0, s)
    | some j => (ansOk (jobBytes s id j), s))

/-- JOB_STATUS; a debug session of any horizon reads its jobs with it (R377). -/
def specJobStatus : CmdSpec := { op := 0x0B00, b := true, o := true, len := lenIs 4, body := jobStatusBody }

/-- JOB_STATUS (R357). -/
def execJobStatus (m : Fin 24) (slot : Fin 8) (p : Bytes) (s : State) : Host.Outcome State Fault Refusal := .next (runCmd specJobStatus m.val slot.val p s)

/-- JOB_CANCEL (R349, R358): it takes effect at the next step boundary. -/
def jobCancelBody (w : Who) (p : Bytes) (s : State) : Ans × State :=
  let id := u16 p 0
  orElse (jobRefusal s w id) s (match jobAt s id with
    | none => (badArg 0, s)
    | some j =>
      (ansOk (leBytes 1 (jobCode j.state) ++ zeros 3),
       if j.state = .running then modJob s id (fun j => { j with cancel := true }) else s))

/-- JOB_CANCEL. -/
def specJobCancel : CmdSpec := { op := 0x0B01, b := true, len := lenIs 4, body := jobCancelBody }

/-- JOB_CANCEL (R349). -/
def execJobCancel (m : Fin 24) (slot : Fin 8) (p : Bytes) (s : State) : Host.Outcome State Fault Refusal := .next (runCmd specJobCancel m.val slot.val p s)

/-- JOB_LIST (R358). -/
def jobListBody (w : Who) (_p : Bytes) (s : State) : Ans × State :=
  let l := (openJobs s).filter (fun id => (jobRefusal s w id).isNone)
  (ansOk (leBytes 2 l.length ++ l.flatMap (leBytes 2)), s)

/-- JOB_LIST. -/
def specJobList : CmdSpec := { op := 0x0B02, b := true, len := lenIs 0, body := jobListBody }

/-- JOB_LIST (R358). -/
def execJobList (m : Fin 24) (slot : Fin 8) (p : Bytes) (s : State) : Host.Outcome State Fault Refusal := .next (runCmd specJobList m.val slot.val p s)

end Machine
end Sys2Proof
end

