-- ==== Sys2Proof/Machine/CmdProfile.lean ====
section
/-! DEFINITION. The profile commands: PROFILE_LOAD, SWAP, UNLOAD, READ and STATS (R140 to R146, R359, R360). -/

namespace Sys2Proof
namespace Machine

/-! ## What names a profile number -/

/-- A valid agent context, a link's port or a home map entry names the number (R143, R146). A context whose VALID is 0 names none: DESIGN
CHOICE (log 149). -/
def profileNamed (s : State) (n : Nat) : Bool :=
  s.pce.agents.any (fun kv => aValid kv.2 && decide (aProfile kv.2 = n)) ||
  s.io.ports.any (fun kv => decide (kv.2.profile = some n)) || s.pce.home.any (fun kv => kv.2.valid && decide (kv.2.profile = n))

/-- A hold on agents overlaps a set of agents (R19). -/
def holdMeets (s : State) (sel : Nat → Bool) (h : Hold) : Bool :=
  match h.fn with
  | .agents n => (List.range 4096).any (fun a => sel a && aValid (agentAt s a) && decide (aProfile (agentAt s a) = n))
  | .agentRange f c => (List.range 4096).any (fun a => sel a && decide (f ≤ a ∧ a < f + c))
  | .agentSet f c => (List.range 4096).any (fun a => sel a && decide (f ≤ a ∧ a < f + c))
  | .allAgents => true
  | _ => false

/-- No open job acts on an agent of a set. -/
def agentsFree (s : State) (sel : Nat → Bool) : Option Ans := chk (!s.mgmt.holds.any (holdMeets s sel)) busy2

/-- The valid agents of a profile number. -/
def ofProfile (s : State) (n a : Nat) : Bool := aValid (agentAt s a) && decide (aProfile (agentAt s a) = n)

/-- PROFILE is 0 to 3. -/
def profileNum (p : Bytes) : Option Ans := chk (decide (u8 p 0 ≤ 3)) (badArg 0)

/-! ## The checks of an image (R142) -/

/-- Fields of R140 that are zero. -/
def imageZeros (b : Bank) : Bool := decide (bankByte b 0x06 < 4) && zeroAt b.image 0x07 1 && zeroAt b.image 0x15 3 && zeroAt b.image 0x1C 4 && zeroAt b.image 0x34 12

/-- SIG_OFF of an image. -/
def imageSigOff (b : Bank) : Nat := 0x1440 + bkStates b * 1024 + bkRules b * 16

/-- MAGIC, FORMAT, FLAGS, lengths and offsets are as R140 states. -/
def imageFormed (b : Bank) : Bool :=
  let w := fun (o : Nat) => leN b.image o 4
  decide (w 0 = 0x50504B47) && decide (leN b.image 4 2 = 1) && imageZeros b && decide (1 ≤ bkStates b ∧ bkStates b ≤ 64) &&
  decide (bkRecov b < bkStates b) && decide (1 ≤ bkRules b ∧ bkRules b ≤ 8192) && decide (w 0x20 = 0x40) && decide (w 0x24 = 0x440) &&
  decide (w 0x28 = 0x1440) && decide (w 0x2C = 0x1440 + bkStates b * 1024) && decide (w 0x30 = imageSigOff b) &&
  decide (w 8 = imageSigOff b + 192) && decide (b.image.length = w 8) &&
  (bitOf (BitVec.ofNat 8 (bankByte b 6)) 0 || decide (bankByte b 0x14 = 0))

/-- The bytes a profile's measurement covers (R141). -/
def imageMeas (b : Bank) : BitVec 384 := Config.sha384 (b.image.take (imageSigOff b + 96))

/-- SIG verifies under SIGNER, which the owner's fuses accept (R142). -/
def imageSigned (s : State) (b : Bank) : Bool :=
  let o := imageSigOff b
  Config.ecdsaOk (BitVec.ofNat 768 (beN b.image o 96)) (imageMeas b) (BitVec.ofNat 768 (beN b.image (o + 96) 96)) &&
  (!ownerSet s || decide (Config.sha384 (subBytes b.image o 96) = s.vault.ownerSignHash))

/-- ESC of an image. -/
def imageEsc (b : Bank) : Bool := bitOf (BitVec.ofNat 8 (bankByte b 6)) 0
/-- SLOT3 of an image. -/
def imageSlot3 (b : Bank) : Bool := bitOf (BitVec.ofNat 8 (bankByte b 6)) 1

/-- State and type pairs of an image. -/
def dispAll (b : Bank) (f : Nat → Nat → Word → Bool) : Bool :=
  (List.range (bkStates b)).all (fun st => (List.range 256).all (fun t => f st t (bkDisp b st t)))

/-- A group of rules lies below NRULES. -/
def groupIn (b : Bank) (first cnt : Nat) : Bool := decide (first + cnt < bkRules b)

/-- Every valid dispatch word's group exists. -/
def dispGroups (b : Bank) : Bool := dispAll b (fun _ _ w => !bitOf w 15 || groupIn b (fld w 31 19) (fld w 18 16))

/-- ANSWER is the same in every state's valid dispatch word of a type. -/
def answersAgree (b : Bank) : Bool :=
  (List.range 256).all (fun t =>
    let ws := ((List.range (bkStates b)).map (fun st => bkDisp b st t)).filter (fun w => bitOf w 15)
    ws.all (fun w => bitOf w 13) || ws.all (fun w => !bitOf w 13))

/-- The words of the special types are valid in every state. -/
def specialsValid (b : Bank) : Bool :=
  [0x10, 0x11, 0x12, 0x13].all (fun o => (List.range (bkStates b)).all (fun st => bitOf (bkDisp b st (bankByte b o)) 15))

/-- Every group of FAULT_TYPE ends with a valid rule whose PMASK is zero. -/
def faultCatches (b : Bank) : Bool :=
  (List.range (bkStates b)).all (fun st =>
    let w := bkDisp b st (bkFault b)
    let r := bkRule b (fld w 31 19 + fld w 18 16)
    bitOf r 127 && decide (fld r 126 103 = 0))

/-- The valid rules of an image satisfy a predicate. -/
def rulesAll (b : Bank) (f : BitVec 128 → Bool) : Bool := (List.range (bkRules b)).all (fun i => !bitOf (bkRule b i) 127 || f (bkRule b i))

/-- CONTINUE targets lie below NRULES. -/
def continueIn (b : Bank) (r : BitVec 128) : Bool := decide (fld r 27 25 ≠ 4) || groupIn b (fld r 12 0) (fld r 15 13)

/-- NEW_STATE lies below NSTATES. -/
def newStateIn (b : Bank) (r : BitVec 128) : Bool := !bitOf r 72 || decide (fld r 78 73 < bkStates b)

/-- The three emission fields of a rule, EMIT0 first. -/
def ruleEmits (r : BitVec 128) : List Nat := [fld r 63 52, fld r 51 40, fld r 39 28]

/-- Emissions name valid templates; READ_FWD and DATA 3 go together, with EMIT0. -/
def emitsOk (b : Bank) (r : BitVec 128) : Bool :=
  let fwd := decide (fld r 66 64 = 2)
  ((ruleEmits r).zipIdx).all (fun x =>
    decide (x.1 % 16 = 0) ||
    (bitOf (bkTmpl b (x.1 / 16)) 127 && (decide (fld (bkTmpl b (x.1 / 16)) 119 118 ≠ 3) || (decide (x.2 = 0) && fwd)))) &&
  (!fwd || hasElem [1, 2, 4, 5] (fld r 63 52 % 16))

/-- No reserved encoding in a rule, and the pairs that may not occur together. -/
def ruleEncodings (r : BitVec 128) : Bool :=
  decide (fld r 66 64 ≤ 5) && decide (fld r 27 25 ≤ 5) && (ruleEmits r).all (fun e => decide (e % 16 ≤ 7)) &&
  (decide (fld r 23 22 ≠ 1) || decide (fld r 27 25 ≠ 4 ∧ fld r 27 25 ≠ 3)) && (decide (fld r 68 67 ≠ 3) || decide (fld r 23 22 = 0))

/-- No reserved encoding in the valid descriptors and templates; ANSWER needs TAGSRC 2 (R139). -/
def tablesEncoded (b : Bank) : Bool :=
  (List.range 64).all (fun i =>
    let d := bkDesc b i
    !bitOf d 127 || decide (fld d 126 123 ≤ 12 ∧ fld d 52 47 ≤ 52 ∧ fld d 30 29 ≤ 2 ∧ fld d 19 16 ≤ 12 ∧ fld d 15 14 ≤ 2)) &&
  (List.range 256).all (fun i =>
    let t := bkTmpl b i
    !bitOf t 127 || (decide (fld t 126 123 ≤ 12 ∧ fld t 121 120 ≤ 2 ∧ fld t 88 83 ≤ 52 ∧ fld t 57 54 ≤ 12 ∧ fld t 44 40 ≤ 16) &&
      (!bitOf t 122 || decide (fld t 121 120 = 2))))

/-- ESC is 1 exactly when some rule escalates, and MAX_FLOW_OFF bounds every offset. -/
def escAgrees (b : Bank) : Bool :=
  decide (imageEsc b = !rulesAll b (fun r => decide (fld r 27 25 ≠ 3))) &&
  rulesAll b (fun r => decide (fld r 27 25 ≠ 3) || decide (fld r 7 0 ≤ bankByte b 0x14))

/-- The runs of the rule store in use: bases and lengths, the shadow bank of one number left out (R124, R143). DESIGN CHOICE (log 198): an active
image that is about to be overwritten still counts. -/
def usedRuns (s : State) (freeShadow : Option Nat) : List (Nat × Nat) :=
  s.pce.profiles.flatMap (fun kv =>
    (kv.2.active.toList ++ (if freeShadow = some kv.1 then [] else kv.2.shadow.toList)).map (fun b => (b.base, bkRules b))) ++
  s.mgmt.jobs.filterMap (fun kv => match kv.2 with
    | some j => if j.op = 0x0110 ∧ j.state = .running ∧ j.stage = 3 then some (j.word.toNat % 65536, bkRules { image := j.data, base := 0, meas := 0#384 }) else none
    | none => none)

/-- Free runs: where each begins and how long it is. An image is placed at the start of a run: DESIGN CHOICE, R124 does not say where in a
run it stands (log 143). -/
def freeRuns (used : List (Nat × Nat)) : List (Nat × Nat) :=
  ((0 :: used.map (fun u => u.1 + u.2)).filter (fun c => decide (c < 8192) && !used.any (fun u => decide (u.1 ≤ c ∧ c < u.1 + u.2)))).map
    (fun c => (c, used.foldl (fun m u => if c ≤ u.1 ∧ u.1 - c < m then u.1 - c else m) (8192 - c)))

/-- The longest free run. -/
def largestFree (l : List (Nat × Nat)) : Nat := l.foldl (fun m r => max m r.2) 0

/-- The first check of R142 that an image fails. -/
def imageRefusal (s : State) (b : Bank) : Option Ans :=
  firstRefusal [
    chk (imageFormed b) (ansBad stBadArg 0), chk (imageSigned s b)
      (ansBad stAuth (if Config.ecdsaOk (BitVec.ofNat 768 (beN b.image (imageSigOff b) 96)) (imageMeas b)
        (BitVec.ofNat 768 (beN b.image (imageSigOff b + 96) 96)) then 2 else 1)),
    chk (dispGroups b && rulesAll b (continueIn b) && answersAgree b && specialsValid b && faultCatches b && rulesAll b (newStateIn b) &&
      rulesAll b (emitsOk b) && rulesAll b ruleEncodings && tablesEncoded b && escAgrees b) (ansBad stBadArg 0),
    chk ((!imageEsc b || s.sys.eff.grn) && (!imageSlot3 b || s.sys.eff.slot3)) (ansBad stAbsent 1)]

/-! ## PROFILE_LOAD (R143) -/

/-- The largest image (R140). -/
def imageMax : Nat := 201984

/-- PROFILE_LOAD of its own fields: the checks of R352 from the requester's rights on. -/
def profileLoadChecks (_w : Who) (p : Bytes) (_s : State) : Option Ans :=
  firstRefusal [profileNum p, chk (decide (u32 p 4 ≤ imageMax)) (badArg 4), aligned p 8]

/-- PROFILE_LOAD of its own fields: the effect and the answer of an accepted command. -/
def profileLoadEffect (w : Who) (p : Bytes) (s : State) : Ans × State :=
  startJob s w 0x0110 p [(.profile (u8 p 0), false)] 0

/-- PROFILE_LOAD's checks of its own fields. -/
def profileLoadBody (w : Who) (p : Bytes) (s : State) : Ans × State :=
  orElse (profileLoadChecks w p s) s (profileLoadEffect w p s)

/-- PROFILE_LOAD. -/
def specProfileLoad : CmdSpec := { op := 0x0110, len := lenIs 16, body := profileLoadBody }

/-- PROFILE_LOAD (R143). -/
def execProfileLoad (m : Fin 24) (slot : Fin 8) (p : Bytes) (s : State) : Host.Outcome State Fault Refusal := .next (runCmd specProfileLoad m.val slot.val p s)

/-- A load writes the active bank of a number (R143). -/
def loadsActive (s : State) (n : Nat) : Bool := !profileNamed s n || (profileAt s n).active.isNone

/-- The result data of PROFILE_LOAD. -/
def loadResult (bank free base : Nat) (meas : BitVec 384) : Bytes :=
  leBytes 1 bank ++ zeros 1 ++ leBytes 2 free ++ leBytes 2 base ++ zeros 2 ++ beBytes 48 meas.toNat

/-- Empty the bank that a load is about to write. -/
def clearBank (s : State) (n : Nat) (active : Bool) : State :=
  modProfile s n (fun x => if active then { x with active := none } else { x with shadow := none })

/-- First step: the checks of R142 and the run in the rule store; second: every replica has the image, which is usable from then on. -/
def stepProfileLoad (s : State) (id : Nat) (j : Job) : State :=
  let n := u8 j.payload 0
  if j.stage = 0 then
    let b : Bank := { image := dmaRead s (u64 j.payload 8) (u32 j.payload 4), base := 0, meas := 0#384 }
    let act := loadsActive s n
    match imageRefusal s b with
    | some a => jobFail s id a.status a.detail 0
    | none =>
      let runs := freeRuns (usedRuns s (if act then none else some n))
      let fits := (runs.filter (fun r => decide (bkRules b ≤ r.2))).map (·.1)
      if fits = [] then
        endJob (stepDone s id) id .done stBadArg 0 0 (loadResult (b2n !act) (largestFree runs) 0 0#384)
      else
        let c := pickOpen s fits
        modJob (stepDone (clearBank c.2 n act) id) id (fun x => { x with
          stage := 3, data := b.image, word := BitVec.ofNat 64 (c.1 + 65536 * b2n act) })
  else if j.stage = 3 then
    let act := decide (j.word.toNat / 65536 = 1)
    let b : Bank := { image := j.data, base := j.word.toNat % 65536, meas := 0#384 }
    let b1 := { b with meas := imageMeas b }
    let s1 := modProfile s n (fun x =>
      let y := { x with hits := x.hits.filter (fun kv => !decide (b.base ≤ kv.1 ∧ kv.1 < b.base + bkRules b)) }
      if act then { y with active := some b1 } else { y with shadow := some b1 })
    jobOk s1 id 0 (loadResult (b2n !act) 0 b1.base b1.meas)
  else s

/-! ## PROFILE_SWAP (R144, R145) -/

/-- PROFILE_SWAP: the checks of R352 from the requester's rights on. -/
def profileSwapChecks (_w : Who) (p : Bytes) (s : State) : Option Ans :=
  let n := u8 p 0
  let x := profileAt s n
  firstRefusal [profileNum p,
      chk (match x.shadow with
        | none => false
        | some b => match x.active with | none => true | some a => decide (bkStates a ≤ bkStates b)) (badArg 0),
      agentsFree s (ofProfile s n)]

/-- PROFILE_SWAP: the effect and the answer of an accepted command. -/
def profileSwapEffect (w : Who) (p : Bytes) (s : State) : Ans × State :=
  let n := u8 p 0
  startJob s w 0x0111 p [(.profile n, false), (.agents n, false)] 0

/-- PROFILE_SWAP's checks. -/
def profileSwapBody (w : Who) (p : Bytes) (s : State) : Ans × State :=
  orElse (profileSwapChecks w p s) s (profileSwapEffect w p s)

/-- PROFILE_SWAP. -/
def specProfileSwap : CmdSpec := { op := 0x0111, len := lenIs 8, body := profileSwapBody }

/-- PROFILE_SWAP (R144). -/
def execProfileSwap (m : Fin 24) (slot : Fin 8) (p : Bytes) (s : State) : Host.Outcome State Fault Refusal := .next (runCmd specProfileSwap m.val slot.val p s)

/-- The VFs of the plots whose agent-context range holds a context that names the number (R145). -/
def profileVfs (s : State) (n : Nat) : List Nat :=
  (plotIds.filter (fun p => (plotAt s p).live && (List.range (plotAt s p).res.agentCount).any (fun i => ofProfile s n ((plotAt s p).res.agentBase + i)))).map
    (fun p => (plotAt s p).res.vf)

/-- After the drain every slice and decoder switches banks at once. -/
def stepProfileSwap (s : State) (id : Nat) (j : Job) : State :=
  let n := u8 j.payload 0
  if j.stage = 0 then beginDrain s id
  else if j.stage = 2 then
    let s1 := modProfile s n (fun x => { x with active := x.shadow, shadow := x.active })
    notice (resumeAll (jobOk s1 id 0 [])) 66 (0 :: profileVfs s n)
  else s

/-! ## PROFILE_UNLOAD, PROFILE_READ, PROFILE_STATS -/

/-- PROFILE_UNLOAD (R146): the checks of R352 from the requester's rights on. -/
def profileUnloadChecks (_w : Who) (p : Bytes) (s : State) : Option Ans :=
  let n := u8 p 0
  firstRefusal [profileNum p, chk (decide (u8 p 1 ≤ 1)) (badArg 1), freeOf s [.profile n],
      chk (decide (u8 p 1 = 1) || !profileNamed s n) (ansBad stBusy 8)]

/-- PROFILE_UNLOAD (R146): the effect and the answer of an accepted command. -/
def profileUnloadEffect (_w : Who) (p : Bytes) (s : State) : Ans × State :=
  let n := u8 p 0
  (ansOk [], modProfile s n (fun x => if u8 p 1 = 1 then { x with shadow := none } else { x with active := none, shadow := none }))

/-- PROFILE_UNLOAD (R146). -/
def profileUnloadBody (w : Who) (p : Bytes) (s : State) : Ans × State :=
  orElse (profileUnloadChecks w p s) s (profileUnloadEffect w p s)

/-- PROFILE_UNLOAD. -/
def specProfileUnload : CmdSpec := { op := 0x0112, len := lenIs 4, body := profileUnloadBody }

/-- PROFILE_UNLOAD (R146). -/
def execProfileUnload (m : Fin 24) (slot : Fin 8) (p : Bytes) (s : State) : Host.Outcome State Fault Refusal := .next (runCmd specProfileUnload m.val slot.val p s)

/-- The bank PROFILE_READ names. -/
def bankFor (s : State) (n k : Nat) : Option Bank := if k = 0 then (profileAt s n).active else (profileAt s n).shadow

/-- PROFILE_READ: the bank holds an image, which LENGTH has room for: the checks of R352 from the requester's rights on. -/
def profileReadChecks (_w : Who) (p : Bytes) (s : State) : Option Ans :=
  let b := bankFor s (u8 p 0) (u8 p 1)
  firstRefusal [profileNum p, chk (decide (u8 p 1 ≤ 1) && b.isSome) (badArg 1),
      chk (match b with | some x => decide (x.image.length ≤ u32 p 4) | none => true) (badArg 4), aligned p 8]

/-- PROFILE_READ: the bank holds an image, which LENGTH has room for: the effect and the answer of an accepted command. -/
def profileReadEffect (w : Who) (p : Bytes) (s : State) : Ans × State :=
  startJob s w 0x0113 p [(.profile (u8 p 0), false)] 0

/-- PROFILE_READ's checks: the bank holds an image, which LENGTH has room for. -/
def profileReadBody (w : Who) (p : Bytes) (s : State) : Ans × State :=
  orElse (profileReadChecks w p s) s (profileReadEffect w p s)

/-- PROFILE_READ. -/
def specProfileRead : CmdSpec := { op := 0x0113, len := lenIs 16, body := profileReadBody }

/-- PROFILE_READ (R142). -/
def execProfileRead (m : Fin 24) (slot : Fin 8) (p : Bytes) (s : State) : Host.Outcome State Fault Refusal := .next (runCmd specProfileRead m.val slot.val p s)

/-- A dispatch word relocated by a base. -/
def relocDisp (base : Nat) (w : Word) : Word := setFld w 31 19 (fld w 31 19 + base)
/-- A rule word relocated by a base. -/
def relocRule (base : Nat) (r : BitVec 128) : BitVec 128 := if fld r 27 25 = 4 then setFld r 12 0 (fld r 12 0 + base) else r

/-- The image with relocated words (R142). -/
def relocated (b : Bank) : Bytes :=
  b.image.take 0x1440 ++ (List.range (bkStates b)).flatMap (fun st => (List.range 256).flatMap (fun t => leBytes 4 (relocDisp b.base (bkDisp b st t)).toNat)) ++
  (List.range (bkRules b)).flatMap (fun i => leBytes 16 (relocRule b.base (bkRule b i)).toNat) ++ b.image.drop (imageSigOff b)

/-- The image goes to host memory. -/
def stepProfileRead (s : State) (id : Nat) (j : Job) : State :=
  match bankFor s (u8 j.payload 0) (u8 j.payload 1) with
  | none => jobFail s id stBadArg 0 0
  | some b =>
    jobOk (dmaWrite s (u64 j.payload 8) (relocated b)) id 0
      (leBytes 2 b.base ++ zeros 2 ++ leBytes 4 b.image.length ++ beBytes 48 b.meas.toNat)

/-- Base of the active bank's run in the rule store. -/
def runBase (x : Profile) : Nat := match x.active with | some b => b.base | none => 0

/-- PROFILE_STATS (R138): the fault counters in the table's order, and the hit counters to host memory: the checks of R352 from the requester's rights on. -/
def profileStatsChecks (_w : Who) (p : Bytes) (s : State) : Option Ans :=
  let n := u8 p 0
  let x := profileAt s n
  let rules := match x.active with | some b => bkRules b | none => 0
  firstRefusal [profileNum p, flag01 p 1, chk (decide (4 * rules ≤ u32 p 4)) (badArg 4), aligned p 8,
    chk (!dmaFails s (u64 p 8)) (ansBad stFault 3)]

/-- PROFILE_STATS (R138): the fault counters in the table's order, and the hit counters to host memory: the effect and the answer of an accepted command. -/
def profileStatsEffect (_w : Who) (p : Bytes) (s : State) : Ans × State :=
  let n := u8 p 0
  let x := profileAt s n
  let rules := match x.active with | some b => bkRules b | none => 0
  let s1 := dmaWrite s (u64 p 8) ((List.range rules).flatMap (fun i => leBytes 4 (ctrWord (tget {} x.hits (runBase x + i)))))
  let s2 := if u8 p 1 = 1 then modProfile s1 n (fun x => { x with faults := [], hits := [], raised := [] }) else s1
  (ansOk ((List.range 10).flatMap (fun k => leBytes 4 (ctrWord (tget {} x.faults k))) ++
     leBytes 2 (runBase x) ++ leBytes 2 rules), s2)

/-- PROFILE_STATS (R138): the fault counters in the table's order, and the hit counters to host memory. -/
def profileStatsBody (w : Who) (p : Bytes) (s : State) : Ans × State :=
  orElse (profileStatsChecks w p s) s (profileStatsEffect w p s)

/-- PROFILE_STATS. -/
def specProfileStats : CmdSpec := { op := 0x0114, len := lenIs 16, body := profileStatsBody }

/-- PROFILE_STATS (R138). -/
def execProfileStats (m : Fin 24) (slot : Fin 8) (p : Bytes) (s : State) : Host.Outcome State Fault Refusal := .next (runCmd specProfileStats m.val slot.val p s)

end Machine
end Sys2Proof
end

