-- ==== Sys2Proof/Machine/CmdPce.lean ====
section
/-! DEFINITION. The engine commands: HOME_MAP_SET and READ, AGENT_BIND and READ, PCE_SF_ASSIGN, PCE_REMAP, PCE_STATUS (R94 to
R98, R101 to R106, R359, R360). -/

namespace Sys2Proof
namespace Machine

/-! ## Presence of what is named -/

/-- The link's port is present (R352 step 4). -/
def linkAbsent (s : State) (l : Nat) : Option Ans := if l < 16 then dieAbsent s (portDie (l / 2)) else none

/-- The NAU of a node is present. -/
def nauAbsent (s : State) (n : Nat) : Option Ans :=
  if (nauNumber n).isSome then firstRefusal [dieAbsent s (nodeDie n), chk (!(routerAt s n).bypassed) (ansBad stAbsent 2)] else none

/-! ## HOME_MAP_SET, HOME_MAP_READ (R97, R247) -/

/-- The entry of a HOME_MAP_SET payload. -/
def homeOf (p : Bytes) : HomeEnt :=
  { valid := decide (u8 p 1 = 1), kind := u8 p 2, profile := u8 p 3, base := u64 p 8, sizeLog2 := u8 p 16, plot := u8 p 17
    plotMask := BitVec.ofNat 16 (u16 p 18), target := u64 p 24 }

/-- Home map entry i. -/
def homeAt (s : State) (i : Nat) : HomeEnt := tget {} s.pce.home i

/-- Two ranges overlap. -/
def overlap (a m b n : Nat) : Bool := decide (a < b + n ∧ b < a + m)

/-- The entry overlaps another valid one. -/
def homeOverlaps (s : State) (i : Nat) (e : HomeEnt) : Bool :=
  s.pce.home.any (fun kv => decide (kv.1 ≠ i) && kv.2.valid && overlap e.base (2 ^ e.sizeLog2) kv.2.base (2 ^ kv.2.sizeLog2))

/-- The Kaolin windows whose base is TARGET, each with the plot that holds it. -/
def targetWindows (s : State) (e : HomeEnt) : List (Nat × Window) :=
  (List.range 17).flatMap (fun p => ((plotAt s p).res.windows.filter (fun w => decide (w.base = e.target))).map (fun w => (p, w)))

/-- The range of an entry lies in a window. -/
def homeInWindow (e : HomeEnt) (w : Window) : Bool := decide (w.base ≤ e.base ∧ e.base + 2 ^ e.sizeLog2 ≤ w.base + 2 ^ w.sizeLog2)

/-- The field checks of an entry (R97, R360). -/
def homeRefusal (s : State) (i : Nat) (e : HomeEnt) : Option Ans :=
  firstRefusal [
    chk (decide (e.kind ≤ 3)) (badArg 2),
    chk (decide (2 ≤ e.kind) || (targetWindows s e).all (fun w => decide ((e.kind = 0) ↔ (w.2.slot = 0)))) (badArg 2),
    chk (decide (e.profile ≤ 3)) (badArg 3),
    chk (decide (21 ≤ e.sizeLog2 ∧ e.sizeLog2 ≤ 51)) (badArg 16),
    chk (decide (e.base % 2 ^ e.sizeLog2 = 0 ∧ e.base + 2 ^ e.sizeLog2 ≤ 2 ^ 52) && !homeOverlaps s i e) (badArg 8),
    chk (decide (e.plot ≤ 16)) (badArg 17),
    chk (decide (2 ≤ e.kind) || (targetWindows s e).all (fun w => decide (w.1 = e.plot))) (badArg 17),
    chk (decide (e.plot = 0 ∨ e.plotMask = 0#16)) (badArg 18),
    chk (match e.kind with
      | 2 => decide (e.target < 16)
      | 3 => (nauNumber e.target).isSome && decide (e.target < 1024)
      | _ => (targetWindows s e).any (fun w => homeInWindow e w.2)) (badArg 24)]

/-- Presence of what an entry names. -/
def homeAbsent (s : State) (e : HomeEnt) : Option Ans :=
  firstRefusal [if e.plot ≤ 16 then plotAbsent s e.plot else none,
    if e.kind = 2 then linkAbsent s e.target
    else if e.kind = 3 ∧ e.target < 1024 then nauAbsent s e.target
    else if e.kind ≤ 1 ∧ e.sizeLog2 ≤ 51 then kaoAbsent s e.target (2 ^ e.sizeLog2)
    else none]

/-- The profiles whose agents a change of an entry quiesces: those of the entry in use, and of what replaces it. -/
def homeProfiles (s : State) (i : Nat) (e : HomeEnt) : List Nat :=
  if (homeAt s i).valid then ((homeAt s i).profile :: (if e.valid then [e.profile] else [])).dedup else []

/-- HOME_MAP_SET: the checks of R352 from the requester's rights on. -/
def homeMapSetChecks (_w : Who) (p : Bytes) (s : State) : Option Ans :=
  let i := u8 p 0
  let e := homeOf p
  let ps := homeProfiles s i e
  firstRefusal [if e.valid then homeAbsent s e else none, chk (decide (i < 64)) (badArg 0), chk (decide (u8 p 1 ≤ 1)) (badArg 1), chk (decide (e.kind ≤ 3)) (badArg 2),
      if e.valid then homeRefusal s i e else none, agentsFree s (fun a => ps.any (fun n => ofProfile s n a))]

/-- HOME_MAP_SET: the effect and the answer of an accepted command. -/
def homeMapSetEffect (w : Who) (p : Bytes) (s : State) : Ans × State :=
  let i := u8 p 0
  let e := homeOf p
  let ps := homeProfiles s i e
  startJob s w 0x0115 p ((.homeEntry i, false) :: ps.map (fun n => (.agents n, false))) 0

/-- HOME_MAP_SET's checks. -/
def homeMapSetBody (w : Who) (p : Bytes) (s : State) : Ans × State :=
  orElse (homeMapSetChecks w p s) s (homeMapSetEffect w p s)

/-- HOME_MAP_SET. -/
def specHomeMapSet : CmdSpec := { op := 0x0115, len := lenIs 32, body := homeMapSetBody }

/-- HOME_MAP_SET (R97). -/
def execHomeMapSet (m : Fin 24) (slot : Fin 8) (p : Bytes) (s : State) : Host.Outcome State Fault Refusal := .next (runCmd specHomeMapSet m.val slot.val p s)

/-- The DIR bit of every granule of a Kaolin open entry (R247). -/
def setDirBits (s : State) (e : HomeEnt) (v : Bool) : State :=
  if e.valid ∧ e.kind = 0 then
    (List.range (2 ^ (e.sizeLog2 - 21))).foldl (fun s k => modGran s (e.base / 0x200000000) (e.base % 0x200000000 / 0x200000 + k) (fun g => { g with dir := v })) s
  else s

/-- The entry changes. -/
def putHome (s : State) (i : Nat) (e : HomeEnt) : State :=
  let s1 := setDirBits s (homeAt s i) false
  setDirBits (modPce s1 (fun x => { x with home := tset {} x.home i (if e.valid then e else {}) })) e true

/-- The step of HOME_MAP_SET: at once where no entry is in use, else after its drain; the checks hold still. -/
def stepHomeMapSet (s : State) (id : Nat) (j : Job) : State :=
  let i := u8 j.payload 0
  let e := homeOf j.payload
  if j.stage = 0 ∧ (homeAt s i).valid = true then beginDrain s id
  else if j.stage = 0 ∨ j.stage = 2 then
    match (if e.valid then homeRefusal s i e else none) with
    | some a => resumeAll (jobFail s id a.status a.detail 0)
    | none => resumeAll (jobOk (putHome s i e) id 0 [])
  else s

/-- The 32 bytes of an entry. -/
def homeBytes (i : Nat) (e : HomeEnt) : Bytes :=
  leBytes 1 i ++ leBytes 1 (b2n e.valid) ++ leBytes 1 e.kind ++ leBytes 1 e.profile ++ zeros 4 ++ leBytes 8 e.base ++ leBytes 1 e.sizeLog2 ++
  leBytes 1 e.plot ++ leBytes 2 e.plotMask.toNat ++ zeros 4 ++ leBytes 8 e.target

/-- HOME_MAP_READ (R360). -/
def homeMapReadBody (_w : Who) (p : Bytes) (s : State) : Ans × State :=
  orElse (chk (decide (u8 p 0 < 64)) (badArg 0)) s (ansOk (homeBytes (u8 p 0) (homeAt s (u8 p 0))), s)

/-- HOME_MAP_READ. -/
def specHomeMapRead : CmdSpec := { op := 0x0116, len := lenIs 4, body := homeMapReadBody }

/-- HOME_MAP_READ (R360). -/
def execHomeMapRead (m : Fin 24) (slot : Fin 8) (p : Bytes) (s : State) : Host.Outcome State Fault Refusal := .next (runCmd specHomeMapRead m.val slot.val p s)

/-! ## AGENT_BIND, AGENT_READ (R101, R103, R104) -/

/-- CONTEXT of an AGENT_BIND, without PLOT and HELD. -/
def contextOf (p : Bytes) : BitVec 96 := setFld (setFld (BitVec.ofNat 96 (leN p 12 12)) 94 94 0) 89 85 0

/-- The largest flow offset of the images with ESC loaded in a profile number. -/
def maxFlowOff (s : State) (n : Nat) : Option Nat :=
  (((profileAt s n).active.toList ++ (profileAt s n).shadow.toList).filter imageEsc).foldl
    (fun m b => some (max (bankByte b 0x14) (m.getD 0))) none

/-- One context may be written, valid or not (R104). -/
def bindOk (s : State) (c : BitVec 96) (a : Nat) : Bool :=
  let q := plotOfAgent s a
  let r := (plotAt s q).res
  (match aKind c with
   | 0 => decide (q = 0)
   | 1 => (nauNumber (aNau c)).isSome && decide (plotOfNau s (aNau c) = q)
   | _ => true) &&
  (match maxFlowOff s (aProfile c) with
   | none => true
   | some m => decide (q = 0) || decide (r.flowBase ≤ aFlowBase c ∧ aFlowBase c + m < r.flowBase + r.flowCount))

/-- The agents FIRST to FIRST + COUNT − 1 are there. -/
def bindRange (p : Bytes) : Bool := decide (1 ≤ u16 p 4 ∧ u16 p 2 + u16 p 4 ≤ 4096)

/-- The agents of a MODE 0 request. -/
def bindAgents (p : Bytes) : List Nat := (List.range (u16 p 4)).map (fun i => u16 p 2 + i)

/-- The field checks of MODE 0. -/
def bindRefusal (s : State) (p : Bytes) : Option Ans :=
  let c := contextOf p
  firstRefusal [chk (bindRange p) (badArg 2), chk (decide (aKind c ≠ 3) && (bindAgents p).all (bindOk s c)) (badArg 12)]

/-- The field checks of MODE 1: the link's range reaches into no plot's (R104); a reserved KIND in CONTEXT is refused there too (R9). -/
def linkRangeRefusal (s : State) (p : Bytes) : Option Ans :=
  firstRefusal [chk (decide (u8 p 1 < 16)) (badArg 1), chk (decide (u16 p 2 + u16 p 4 ≤ 4096)) (badArg 2), chk (decide (aKind (contextOf p) ≠ 3)) (badArg 12),
    chk (!plotIds.any (fun q => (plotAt s q).live && overlap (u16 p 2) (u16 p 4) (plotAt s q).res.agentBase (plotAt s q).res.agentCount)) (badArg 2)]

/-- Presence of what a valid CONTEXT or a LINK names. -/
def bindAbsent (s : State) (p : Bytes) : Option Ans :=
  let c := contextOf p
  if u8 p 0 = 1 then linkAbsent s (u8 p 1)
  else if aValid c then (if aKind c = 0 then linkAbsent s (aLink c) else if aKind c = 1 then nauAbsent s (aNau c) else none)
  else none

/-- The write changes PROFILE, KIND, LINK or NAU of a valid context, or makes it invalid: quiesce-scoped (R104). -/
def bindQuiesces (s : State) (c : BitVec 96) (a : Nat) : Bool :=
  let o := agentAt s a
  aValid o && (!aValid c || decide (aProfile o ≠ aProfile c ∨ aKind o ≠ aKind c ∨ aLink o ≠ aLink c ∨ aNau o ≠ aNau c))

/-- AGENT_BIND: the checks of R352 from the requester's rights on. -/
def agentBindChecks (_w : Who) (p : Bytes) (s : State) : Option Ans :=
  firstRefusal [bindAbsent s p, chk (decide (u8 p 0 ≤ 1)) (badArg 0), if u8 p 0 = 1 then linkRangeRefusal s p else bindRefusal s p,
      if u8 p 0 = 0 then agentsFree s (fun a => decide (u16 p 2 ≤ a ∧ a < u16 p 2 + u16 p 4)) else none]

/-- AGENT_BIND: the effect and the answer of an accepted command. The job acts on every context it writes, and its quiesce holds the agents whose
change needs one (R19, R104). -/
def agentBindEffect (w : Who) (p : Bytes) (s : State) : Ans × State :=
  startJob s w 0x0117 p (if u8 p 0 = 0 then
    (.agentSet (u16 p 2) (u16 p 4), false) ::
      ((bindAgents p).filter (bindQuiesces s (contextOf p))).map (fun a => (Func.agentRange a 1, false)) else [(.linkRange (u8 p 1), false)]) 0

/-- AGENT_BIND's checks. -/
def agentBindBody (w : Who) (p : Bytes) (s : State) : Ans × State :=
  orElse (agentBindChecks w p s) s (agentBindEffect w p s)

/-- AGENT_BIND. -/
def specAgentBind : CmdSpec := { op := 0x0117, len := lenIs 28, body := agentBindBody }

/-- AGENT_BIND (R104). -/
def execAgentBind (m : Fin 24) (slot : Fin 8) (p : Bytes) (s : State) : Host.Outcome State Fault Refusal := .next (runCmd specAgentBind m.val slot.val p s)

/-- Write a context into agents. -/
def putAgents (s : State) (c : BitVec 96) (l : List Nat) : State :=
  modPce s (fun x => { x with agents := l.foldl (fun t a => tset agentDef t a c) x.agents })

/-- The step of AGENT_BIND. -/
def stepAgentBind (s : State) (id : Nat) (j : Job) : State :=
  let p := j.payload
  let c := contextOf p
  if u8 p 0 = 1 then
    match linkRangeRefusal s p with
    | some a => jobFail s id a.status a.detail 0
    | none =>
      jobOk (modPce s (fun x => { x with linkBase := tset 0 x.linkBase (u8 p 1) (u16 p 2), linkCount := tset 0 x.linkCount (u8 p 1) (u16 p 4) })) id 0 []
  else if j.stage = 0 ∧ (bindAgents p).any (bindQuiesces s c) = true then beginDrain s id
  else if j.stage = 0 ∨ j.stage = 2 then
    match bindRefusal s p with
    | some a => resumeAll (jobFail s id a.status a.detail 0)
    | none => resumeAll (jobOk (putAgents s c (bindAgents p)) id 0 [])
  else s

/-- A context as it reads: HELD and PLOT stand in it (R103). -/
def contextShown (s : State) (a : Nat) : BitVec 96 := setFld (setFld (agentAt s a) 94 94 (b2n (agentHeld s a))) 89 85 (plotOfAgent s a)

/-- AGENT_READ (R360): at most 128 contexts: the checks of R352 from the requester's rights on. -/
def agentReadChecks (_w : Who) (p : Bytes) (_s : State) : Option Ans :=
  firstRefusal [chk (decide (u16 p 0 < 4096)) (badArg 0), chk (decide (u16 p 2 ≤ 128 ∧ u16 p 0 + u16 p 2 ≤ 4096)) (badArg 2)]

/-- AGENT_READ (R360): at most 128 contexts: the effect and the answer of an accepted command. -/
def agentReadEffect (_w : Who) (p : Bytes) (s : State) : Ans × State :=
  (ansOk ((List.range (u16 p 2)).flatMap (fun i => leBytes 12 (contextShown s (u16 p 0 + i)).toNat)), s)

/-- AGENT_READ (R360): at most 128 contexts. -/
def agentReadBody (w : Who) (p : Bytes) (s : State) : Ans × State :=
  orElse (agentReadChecks w p s) s (agentReadEffect w p s)

/-- AGENT_READ. -/
def specAgentRead : CmdSpec := { op := 0x0118, len := lenIs 4, body := agentReadBody }

/-- AGENT_READ (R103). -/
def execAgentRead (m : Fin 24) (slot : Fin 8) (p : Bytes) (s : State) : Host.Outcome State Fault Refusal := .next (runCmd specAgentRead m.val slot.val p s)

/-! ## PCE_SF_ASSIGN, PCE_REMAP, PCE_STATUS -/

/-- Size of the snoop filter's backing: 16 MiB for each slice of the part (R106). -/
def sfSize (s : State) : Nat := 4 * (partDies s.sys.part).length * 0x1000000

/-- PCE_SF_ASSIGN (R106): the backing lies in a window of the shell, on whole granules, and becomes a reserved region, in which no entry is
held yet (DESIGN CHOICE, log 151). -/
def pceSfAssignBody (_w : Who) (p : Bytes) (s : State) : Ans × State :=
  let b := u64 p 0
  orElse (firstRefusal [kaoAbsent s b (sfSize s), chk (s.pce.sfBase.isNone && decide (b % 0x200000 = 0) &&
      (plotAt s 0).res.windows.any (fun w => decide (w.base ≤ b ∧ b + sfSize s ≤ w.base + 2 ^ w.sizeLog2))) (badArg 0)]) s
    (ansOk [],
     (List.range (sfSize s / 0x200000)).foldl (fun s k => modGran (regionClear s (b + k * 0x200000) 0x200000) (b / 0x200000000) (b % 0x200000000 / 0x200000 + k)
        (fun g => { g with kind := .snoop, plot := 0, slot := if imePresent s then 63 else 0 }))
      (modPce s (fun x => { x with sfBase := some b })))

/-- PCE_SF_ASSIGN. -/
def specPceSfAssign : CmdSpec := { op := 0x0119, len := lenIs 8, body := pceSfAssignBody }

/-- PCE_SF_ASSIGN (R106). -/
def execPceSfAssign (m : Fin 24) (slot : Fin 8) (p : Bytes) (s : State) : Host.Outcome State Fault Refusal := .next (runCmd specPceSfAssign m.val slot.val p s)

/-- The bucket map of a request. -/
def mapOf (p : Bytes) : List Nat := (List.range 16).map (fun i => u8 p (8 + i))

/-- The first bucket of a map that names an absent slice. -/
def mapBad (s : State) (p : Bytes) : Option Nat := (List.range 16).find? (fun i => !hasElem (slicesUp s) (u8 p (8 + i)))

/-- PCE_REMAP: the checks of R352 from the requester's rights on. -/
def pceRemapChecks (_w : Who) (p : Bytes) (s : State) : Option Ans :=
  firstRefusal [(mapBad s p).map (fun i => badArg (8 + i)), agentsFree s (fun _ => true)]

/-- PCE_REMAP: the effect and the answer of an accepted command. -/
def pceRemapEffect (w : Who) (p : Bytes) (s : State) : Ans × State :=
  startJob s w 0x011A p [(.allAgents, false)] 0

/-- PCE_REMAP's checks. -/
def pceRemapBody (w : Who) (p : Bytes) (s : State) : Ans × State :=
  orElse (pceRemapChecks w p s) s (pceRemapEffect w p s)

/-- PCE_REMAP. -/
def specPceRemap : CmdSpec := { op := 0x011A, len := lenIs 24, body := pceRemapBody }

/-- PCE_REMAP (R96). -/
def execPceRemap (m : Fin 24) (slot : Fin 8) (p : Bytes) (s : State) : Host.Outcome State Fault Refusal := .next (runCmd specPceRemap m.val slot.val p s)

/-- A slice gives up the lines of moved buckets: dirty inline entries go to Kaolin first. -/
def flushMoved (mv : List Nat) (s : State) (i : Nat) : State :=
  let gone := fun (la : Nat) => hasElem mv (bucketOf la)
  let s1 := (sliceAt s i).dir.foldl (fun s kv => match kv.2 with
    | some d => if gone kv.1 ∧ d.dirty = true ∧ d.sf = false then inlineWrite s (sliceNode i) (lineStamp s kv.1).1 (lineStamp s kv.1).2 (64 * kv.1) (inlineOfDir d) else s
    | none => s) s
  modSlice s1 i (fun x => { x with
    dir := x.dir.filter (fun kv => !gone kv.1), recovered := x.recovered.filter (fun la => !gone la) })

/-- The new bucket map as one change (R96). -/
def remapTo (s : State) (new : List Nat) : State :=
  let mv := (List.range 16).filter (fun b => decide ((bucketMap s).getD b 0 ≠ new.getD b 0))
  let s1 := (slicesUp s).foldl (flushMoved mv) s
  modPce s1 (fun x => { x with buckets := some new, moved := mv.foldl withElem x.moved })

/-- The step of PCE_REMAP. -/
def stepPceRemap (s : State) (id : Nat) (j : Job) : State :=
  if j.stage = 0 then beginDrain s id
  else if j.stage = 2 then
    match mapBad s j.payload with
    | some i => resumeAll (jobFail s id stBadArg ((8 + i) / 8) 0)
    | none => resumeAll (jobOk (remapTo s (mapOf j.payload)) id 0 [])
  else s

/-- The seven counters of a slice, in PCE_STATUS's order. -/
def sliceCtrs (x : Slice) : List Ctr := [x.stray, x.parkFull, x.evict, x.recov, x.contained, x.mismatch, x.lockWait]

/-- PCE_STATUS (R359): the checks of R352 from the requester's rights on. -/
def pceStatusChecks (_w : Who) (p : Bytes) (s : State) : Option Ans :=
  let i := u8 p 0
  firstRefusal [if i < 16 then dieAbsent s (sliceDie i) else some (badArg 0), flag01 p 1]

/-- PCE_STATUS (R359): the effect and the answer of an accepted command. -/
def pceStatusEffect (_w : Who) (p : Bytes) (s : State) : Ans × State :=
  let i := u8 p 0
  let x := sliceAt s i
  (ansOk (leBytes 2 (trkBusy s i) ++ leBytes 2 x.parked.length ++ leBytes 1 (reservedBusy s i) ++ zeros 3 ++
      (sliceCtrs x).flatMap (fun c => leBytes 4 (ctrWord c))),
   if u8 p 1 = 1 then modSlice s i (fun x => { x with
     stray := {}, parkFull := {}, evict := {}, recov := {}, contained := {}, mismatch := {}, lockWait := {} }) else s)

/-- PCE_STATUS (R359). -/
def pceStatusBody (w : Who) (p : Bytes) (s : State) : Ans × State :=
  orElse (pceStatusChecks w p s) s (pceStatusEffect w p s)

/-- PCE_STATUS. -/
def specPceStatus : CmdSpec := { op := 0x011B, len := lenIs 4, body := pceStatusBody }

/-- PCE_STATUS (R359). -/
def execPceStatus (m : Fin 24) (slot : Fin 8) (p : Bytes) (s : State) : Host.Outcome State Fault Refusal := .next (runCmd specPceStatus m.val slot.val p s)

end Machine
end Sys2Proof
end

