-- ==== Sys2Proof/Machine/CmdPlot.lean ====
section
/-! DEFINITION. The plot, flow and slot commands (R48 to R54, R155 to R157, R161, R168, R361 to R363), and the course of a plot
load. -/

namespace Sys2Proof
namespace Machine

/-! ## The resource record (R362) -/

/-- Bytes of the lists that a head counts. -/
def recLen (p : Bytes) : Nat :=
  16 * u8 p 8 + 8 * u16 p 6 + 2 * u16 p 2 + 2 * u16 p 4 + 2 * u8 p 10 + 2 * u8 p 11 + u8 p 9

/-- LEN of a record: the head alone where the lists come by DMA. -/
def recLenOk (p : Bytes) : Bool := decide (32 ≤ p.length) && decide (p.length = 32 + (if u32 p 20 = 0 then recLen p else 0))

/-- The lists of a record. -/
def recLists (s : State) (p : Bytes) : Bytes := if u32 p 20 = 0 then p.drop 32 else dmaRead s (u64 p 24) (u32 p 20)

/-- The lists of a record come by DMA, which fails (R354). -/
def listsFail (s : State) (p : Bytes) : Option Ans := chk (decide (u32 p 20 = 0) || !dmaFails s (u64 p 24)) (ansBad stFault 3)

/-- RES_MEAS of a record (R362). -/
def recMeas (s : State) (p : Bytes) : BitVec 384 := Config.sha384 (p.take 20 ++ zeros 12 ++ recLists s p)

/-- `n` numbers of `k` bytes from an offset. -/
def recNums (b : Bytes) (off n k : Nat) : List Nat := (List.range n).map (fun i => leN b (off + k * i) k)

/-- The resources that a record lists. -/
def recRes (s : State) (p : Bytes) : Resources :=
  let b := recLists s p
  let w := 16 * u8 p 8
  let r := w + 8 * u16 p 6
  let g := r + 2 * u16 p 2
  let n := g + 2 * u16 p 4
  let c := n + 2 * u8 p 10
  let e := c + 2 * u8 p 11
  { vf := u8 p 1
    windows := (List.range (u8 p 8)).map (fun i => { base := leN b (16 * i) 8, sizeLog2 := leN b (16 * i + 8) 1, slot := leN b (16 * i + 9) 1 })
    ranges := (recNums b w (u16 p 6) 8).map rangeOf, regions := recNums b r (u16 p 2) 2, naus := recNums b g (u16 p 4) 2
    crcs := recNums b n (u8 p 10) 2, events := recNums b c (u8 p 11) 2, slots := recNums b e (u8 p 9) 1
    flowBase := u16 p 12, flowCount := u16 p 14, agentBase := u16 p 16, agentCount := u16 p 18 }

/-- A list without repeats. -/
def distinct (l : List Nat) : Bool := decide (l.Nodup)

/-- No other plot's list, chosen by `f`, has an element of a list. -/
def notHeld (s : State) (p : Nat) (f : Resources → List Nat) (l : List Nat) : Bool :=
  plotIds.all (fun q => decide (q = p) || !(plotAt s q).live || !(f (plotAt s q).res).any (hasElem l))

/-- A range of numbers meets no other plot's, chosen by `b` and `c`. -/
def rangeFree (s : State) (p : Nat) (b c : Resources → Nat) (r : Resources) : Bool :=
  plotIds.all (fun q =>
    let o := (plotAt s q).res
    decide (q = p) || !(plotAt s q).live || decide (c r = 0) || decide (c o = 0) || !overlap (b r) (c r) (b o) (c o))

/-- A clock region of a Loam die, named by its router. -/
def regionNodeOk (n : Nat) : Bool := decide (n < 512 ∧ n % 2 = 0)

/-- Node of the region of a die-local unit number 8ly + lx. -/
def unitNode (p u : Nat) : Nat := nodeLocal p (u % 8) (u / 8) 0

/-- A window's SIZE_LOG2 and SLOT: 2 MiB to the size of a stack, and slot 0 or one of the holder's (R48, R362). -/
def windowFieldsOk (s : State) (slots : List Nat) (w : Window) : Bool :=
  decide (21 ≤ w.sizeLog2 ∧ w.sizeLog2 ≤ 33) && (decide (w.slot = 0) || (hasElem slots w.slot && imePresent s))

/-- A window's BASE: aligned to its size, inside Kaolin, its granules unassigned or the plot's own, and apart from the windows before
it (R48, R49). -/
def windowBaseOk (s : State) (p : Nat) (before : List Window) (w : Window) : Bool :=
  decide (w.base % 2 ^ w.sizeLog2 = 0 ∧ w.base < 0x800000000) &&
  (windowGranules w).all (fun g =>
    let e := tget {} (stackAt s g.1).granules g.2
    decide (e.kind = .unassigned) || (decide (e.kind = .window) && decide (e.plot = p) && decide ((plotAt s p).live = true ∨ p = 0))) &&
  before.all (fun v => !overlap w.base (2 ^ w.sizeLog2) v.base (2 ^ v.sizeLog2))

/-- The refusal of the first element of a list that a record at `b` carries from `off` on, `size` bytes an element, that is not
accepted after those before it: DETAIL is the element's place, or EXT_ADDR's where the lists were read by DMA (R354). -/
def listRefusal {α : Type} (b : Bytes) (off size : Nat) (l : List α) (accepts : List α → α → Bool) : Option Ans :=
  (l.zipIdx.find? (fun x => !accepts (l.take x.2) x.1)).map (fun x => badArg (if u32 b 20 = 0 then off + size * x.2 else 24))

/-- The refusal of a record's windows: the lists follow a head of 32 bytes. -/
def windowsRefusal (s : State) (p : Nat) (r : Resources) (b : Bytes) : Option Ans :=
  (r.windows.zipIdx.findSome? (fun x =>
    let at_ := fun off => badArg (if u32 b 20 = 0 then off else 24)
    if decide (21 ≤ x.1.sizeLog2) && windowBaseOk s p (r.windows.take x.2) x.1 then
      if windowFieldsOk s r.slots x.1 then none else some (at_ (40 + 16 * x.2))
    else if x.1.sizeLog2 < 21 ∨ 33 < x.1.sizeLog2 then some (at_ (40 + 16 * x.2)) else some (at_ (32 + 16 * x.2))))

/-- Two frame ranges share a frame. -/
def rangesMeet (a b : FrameRange) : Bool :=
  decide (a.die = b.die ∧ a.rowLo ≤ b.rowHi ∧ b.rowLo ≤ a.rowHi ∧ a.colLo ≤ b.colHi ∧ b.colLo ≤ a.colHi)

/-- A key slot of a record: 1 to 62, named once, held by nobody else, the shell included (R48, R49). -/
def keySlotAccepted (s : State) (p : Nat) (before : List Nat) (k : Nat) : Bool :=
  decide (1 ≤ k ∧ k ≤ 62) && !hasElem before k && notHeld s p (·.slots) [k] && (decide (p = 0) || !hasElem (plotAt s 0).res.slots k)

/-- Where a record's range list begins. -/
def rangesOff (r : Resources) : Nat := 32 + 16 * r.windows.length
/-- Where its region list begins. -/
def regionsOff (r : Resources) : Nat := rangesOff r + 8 * r.ranges.length
/-- Where its NAU list begins. -/
def nausOff (r : Resources) : Nat := regionsOff r + 2 * r.regions.length
/-- Where its list of check-value units begins. -/
def crcsOff (r : Resources) : Nat := nausOff r + 2 * r.naus.length
/-- Where its event list begins. -/
def eventsOff (r : Resources) : Nat := crcsOff r + 2 * r.crcs.length
/-- Where its key slot list begins. -/
def slotsOff (r : Resources) : Nat := eventsOff r + 2 * r.events.length

/-- A frame range of a record (R303): bounds in order, reserved bits zero, no frame of another plot. -/
def rangeAccepted (s : State) (p w : Nat) : Bool :=
  let x := rangeOf w
  decide (x.rowLo ≤ x.rowHi ∧ x.colLo ≤ x.colHi ∧ w % 2 ^ 30 = 0) &&
  plotIds.all (fun q => decide (q = p) || !(plotAt s q).live || !(plotAt s q).res.ranges.any (rangesMeet x))

/-- Presence of what a record names (R352 step 4). -/
def resAbsent (s : State) (r : Resources) : Option Ans :=
  firstRefusal ((r.regions.filter regionNodeOk).map (fun n => dieAbsent s (nodeDie n)) ++
    (r.naus.filter (fun n => decide (n < 512))).map (nauAbsent s) ++
    (r.crcs.filter (fun u => decide (u < 1024))).map (fun u => dieAbsent s (u / 256)) ++
    (r.events.filter (fun i => decide (i < 640))).map (fun i => dieAbsent s (i / 160)) ++
    r.ranges.map (fun x => dieAbsent s x.die) ++
    (r.windows.filter (fun w => decide (w.base < 0x800000000))).map (fun w => stackAbsent s (w.base / 0x200000000)))

/-- The field checks of a record of plot p, in the order of its fields (R48, R49, R362). -/
def resRefusal (s : State) (p : Nat) (r : Resources) (b : Bytes) : Option Ans :=
  firstRefusal [
    chk (decide (1 ≤ r.vf ∧ r.vf ≤ 16) && notHeld s p (fun o => [o.vf]) [r.vf]) (badArg 1),
    chk (decide (1 ≤ r.regions.length ∧ r.regions.length ≤ 192)) (badArg 2),
    chk (decide (1 ≤ r.naus.length) && [0, 1, 2, 3].all (fun d => decide ((r.naus.filter (fun n => decide (nodeDie n = d))).length ≤ 96))) (badArg 4),
    chk (decide (r.windows.length ≤ 8)) (badArg 8), chk (decide (r.slots.length ≤ 4)) (badArg 9), chk (decide (r.events.length ≤ 64)) (badArg 11),
    chk (decide (r.flowBase + r.flowCount ≤ 8192) && rangeFree s p (·.flowBase) (·.flowCount) r) (badArg 12),
    chk (decide (r.agentBase + r.agentCount ≤ 4096) && rangeFree s p (·.agentBase) (·.agentCount) r &&
      (List.range 16).all (fun l => decide (r.agentCount = 0) || decide (tget 0 s.pce.linkCount l = 0) ||
        !overlap r.agentBase r.agentCount (tget 0 s.pce.linkBase l) (tget 0 s.pce.linkCount l))) (badArg 16),
    chk (decide (u32 b 20 = 0) || decide (u32 b 20 = recLen b)) (badArg 20),
    windowsRefusal s p r b,
    listRefusal b (rangesOff r) 8 (recNums b (rangesOff r) r.ranges.length 8) (fun _ w => rangeAccepted s p w),
    listRefusal b (regionsOff r) 2 r.regions (fun l n => regionNodeOk n && !hasElem l n && notHeld s p (·.regions) [n]),
    listRefusal b (nausOff r) 2 r.naus (fun l n => (nauNumber n).isSome && decide (n < 512) && hasElem r.regions (n / 2 * 2) && !hasElem l n &&
      notHeld s p (·.naus) [n]),
    listRefusal b (crcsOff r) 2 r.crcs (fun l u => decide (u < 1024 ∧ u % 256 < 64) && hasElem r.regions (unitNode (u / 256) (u % 256)) &&
      !hasElem l u && notHeld s p (·.crcs) [u]),
    listRefusal b (eventsOff r) 2 r.events (fun l i => decide (i < 640 ∧ i % 160 < 64) && hasElem (r.regions.map nodeDie) (i / 160) &&
      !hasElem l i && notHeld s p (·.events) [i]),
    listRefusal b (slotsOff r) 1 r.slots (keySlotAccepted s p)]

/-- The windows' granules take the plot and key slot (R231). -/
def takeWindows (s : State) (p : Nat) (ws : List Window) : State :=
  ws.foldl (fun s w => (windowGranules w).foldl (fun s g => modGran s g.1 g.2 (fun e => { e with kind := .window, plot := p, slot := w.slot })) s) s

/-- PLOT_CREATE (R48, R51, R363): the plot is Empty and blanked, its generation count 1, its key slots fresh. -/
def plotCreate (s : State) (p : Nat) (r : Resources) (meas : BitVec 384) : State :=
  let s1 := modPlot (r.naus.foldl vacateSlots s) p (fun _ => {
    live := true, state := .empty, gen := 1, res := r, resMeas := meas })
  let s2 := takeWindows (markRegions (zeroFrames s1 (inMap s1 p)) r.regions true) p r.windows
  refreshFlows (nausReset (freshKeys s2 r.slots) r.naus)

/-- PLOT_CREATE: the checks of R352 from the requester's rights on. -/
def plotCreateChecks (_w : Who) (p : Bytes) (s : State) : Option Ans :=
  let q := u8 p 0
  let r := recRes s p
  firstRefusal [chk (!s.vault.vdbg) (ansBad stDenied 0), listsFail s p, resAbsent s r, chk (plotId q && !(plotAt s q).live) (badArg 0),
      resRefusal s q r (p.take 32 ++ recLists s p), chk (decide (r.slots = []) || s.vault.randomOk) (ansBad stFault 6)]

/-- PLOT_CREATE: the effect and the answer of an accepted command. -/
def plotCreateEffect (_w : Who) (p : Bytes) (s : State) : Ans × State :=
  let q := u8 p 0
  let r := recRes s p
  (ansOk (leBytes 4 1), plotCreate s q r (recMeas s p))

/-- PLOT_CREATE's checks. -/
def plotCreateBody (w : Who) (p : Bytes) (s : State) : Ans × State :=
  orElse (plotCreateChecks w p s) s (plotCreateEffect w p s)

/-- PLOT_CREATE. -/
def specPlotCreate : CmdSpec := { op := 0x0200, len := recLenOk, body := plotCreateBody }

/-- PLOT_CREATE (R48). -/
def execPlotCreate (m : Fin 24) (slot : Fin 8) (p : Bytes) (s : State) : Host.Outcome State Fault Refusal := .next (runCmd specPlotCreate m.val slot.val p s)

/-! ## PLOT_CHANGE (R363) -/

/-- Every element of a list stands in another. -/
def subset {α : Type} [DecidableEq α] (a b : List α) : Bool := a.all (hasElem b)

/-- A change only adds windows, key slots, check-value units and event sources. -/
def onlyAdds (o r : Resources) : Bool :=
  decide (o.vf = r.vf ∧ o.regions = r.regions ∧ o.naus = r.naus ∧ o.ranges = r.ranges ∧ o.flowBase = r.flowBase ∧ o.flowCount = r.flowCount ∧
    o.agentBase = r.agentBase ∧ o.agentCount = r.agentCount) &&
  subset o.windows r.windows && subset o.slots r.slots && subset o.crcs r.crcs && subset o.events r.events

/-- The first field that a record of the shell may not carry: VF, or a count other than NWIN and NSLOT (R363). -/
def shellField (p : Bytes) : Option Nat := [1, 2, 3, 4, 5, 6, 7, 10, 11, 14, 15, 18, 19].find? (fun i => decide (u8 p i ≠ 0))

/-- The field checks of the shell's record. -/
def shellRefusal (s : State) (p : Bytes) (r : Resources) : Option Ans :=
  firstRefusal [(shellField p).map badArg, chk (decide (r.windows.length ≤ 8)) (badArg 8), chk (decide (r.slots.length ≤ 4)) (badArg 9),
    chk (decide (u32 p 20 = 0) || decide (u32 p 20 = recLen p)) (badArg 20), windowsRefusal s 0 r p,
    listRefusal p (slotsOff r) 1 r.slots (keySlotAccepted s 0)]

/-- What a holder gives up and takes. The RES_MEAS of the shell stays zero: DESIGN CHOICE (log 140). -/
def changeRes (s : State) (p : Nat) (r : Resources) (meas : BitVec 384) : State :=
  let o := (plotAt s p).res
  let goneN := o.naus.filter (fun n => !hasElem r.naus n)
  let newN := r.naus.filter (fun n => !hasElem o.naus n)
  let goneS := o.slots.filter (fun k => !hasElem r.slots k)
  let newS := r.slots.filter (fun k => !hasElem o.slots k)
  let s1 := clearRoutes (releaseGranules s ((o.windows.filter (fun w => !hasElem r.windows w)).flatMap windowGranules)) (o.events.filter (fun i => !hasElem r.events i))
  let s2 := nausReset (goneN.foldl unlend (goneN.foldl clearSlotsOf (newN.foldl vacateSlots s1))) (goneN ++ newN)
  let s3 := freshKeys (modVault s2 (fun v => { v with slotKeys := goneS.foldl (fun t k => tset 0#256 t k 0#256) v.slotKeys })) newS
  let s4 := takeWindows s3 p r.windows
  refreshFlows (modPlot s4 p (fun x => { x with res := r, resMeas := if p = 0 then x.resMeas else meas, gen := if p = 0 then 0 else x.gen + 1 }))

/-- The device is Unconfigured (R294). -/
def unconfigured (s : State) : Bool := !configured s && !s.cfg.loading

/-- PLOT_CHANGE (R363): the checks of R352 from the requester's rights on. -/
def plotChangeChecks (_w : Who) (p : Bytes) (s : State) : Option Ans :=
  let q := u8 p 0
  let r := recRes s p
  let x := plotAt s q
  firstRefusal [if q ≤ 16 then plotAbsent s q else none, listsFail s p, resAbsent s r, chk (decide (q ≤ 16)) (badArg 0),
      if q = 0 then shellRefusal s p r else resRefusal s q r (p.take 32 ++ recLists s p),
      freeOf s [if q = 0 then .shell else .plot q],
      chk (if q = 0 then unconfigured s || (subset x.res.windows r.windows && subset x.res.slots r.slots)
        else decide (x.state = .empty) || onlyAdds x.res r) (ansBad stBusy 6),
      chk (subset r.slots x.res.slots || s.vault.randomOk) (ansBad stFault 6)]

/-- PLOT_CHANGE (R363): the effect and the answer of an accepted command. -/
def plotChangeEffect (_w : Who) (p : Bytes) (s : State) : Ans × State :=
  let q := u8 p 0
  let r := recRes s p
  let x := plotAt s q
  let s1 := changeRes (if q ≠ 0 ∧ x.state = .empty then markRegions (zeroFrames s (fun a => r.ranges.any (fun g => inRange g a))) r.regions true else s) q r (recMeas s p)
  (ansOk (leBytes 4 (plotAt s1 q).gen), s1)

/-- PLOT_CHANGE (R363). -/
def plotChangeBody (w : Who) (p : Bytes) (s : State) : Ans × State :=
  orElse (plotChangeChecks w p s) s (plotChangeEffect w p s)

/-- PLOT_CHANGE. -/
def specPlotChange : CmdSpec := { op := 0x0201, len := recLenOk, body := plotChangeBody }

/-- PLOT_CHANGE (R363). -/
def execPlotChange (m : Fin 24) (slot : Fin 8) (p : Bytes) (s : State) : Host.Outcome State Fault Refusal := .next (runCmd specPlotChange m.val slot.val p s)

/-! ## PLOT_DESTROY, PLOT_RESET (R51, R52) -/

/-- A plot exists by number. -/
def plotThere (s : State) (q : Nat) : Option Ans := if plotId q then plotAbsent s q else none

/-- An open job of an opcode on a plot. -/
def jobOnPlot (s : State) (op q : Nat) : Bool :=
  s.mgmt.jobs.any (fun kv => match kv.2 with | some j => decide (j.op = op ∧ j.state = .running ∧ u8 j.payload 0 = q) | none => false)

/-- A key operation under way on a plot: KEY_IMPORT of its VF (R63). -/
def importRuns (s : State) (q : Nat) : Bool := s.vault.pkQueue.any (fun k => decide (k.op = 0x0300 ∧ plotOfVf s k.mbx = some q))

/-- A plot reset is refused at the unswept limit (R251). -/
def limitRefusal (s : State) (q : Nat) : Option Ans := chk (!plotAtLimit s q) (ansBad stBusy 5)

/-- PLOT_DESTROY: the checks of R352 from the requester's rights on. -/
def plotDestroyChecks (_w : Who) (p : Bytes) (s : State) : Option Ans :=
  let q := u8 p 0
  firstRefusal [plotThere s q, chk (plotId q) (badArg 0), chk (!jobOnPlot s 0x0202 q && !importRuns s q) busy2, limitRefusal s q]

/-- PLOT_DESTROY: the effect and the answer of an accepted command. -/
def plotDestroyEffect (w : Who) (p : Bytes) (s : State) : Ans × State :=
  startJobOver s w 0x0202 p [(.plot (u8 p 0), false)] 0

/-- PLOT_DESTROY's checks. -/
def plotDestroyBody (w : Who) (p : Bytes) (s : State) : Ans × State :=
  orElse (plotDestroyChecks w p s) s (plotDestroyEffect w p s)

/-- PLOT_DESTROY. -/
def specPlotDestroy : CmdSpec := { op := 0x0202, len := lenIs 4, body := plotDestroyBody }

/-- PLOT_DESTROY (R52). -/
def execPlotDestroy (m : Fin 24) (slot : Fin 8) (p : Bytes) (s : State) : Host.Outcome State Fault Refusal := .next (runCmd specPlotDestroy m.val slot.val p s)

/-- The step of PLOT_DESTROY; a plot that has meanwhile gone is absent. -/
def stepPlotDestroy (s : State) (id : Nat) (j : Job) : State :=
  let q := u8 j.payload 0
  if !(plotAt s q).live then jobFail s id stAbsent 5 0
  else if plotAtLimit s q then jobFail s id stBusy 5 0
  else jobOk (resumeAll (plotDestroy s q id)) id 0 []

/-- PLOT_RESET (R51, R363): from horizon B its own plot: the checks of R352 from the requester's rights on. -/
def plotResetChecks (w : Who) (p : Bytes) (s : State) : Option Ans :=
  let q := u8 p 0
  firstRefusal [chk (decide (w.hz = .a) || decide (q = w.plot)) (ansBad stDenied 0), plotThere s q, chk (plotId q) (badArg 0),
      chk (decide (u8 p 1 ≤ 1)) (badArg 1), freeOf s [.plot q], chk (!importRuns s q) busy2, limitRefusal s q,
      chk (decide ((plotAt s q).res.slots = []) || s.vault.randomOk) (ansBad stFault 6)]

/-- PLOT_RESET (R51, R363): from horizon B its own plot: the effect and the answer of an accepted command. -/
def plotResetEffect (_w : Who) (p : Bytes) (s : State) : Ans × State :=
  let q := u8 p 0
  let s1 := plotReset s q (decide (u8 p 1 = 1))
  (ansOk (leBytes 4 (plotAt s1 q).gen), s1)

/-- PLOT_RESET (R51, R363): from horizon B its own plot. -/
def plotResetBody (w : Who) (p : Bytes) (s : State) : Ans × State :=
  orElse (plotResetChecks w p s) s (plotResetEffect w p s)

/-- PLOT_RESET. -/
def specPlotReset : CmdSpec := { op := 0x0203, b := true, len := lenIs 4, body := plotResetBody }

/-- PLOT_RESET (R51). -/
def execPlotReset (m : Fin 24) (slot : Fin 8) (p : Bytes) (s : State) : Host.Outcome State Fault Refusal := .next (runCmd specPlotReset m.val slot.val p s)

/-! ## PLOT_LOAD (R317 to R321) -/

/-- LEN of PLOT_LOAD. -/
def plotLoadLen (p : Bytes) : Bool := decide (p.length = 24 + (if u8 p 3 = 1 then 64 else 0))

/-- A job rewrites the image area of the Peat store (R264). -/
def peatRewriting (s : State) : Bool :=
  s.mgmt.holds.any (fun h => decide (h.fn = .peatImages) && (match jobAt s h.job with | some j => decide (j.op = 0x040C) | none => false))

/-- The source checks of a load: the entry holds a container. -/
def sourceRefusal (s : State) (src entry off : Nat) (chain : Bool) (addrOff : Nat) (p : Bytes) : Option Ans :=
  firstRefusal [chk (decide (src ≤ 1) || (chain && decide (src = 2))) (badArg off),
    chk (decide (src ≠ 0) || (decide (entry < 32) && (tget none s.peat.images entry).isSome)) (badArg (off + 1)),
    chk (decide (src ≠ 1) || decide (u64 p addrOff % 64 = 0)) (badArg addrOff),
    chk (decide (src ≠ 0) || !peatRewriting s) busy2]

/-- PLOT_LOAD (R53, R322): the checks of R352 from the requester's rights on. -/
def plotLoadChecks (w : Who) (p : Bytes) (s : State) : Option Ans :=
  let q := u8 p 0
  firstRefusal [chk (holderRight s w q) (ansBad stDenied 0), plotThere s q, chk (plotId q) (badArg 0),
      sourceRefusal s (u8 p 1) (u8 p 2) 1 false 16 p, chk (decide (u8 p 3 ≤ 1 ∧ (u8 p 3 = 1 → u8 p 1 = 0))) (badArg 3),
      chk ((plotAt s q).halting.isNone && !importRuns s q) busy2]

/-- PLOT_LOAD (R53, R322): the effect and the answer of an accepted command. -/
def plotLoadEffect (w : Who) (p : Bytes) (s : State) : Ans × State :=
  let q := u8 p 0
  let r := (plotAt s q).res
  startJob s w 0x0204 p ((.plot q, false) :: (if r.agentCount = 0 then [] else [(.agentRange r.agentBase r.agentCount, false)])) 0

/-- PLOT_LOAD's checks (R53, R322). -/
def plotLoadBody (w : Who) (p : Bytes) (s : State) : Ans × State :=
  orElse (plotLoadChecks w p s) s (plotLoadEffect w p s)

/-- PLOT_LOAD. -/
def specPlotLoad : CmdSpec := { op := 0x0204, b := true, len := plotLoadLen, body := plotLoadBody }

/-- PLOT_LOAD (R317). -/
def execPlotLoad (m : Fin 24) (slot : Fin 8) (p : Bytes) (s : State) : Host.Outcome State Fault Refusal := .next (runCmd specPlotLoad m.val slot.val p s)

/-- Header and manifest of a container in host memory: as many bytes as BODY_OFF says, of LENGTH. -/
def hostImage (s : State) (addr len : Nat) : Bytes :=
  dmaRead s addr (min len (max 0x80 (leN (dmaRead s (addr + 0x20) 4) 0 4)))

/-- A stretch of a stored image lies in sectors that cannot be read (R264). -/
def stretchLost (x : Peat) (e : ImageEnt) (off n : Nat) : Bool :=
  (List.range (n / 1024)).any (fun i =>
    let k := off / 1024 + i
    let b := e.blocks.getD (k / 256) 0
    decide (peatT x b < sectorBits x b (k % 256)))

/-- Header and manifest of a load's source cannot be read (R264, R321). -/
def headLost (s : State) (src entry : Nat) : Option LoadFail :=
  if src ≠ 0 then none
  else match tget none s.peat.images entry with
    | some e => if stretchLost s.peat e 0 (max 1024 (leN e.bytes 0x20 4)) then some { reason := 0x0E, stage := 0, status := stFault } else none
    | none => none

/-- The source of a load job: SRC, ENTRY, ADDR, LENGTH. -/
def loadSource (j : Job) : Nat × Nat × Nat × Nat :=
  let p := j.payload
  if j.op = 0x0204 then (u8 p 1, u8 p 2, u64 p 16, u32 p 8) else (u8 p 0, u8 p 1, u64 p 8, u32 p 4)

/-- Where the next body block of a load stands in its container. -/
def nextOff (ld : Load) : Nat := leN ld.image 0x20 4 + 65536 * ld.sent

/-- The next body block that the configuration manager reads from a load's source (R311, R316); empty: the source has no more. -/
def nextBlock (s : State) (j : Job) (ld : Load) : Bytes :=
  let o := nextOff ld
  let q := loadSource j
  let of := fun (b : Bytes) => if o + 65536 ≤ b.length then subBytes b o 65536 else []
  if leN ld.image 0x24 4 ≤ ld.sent then []
  else match q.1 with
    | 0 => match tget none s.peat.images q.2.1 with | some e => of e.bytes | none => []
    | 1 => if o + 65536 ≤ q.2.2.2 then dmaRead s (q.2.2.1 + o) 65536 else []
    | _ => of j.data

/-- The source of a load fails at its next block (R321): a page of the store, a DMA transfer; the DETAIL of R354. -/
def sourceFails (s : State) (j : Job) (ld : Load) : Option Nat :=
  let q := loadSource j
  match q.1 with
  | 0 => match tget none s.peat.images q.2.1 with
    | some e => if stretchLost s.peat e (nextOff ld) 65536 then some 1 else none
    | none => none
  | 1 => if dmaFails s (q.2.2.1 + nextOff ld) then some 3 else none
  | _ => none

/-- The container of a load's source. -/
def sourceImage (s : State) (src entry addr len : Nat) : Bytes :=
  if src = 0 then (match tget none s.peat.images entry with | some e => e.bytes | none => []) else hostImage s addr len

/-- A container in host memory whose LENGTH is not its TOTAL_LEN is malformed (R300, R321). -/
def lengthRefusal (src len : Nat) (img : Bytes) : Option LoadFail :=
  if src = 1 ∧ len ≠ leN img 0x18 4 then some { reason := 0x01, stage := 0, status := stBadArg } else none

/-- The container of a PLOT_LOAD, with the key block that it carries. -/
def plotImage (s : State) (p : Bytes) : Bytes :=
  let b := sourceImage s (u8 p 1) (u8 p 2) (u64 p 16) (u32 p 8)
  if u8 p 3 = 1 then b.take 0x40 ++ subBytes p 24 64 ++ b.drop 0x80 else b

/-- The prefetched entries of a plot's slots go back to their flows (R318). -/
def returnPrefetched (s : State) (q : Nat) : State :=
  (plotAt s q).res.naus.foldl (fun s n =>
    (quarterAt s (nodeDie n)).slots.foldl (fun s sl =>
      if slotHolder s (nodeDie n) sl.1 = some n then returnEntries s (nodeDie n) sl.1 (fun x => !x.taken) else s) s) s

/-- A plot's quiesce is over; its agents' requests go on. -/
def endQuiesce (s : State) (id : Nat) : State :=
  releaseAgents (modMgmt s (fun g => { g with holds := g.holds.map (fun h => if h.job = id then { h with quiesce := false } else h) }))

/-- The body of a plot load begins, once frames of an earlier blank are zero (R363). -/
def startPlotBody (s : State) (id q : Nat) (img : Bytes) : State :=
  if (plotAt s q).zeroing then s else beginPlotLoad (endQuiesce s id) id q img

/-- A step of PLOT_LOAD: the checks and the quiesce; the body, of the container that has been checked; the end once every die has passed its END. -/
def stepPlotLoad (s : State) (id : Nat) (j : Job) : State :=
  let q := u8 j.payload 0
  if j.stage = 0 then
    let img := plotImage s j.payload
    match ((headLost s (u8 j.payload 1) (u8 j.payload 2)).or (lengthRefusal (u8 j.payload 1) (u32 j.payload 8) img)).or (checkHeader s q img) with
    | some f => failLoad s id f .done 0
    | none =>
      match checkManifest s q img none with
      | some f => failLoad s id f .done 0
      | none =>
        let s1 := modJob s id (fun x => { x with data := img })
        if (plotAt s1 q).state = .empty then modJob (stepDone s1 id) id (fun x => { x with stage := 2 })
        else returnPrefetched (modPlot (beginDrain s1 id) q (fun x => { x with quiesced := true })) q
  else if j.stage = 2 then
    match loadOf s id with
    | none => stepDone (startPlotBody s id q j.data) id
    | some ld => if bodyDone ld then finishPlotLoad s ld else s
  else s

/-! ## PLOT_STATUS -/

/-- Code of a plot's state (R361). -/
def plotCode : PlotState → Nat
  | .empty => 0
  | .loading => 1
  | .running => 2
  | .frozen => 3

/-- PLOT_STATUS (R361): the checks of R352 from the requester's rights on. -/
def plotStatusChecks (w : Who) (p : Bytes) (s : State) : Option Ans :=
  let q := u8 p 0
  firstRefusal [chk (decide (w.hz = .a) || decide (q = w.plot)) (ansBad stDenied 0), plotThere s q, chk (plotId q) (badArg 0)]

/-- PLOT_STATUS (R361): the effect and the answer of an accepted command. -/
def plotStatusEffect (_w : Who) (p : Bytes) (s : State) : Ans × State :=
  let q := u8 p 0
  let x := plotAt s q
  (ansOk (leBytes 1 (plotCode x.state) ++ leBytes 1 (b2n (tenantHeld s q)) ++ leBytes 1 x.res.vf ++
    leBytes 1 (b2n x.broken + 2 * b2n (sessionOf s q).isSome + 4 * b2n x.zeroing) ++ leBytes 4 x.gen ++
    beBytes 48 x.resMeas.toNat ++ beBytes 48 x.meas.toNat), s)

/-- PLOT_STATUS (R361). -/
def plotStatusBody (w : Who) (p : Bytes) (s : State) : Ans × State :=
  orElse (plotStatusChecks w p s) s (plotStatusEffect w p s)

/-- PLOT_STATUS. -/
def specPlotStatus : CmdSpec := { op := 0x0205, b := true, len := lenIs 4, body := plotStatusBody }

/-- PLOT_STATUS (R361). -/
def execPlotStatus (m : Fin 24) (slot : Fin 8) (p : Bytes) (s : State) : Host.Outcome State Fault Refusal := .next (runCmd specPlotStatus m.val slot.val p s)

/-! ## FLOW_CONFIG, FLOW_STATUS (R155 to R157) -/

/-- The flows FLOW_CONFIG names. -/
def cfgFlows (p : Bytes) : List Nat := (List.range (u16 p 2)).map (fun i => u16 p 0 + i)

/-- CONTEXT of FLOW_CONFIG. -/
def flowCtxOf (p : Bytes) : DWord := BitVec.ofNat 64 (u64 p 16)

/-- Presence of a flow's home quarter. -/
def flowAbsent (s : State) (f : Nat) : Option Ans :=
  if f < 8192 then firstRefusal [chk s.sys.eff.grn (ansBad stAbsent 1), dieAbsent s (flowHome f)] else none

/-- FLOW_CONFIG (R53, R156): the checks of R352 from the requester's rights on. -/
def flowConfigChecks (w : Who) (p : Bytes) (s : State) : Option Ans :=
  let fs := cfgFlows p
  let c := flowCtxOf p
  firstRefusal [chk ((fs.filter (fun f => decide (f < 8192))).all (fun f => holderRight s w (plotOfFlow s f))) (ansBad stDenied 0),
      firstRefusal (fs.map (flowAbsent s)), chk (decide (1 ≤ fs.length ∧ u16 p 0 + u16 p 2 ≤ 8192)) (badArg 0), chk (decide (u8 p 8 < 64)) (badArg 8),
      chk (decide (fld c 62 61 ≠ 3) && decide (fld c 51 47 ≤ 19)) (badArg 16)]

/-- FLOW_CONFIG (R53, R156): the effect and the answer of an accepted command. -/
def flowConfigEffect (w : Who) (p : Bytes) (s : State) : Ans × State :=
  let fs := cfgFlows p
  startJob s w 0x0206 p (fs.map (fun f => (.flow f, false))) 0

/-- FLOW_CONFIG's checks (R53, R156). -/
def flowConfigBody (w : Who) (p : Bytes) (s : State) : Ans × State :=
  orElse (flowConfigChecks w p s) s (flowConfigEffect w p s)

/-- FLOW_CONFIG. -/
def specFlowConfig : CmdSpec := { op := 0x0206, b := true, len := lenIs 24, body := flowConfigBody }

/-- FLOW_CONFIG (R155). -/
def execFlowConfig (m : Fin 24) (slot : Fin 8) (p : Bytes) (s : State) : Host.Outcome State Fault Refusal := .next (runCmd specFlowConfig m.val slot.val p s)

/-- The named fields of a flow take CONTEXT's values. -/
def setFlow (fields : BitVec 8) (c : DWord) (x : Flow) : Flow :=
  { x with
    enable := if bitOf fields 0 then bitOf c 63 else x.enable, kind := if bitOf fields 1 then fld c 62 61 else x.kind
    cclass := if bitOf fields 2 then fld c 60 55 else x.cclass, prio := if bitOf fields 3 then fld c 54 52 else x.prio
    depth := if bitOf fields 4 then fld c 51 47 else x.depth, pause := if bitOf fields 5 then bitOf c 46 else x.pause }

/-- A flow's new fields; its ready list follows. -/
def putFlow (fields : BitVec 8) (c : DWord) (s : State) (f : Nat) : State :=
  let s1 := modQuarter (modFlow s f (setFlow fields c)) (flowHome f) (fun q => { q with ready := q.ready.filter (fun r => decide (r.2.2.2 ≠ f)) })
  refreshReady s1 f

/-- Delivery of a flow stops; its prefetched entries go back to its head (R157). -/
def stopFlow (s : State) (f : Nat) : State :=
  let s1 := modFlow s f (fun x => { x with stopped := true })
  let s2 := (quarterAt s1 (flowHome f)).slots.foldl (fun s sl => returnEntries s (flowHome f) sl.1 (fun x => !x.taken && decide (gFlow x.grain.desc = f))) s1
  refreshReady s2 f

/-- A step of FLOW_CONFIG; a requester that holds the flows no more is denied (R53). -/
def stepFlowConfig (s : State) (id : Nat) (j : Job) : State :=
  let fs := cfgFlows j.payload
  let fields := BitVec.ofNat 8 (u8 j.payload 8)
  if fs.all (fun f => holderRight s (jobWho j) (plotOfFlow s f)) = false then
    (if j.stage = 0 ∨ j.stage = 2 then resumeAll (jobFail s id stDenied 0 0) else s)
  else if j.stage = 0 ∧ (bitOf fields 1 = true ∨ bitOf fields 2 = true) then fs.foldl stopFlow (beginDrain s id)
  else if j.stage = 0 ∨ j.stage = 2 then resumeAll (jobOk (fs.foldl (putFlow fields (flowCtxOf j.payload)) s) id 0 [])
  else s

/-- A flow's context as it reads (R155). -/
def flowContext (s : State) (f : Nat) : DWord :=
  let x := flowAt s f
  BitVec.ofNat 64 (b2n x.enable * 2 ^ 63 + x.kind * 2 ^ 61 + x.cclass * 2 ^ 55 + x.prio * 2 ^ 52 + x.depth * 2 ^ 47 + b2n x.pause * 2 ^ 46 +
    plotOfFlow s f * 2 ^ 40 + x.q.length % 2 ^ 20 * 2 ^ 20 + b2n (decide (0 < spilledOf x)) * 2 ^ 19 + b2n x.inflight * 2 ^ 18 + x.nextSeq.toNat * 4)

/-- FLOW_STATUS (R156, R361): the checks of R352 from the requester's rights on. -/
def flowStatusChecks (w : Who) (p : Bytes) (s : State) : Option Ans :=
  let f := u16 p 0
  let pl := plotOfFlow s f
  firstRefusal [chk (decide (w.hz = .a) || (decide (f < 8192) && decide (pl = w.plot))) (ansBad stDenied 0), flowAbsent s f, chk (decide (f < 8192)) (badArg 0), flag01 p 2]

/-- FLOW_STATUS (R156, R361): the effect and the answer of an accepted command. -/
def flowStatusEffect (w : Who) (p : Bytes) (s : State) : Ans × State :=
  let f := u16 p 0
  let x := flowAt s f
  let pl := plotOfFlow s f
  (ansOk ((if w.hz = .a ∧ tenantHeld s pl = true then zeros 8 else leBytes 8 (flowContext s f).toNat) ++
      [x.accepted, x.refused, x.spilledN, x.delivered].flatMap (fun c => leBytes 4 (ctrWord c))),
   if u8 p 2 = 1 then modFlow s f (fun x => { x with accepted := {}, refused := {}, spilledN := {}, delivered := {} }) else s)

/-- FLOW_STATUS (R156, R361). -/
def flowStatusBody (w : Who) (p : Bytes) (s : State) : Ans × State :=
  orElse (flowStatusChecks w p s) s (flowStatusEffect w p s)

/-- FLOW_STATUS. -/
def specFlowStatus : CmdSpec := { op := 0x0207, b := true, len := lenIs 4, body := flowStatusBody }

/-- FLOW_STATUS (R156). -/
def execFlowStatus (m : Fin 24) (slot : Fin 8) (p : Bytes) (s : State) : Host.Outcome State Fault Refusal := .next (runCmd specFlowStatus m.val slot.val p s)

/-! ## SLOT_LEND, SLOT_RECLAIM (R161) -/

/-- Pooled slots of a quarter that are free. -/
def poolFree (s : State) (p : Nat) : List Nat := ((List.range 64).map (· + 192)).filter (fun i => (eslotAt s p i).lentTo.isNone)

/-- Lent slots of an NAU. -/
def lentSlots (s : State) (p n : Nat) : List Nat := ((quarterAt s p).slots.filter (fun kv => decide (kv.2.lentTo = some n))).map (·.1)

/-- Presence of a quarter. -/
def quarterAbsent (s : State) (p : Nat) : Option Ans :=
  if p < 4 then firstRefusal [dieAbsent s p, chk s.sys.eff.grn (ansBad stAbsent 1)] else none

/-- Lend slots to an NAU, one after the other; which, the manual leaves open. -/
def lendSlots (p n : Nat) : Nat → List Nat → State → List Nat × State
  | 0, l, s => (l, s)
  | k + 1, l, s =>
    let c := pickOpen s (poolFree s p)
    lendSlots p n k (l ++ [c.1]) (modEslot c.2 p c.1 (fun x => { x with lentTo := some n }))

/-- SLOT_LEND (R161, R361): all COUNT slots or none: the checks of R352 from the requester's rights on. -/
def slotLendChecks (_w : Who) (p : Bytes) (s : State) : Option Ans :=
  let q := u8 p 0
  let n := nauNode q (u8 p 1)
  let k := u8 p 2
  firstRefusal [quarterAbsent s q, if q < 4 ∧ u8 p 1 < 96 then nauAbsent s n else none, chk (decide (q < 4)) (badArg 0),
      chk (decide (u8 p 1 < 96)) (badArg 1), chk (decide (2 + (lentSlots s q n).length + k ≤ 8)) (badArg 2),
      chk (decide (k ≤ (poolFree s q).length)) (ansBad stAbsent 4)]

/-- SLOT_LEND (R161, R361): all COUNT slots or none: the effect and the answer of an accepted command. -/
def slotLendEffect (_w : Who) (p : Bytes) (s : State) : Ans × State :=
  let q := u8 p 0
  let n := nauNode q (u8 p 1)
  let k := u8 p 2
  let r := lendSlots q n k [] s
  (ansOk (r.1.flatMap (leBytes 2)), r.2)

/-- SLOT_LEND (R161, R361): all COUNT slots or none. -/
def slotLendBody (w : Who) (p : Bytes) (s : State) : Ans × State :=
  orElse (slotLendChecks w p s) s (slotLendEffect w p s)

/-- SLOT_LEND. -/
def specSlotLend : CmdSpec := { op := 0x0208, len := lenIs 4, body := slotLendBody }

/-- SLOT_LEND (R161). -/
def execSlotLend (m : Fin 24) (slot : Fin 8) (p : Bytes) (s : State) : Host.Outcome State Fault Refusal := .next (runCmd specSlotLend m.val slot.val p s)

/-- SLOT_RECLAIM: the slot is lent: the checks of R352 from the requester's rights on. -/
def slotReclaimChecks (_w : Who) (p : Bytes) (s : State) : Option Ans :=
  let q := u8 p 0
  firstRefusal [quarterAbsent s q, chk (decide (q < 4)) (badArg 0), chk ((eslotAt s q (u16 p 2)).lentTo.isSome) (badArg 2)]

/-- SLOT_RECLAIM: the slot is lent: the effect and the answer of an accepted command. -/
def slotReclaimEffect (w : Who) (p : Bytes) (s : State) : Ans × State :=
  let q := u8 p 0
  startJob s w 0x0209 p [(.slot q (u16 p 2), false)] 0

/-- SLOT_RECLAIM's checks: the slot is lent. -/
def slotReclaimBody (w : Who) (p : Bytes) (s : State) : Ans × State :=
  orElse (slotReclaimChecks w p s) s (slotReclaimEffect w p s)

/-- SLOT_RECLAIM. -/
def specSlotReclaim : CmdSpec := { op := 0x0209, len := lenIs 8, body := slotReclaimBody }

/-- SLOT_RECLAIM (R161). -/
def execSlotReclaim (m : Fin 24) (slot : Fin 8) (p : Bytes) (s : State) : Host.Outcome State Fault Refusal := .next (runCmd specSlotReclaim m.val slot.val p s)

/-- A step of SLOT_RECLAIM: the slot takes no grain, gives prefetched ones back, and goes to the pool empty. -/
def stepSlotReclaim (s : State) (id : Nat) (j : Job) : State :=
  let q := u8 j.payload 0
  let i := u16 j.payload 2
  if j.stage = 0 then modEslot (returnEntries (beginDrain s id) q i (fun x => !x.taken)) q i (fun x => { x with reclaiming := true })
  else if j.stage = 2 then jobOk (modEslot s q i (fun _ => {})) id 0 []
  else s

/-! ## GRN_CONFIG, GRN_STATUS (R168, R169) -/

/-- GRN_CONFIG: the checks of R352 from the requester's rights on. -/
def grnConfigChecks (_w : Who) (p : Bytes) (s : State) : Option Ans :=
  let q := u8 p 0
  firstRefusal [quarterAbsent s q, chk (decide (q < 4)) (badArg 0), chk (decide (64 ≤ u16 p 2 ∧ u16 p 2 ≤ 2048)) (badArg 2),
      chk (decide (u16 p 2 < u16 p 4)) (badArg 4)]

/-- GRN_CONFIG: the effect and the answer of an accepted command. -/
def grnConfigEffect (_w : Who) (p : Bytes) (s : State) : Ans × State :=
  let q := u8 p 0
  (ansOk [], modQuarter s q (fun x => { x with spillLow := u16 p 2, spillHigh := u16 p 4 }))

/-- GRN_CONFIG. -/
def grnConfigBody (w : Who) (p : Bytes) (s : State) : Ans × State :=
  orElse (grnConfigChecks w p s) s (grnConfigEffect w p s)

/-- GRN_CONFIG. -/
def specGrnConfig : CmdSpec := { op := 0x020A, len := lenIs 8, body := grnConfigBody }

/-- GRN_CONFIG (R168). -/
def execGrnConfig (m : Fin 24) (slot : Fin 8) (p : Bytes) (s : State) : Host.Outcome State Fault Refusal := .next (runCmd specGrnConfig m.val slot.val p s)

/-- GRN_STATUS: the checks of R352 from the requester's rights on. -/
def grnStatusChecks (_w : Who) (p : Bytes) (s : State) : Option Ans :=
  let q := u8 p 0
  firstRefusal [quarterAbsent s q, chk (decide (q < 4)) (badArg 0), flag01 p 1]

/-- GRN_STATUS: the effect and the answer of an accepted command. -/
def grnStatusEffect (_w : Who) (p : Bytes) (s : State) : Ans × State :=
  let q := u8 p 0
  let x := quarterAt s q
  (ansOk (leBytes 2 x.onchip.length ++ zeros 2 ++ leBytes 4 (spillPages s q) ++ leBytes 4 (ctrWord x.stray) ++
      (List.range 5).flatMap (fun i => leBytes 4 (ctrWord (tget {} x.refusals i)))),
   if u8 p 1 = 1 then modQuarter s q (fun x => { x with stray := {}, refusals := [] }) else s)

/-- GRN_STATUS. -/
def grnStatusBody (w : Who) (p : Bytes) (s : State) : Ans × State :=
  orElse (grnStatusChecks w p s) s (grnStatusEffect w p s)

/-- GRN_STATUS. -/
def specGrnStatus : CmdSpec := { op := 0x020B, len := lenIs 4, body := grnStatusBody }

/-- GRN_STATUS (R169). -/
def execGrnStatus (m : Fin 24) (slot : Fin 8) (p : Bytes) (s : State) : Host.Outcome State Fault Refusal := .next (runCmd specGrnStatus m.val slot.val p s)

end Machine
end Sys2Proof
end

