-- ==== Sys2Proof/Machine/CmdVault.lean ====
section
/-! DEFINITION. The key and vault commands (R55 to R64, R364, R365), and what a public-key operation leaves when it finishes. -/

namespace Sys2Proof
namespace Machine

/-- The random source has failed its health tests (R60, R354). -/
def noRandom : Ans := ansBad stFault 6

/-! ## KEY_IMPORT, KEY_DROP (R62, R63) -/

/-- Checks of KEY_IMPORT: the plot of the VF exists, with no tenant key; nothing else acts on it. -/
def keyImportPre (w : Who) (_p : Bytes) (s : State) : Option Ans :=
  firstRefusal [chk ((plotAt s w.plot).live && (plotAt s w.plot).tenantKey.isNone) (ansBad stDenied 0), freeOf s [.plot w.plot],
    chk (!jobOnPlot s 0x0202 w.plot && !importRuns s w.plot) busy2, limitRefusal s w.plot, chk s.vault.randomOk noRandom]

/-- The transcript of a key import (R62). -/
def importTranscript (tenantPub devPub nonce : Bytes) (plot gen : Nat) : Bytes := tenantPub ++ devPub ++ nonce ++ leBytes 1 plot ++ leBytes 4 gen

/-- The key exchange is done (R62): tenant key, signer, plot reset with blank, signed transcript. -/
def keyImportDone (w : Who) (p : Bytes) (s : State) : Ans × State :=
  if !(plotAt s w.plot).live || (plotAt s w.plot).tenantKey.isSome then (ansBad stDenied 0, s)
  else
    let q := w.plot
    let scalar := drawOf s
    let dev := pubBytes (Config.ecPub scalar)
    let tenant := subBytes p 0 96
    let nonce := subBytes p 144 48
    let key := Config.hkdf (beBytes 48 (Config.ecdh scalar (BitVec.ofNat 768 (beN p 0 96))).toNat) nonce infoTk
    let s1 := plotReset (drawn s 1) q true
    let gen := (plotAt s1 q).gen
    let hash := Config.sha384 (importTranscript tenant dev nonce q gen)
    let s2 := modPlot s1 q (fun x => { x with tenantKey := some key, signHash := BitVec.ofNat 384 (beN p 96 48), importHash := hash })
    (ansOk (dev ++ pubBytes (Config.identitySign s.vault.identityPriv hash s2.vault.draws) ++ leBytes 4 gen), drawn s2 1)

/-- KEY_IMPORT. -/
def specKeyImport : CmdSpec := { op := 0x0300, a := false, b := true, len := lenIs 192, body := keyImportDone }

/-- KEY_IMPORT (R62). -/
def execKeyImport (m : Fin 24) (slot : Fin 8) (p : Bytes) (s : State) : Host.Outcome State Fault Refusal :=
  .next (runPk specKeyImport keyImportPre m.val slot.val p s)

/-- KEY_DROP (R63): the checks of R352 from the requester's rights on. -/
def keyDropChecks (w : Who) (_p : Bytes) (s : State) : Option Ans :=
  let q := w.plot
  firstRefusal [chk (plotAt s q).tenantKey.isSome (ansBad stDenied 0), freeOf s [.plot q], chk (!jobOnPlot s 0x0202 q) busy2, limitRefusal s q,
      chk (decide ((plotAt s q).res.slots = []) || s.vault.randomOk) noRandom]

/-- KEY_DROP (R63): the effect and the answer of an accepted command. -/
def keyDropEffect (w : Who) (_p : Bytes) (s : State) : Ans × State :=
  let q := w.plot
  let s1 := modPlot (disownJobs (plotReset s q true) q) q (fun x => { x with tenantKey := none, signHash := 0#384, importHash := 0#384 })
  (ansOk (leBytes 4 (plotAt s1 q).gen), s1)

/-- KEY_DROP (R63). -/
def keyDropBody (w : Who) (p : Bytes) (s : State) : Ans × State :=
  orElse (keyDropChecks w p s) s (keyDropEffect w p s)

/-- KEY_DROP. -/
def specKeyDrop : CmdSpec := { op := 0x0301, a := false, b := true, len := lenIs 0, body := keyDropBody }

/-- KEY_DROP (R63). -/
def execKeyDrop (m : Fin 24) (slot : Fin 8) (p : Bytes) (s : State) : Host.Outcome State Fault Refusal := .next (runCmd specKeyDrop m.val slot.val p s)

/-! ## ATTEST (R64) -/

/-- Checks of ATTEST: the shell or an owner-held plot for the owner, its own for a tenant; none after VDBG_OPEN (R66). -/
def attestPre (w : Who) (p : Bytes) (s : State) : Option Ans :=
  let q := u8 p 0
  firstRefusal [chk (!s.vault.vdbg && holderRight s w q) (ansBad stDenied 0), if q ≤ 16 then plotAbsent s q else none, chk (decide (q ≤ 16)) (badArg 0),
    chk s.vault.randomOk noRandom]

/-- Measurements of the profiles that a holder's agent contexts name, in profile order (R64). -/
def profMeas (s : State) (q : Nat) : Bytes :=
  [0, 1, 2, 3].flatMap (fun n =>
    if s.pce.agents.any (fun kv => aValid kv.2 && decide (aProfile kv.2 = n) && decide (plotOfAgent s kv.1 = q)) then
      (match (profileAt s n).active with | some b => beBytes 48 b.meas.toNat | none => [])
    else [])

/-- STATE of an attestation report. -/
def attestState (s : State) (q : Nat) : Nat :=
  let x := plotAt s q
  b2n (!ownerSet s) * 16 + b2n (vdbgConsent s) * 8 + b2n x.dbgSinceLoad * 4 + b2n (decide (x.state = .running)) * 2 + b2n (tenantHeld s q)

/-- Bytes 0x000 to 0x16F of an attestation report (R64). RES_MEAS of the shell is zero: DESIGN CHOICE (log 140). -/
def attestHead (s : State) (q : Nat) (nonce : Bytes) : Bytes :=
  let x := plotAt s q
  leBytes 4 0x54414B47 ++ leBytes 2 1 ++ leBytes 2 (partCode s.sys.part) ++
  [0, 1, 2, 3].flatMap (fun p => leBytes 1 (if dieUp s p then (dieAt s p).rev else 0)) ++ leBytes 1 0xA1 ++ leBytes 1 q ++
  leBytes 2 (featBits s.sys.eff) ++ leBytes 4 (s.mgmt.fw.2.1 * 256 + s.mgmt.fw.2.2) ++ leBytes 4 (if q = 0 then 0 else x.gen) ++
  beBytes 48 (Config.sha384 (pubBytes (Config.ecPub s.vault.identityPriv))).toNat ++ nonce ++ beBytes 48 (plotAt s 0).meas.toNat ++
  (if q = 0 then zeros 48 else beBytes 48 x.meas.toNat) ++ beBytes 48 x.resMeas.toNat ++ beBytes 48 (Config.sha384 (profMeas s q)).toNat ++
  beBytes 48 x.importHash.toNat ++ leBytes 4 (attestState s q) ++ zeros 4

/-- The report is signed (R64). -/
def attestDone (w : Who) (p : Bytes) (s : State) : Ans × State :=
  match attestPre w p s with
  | some a => (a, s)
  | none =>
    let h := attestHead s (u8 p 0) (subBytes p 4 48)
    (ansOk (h ++ pubBytes (Config.identitySign s.vault.identityPriv (Config.sha384 h) s.vault.draws)), drawn s 1)

/-- ATTEST. -/
def specAttest : CmdSpec := { op := 0x0302, b := true, len := lenIs 52, body := attestDone }

/-- ATTEST (R64). -/
def execAttest (m : Fin 24) (slot : Fin 8) (p : Bytes) (s : State) : Host.Outcome State Fault Refusal := .next (runPk specAttest attestPre m.val slot.val p s)

/-! ## VAULT_STATUS (R365) -/

/-- FLAGS of VAULT_STATUS. With KEY_SRC 0 the fuse key counts as present whether or not its fuses were programmed: DESIGN CHOICE, R58
does not say (log 138). -/
def vaultFlags (s : State) : Nat :=
  b2n (!keySrcBbram s || s.vault.keyCheckOk) + 2 * b2n s.vault.tamperLatch + 4 * b2n s.vault.randomOk + 8 * b2n s.vault.vdbg

/-- VAULT_STATUS: on mailbox 0 it draws a fresh vendor-debug nonce. -/
def vaultStatusBody (w : Who) (_p : Bytes) (s : State) : Ans × State :=
  let fresh := decide (w.mbx = 0 ∧ w.hz = .a)
  orElse (chk (!fresh || s.vault.randomOk) noRandom) s
    (let n := if fresh then drawOf s else 0#384
     (ansOk (leBytes 8 s.vault.ownerCtrl.toNat ++ leBytes 1 (vaultFlags s) ++ zeros 1 ++ leBytes 2 (minFwOf s) ++ zeros 4 ++ leBytes 8 s.vault.serial.toNat ++
        beBytes 48 s.vault.vendorRootHash.toNat ++ beBytes 48 s.vault.ownerSignHash.toNat ++ beBytes 48 n.toNat),
      if fresh then drawn (modVault s (fun v => { v with vdbgNonce := some (n, now s) })) 1 else s))

/-- VAULT_STATUS. -/
def specVaultStatus : CmdSpec := { op := 0x0303, b := true, o := true, unb := true, len := lenIs 0, body := vaultStatusBody }

/-- VAULT_STATUS (R365). -/
def execVaultStatus (m : Fin 24) (slot : Fin 8) (p : Bytes) (s : State) : Host.Outcome State Fault Refusal := .next (runCmd specVaultStatus m.val slot.val p s)

/-! ## Fuses and BBRAM (R55 to R58) -/

/-- The owner's fuses after a request: none where a bit would have to be cleared or a value is not allowed (R57, R365). -/
def fusesAfter (s : State) (p : Bytes) : Option Vault :=
  let v := s.vault
  match u8 p 0 with
  | 0 =>
    let k := BitVec.ofNat 256 (beN p 4 32)
    if k ||| v.nextOwnerKeyF = k ∧ zeroAt p 36 16 then some { v with nextOwnerKeyF := k } else none
  | 1 =>
    let h := BitVec.ofNat 384 (beN p 4 48)
    if h ||| v.nextOwnerSignHash = h then some { v with nextOwnerSignHash := h } else none
  | 2 =>
    let c := BitVec.ofNat 64 (u64 p 4)
    if c ||| v.nextOwnerCtrl = c ∧ c &&& 0xFFFFFFFFFFFFFF26#64 = 0#64 ∧ zeroAt p 12 40 then some { v with nextOwnerCtrl := c } else none
  | _ =>
    let n := u8 p 4
    if 1 ≤ n ∧ n ≤ 64 ∧ n ≤ s.mgmt.fw.1 ∧ zeroAt p 5 47 then some { v with nextMinFw := v.nextMinFw ||| BitVec.ofNat 64 (2 ^ n - 1) } else none

/-- FUSE_PROG: the checks of R352 from the requester's rights on. -/
def fuseProgChecks (_w : Who) (p : Bytes) (s : State) : Option Ans :=
  firstRefusal [chk (!fuseLock s || decide (u8 p 0 = 3)) (ansBad stDenied 0), chk (decide (u8 p 0 ≤ 3)) (badArg 0), chk (fusesAfter s p).isSome (badArg 4)]

/-- FUSE_PROG: the effect and the answer of an accepted command. -/
def fuseProgEffect (w : Who) (p : Bytes) (s : State) : Ans × State :=
  startJob s w 0x0304 p [(.fuses, false)] 0

/-- FUSE_PROG's checks. -/
def fuseProgBody (w : Who) (p : Bytes) (s : State) : Ans × State :=
  orElse (fuseProgChecks w p s) s (fuseProgEffect w p s)

/-- FUSE_PROG. -/
def specFuseProg : CmdSpec := { op := 0x0304, len := lenIs 52, body := fuseProgBody }

/-- FUSE_PROG (R57). -/
def execFuseProg (m : Fin 24) (slot : Fin 8) (p : Bytes) (s : State) : Host.Outcome State Fault Refusal := .next (runCmd specFuseProg m.val slot.val p s)

/-- The fuses are programmed; they take effect at the next device reset. -/
def stepFuseProg (s : State) (id : Nat) (j : Job) : State :=
  match fusesAfter s j.payload with
  | some v => jobOk (modVault s (fun _ => v)) id 0 []
  | none => jobFail s id stBadArg 0 0

/-- The BBRAM key is writable until FUSE_LOCK (R53). -/
def bbramRight (s : State) : Option Ans := chk (!fuseLock s) (ansBad stDenied 0)

/-- BBRAM_KEY_WRITE (R57). -/
def bbramKeyWriteBody (_w : Who) (p : Bytes) (s : State) : Ans × State :=
  let k := BitVec.ofNat 256 (beN p 0 32)
  orElse (bbramRight s) s (ansOk [], modVault s (fun v => { v with ownerKeyB := k, keyCheck := keyCheckOf k, keyCheckOk := true }))

/-- BBRAM_KEY_WRITE. -/
def specBbramKeyWrite : CmdSpec := { op := 0x0305, len := lenIs 32, body := bbramKeyWriteBody }

/-- BBRAM_KEY_WRITE (R57). -/
def execBbramKeyWrite (m : Fin 24) (slot : Fin 8) (p : Bytes) (s : State) : Host.Outcome State Fault Refusal := .next (runCmd specBbramKeyWrite m.val slot.val p s)

/-- BBRAM_CLEAR (R58). -/
def bbramClearBody (_w : Who) (_p : Bytes) (s : State) : Ans × State := orElse (bbramRight s) s (ansOk [], clearBbram s)

/-- BBRAM_CLEAR. -/
def specBbramClear : CmdSpec := { op := 0x0306, len := lenIs 0, body := bbramClearBody }

/-- BBRAM_CLEAR (R58). -/
def execBbramClear (m : Fin 24) (slot : Fin 8) (p : Bytes) (s : State) : Host.Outcome State Fault Refusal := .next (runCmd specBbramClear m.val slot.val p s)

/-- TAMPER_CLEAR (R59). -/
def tamperClearBody (_w : Who) (_p : Bytes) (s : State) : Ans × State := (ansOk [], modVault s (fun v => { v with tamperLatch := false }))

/-- TAMPER_CLEAR. -/
def specTamperClear : CmdSpec := { op := 0x0307, len := lenIs 0, body := tamperClearBody }

/-- TAMPER_CLEAR (R59). -/
def execTamperClear (m : Fin 24) (slot : Fin 8) (p : Bytes) (s : State) : Host.Outcome State Fault Refusal := .next (runCmd specTamperClear m.val slot.val p s)

end Machine
end Sys2Proof
end

