-- ==== Sys2Proof/Machine/CmdMem.lean ====
section
/-! DEFINITION. The memory and Peat store commands: MEM_READ and WRITE, KAO_CONFIG and STATUS, mapping order, operating point,
channel offline and online, BIST, range scrub, injection, patrol, PEAT_CONFIG, SCRUB, STATUS (R230, R233, R241, R244, R259 to
R267, R366, R367). -/

namespace Sys2Proof
namespace Machine

/-! ## The management complex reads and writes lines (R50, R263, R367) -/

/-- Nothing stands before a new request for the line: no lock, no queued request, no quiesce of its stack or front (R149, R194). -/
def lineIdle (s : State) (a : Nat) : Bool :=
  (lockOf s a).isNone && !lineHeld s a && !(chanAt s (addrStack a) (chanOf s a)).queue.any (fun q => decide (q.line = addrLine a))

/-- Line addresses of a range. -/
def rangeLines (a n : Nat) : List Nat := (List.range (n / 64)).map (fun i => a + 64 * i)

/-- What answers a management request before the DRAM does: a dead target, no window, a foreign window, a retired channel. -/
def mgmtBlocked (s : State) (pl a : Nat) : Option (Nat × State) :=
  if !stackUp s (addrStack a) then some (0x01, s)
  else match windowOf s pl a with
    | none => some (0x02, s)
    | some w =>
      if !admitted s mgmtNode pl w.slot a then some (0x03, chanReport (chanFlag s a 5) a pl 0x03)
      else if (chanAt s (addrStack a) (chanOf s a)).state = .retired then some (0x05, chanReport s a pl 0x05)
      else none

/-- The management complex reads a line as an NAU of the plot would: status, data, state. -/
def mgmtRead (s : State) (pl a : Nat) : Nat × Line × State :=
  match mgmtBlocked s pl a with
  | some (st, s1) => (st, 0#512, s1)
  | none => readLine (directColumn s a false) a

/-- It writes a whole line; in a DIR granule that keeps the inline entry and counts as partial (R247, R250). -/
def mgmtWrite (s : State) (pl a : Nat) (data : Line) : Nat × State :=
  match mgmtBlocked s pl a with
  | some r => r
  | none =>
    writeLine (directColumn s a true) a
      (if (granAt s a).dir then .part (BitVec.allOnes 64) true else .full (some 0)) data false true

/-- Read lines in order: their statuses and data. -/
def mgmtReads (pl : Nat) : List Nat → State → List Nat × Bytes × State
  | [], s => ([], [], s)
  | a :: l, s =>
    let r := mgmtRead s pl a
    let q := mgmtReads pl l r.2.2
    (r.1 :: q.1, lineBytes r.2.1 ++ q.2.1, q.2.2)

/-- Write lines in order. -/
def mgmtWrites (pl : Nat) (data : Bytes) : Nat → List Nat → State → List Nat × State
  | _, [], s => ([], s)
  | i, a :: l, s =>
    let r := mgmtWrite s pl a (lineOf data (64 * i))
    let q := mgmtWrites pl data (i + 1) l r.2
    (r.1 :: q.1, q.2)

/-- The plot whose granule an address stands in: no right to it is ST_DENIED (R352 step 3). -/
def addrDenied (s : State) (w : Who) (a : Nat) : Bool :=
  let g := granAt s a
  if w.hz = .b then (windowOf s w.plot a).isNone else decide (g.kind = .window) && !holderRight s w g.plot

/-- Every line of the range lies in a window of the plot. -/
def inWindows (s : State) (pl a n : Nat) : Bool := (rangeLines a n).all (fun x => (windowOf s pl x).isSome)

/-- The checks of MEM_READ and MEM_WRITE. -/
def memRefusal (w : Who) (p : Bytes) (s : State) : Option Ans :=
  let pl := u8 p 0
  let n := memLen p
  firstRefusal [chk (holderRight s w pl && !(rangeLines (memAddr p) n).any (addrDenied s w)) (ansBad stDenied 0),
    if pl ≤ 16 then plotAbsent s pl else none, if n ≤ 0x200000000 then kaoAbsent s (memAddr p) n else none, chk (decide (pl ≤ 16)) (badArg 0),
    chk (decide (0 < n ∧ n % 64 = 0) && (decide (memHost p ≠ 0) || decide (n ≤ 1024))) (badArg 4),
    chk (decide (memAddr p % 64 = 0) && inWindows s pl (memAddr p) n) (badArg 8), aligned p 16]

/-- Every line of a command's range is free to be served; until then the command, or its job's step, waits. -/
def memIdle (s : State) (p : Bytes) : Bool := (rangeLines (memAddr p) (memLen p)).all (lineIdle s)

/-- How many statuses of a list are one code. -/
def countSt (l : List Nat) (st : Nat) : Nat := (l.filter (fun x => decide (x = st))).length

/-- The result of a job of MEM_READ or MEM_WRITE: NOK, NPOIS, NUNCORR, NTAGF. -/
def memResult (l : List Nat) : Bytes := [0x00, 0x04, 0x05, 0x06].flatMap (fun st => leBytes 4 (countSt l st))

/-- MEM_READ (R366). -/
def memReadBody (w : Who) (p : Bytes) (s : State) : Ans × State :=
  orElse (memRefusal w p s) s
    (if memHost p ≠ 0 then startJob s w 0x0400 p [] 0
     else
       let r := mgmtReads (u8 p 0) (rangeLines (memAddr p) (memLen p)) s
       (ansOk (r.1.map (BitVec.ofNat 8) ++ r.2.1), r.2.2))

/-- MEM_READ. -/
def specMemRead : CmdSpec := { op := 0x0400, b := true, len := lenIs 24, body := memReadBody }

/-- The simple form that is not refused waits while a line of its range cannot be served. -/
def memWaits (w : Who) (p : Bytes) (s : State) : Bool :=
  decide (memHost p = 0) && (memRefusal w p s).isNone && !memIdle s p

/-- MEM_READ (R366, R367). -/
def execMemRead (m : Fin 24) (slot : Fin 8) (p : Bytes) (s : State) : Host.Outcome State Fault Refusal :=
  if admits specMemRead m.val slot.val p s && memWaits (whoOf s m.val slot.val) p s then .next s
  else .next (runCmd specMemRead m.val slot.val p s)

/-- MEM_WRITE (R366). -/
def memWriteBody (w : Who) (p : Bytes) (s : State) : Ans × State :=
  orElse (memRefusal w p s) s
    (if memHost p ≠ 0 then startJob s w 0x0401 p [] 0
     else
       let r := mgmtWrites (u8 p 0) (p.drop 24) 0 (rangeLines (memAddr p) (memLen p)) s
       (ansOk (r.1.map (BitVec.ofNat 8)), r.2))

/-- MEM_WRITE: DATA follows when ADDR is 0. -/
def specMemWrite : CmdSpec :=
  { op := 0x0401, b := true, len := fun p => decide (24 ≤ p.length ∧ p.length = 24 + (if memHost p = 0 then memLen p else 0))
    body := memWriteBody }

/-- MEM_WRITE (R366, R367). -/
def execMemWrite (m : Fin 24) (slot : Fin 8) (p : Bytes) (s : State) : Host.Outcome State Fault Refusal :=
  if admits specMemWrite m.val slot.val p s && memWaits (whoOf s m.val slot.val) p s then .next s
  else .next (runCmd specMemWrite m.val slot.val p s)

/-- What ends a job of MEM_READ or MEM_WRITE before it acts: its requester's right has gone (R53), its plot has (R52), a stack of its
range has (R45). -/
def memJobEnds (s : State) (j : Job) : Option Ans :=
  let pl := u8 j.payload 0
  let ls := rangeLines (memAddr j.payload) (memLen j.payload)
  firstRefusal [chk (holderRight s (jobWho j) pl && !ls.any (addrDenied s (jobWho j))) (ansBad stDenied 0), plotAbsent s pl,
    firstRefusal (ls.map (fun a => stackAbsent s (addrStack a)))]

/-- The step of MEM_READ as a job: the lines go to host memory. -/
def stepMemRead (s : State) (id : Nat) (j : Job) : State :=
  match memJobEnds s j with
  | some a => jobFail s id a.status a.detail 0
  | none =>
  if memIdle s j.payload then
    let r := mgmtReads (u8 j.payload 0) (rangeLines (memAddr j.payload) (memLen j.payload)) s
    jobOk (dmaWrite r.2.2 (memHost j.payload) r.2.1) id 0 (memResult r.1)
  else s

/-- The step of MEM_WRITE as a job. -/
def stepMemWrite (s : State) (id : Nat) (j : Job) : State :=
  match memJobEnds s j with
  | some a => jobFail s id a.status a.detail 0
  | none =>
  if memIdle s j.payload then
    let r := mgmtWrites (u8 j.payload 0) (dmaRead s (memHost j.payload) (memLen j.payload)) 0 (rangeLines (memAddr j.payload) (memLen j.payload)) s
    jobOk r.2 id 0 (memResult r.1)
  else s

/-! ## KAO_CONFIG, KAO_STATUS (R233, R245, R262) -/

/-- The presence of a stack that a payload names. -/
def stackThere (s : State) (p : Nat) : Option Ans := if p < 4 then stackAbsent s p else none

/-- KAO_CONFIG's OFFSET names a register it writes. -/
def kaoCfgReg (lx off : Nat) : Bool :=
  decide (off = 0x004 ∨ off = 0x008) || (match kaoBlock lx off with | some (_, o) => decide (o = 0x04 ∨ o = 0x08) | none => false)

/-- CHANNEL is the one whose block OFFSET lies in. -/
def kaoCfgChan (lx off ch : Nat) : Bool := match kaoBlock lx off with | some (c, _) => decide (c = ch) | none => true

/-- VALUE holds no reserved encoding: TRIG is 1 to 64 (R9, R245). -/
def kaoCfgValue (lx off v : Nat) : Bool := match kaoBlock lx off with | some (_, 0x08) => decide (1 ≤ v % 128 ∧ v % 128 ≤ 64) | _ => true

/-- KAO_CONFIG changes HAZ (R233). -/
def changesHaz (s : State) (p : Bytes) : Bool :=
  decide (u16 p 4 = 0x004) && decide (bitOf (frontAt s (u8 p 0) (u8 p 1)).ctrl 31 ≠ bitOf (BitVec.ofNat 32 (u32 p 8)) 31)

/-- KAO_CONFIG (R367): a change of HAZ is a job: the checks of R352 from the requester's rights on. -/
def kaoConfigChecks (_w : Who) (p : Bytes) (s : State) : Option Ans :=
  let q := u8 p 0
  let lx := u8 p 1
  firstRefusal [stackThere s q, chk (decide (q < 4)) (badArg 0), chk (decide (lx < 8)) (badArg 1), chk (kaoCfgChan lx (u16 p 4) (u8 p 2)) (badArg 2),
      chk (kaoCfgReg lx (u16 p 4)) (badArg 4), chk (kaoCfgValue lx (u16 p 4) (u32 p 8)) (badArg 8), freeOf s [.stack q, .front q lx, .chan q (2 * lx), .chan q (2 * lx + 1)]]

/-- KAO_CONFIG (R367): a change of HAZ is a job: the effect and the answer of an accepted command. -/
def kaoConfigEffect (w : Who) (p : Bytes) (s : State) : Ans × State :=
  let q := u8 p 0
  let lx := u8 p 1
  if changesHaz s p then startJob s w 0x0402 p [(.front q lx, false)] 0
  else (ansOk [], kaoRegWrite s q lx (u16 p 4) (BitVec.ofNat 32 (u32 p 8)))

/-- KAO_CONFIG (R367): a change of HAZ is a job. -/
def kaoConfigBody (w : Who) (p : Bytes) (s : State) : Ans × State :=
  orElse (kaoConfigChecks w p s) s (kaoConfigEffect w p s)

/-- KAO_CONFIG. -/
def specKaoConfig : CmdSpec := { op := 0x0402, len := lenIs 12, body := kaoConfigBody }

/-- KAO_CONFIG (R366). -/
def execKaoConfig (m : Fin 24) (slot : Fin 8) (p : Bytes) (s : State) : Host.Outcome State Fault Refusal := .next (runCmd specKaoConfig m.val slot.val p s)

/-- A step of a HAZ change: the front drains, then switches its mode (R233). -/
def stepKaoConfig (s : State) (id : Nat) (j : Job) : State :=
  if j.stage = 0 then beginDrain s id
  else if j.stage = 2 then
    let v := BitVec.ofNat 32 (u32 j.payload 8)
    resumeAll (jobOk (modFront s (u8 j.payload 0) (u8 j.payload 1) (fun f => { f with ctrl := v, hazDue := none })) id 0 [])
  else s

/-- Offsets KAO_STATUS returns (R367). -/
def kaoStatusOffs : List Nat :=
  (List.range 4).map (4 * ·) ++ [0x100, 0x200, 0x300].flatMap (fun b => (List.range 16).map (fun i => b + 4 * i)) ++
  (List.range 20).map (fun i => 0x400 + 4 * i)

/-- CLEAR of KAO_STATUS: the sticky flags and counters of the front and of its channels. -/
def kaoClear (s : State) (p lx : Nat) : State :=
  let s1 := ([2 * lx, 2 * lx + 1] ++ (if lx = 0 then [16] else [])).foldl (fun s c => modChan s p c (fun x => chanCntClear { x with err := 0#8 })) s
  modFront s1 p lx (fun f => protClear { f with injStatus := 0#32 })

/-- KAO_STATUS (R366): the checks of R352 from the requester's rights on. -/
def kaoStatusChecks (_w : Who) (p : Bytes) (s : State) : Option Ans :=
  let q := u8 p 0
  let lx := u8 p 1
  firstRefusal [stackThere s q, chk (decide (q < 4)) (badArg 0), chk (decide (lx < 8)) (badArg 1), flag01 p 2]

/-- KAO_STATUS (R366): the effect and the answer of an accepted command. -/
def kaoStatusEffect (_w : Who) (p : Bytes) (s : State) : Ans × State :=
  let q := u8 p 0
  let lx := u8 p 1
  (ansOk (kaoStatusOffs.flatMap (fun o => leBytes 4 (kaoReg s q lx o))), if u8 p 2 = 1 then kaoClear s q lx else s)

/-- KAO_STATUS (R366). -/
def kaoStatusBody (w : Who) (p : Bytes) (s : State) : Ans × State :=
  orElse (kaoStatusChecks w p s) s (kaoStatusEffect w p s)

/-- KAO_STATUS. -/
def specKaoStatus : CmdSpec := { op := 0x0403, len := lenIs 4, body := kaoStatusBody }

/-- KAO_STATUS (R366, R367). -/
def execKaoStatus (m : Fin 24) (slot : Fin 8) (p : Bytes) (s : State) : Host.Outcome State Fault Refusal := .next (runCmd specKaoStatus m.val slot.val p s)

/-! ## KAO_MAP_SET, KAO_OP_SET (R230, R241) -/

/-- KAO_MAP_SET; a read-only Peat store refuses it: the checks of R352 from the requester's rights on. -/
def kaoMapSetChecks (_w : Who) (p : Bytes) (s : State) : Option Ans :=
  let q := u8 p 0
  firstRefusal [stackThere s q, chk (decide (q < 4)) (badArg 0), chk (decide (u8 p 1 ≤ 3)) (badArg 1), peatRefuses s]

/-- KAO_MAP_SET; a read-only Peat store refuses it: the effect and the answer of an accepted command. -/
def kaoMapSetEffect (w : Who) (p : Bytes) (s : State) : Ans × State :=
  let q := u8 p 0
  startJob s w 0x0404 p [(.stack q, false)] 0

/-- KAO_MAP_SET's checks; a read-only Peat store refuses it. -/
def kaoMapSetBody (w : Who) (p : Bytes) (s : State) : Ans × State :=
  orElse (kaoMapSetChecks w p s) s (kaoMapSetEffect w p s)

/-- KAO_MAP_SET. -/
def specKaoMapSet : CmdSpec := { op := 0x0404, len := lenIs 4, body := kaoMapSetBody }

/-- KAO_MAP_SET (R230). -/
def execKaoMapSet (m : Fin 24) (slot : Fin 8) (p : Bytes) (s : State) : Host.Outcome State Fault Refusal := .next (runCmd specKaoMapSet m.val slot.val p s)

/-- The step of KAO_MAP_SET: the order goes to the Peat store, for the next device reset. -/
def stepKaoMapSet (s : State) (id : Nat) (j : Job) : State :=
  match peatRefuses s with
  | some a => jobFail s id a.status a.detail 0
  | none => jobOk (sysWrite (modStack s (u8 j.payload 0) (fun k => { k with orderNext := u8 j.payload 1 })) 1) id 0 []

/-- KAO_OP_SET: the checks of R352 from the requester's rights on. -/
def kaoOpSetChecks (_w : Who) (p : Bytes) (s : State) : Option Ans :=
  let q := u8 p 0
  firstRefusal [stackThere s q, chk (decide (q < 4)) (badArg 0), chk (decide (u8 p 1 ≤ 2)) (badArg 1), freeOf s (stackFuncs q)]

/-- KAO_OP_SET: the effect and the answer of an accepted command. -/
def kaoOpSetEffect (w : Who) (p : Bytes) (s : State) : Ans × State :=
  let q := u8 p 0
  startJob s w 0x0405 p [(.stack q, false)] 0

/-- KAO_OP_SET's checks. -/
def kaoOpSetBody (w : Who) (p : Bytes) (s : State) : Ans × State :=
  orElse (kaoOpSetChecks w p s) s (kaoOpSetEffect w p s)

/-- KAO_OP_SET. -/
def specKaoOpSet : CmdSpec := { op := 0x0405, len := lenIs 4, body := kaoOpSetBody }

/-- KAO_OP_SET (R241). -/
def execKaoOpSet (m : Fin 24) (slot : Fin 8) (p : Bytes) (s : State) : Host.Outcome State Fault Refusal := .next (runCmd specKaoOpSet m.val slot.val p s)

/-- Every channel of a stack goes through self-refresh: its rows are closed, and no refresh debt remains (R241). -/
def selfRefresh (s : State) (q : Nat) : State :=
  (List.range 17).foldl (fun s c => modChan s q c (fun x => { x with postponed := [], openRow := [], hits := [] })) s

/-- A step of KAO_OP_SET: the drain; then self-refresh, the new clock and retraining, which the channels pass or fail (a free
value); a stack that fails returns to its old point, and its source raises (R379). -/
def stepKaoOpSet (s : State) (id : Nat) (j : Job) : State :=
  let q := u8 j.payload 0
  if j.stage = 0 then beginDrain s id
  else if j.stage = 2 then
    let r := freeValue (selfRefresh s q)
    if bitOf r.1 0 then resumeAll (notice (jobOk (modStack r.2 q (fun k => { k with op := u8 j.payload 1 })) id 0 []) 72 [0])
    else resumeAll (jobFail (raise r.2 (stackSrc q)) id stFault 1 0)
  else s

/-! ## KAO_CHAN_OFFLINE, KAO_CHAN_ONLINE, KAO_BIST (R224, R244) -/

/-- KAO_CHAN_OFFLINE: the spare stands by: the checks of R352 from the requester's rights on. -/
def kaoOfflineChecks (_w : Who) (p : Bytes) (s : State) : Option Ans :=
  let q := u8 p 0
  let c := u8 p 1
  firstRefusal [stackThere s q, chk (spareReady s q || decide (4 ≤ q)) (ansBad stAbsent 4), chk (decide (q < 4)) (badArg 0),
      chk (decide (c < 16) && decide ((chanAt s q c).state = .inService)) (badArg 1), freeOf s (copyFuncs q c)]

/-- KAO_CHAN_OFFLINE: the spare stands by: the effect and the answer of an accepted command. -/
def kaoOfflineEffect (w : Who) (p : Bytes) (s : State) : Ans × State :=
  let q := u8 p 0
  let c := u8 p 1
  (copyStart s w opOffline q c)

/-- KAO_CHAN_OFFLINE's checks: the spare stands by. -/
def kaoOfflineBody (w : Who) (p : Bytes) (s : State) : Ans × State :=
  orElse (kaoOfflineChecks w p s) s (kaoOfflineEffect w p s)

/-- KAO_CHAN_OFFLINE. -/
def specKaoChanOffline : CmdSpec := { op := 0x0406, len := lenIs 4, body := kaoOfflineBody }

/-- KAO_CHAN_OFFLINE (R244). -/
def execKaoChanOffline (m : Fin 24) (slot : Fin 8) (p : Bytes) (s : State) : Host.Outcome State Fault Refusal := .next (runCmd specKaoChanOffline m.val slot.val p s)

/-- A channel that may not come back: its replacement becomes permanent (R244). -/
def makePermanent (s : State) (p c : Nat) : State :=
  let s1 := modChan s p c (fun x => { x with state := .replaced })
  sparesExhausted (saveRepair (tilthAction s1 (chanSrc p c) c (chanNode p c) c) 5 (unitChan p c)) (160 * p + 122) 16 (frontNode p 0)

/-- KAO_CHAN_ONLINE names an OFFLINE channel, or one that its failed BIST has made replaced for good (R219, R244). -/
def onlineChan (c : Chan) : Bool := decide (c.state = .offline) || (decide (c.state = .replaced) && c.bistBad)

/-- KAO_CHAN_ONLINE: a channel that failed its last BIST, or has more failing rows than spare rows, stays replaced: the checks of R352 from the requester's rights on. -/
def kaoOnlineChecks (_w : Who) (p : Bytes) (s : State) : Option Ans :=
  let q := u8 p 0
  let c := u8 p 1
  firstRefusal [stackThere s q, chk (decide (q < 4)) (badArg 0), chk (decide (c < 16) && onlineChan (chanAt s q c)) (badArg 1),
      freeOf s (copyFuncs q c)]

/-- KAO_CHAN_ONLINE: a channel that failed its last BIST, or has more failing rows than spare rows, stays replaced: the effect and the answer of an accepted command. -/
def kaoOnlineEffect (w : Who) (p : Bytes) (s : State) : Ans × State :=
  let q := u8 p 0
  let c := u8 p 1
  if (chanAt s q c).bistBad then (ansBad stFault 1, if (chanAt s q c).state = .offline then makePermanent s q c else s) else copyStart s w opOnline q c

/-- KAO_CHAN_ONLINE: a channel that failed its last BIST, or has more failing rows than spare rows, stays replaced. -/
def kaoOnlineBody (w : Who) (p : Bytes) (s : State) : Ans × State :=
  orElse (kaoOnlineChecks w p s) s (kaoOnlineEffect w p s)

/-- KAO_CHAN_ONLINE. -/
def specKaoChanOnline : CmdSpec := { op := 0x0407, len := lenIs 4, body := kaoOnlineBody }

/-- KAO_CHAN_ONLINE (R244). -/
def execKaoChanOnline (m : Fin 24) (slot : Fin 8) (p : Bytes) (s : State) : Host.Outcome State Fault Refusal := .next (runCmd specKaoChanOnline m.val slot.val p s)

/-- A step of a copy job (R224): the spare's BIST and the copy, whose outcomes are free values; once drained, the change. Coming
back, the spare has been serving and takes no BIST. -/
def stepCopy (s : State) (id : Nat) (j : Job) : State :=
  let q := u8 j.payload 0
  let c := u8 j.payload 1
  if j.stage = 0 then
    let r := freeValue s
    if j.op ≠ opOnline ∧ bitOf r.1 0 = true then
      jobFail (endCopy (modChan r.2 q 16 (fun x => { x with bistBad := true })) j) id stAbsent 4 0
    else if bitOf r.1 1 then jobFail (endCopy r.2 j) id stFault 1 0
    else copyDone r.2 id q c
  else if j.stage = 2 then copyMove s id j.op q c
  else s

/-- KAO_BIST: OFFLINE or STANDBY only: the checks of R352 from the requester's rights on. -/
def kaoBistChecks (_w : Who) (p : Bytes) (s : State) : Option Ans :=
  let q := u8 p 0
  let c := u8 p 1
  firstRefusal [stackThere s q, chk (decide (q < 4)) (badArg 0), chk (decide (c ≤ 16)) (badArg 1),
      chk (decide ((chanAt s q c).state = .offline) || decide ((chanAt s q c).state = .standby)) busy2, freeOf s (chanFuncs q c)]

/-- KAO_BIST: OFFLINE or STANDBY only: the effect and the answer of an accepted command. -/
def kaoBistEffect (w : Who) (p : Bytes) (s : State) : Ans × State :=
  let q := u8 p 0
  startJob s w 0x0408 p [(.chan q (u8 p 1), false)] 0

/-- KAO_BIST's checks: OFFLINE or STANDBY only. -/
def kaoBistBody (w : Who) (p : Bytes) (s : State) : Ans × State :=
  orElse (kaoBistChecks w p s) s (kaoBistEffect w p s)

/-- KAO_BIST. -/
def specKaoBist : CmdSpec := { op := 0x0408, len := lenIs 4, body := kaoBistBody }

/-- KAO_BIST (R244). -/
def execKaoBist (m : Fin 24) (slot : Fin 8) (p : Bytes) (s : State) : Host.Outcome State Fault Refusal := .next (runCmd specKaoBist m.val slot.val p s)

/-- Failing rows a march test finds, which the channel decides: free values of 24 bits. -/
def drawRows : Nat → State → List Nat × State
  | 0, s => ([], s)
  | n + 1, s =>
    let r := freeValue s
    let q := drawRows n r.2
    (r.1.toNat % 2 ^ 24 :: q.1, q.2)

/-- Failing rows exceed the free spare rows of some bank. -/
def rowsExceed (c : Chan) (rows : List Nat) : Bool :=
  (List.range 32).any (fun b => decide (spareRowsFree c b < (rows.filter (fun r => decide (r / 2 ^ 19 = b))).length))

/-- A channel's BIST has failed (R219): Tilth keeps an OFFLINE channel, which the spare serves, replaced for good, or reports it; a bad
spare stands in for nobody (R224). -/
def bistFails (s : State) (p c : Nat) : State :=
  if (chanAt s p c).state ≠ .offline then s
  else if policyReport s 4 then report s { src := chanSrc p c, sev := sevInfo, cause := 0x20, sub := c, node := chanNode p c }
  else makePermanent s p c

/-- The step of KAO_BIST: pass or fail, and up to 64 failing rows (free values); a bad channel is marked. -/
def stepKaoBist (s : State) (id : Nat) (j : Job) : State :=
  let q := u8 j.payload 0
  let c := u8 j.payload 1
  let r := freeValue s
  let pass := bitOf r.1 0
  let rows := drawRows (fld r.1 15 8 % 65) r.2
  let s1 := modChan rows.2 q c (fun x => { x with bistBad := !pass || rowsExceed x rows.1 })
  let s2 := jobOk s1 id 0 (leBytes 1 (b2n pass) ++ leBytes 1 rows.1.length ++ zeros 2 ++ rows.1.flatMap (leBytes 4))
  if pass then s2 else bistFails s2 q c

/-! ## KAO_SCRUB (R261) -/

/-- Address and size of a range scrub. -/
def scrubRange (p : Bytes) : Nat × Nat := (u64 p 8, u64 p 16)

/-- Granule bases of a range. -/
def granulesOf (a n : Nat) : List Nat := (List.range (n / 2 ^ 21)).map (fun i => a + 2 ^ 21 * i)

/-- KAO_SCRUB: whole granules in windows of PLOT: the checks of R352 from the requester's rights on. -/
def kaoScrubChecks (w : Who) (p : Bytes) (s : State) : Option Ans :=
  let pl := u8 p 0
  let r := scrubRange p
  firstRefusal [chk (holderRight s w pl && !(granulesOf r.1 r.2).any (addrDenied s w)) (ansBad stDenied 0),
      if pl ≤ 16 then plotAbsent s pl else none,
      kaoAbsent s r.1 r.2,
      chk (decide (pl ≤ 16)) (badArg 0), chk (decide (u8 p 1 ≤ 1)) (badArg 1),
      chk (decide (r.1 % 2 ^ 21 = 0) && (granulesOf r.1 r.2).all (fun a => (windowOf s pl a).isSome)) (badArg 8),
      chk (decide (0 < r.2 ∧ r.2 % 2 ^ 21 = 0)) (badArg 16)]

/-- KAO_SCRUB: whole granules in windows of PLOT: the effect and the answer of an accepted command. -/
def kaoScrubEffect (w : Who) (p : Bytes) (s : State) : Ans × State :=
  startJob s w 0x0409 p (((granulesOf (scrubRange p).1 (scrubRange p).2).map addrStack).dedup.map (fun k => (.scrub k, false))) 0

/-- KAO_SCRUB's checks: whole granules in windows of PLOT. -/
def kaoScrubBody (w : Who) (p : Bytes) (s : State) : Ans × State :=
  orElse (kaoScrubChecks w p s) s (kaoScrubEffect w p s)

/-- KAO_SCRUB. -/
def specKaoScrub : CmdSpec := { op := 0x0409, b := true, len := lenIs 24, body := kaoScrubBody }

/-- KAO_SCRUB (R261). -/
def execKaoScrub (m : Fin 24) (slot : Fin 8) (p : Bytes) (s : State) : Host.Outcome State Fault Refusal := .next (runCmd specKaoScrub m.val slot.val p s)

/-- CHECK of lines: what each was found to be (not the lines in order), and the state. -/
def scrubCheck : List Nat → State → List (Nat × Nat) × State
  | [], s => ([], s)
  | a :: l, s =>
    let r := scrubLine s a
    let q := scrubCheck l r.2
    ((if r.1 = 0 then q.1 else (a, r.1) :: q.1), q.2)

/-- CLEAR of a line: zeros, under the window's slot and the current G; no injection fires (R261, R263). -/
def scrubClear (s : State) (a : Nat) : State :=
  (writeLine s a (.full (if (granAt s a).dir then none else some 0)) 0#512 false false).2

/-- The result of a range scrub: counts, and lines for horizon B or granules for horizon A, at most 256. -/
def scrubResult (hz : Horizon) (found : List (Nat × Nat)) : Bytes :=
  let n := fun k => (found.filter (fun x => decide (x.2 = k))).length
  let items := ((found.map (fun x => if hz = .b then x.1 / 64 else x.1 / 2 ^ 21)).dedup).take 256
  leBytes 4 (n 1) ++ leBytes 4 (n 2) ++ leBytes 4 (n 3) ++ leBytes 2 items.length ++ zeros 2 ++ items.flatMap (leBytes 6)

/-- The requester may no longer scrub the range (R53): its right has gone, or the plot holds a part of it no more. -/
def scrubDenied (s : State) (j : Job) : Bool :=
  let r := scrubRange j.payload
  !holderRight s (jobWho j) (u8 j.payload 0) ||
  (granulesOf r.1 r.2).any (fun a => addrDenied s (jobWho j) a || (windowOf s (u8 j.payload 0) a).isNone)

/-- The step of KAO_SCRUB, once every line of the range can be served. -/
def stepKaoScrub (s : State) (id : Nat) (j : Job) : State :=
  let r := scrubRange j.payload
  let ls := rangeLines r.1 r.2
  if scrubDenied s j then jobFail s id stDenied 0 0
  else if !ls.all (lineIdle s) then s
  else if u8 j.payload 1 = 0 then
    let q := scrubCheck ls s
    jobOk q.2 id 0 (scrubResult j.hz q.1)
  else jobOk (ls.foldl scrubClear s) id 0 (scrubResult j.hz [])

/-! ## KAO_INJECT (R262, R263), KAO_PATROL_SET (R259) -/

/-- SYMn of KAO_INJECT. -/
def injWord (p : Bytes) (n : Nat) : Word := BitVec.ofNat 32 (u32 p (16 + 4 * n))

/-- KAO_INJECT: the unit's status before the write answers; a unit that is armed takes no second arming: the checks of R352 from the requester's rights on. -/
def kaoInjectChecks (w : Who) (p : Bytes) (s : State) : Option Ans :=
  let pl := u8 p 0
  let a := u64 p 8
  let pos := addrStack a
  let lx := frontOf s a
  let f := frontAt s pos lx
  firstRefusal [
      chk (if w.hz = .o then inKaolin a else holderRight s w pl && (windowOf s pl a).isSome) (ansBad stDenied 0),
      if w.hz ≠ .o ∧ pl ≤ 16 then plotAbsent s pl else none, stackThere s pos, chk (decide (u8 p 1 ≤ 2)) (badArg 1), chk (decide (u8 p 2 ≤ 1)) (badArg 2), aligned p 8,
      chk (decide (fld (injWord p 0) 22 16 ≤ 81)) (badArg 16), chk (decide (fld (injWord p 1) 22 16 ≤ 81)) (badArg 20),
      chk (decide (fld (injWord p 2) 22 16 ≤ 81)) (badArg 24), chk (!(bitOf f.injCtrl 31 && decide (u8 p 2 = 1))) (ansBad stBusy 7)]

/-- KAO_INJECT: the unit's status before the write answers; a unit that is armed takes no second arming: the effect and the answer of an accepted command. -/
def kaoInjectEffect (_w : Who) (p : Bytes) (s : State) : Ans × State :=
  let a := u64 p 8
  let pos := addrStack a
  let lx := frontOf s a
  let f := frontAt s pos lx
  (ansOk (leBytes 4 f.injStatus.toNat),
   modFront s pos lx (fun f =>
     injCtrlSet { f with injLine := BitVec.ofNat 32 (addrLine a), injSym := tset 0#32 (tset 0#32 (tset 0#32 [] 0 (injWord p 0)) 1 (injWord p 1)) 2 (injWord p 2) }
       (BitVec.ofNat 32 (u8 p 2 * 2 ^ 31 + u8 p 1 * 2 ^ 29))))

/-- KAO_INJECT: the unit's status before the write answers; a unit that is armed takes no second arming. -/
def kaoInjectBody (w : Who) (p : Bytes) (s : State) : Ans × State :=
  orElse (kaoInjectChecks w p s) s (kaoInjectEffect w p s)

/-- KAO_INJECT. -/
def specKaoInject : CmdSpec := { op := 0x040A, b := true, o := true, len := lenIs 28, body := kaoInjectBody }

/-- KAO_INJECT (R263). -/
def execKaoInject (m : Fin 24) (slot : Fin 8) (p : Bytes) (s : State) : Host.Outcome State Fault Refusal := .next (runCmd specKaoInject m.val slot.val p s)

/-- KAO_PATROL_SET: 10 min to 24 h: the checks of R352 from the requester's rights on. -/
def kaoPatrolSetChecks (_w : Who) (p : Bytes) (s : State) : Option Ans :=
  let q := u8 p 0
  firstRefusal [stackThere s q, chk (decide (q < 4)) (badArg 0), chk (decide (10 ≤ u16 p 2 ∧ u16 p 2 ≤ 1440)) (badArg 2)]

/-- KAO_PATROL_SET: 10 min to 24 h: the effect and the answer of an accepted command. -/
def kaoPatrolSetEffect (_w : Who) (p : Bytes) (s : State) : Ans × State :=
  let q := u8 p 0
  (ansOk [], modStack s q (fun k => { k with lapMin := u16 p 2 }))

/-- KAO_PATROL_SET: 10 min to 24 h. -/
def kaoPatrolSetBody (w : Who) (p : Bytes) (s : State) : Ans × State :=
  orElse (kaoPatrolSetChecks w p s) s (kaoPatrolSetEffect w p s)

/-- KAO_PATROL_SET. -/
def specKaoPatrolSet : CmdSpec := { op := 0x040B, len := lenIs 4, body := kaoPatrolSetBody }

/-- KAO_PATROL_SET (R259). -/
def execKaoPatrolSet (m : Fin 24) (slot : Fin 8) (p : Bytes) (s : State) : Host.Outcome State Fault Refusal := .next (runCmd specKaoPatrolSet m.val slot.val p s)

/-! ## The Peat store (R264 to R267) -/

/-- PEAT_CONFIG: T a multiple of 8 from 8 to 64: the checks of R352 from the requester's rights on. -/
def peatConfigChecks (_w : Who) (p : Bytes) (s : State) : Option Ans :=
  firstRefusal [chk (decide (8 ≤ u8 p 0 ∧ u8 p 0 ≤ 64 ∧ u8 p 0 % 8 = 0)) (badArg 0), peatRefuses s]

/-- PEAT_CONFIG: T a multiple of 8 from 8 to 64: the effect and the answer of an accepted command. -/
def peatConfigEffect (w : Who) (p : Bytes) (s : State) : Ans × State :=
  startJob s w 0x040C p [(.peatImages, false), (.peatScrub, false)] 0

/-- PEAT_CONFIG: T a multiple of 8 from 8 to 64. -/
def peatConfigBody (w : Who) (p : Bytes) (s : State) : Ans × State :=
  orElse (peatConfigChecks w p s) s (peatConfigEffect w p s)

/-- PEAT_CONFIG. -/
def specPeatConfig : CmdSpec := { op := 0x040C, len := lenIs 4, body := peatConfigBody }

/-- PEAT_CONFIG (R264). -/
def execPeatConfig (m : Fin 24) (slot : Fin 8) (p : Bytes) (s : State) : Host.Outcome State Fault Refusal := .next (runCmd specPeatConfig m.val slot.val p s)

/-- An image in the store, of the directory or in a slot, has a page that cannot be read (R264). -/
def imageLost (s : State) : Bool :=
  s.peat.images.any (fun kv => match kv.2 with | some e => !imageReadable s.peat e | none => false) ||
  s.peat.fw.any (fun kv => kv.2.isSome && !fwReadable s.peat kv.1) || s.dumps.peat.any (fun d => !blocksReadable s.peat (dumpTakes d))

/-- Every block of the image area is rewritten. -/
def rewriteImages (x : Peat) : Peat := ((List.range 8192).filter (fun b => !Config.peatSystem b)).foldl writeBlock x

/-- A step of PEAT_CONFIG: the reading of the images, whose failure is the requester's; then the image area is rewritten under the new t. -/
def stepPeatConfig (s : State) (id : Nat) (j : Job) : State :=
  match peatRefuses s with
  | some a => jobFail s id a.status a.detail 0
  | none =>
    if j.stage = 0 then
      if imageLost s then jobFail (raise s srcPeat) id stFault 1 0 else modJob (stepDone s id) id (fun x => { x with stage := 1 })
    else jobOk (sysWrite (modPeat s (fun x => { rewriteImages x with t := u8 j.payload 0 })) 2) id 0 []

/-- PEAT_SCRUB: a range of blocks: the checks of R352 from the requester's rights on. -/
def peatScrubChecks (_w : Who) (p : Bytes) (s : State) : Option Ans :=
  firstRefusal [chk (decide (u16 p 0 < 8192)) (badArg 0), chk (decide (1 ≤ u16 p 2 ∧ u16 p 0 + u16 p 2 ≤ 8192)) (badArg 2), peatRefuses s]

/-- PEAT_SCRUB: a range of blocks: the effect and the answer of an accepted command. -/
def peatScrubEffect (w : Who) (p : Bytes) (s : State) : Ans × State :=
  startJob s w 0x040D p [(.peatScrub, false)] 0

/-- PEAT_SCRUB: a range of blocks. -/
def peatScrubBody (w : Who) (p : Bytes) (s : State) : Ans × State :=
  orElse (peatScrubChecks w p s) s (peatScrubEffect w p s)

/-- PEAT_SCRUB. -/
def specPeatScrub : CmdSpec := { op := 0x040D, len := lenIs 4, body := peatScrubBody }

/-- PEAT_SCRUB (R266). -/
def execPeatScrub (m : Fin 24) (slot : Fin 8) (p : Bytes) (s : State) : Host.Outcome State Fault Refusal := .next (runCmd specPeatScrub m.val slot.val p s)

/-- A sector of the blocks is uncorrectable. -/
def blocksLost (s : State) (l : List Nat) : Bool := l.any (fun b => !(lostSectors s.peat b).isEmpty)

/-- The steps of PEAT_SCRUB: the start; the scrub of the range, which ends with ST_FAULT where a page of it could not be read. -/
def stepPeatScrub (s : State) (id : Nat) (j : Job) : State :=
  match peatRefuses s with
  | some a => jobFail s id a.status a.detail 0
  | none =>
    if j.stage = 0 then modJob (stepDone s id) id (fun x => { x with stage := 1 })
    else
      let r := scrubPages (blockPages (u16 j.payload 0) (u16 j.payload 2)) s
      if blocksLost r.2 ((List.range (u16 j.payload 2)).map (fun i => u16 j.payload 0 + i)) then jobFail r.2 id stFault 1 0
      else jobOk r.2 id 0 (leBytes 4 r.1)

/-- PEAT_STATUS (R266, R366). -/
def peatStatusBody (_w : Who) (p : Bytes) (s : State) : Ans × State :=
  let x := s.peat
  orElse (flag01 p 0) s
    (ansOk (leBytes 2 x.spares ++ leBytes 1 (b2n x.readOnly) ++ leBytes 1 x.t ++ leBytes 4 (peatMax x) ++ leBytes 4 (peatMin x) ++
        leBytes 4 x.lastLapH ++ (List.range 8).flatMap (fun i => leBytes 4 (tget 0 x.hist i))),
     if u8 p 0 = 1 then modPeat s (fun x => { x with hist := [] }) else s)

/-- PEAT_STATUS. -/
def specPeatStatus : CmdSpec := { op := 0x040E, len := lenIs 4, body := peatStatusBody }

/-- PEAT_STATUS (R366, R367). -/
def execPeatStatus (m : Fin 24) (slot : Fin 8) (p : Bytes) (s : State) : Host.Outcome State Fault Refusal := .next (runCmd specPeatStatus m.val slot.val p s)

end Machine
end Sys2Proof
end

