-- ==== Sys2Proof/Machine/CmdSilt.lean ====
section
/-! DEFINITION. The Silt commands: SILT_ROUTE_LOAD and READ, SILT_BYPASS, SILT_STATUS, SILT_TARGET_REVIVE, SILT_PROBE_SET,
SILT_TRACE_READ, SILT_LEASE_SET, NAU_RATE_SET, NAU_CONFIG, NAU_STATUS (R188, R191, R193 to R205, R368, R369). -/

namespace Sys2Proof
namespace Machine

/-! ## Nodes -/

/-- A router node of a whole device: any attachment bit. -/
def routerKnown (n : Nat) : Bool := hasElem (routerNodes [0, 1, 2, 3]) (n / 2 * 2)

/-- The die of a node is there. -/
def nodeAbsent (s : State) (n : Nat) : Option Ans := if routerKnown n = true ∧ nodeDie n < 4 then dieAbsent s (nodeDie n) else none

/-- NODE names a router (R353). -/
def nodeOk (off n : Nat) : Option Ans := chk (decide (n < 1024) && routerKnown n) (badArg off)

/-! ## SILT_ROUTE_LOAD (R188, R197) -/

/-- The routers a route buffer has blocks for: every present node of the part, in ascending order. -/
def bufferNodes (s : State) : List Nat := routerNodes (partDies s.sys.part)

/-- Entry i of block b of a route buffer. -/
def bufferEntry (buf : Bytes) (b i : Nat) : Nat := byteAt buf (256 * b + i / 2) / 16 ^ (i % 2) % 16

/-- The set a route buffer holds. -/
def bufferSet (s : State) (buf : Bytes) : Tbl (Tbl Nat) :=
  ((bufferNodes s).zipIdx).foldl (fun t x =>
    tset [] t (x.1 / 2) ((List.range 1024).foldl (fun e i => tset 15 e i (bufferEntry buf (2 * x.2 + i / 512) (i % 512))) [])) []

/-- No entry of a set is a reserved output code (R196): 7 to 13, and 6 in a Loam router. -/
def codesOk (t : Tbl (Tbl Nat)) : Bool :=
  t.all (fun kv => kv.2.all (fun e => decide (e.2 < 7 ∨ 14 ≤ e.2) && decide (e.2 ≠ 6 ∨ nodeDie (2 * kv.1) = 4)))

/-- Bytes of a route buffer: 256 for each present node and plane (R369). -/
def bufferLen (s : State) : Nat := 512 * (bufferNodes s).length

/-- No packet of an old epoch is left: the previous change has finished. -/
def epochFree (s : State) : Option Ans := chk (!oldAnywhere s) busy2

/-- SILT_ROUTE_LOAD: the checks of R352 from the requester's rights on. -/
def routeLoadChecks (w : Who) (p : Bytes) (s : State) : Option Ans :=
  firstRefusal [chk (!noDma w) dmaBad, chk (decide (u32 p 0 = bufferLen s)) (badArg 0), aligned p 8, freeOf s [.routes], epochFree s]

/-- SILT_ROUTE_LOAD: the effect and the answer of an accepted command. -/
def routeLoadEffect (w : Who) (p : Bytes) (s : State) : Ans × State :=
  startJob s w 0x0500 p [(.routes, false)] 0

/-- SILT_ROUTE_LOAD's checks. -/
def routeLoadBody (w : Who) (p : Bytes) (s : State) : Ans × State :=
  orElse (routeLoadChecks w p s) s (routeLoadEffect w p s)

/-- SILT_ROUTE_LOAD. -/
def specSiltRouteLoad : CmdSpec := { op := 0x0500, o := true, len := lenIs 16, body := routeLoadBody }

/-- SILT_ROUTE_LOAD (R197). -/
def execSiltRouteLoad (m : Fin 24) (slot : Fin 8) (p : Bytes) (s : State) : Host.Outcome State Fault Refusal := .next (runCmd specSiltRouteLoad m.val slot.val p s)

/-- Links, as elements of a change, that a loaded set removes: it routes nothing through them (R200). -/
def loadRemoves (s : State) (rs : RouteSet) : List Nat := (unusedLinks s rs).map (fun x => 16384 + 8 * x.1 + x.2)

/-- A step of SILT_ROUTE_LOAD: the check of the whole set, then the write of the shadow banks, which the routers acknowledge. -/
def stepRouteLoad (s : State) (id : Nat) (j : Job) : State :=
  if j.stage = 0 then
    let t := bufferSet s (dmaRead s (u64 j.payload 8) (bufferLen s))
    if oldAnywhere s then afterChange (jobFail s id stBusy 2 0)
    else if codesOk t && validSet s (.loaded t) [] then
      startChange (modJob (stepDone s id) id (fun x => { x with stage := 1 })) id (.loaded t) (loadRemoves s (.loaded t))
    else afterChange (jobFail s id stBadArg 0 0)
  else s

/-- SILT_ROUTE_READ: the checks of R352 from the requester's rights on. -/
def routeReadChecks (_w : Who) (p : Bytes) (s : State) : Option Ans :=
  let n := u16 p 0
  firstRefusal [nodeAbsent s n, nodeOk 0 n, chk (decide (u8 p 2 ≤ 1)) (badArg 2), chk (decide (u8 p 3 ≤ 2)) (badArg 3)]

/-- SILT_ROUTE_READ: the effect and the answer of an accepted command. -/
def routeReadEffect (_w : Who) (p : Bytes) (s : State) : Ans × State :=
  let n := u16 p 0
  let bank := if u8 p 3 = 2 then s.silt.epoch else decide (u8 p 3 = 1)
  (ansOk ((List.range 256).map (fun i =>
      BitVec.ofNat 8 (setCode (bankOf s bank) n (u8 p 2) (4 * i) + 16 * setCode (bankOf s bank) n (u8 p 2) (4 * i + 2)))), s)

/-- SILT_ROUTE_READ. -/
def routeReadBody (w : Who) (p : Bytes) (s : State) : Ans × State :=
  orElse (routeReadChecks w p s) s (routeReadEffect w p s)

/-- SILT_ROUTE_READ. -/
def specSiltRouteRead : CmdSpec := { op := 0x0501, o := true, len := lenIs 4, body := routeReadBody }

/-- SILT_ROUTE_READ (R196). -/
def execSiltRouteRead (m : Fin 24) (slot : Fin 8) (p : Bytes) (s : State) : Host.Outcome State Fault Refusal := .next (runCmd specSiltRouteRead m.val slot.val p s)

/-- SILT_BYPASS: a router that R200 protects is refused: the checks of R352 from the requester's rights on. -/
def bypassChecks (_w : Who) (p : Bytes) (s : State) : Option Ans :=
  let n := u16 p 0
  firstRefusal [nodeAbsent s n, chk (!(routerKnown n && (routerAt s n).bypassed)) (ansBad stAbsent 2), nodeOk 0 n, chk (bypassable n) (badArg 0),
      freeOf s [.routes], epochFree s]

/-- SILT_BYPASS: a router that R200 protects is refused: the effect and the answer of an accepted command. -/
def bypassEffect (w : Who) (p : Bytes) (s : State) : Ans × State :=
  startJob s w 0x0502 p [(.routes, false)] 0

/-- SILT_BYPASS's checks: a router that R200 protects is refused. -/
def bypassBody (w : Who) (p : Bytes) (s : State) : Ans × State :=
  orElse (bypassChecks w p s) s (bypassEffect w p s)

/-- SILT_BYPASS. -/
def specSiltBypass : CmdSpec := { op := 0x0502, o := true, len := lenIs 4, body := bypassBody }

/-- SILT_BYPASS (R200). -/
def execSiltBypass (m : Fin 24) (slot : Fin 8) (p : Bytes) (s : State) : Host.Outcome State Fault Refusal := .next (runCmd specSiltBypass m.val slot.val p s)

/-- A step of SILT_BYPASS: tables that route nothing through the router go to the shadow banks. -/
def stepBypass (s : State) (id : Nat) (j : Job) : State :=
  let r := u16 j.payload 0 / 2
  if j.stage = 0 then
    let s1 := modMgmt s (fun g => { g with free := g.free + 1 })
    match tilthRoutes s [r] [] with
    | some rs => startChange (modJob (stepDone s1 id) id (fun x => { x with stage := 1 })) id rs [r]
    | none => afterChange (jobFail s1 id stBadArg 0 0)
  else s

/-! ## SILT_STATUS, SILT_TARGET_REVIVE (R200, R201) -/

/-- SILT_STATUS; SET is served from horizon A only: the checks of R352 from the requester's rights on. -/
def siltStatusChecks (w : Who) (p : Bytes) (s : State) : Option Ans :=
  let n := u16 p 0
  firstRefusal [chk (decide (u8 p 2 ≠ 1 ∨ w.hz = .a)) (ansBad stDenied 0), nodeAbsent s n, nodeOk 0 n, flag01 p 2, flag01 p 3,
      chk (decide (u8 p 2 = 0 ∨ (10 ≤ u32 p 4 ∧ u32 p 4 ≤ 10000))) (badArg 4)]

/-- SILT_STATUS; SET is served from horizon A only: the effect and the answer of an accepted command. -/
def siltStatusEffect (_w : Who) (p : Bytes) (s : State) : Ans × State :=
  let n := u16 p 0
  let r := routerAt s n
  let s1 := if u8 p 3 = 1 then modRouter s n (fun r => { r with resends := [] }) else s
  (ansOk (leBytes 4 (routerWord s n) ++ linkCodes.flatMap (fun c => leBytes 4 (ctrWord (tget {} r.resends c)))),
   if u8 p 2 = 1 then modSilt s1 (fun x => { x with deadBound := u32 p 4 }) else s1)

/-- SILT_STATUS; SET is served from horizon A only. -/
def siltStatusBody (w : Who) (p : Bytes) (s : State) : Ans × State :=
  orElse (siltStatusChecks w p s) s (siltStatusEffect w p s)

/-- SILT_STATUS. -/
def specSiltStatus : CmdSpec := { op := 0x0503, o := true, len := lenIs 8, body := siltStatusBody }

/-- SILT_STATUS (R200, R201). -/
def execSiltStatus (m : Fin 24) (slot : Fin 8) (p : Bytes) (s : State) : Host.Outcome State Fault Refusal := .next (runCmd specSiltStatus m.val slot.val p s)

/-- SILT_TARGET_REVIVE: after a reset of the attachment's unit: the checks of R352 from the requester's rights on. -/
def reviveChecks (_w : Who) (p : Bytes) (s : State) : Option Ans :=
  let n := u16 p 0
  firstRefusal [nodeAbsent s n, nodeOk 0 n, chk (!hasElem s.silt.stalled n || hasElem s.silt.unitReset n) busy2]

/-- SILT_TARGET_REVIVE: after a reset of the attachment's unit: the effect and the answer of an accepted command. -/
def reviveEffect (_w : Who) (p : Bytes) (s : State) : Ans × State :=
  let n := u16 p 0
  (ansOk [], modSilt s (fun x => { x with stalled := without x.stalled n, unitReset := without x.unitReset n }))

/-- SILT_TARGET_REVIVE: after a reset of the attachment's unit. -/
def reviveBody (w : Who) (p : Bytes) (s : State) : Ans × State :=
  orElse (reviveChecks w p s) s (reviveEffect w p s)

/-- SILT_TARGET_REVIVE. -/
def specSiltTargetRevive : CmdSpec := { op := 0x0504, len := lenIs 4, body := reviveBody }

/-- SILT_TARGET_REVIVE (R201). -/
def execSiltTargetRevive (m : Fin 24) (slot : Fin 8) (p : Bytes) (s : State) : Host.Outcome State Fault Refusal := .next (runCmd specSiltTargetRevive m.val slot.val p s)

/-! ## SILT_PROBE_SET, SILT_TRACE_READ (R203 to R205) -/

/-- The filter of a SILT_PROBE_SET payload. -/
def filterOf (p : Bytes) : Filter :=
  { terms := BitVec.ofNat 8 (u8 p 2), action := BitVec.ofNat 8 (u8 p 3 % 16), opMask := BitVec.ofNat 32 (u32 p 4)
    srcLo := u16 p 8, srcHi := u16 p 10, dstLo := u16 p 12, dstHi := u16 p 14, clsMask := BitVec.ofNat 8 (u8 p 16), plot := u8 p 17
    ctx := u8 p 18, addrLo := u64 p 20, addrHi := u64 p 28 }

/-- SILT_PROBE_SET: MODE 0 fill-and-stop, 1 wrap, 2 clears every counter and the trace: the checks of R352 from the requester's rights on. -/
def probeSetChecks (_w : Who) (p : Bytes) (s : State) : Option Ans :=
  let mode := u8 p 19
  firstRefusal [chk (decide (u8 p 0 < 32)) (badArg 0), chk (decide (u8 p 1 < 4)) (badArg 1), chk (decide (u8 p 3 < 16)) (badArg 3),
      firstRefusal ([8, 10, 12, 14].map (fun o => chk (decide (u16 p o < 1024)) (badArg o))), chk (decide (u8 p 17 ≤ 16)) (badArg 17),
      chk (decide (mode ≤ 2)) (badArg 19), if mode = 2 then freeOf s [.trace] else none]

/-- SILT_PROBE_SET: MODE 0 fill-and-stop, 1 wrap, 2 clears every counter and the trace: the effect and the answer of an accepted command. -/
def probeSetEffect (_w : Who) (p : Bytes) (s : State) : Ans × State :=
  let mode := u8 p 19
  (ansOk [], modSilt s (fun n =>
    let n1 := { n with filters := tset {} n.filters (4 * u8 p 0 + u8 p 1) (filterOf p) }
    if mode = 2 then { n1 with probeCnt := [], trace := [], lost := {}, traceN := 0 } else { n1 with wrap := decide (mode = 1) }))

/-- SILT_PROBE_SET: MODE 0 fill-and-stop, 1 wrap, 2 clears every counter and the trace. -/
def probeSetBody (w : Who) (p : Bytes) (s : State) : Ans × State :=
  orElse (probeSetChecks w p s) s (probeSetEffect w p s)

/-- SILT_PROBE_SET. -/
def specSiltProbeSet : CmdSpec := { op := 0x0505, o := true, len := lenIs 36, body := probeSetBody }

/-- SILT_PROBE_SET (R203). -/
def execSiltProbeSet (m : Fin 24) (slot : Fin 8) (p : Bytes) (s : State) : Host.Outcome State Fault Refusal := .next (runCmd specSiltProbeSet m.val slot.val p s)

/-- Records of the trace buffer. -/
def traceSize : Nat := 16384

/-- The record in place k of the trace buffer, which records fill in turn. -/
def traceSlot (s : State) (k : Nat) : Option (BitVec 512) :=
  let n := s.silt
  let first := n.traceN - n.trace.length
  n.trace[(k + traceSize - first % traceSize) % traceSize]?

/-- SILT_TRACE_READ: the checks of R352 from the requester's rights on. -/
def traceReadChecks (w : Who) (p : Bytes) (_s : State) : Option Ans :=
  firstRefusal [chk (!noDma w) dmaBad, chk (decide (u16 p 0 < traceSize)) (badArg 0), chk (decide (u16 p 0 + u16 p 2 ≤ traceSize)) (badArg 2),
      chk (decide (64 * u16 p 2 ≤ u32 p 4)) (badArg 4), aligned p 8]

/-- SILT_TRACE_READ: the effect and the answer of an accepted command. -/
def traceReadEffect (w : Who) (p : Bytes) (s : State) : Ans × State :=
  startJob s w 0x0506 p [(.trace, false)] 0

/-- SILT_TRACE_READ's checks. -/
def traceReadBody (w : Who) (p : Bytes) (s : State) : Ans × State :=
  orElse (traceReadChecks w p s) s (traceReadEffect w p s)

/-- SILT_TRACE_READ. -/
def specSiltTraceRead : CmdSpec := { op := 0x0506, o := true, len := lenIs 16, body := traceReadBody }

/-- SILT_TRACE_READ (R204). -/
def execSiltTraceRead (m : Fin 24) (slot : Fin 8) (p : Bytes) (s : State) : Host.Outcome State Fault Refusal := .next (runCmd specSiltTraceRead m.val slot.val p s)

/-- The step of SILT_TRACE_READ: records go to host memory; counters, LOST and the place of the next record are the result. -/
def stepTraceRead (s : State) (id : Nat) (j : Job) : State :=
  let first := u16 j.payload 0
  let s1 := (List.range (u16 j.payload 2)).foldl (fun t i => match traceSlot s (first + i) with
    | some r => dmaWrite t (u64 j.payload 8 + 64 * i) (lineBytes r)
    | none => t) s
  jobOk s1 id 0 ((List.range 128).flatMap (fun i => leBytes 4 (ctrWord (tget {} s.silt.probeCnt i))) ++ leBytes 4 (ctrWord s.silt.lost) ++
    leBytes 2 (s.silt.traceN % traceSize) ++ zeros 2)

/-! ## SILT_LEASE_SET, NAU_RATE_SET, NAU_CONFIG, NAU_STATUS (R191, R193, R194) -/

/-- SILT_LEASE_SET: the checks of R352 from the requester's rights on. -/
def leaseSetChecks (_w : Who) (p : Bytes) (s : State) : Option Ans :=
  let q := u8 p 0
  firstRefusal [if q ≤ 16 then plotAbsent s q else none, chk (decide (q ≤ 16)) (badArg 0), chk (decide (1 ≤ u16 p 2 ∧ u16 p 2 ≤ 1000)) (badArg 2)]

/-- SILT_LEASE_SET: the effect and the answer of an accepted command. -/
def leaseSetEffect (_w : Who) (p : Bytes) (s : State) : Ans × State :=
  let q := u8 p 0
  (ansOk [], modPlot s q (fun x => { x with lease := u16 p 2 }))

/-- SILT_LEASE_SET. -/
def leaseSetBody (w : Who) (p : Bytes) (s : State) : Ans × State :=
  orElse (leaseSetChecks w p s) s (leaseSetEffect w p s)

/-- SILT_LEASE_SET. -/
def specSiltLeaseSet : CmdSpec := { op := 0x0507, len := lenIs 4, body := leaseSetBody }

/-- SILT_LEASE_SET (R194). -/
def execSiltLeaseSet (m : Fin 24) (slot : Fin 8) (p : Bytes) (s : State) : Host.Outcome State Fault Refusal := .next (runCmd specSiltLeaseSet m.val slot.val p s)

/-- NODE names an NAU. -/
def nauNodeOk (n : Nat) : Option Ans := chk (decide (n < 1024) && (nauNumber n).isSome) (badArg 0)

/-- NAU_RATE_SET: the checks of R352 from the requester's rights on. -/
def nauRateSetChecks (_w : Who) (p : Bytes) (s : State) : Option Ans :=
  let n := u16 p 0
  firstRefusal [if n < 1024 then nauAbsent s n else none, nauNodeOk n, chk (decide (u8 p 2 ≤ 3)) (badArg 2)]

/-- NAU_RATE_SET: the effect and the answer of an accepted command. -/
def nauRateSetEffect (_w : Who) (p : Bytes) (s : State) : Ans × State :=
  let n := u16 p 0
  (ansOk [], nauServe (modNau s n (fun u => nauRateSet u (u8 p 2) (BitVec.ofNat 32 (u32 p 4)))) n)

/-- NAU_RATE_SET. -/
def nauRateSetBody (w : Who) (p : Bytes) (s : State) : Ans × State :=
  orElse (nauRateSetChecks w p s) s (nauRateSetEffect w p s)

/-- NAU_RATE_SET. -/
def specNauRateSet : CmdSpec := { op := 0x0508, len := lenIs 8, body := nauRateSetBody }

/-- NAU_RATE_SET (R191). -/
def execNauRateSet (m : Fin 24) (slot : Fin 8) (p : Bytes) (s : State) : Host.Outcome State Fault Refusal := .next (runCmd specNauRateSet m.val slot.val p s)

/-- The NAU is the requester's own, or the requester is the owner. -/
def nauRight (s : State) (w : Who) (n : Nat) : Bool :=
  decide (w.hz ≠ .b) || (decide (n < 1024) && (nauNumber n).isSome && decide (plotOfNau s n = w.plot))

/-- A field of NAU_CTRL from CTRL where FIELDS names it. -/
def takeFld (on : Bool) (hi lo : Nat) (c w : Word) : Word := if on then setFld w hi lo (fld c hi lo) else w

/-- NAU_CONFIG: the named fields of NAU_CTRL and NAU_RSP_TO. -/
def nauConfigSet (fields : BitVec 8) (c t : Word) (u : Nau) : Nau :=
  let w := takeFld (bitOf fields 3) 13 8 c (takeFld (bitOf fields 2) 23 16 c (takeFld (bitOf fields 1) 30 30 c (takeFld (bitOf fields 0) 31 31 c u.ctrl)))
  { u with ctrl := w, rspTo := takeFld (bitOf fields 4) 19 0 t u.rspTo }

/-- NAU_CONFIG; horizon B sets CTX, OUTST and RSP_TO of its own NAUs only: the checks of R352 from the requester's rights on. -/
def nauConfigChecks (w : Who) (p : Bytes) (s : State) : Option Ans :=
  let n := u16 p 0
  let f := BitVec.ofNat 8 (u8 p 2)
  firstRefusal [chk (nauRight s w n && (decide (w.hz ≠ .b) || decide (f &&& 0xE3#8 = 0#8))) (ansBad stDenied 0),
      if n < 1024 then nauAbsent s n else none, nauNodeOk n, chk (decide (u8 p 2 < 32)) (badArg 2)]

/-- NAU_CONFIG; horizon B sets CTX, OUTST and RSP_TO of its own NAUs only: the effect and the answer of an accepted command. -/
def nauConfigEffect (_w : Who) (p : Bytes) (s : State) : Ans × State :=
  let n := u16 p 0
  let f := BitVec.ofNat 8 (u8 p 2)
  (ansOk [], nauServe (modNau s n (nauConfigSet f (BitVec.ofNat 32 (u32 p 4)) (BitVec.ofNat 32 (u32 p 8)))) n)

/-- NAU_CONFIG; horizon B sets CTX, OUTST and RSP_TO of its own NAUs only. -/
def nauConfigBody (w : Who) (p : Bytes) (s : State) : Ans × State :=
  orElse (nauConfigChecks w p s) s (nauConfigEffect w p s)

/-- NAU_CONFIG. -/
def specNauConfig : CmdSpec := { op := 0x0509, b := true, len := lenIs 12, body := nauConfigBody }

/-- NAU_CONFIG (R193, R369). -/
def execNauConfig (m : Fin 24) (slot : Fin 8) (p : Bytes) (s : State) : Host.Outcome State Fault Refusal := .next (runCmd specNauConfig m.val slot.val p s)

/-- NAU_STATUS: offsets 0x000 to 0x038, NAU_ERR through its peek alias: the checks of R352 from the requester's rights on. -/
def nauStatusChecks (w : Who) (p : Bytes) (s : State) : Option Ans :=
  let n := u16 p 0
  firstRefusal [chk (nauRight s w n) (ansBad stDenied 0), if n < 1024 then nauAbsent s n else none, nauNodeOk n, flag01 p 2]

/-- NAU_STATUS: offsets 0x000 to 0x038, NAU_ERR through its peek alias: the effect and the answer of an accepted command. -/
def nauStatusEffect (_w : Who) (p : Bytes) (s : State) : Ans × State :=
  let n := u16 p 0
  (ansOk ((List.range 15).flatMap (fun i => leBytes 4 (nauReg s n (4 * i)))),
   if u8 p 2 = 1 then modNau s n (fun u => nauCntClear { u with err := 0#9 }) else s)

/-- NAU_STATUS: offsets 0x000 to 0x038, NAU_ERR through its peek alias. -/
def nauStatusBody (w : Who) (p : Bytes) (s : State) : Ans × State :=
  orElse (nauStatusChecks w p s) s (nauStatusEffect w p s)

/-- NAU_STATUS. -/
def specNauStatus : CmdSpec := { op := 0x050A, b := true, len := lenIs 4, body := nauStatusBody }

/-- NAU_STATUS (R193). -/
def execNauStatus (m : Fin 24) (slot : Fin 8) (p : Bytes) (s : State) : Host.Outcome State Fault Refusal := .next (runCmd specNauStatus m.val slot.val p s)

end Machine
end Sys2Proof
end

