-- ==== Sys2Proof/Machine/CmdTilth.lean ====
section
/-! DEFINITION. The Tilth commands: DLINK_STATUS, SWAP, HALVE and MARGIN, DIE_ISOLATE, KAO_CHAN_REPLACE, ROW_SPARE, TILTH_POLICY,
STATUS and CLEAR, CRC_SELFTEST, PEAT_RETIRE (R208 to R226, R286, R372, R373). -/

namespace Sys2Proof
namespace Machine

/-! ## Die-link groups -/

/-- GROUP is an identifier of 7 bits (R207). -/
def groupKnown (g : Nat) : Bool := decide (g < 128)

/-- Presence of a group: a reserved or absent one, and one whose dies are not in service (R207). -/
def groupAbsent (s : State) (g : Nat) : Option Ans :=
  if groupKnown g then firstRefusal [chk (groupFitted s g) (ansBad stAbsent 1), chk (groupUp s g) (ansBad stAbsent 2)] else none

/-- A lane's worst margin since the last clear; a free value where none has been measured. -/
def worstWord (s : State) (x : Group) (l : Nat) : Nat :=
  match tget none x.worst l with
  | some m => min 255 m.1 + 256 * min 255 m.2
  | none => (Config.openValue (s.mgmt.free + l)).toNat % 65536

/-- The free values of 33 lanes have been drawn. -/
def drawLanes (s : State) : State := modMgmt s (fun g => { g with free := g.free + 33 })

/-- DLINK_STATUS: the checks of R352 from the requester's rights on. -/
def dlinkStatusChecks (_w : Who) (p : Bytes) (s : State) : Option Ans :=
  let g := u8 p 0
  firstRefusal [groupAbsent s g, chk (groupKnown g) (badArg 0), flag01 p 1]

/-- DLINK_STATUS: the effect and the answer of an accepted command. -/
def dlinkStatusEffect (_w : Who) (p : Bytes) (s : State) : Ans × State :=
  let g := u8 p 0
  let x := groupAt s g
  (ansOk (leBytes 4 (groupWord s g) ++ zeros 4 ++ leBytes 8 x.oos.toNat ++ (List.range 33).flatMap (fun l => leBytes 2 (worstWord s x l)) ++ zeros 2 ++
      [x.checks, x.noFault, x.swaps, x.halves].flatMap (fun c => leBytes 4 (ctrWord c))),
   if u8 p 1 = 1 then modGroup (drawLanes s) g (fun x => { x with worst := [], checks := {}, noFault := {}, swaps := {}, halves := {} })
   else drawLanes s)

/-- DLINK_STATUS. -/
def dlinkStatusBody (w : Who) (p : Bytes) (s : State) : Ans × State :=
  orElse (dlinkStatusChecks w p s) s (dlinkStatusEffect w p s)

/-- DLINK_STATUS. -/
def specDlinkStatus : CmdSpec := { op := 0x0700, o := true, len := lenIs 4, body := dlinkStatusBody }

/-- DLINK_STATUS (R208). -/
def execDlinkStatus (m : Fin 24) (slot : Fin 8) (p : Bytes) (s : State) : Host.Outcome State Fault Refusal := .next (runCmd specDlinkStatus m.val slot.val p s)

/-- DLINK_SWAP: a data lane in service, the spare idle: the checks of R352 from the requester's rights on. -/
def dlinkSwapChecks (_w : Who) (p : Bytes) (s : State) : Option Ans :=
  let g := u8 p 0
  let x := groupAt s g
  firstRefusal [groupAbsent s g, chk (groupKnown g) (badArg 0), chk (decide (u8 p 1 < 32) && !bitOf x.oos (u8 p 1)) (badArg 1),
      chk (spareIdles x) busy2]

/-- DLINK_SWAP: a data lane in service, the spare idle: the effect and the answer of an accepted command. -/
def dlinkSwapEffect (w : Who) (p : Bytes) (s : State) : Ans × State :=
  let g := u8 p 0
  startJob s w opSwap p [(.group g, false)] 0

/-- DLINK_SWAP's checks: a data lane in service, the spare idle. -/
def dlinkSwapBody (w : Who) (p : Bytes) (s : State) : Ans × State :=
  orElse (dlinkSwapChecks w p s) s (dlinkSwapEffect w p s)

/-- DLINK_SWAP. -/
def specDlinkSwap : CmdSpec := { op := 0x0701, o := true, len := lenIs 4, body := dlinkSwapBody }

/-- DLINK_SWAP (R212). -/
def execDlinkSwap (m : Fin 24) (slot : Fin 8) (p : Bytes) (s : State) : Host.Outcome State Fault Refusal := .next (runCmd specDlinkSwap m.val slot.val p s)

/-- The step of DLINK_SWAP: the spare may have gone since the command (R212). -/
def stepDlinkSwap (s : State) (id : Nat) (j : Job) : State :=
  let x := groupAt s (u8 j.payload 0)
  if spareIdles x = true ∧ bitOf x.oos (u8 j.payload 1) = false then jobOk (plannedSwap s (u8 j.payload 0) (u8 j.payload 1)) id 0 []
  else jobFail s id stBusy 2 0

/-- DLINK_HALVE: the group is still at full width: the checks of R352 from the requester's rights on. -/
def dlinkHalveChecks (_w : Who) (p : Bytes) (s : State) : Option Ans :=
  let g := u8 p 0
  firstRefusal [groupAbsent s g, chk (groupKnown g && decide (gRank (groupAt s g).state < 2)) (badArg 0)]

/-- DLINK_HALVE: the group is still at full width: the effect and the answer of an accepted command. -/
def dlinkHalveEffect (w : Who) (p : Bytes) (s : State) : Ans × State :=
  let g := u8 p 0
  startJob s w 0x0702 p [(.group g, false)] 0

/-- DLINK_HALVE's checks: the group is still at full width. -/
def dlinkHalveBody (w : Who) (p : Bytes) (s : State) : Ans × State :=
  orElse (dlinkHalveChecks w p s) s (dlinkHalveEffect w p s)

/-- DLINK_HALVE. -/
def specDlinkHalve : CmdSpec := { op := 0x0702, o := true, len := lenIs 4, body := dlinkHalveBody }

/-- DLINK_HALVE (R212). -/
def execDlinkHalve (m : Fin 24) (slot : Fin 8) (p : Bytes) (s : State) : Host.Outcome State Fault Refusal := .next (runCmd specDlinkHalve m.val slot.val p s)

/-- The step of DLINK_HALVE: the half that R214 chooses. -/
def stepDlinkHalve (s : State) (id : Nat) (j : Job) : State :=
  let g := u8 j.payload 0
  let oos := (groupAt s g).oos
  jobOk (groupTake s g oos (halfState oos)) id 0 []

/-- DLINK_MARGIN: the thresholds of a group, or with 0xFF of every group: the checks of R352 from the requester's rights on. -/
def dlinkMarginChecks (_w : Who) (p : Bytes) (s : State) : Option Ans :=
  let g := u8 p 0
  firstRefusal [groupAbsent s g, chk (decide (g = 0xFF) || groupKnown g) (badArg 0)]

/-- DLINK_MARGIN: the thresholds of a group, or with 0xFF of every group: the effect and the answer of an accepted command. -/
def dlinkMarginEffect (_w : Who) (p : Bytes) (s : State) : Ans × State :=
  let g := u8 p 0
  let set := fun (s : State) (g : Nat) => modGroup s g (fun x => { x with tThr := u8 p 1, vThr := u8 p 2 })
  (ansOk [], if g = 0xFF then ((List.range 128).filter (groupUp s)).foldl set s else set s g)

/-- DLINK_MARGIN: the thresholds of a group, or with 0xFF of every group. -/
def dlinkMarginBody (w : Who) (p : Bytes) (s : State) : Ans × State :=
  orElse (dlinkMarginChecks w p s) s (dlinkMarginEffect w p s)

/-- DLINK_MARGIN. -/
def specDlinkMargin : CmdSpec := { op := 0x0703, o := true, len := lenIs 4, body := dlinkMarginBody }

/-- DLINK_MARGIN (R211). -/
def execDlinkMargin (m : Fin 24) (slot : Fin 8) (p : Bytes) (s : State) : Host.Outcome State Fault Refusal := .next (runCmd specDlinkMargin m.val slot.val p s)

/-! ## Isolation, channel replacement, row spares (R216, R223, R224) -/

/-- DIE_ISOLATE: not position 0: the checks of R352 from the requester's rights on. -/
def dieIsolateChecks (_w : Who) (p : Bytes) (s : State) : Option Ans :=
  let q := u8 p 0
  firstRefusal [if q < 4 then dieAbsent s q else none, chk (decide (1 ≤ q ∧ q < 4)) (badArg 0)]

/-- DIE_ISOLATE: not position 0: the effect and the answer of an accepted command. -/
def dieIsolateEffect (w : Who) (p : Bytes) (s : State) : Ans × State :=
  startJob s w opIsolate p [(.die (u8 p 0), false)] 0

/-- DIE_ISOLATE's checks: not position 0. -/
def dieIsolateBody (w : Who) (p : Bytes) (s : State) : Ans × State :=
  orElse (dieIsolateChecks w p s) s (dieIsolateEffect w p s)

/-- DIE_ISOLATE. -/
def specDieIsolate : CmdSpec := { op := 0x0704, len := lenIs 4, body := dieIsolateBody }

/-- DIE_ISOLATE (R216). -/
def execDieIsolate (m : Fin 24) (slot : Fin 8) (p : Bytes) (s : State) : Host.Outcome State Fault Refusal := .next (runCmd specDieIsolate m.val slot.val p s)

/-- The steps of DIE_ISOLATE: the hardware's part, then what Ohmyx does (R217). -/
def stepDieIsolate (s : State) (id : Nat) (j : Job) : State :=
  let q := u8 j.payload 0
  if j.stage = 2 then jobOk (isolateRest s q) id 0 []
  else if !dieUp s q then jobFail s id stAbsent 2 0
  else modJob (isolateHw (stepDone s id) q (160 * q + 131)) id (fun x => { x with stage := 2, sure := true })

/-- KAO_CHAN_REPLACE: the spare stands by; the channel is in service: the checks of R352 from the requester's rights on. -/
def chanReplaceChecks (_w : Who) (p : Bytes) (s : State) : Option Ans :=
  let q := u8 p 0
  let c := u8 p 1
  firstRefusal [stackThere s q, chk (spareReady s q || decide (4 ≤ q)) (ansBad stAbsent 4), chk (decide (q < 4)) (badArg 0),
      chk (decide (c < 16) && decide ((chanAt s q c).state = .inService)) (badArg 1), freeOf s (copyFuncs q c)]

/-- KAO_CHAN_REPLACE: the spare stands by; the channel is in service: the effect and the answer of an accepted command. -/
def chanReplaceEffect (w : Who) (p : Bytes) (s : State) : Ans × State :=
  let q := u8 p 0
  let c := u8 p 1
  (copyStart s w opReplace q c)

/-- KAO_CHAN_REPLACE's checks: the spare stands by; the channel is in service. -/
def chanReplaceBody (w : Who) (p : Bytes) (s : State) : Ans × State :=
  orElse (chanReplaceChecks w p s) s (chanReplaceEffect w p s)

/-- KAO_CHAN_REPLACE. -/
def specKaoChanReplace : CmdSpec := { op := 0x0705, o := true, len := lenIs 4, body := chanReplaceBody }

/-- KAO_CHAN_REPLACE (R224). -/
def execKaoChanReplace (m : Fin 24) (slot : Fin 8) (p : Bytes) (s : State) : Host.Outcome State Fault Refusal := .next (runCmd specKaoChanReplace m.val slot.val p s)

/-- ROW_SPARE (R223): the checks of R352 from the requester's rights on. -/
def rowSpareChecks (_w : Who) (p : Bytes) (s : State) : Option Ans :=
  let q := u8 p 0
  let c := u8 p 1
  firstRefusal [stackThere s q,
      chk (decide (4 ≤ q ∨ 17 ≤ c ∨ 32 ≤ u8 p 2) || (freeRow (chanAt s q c) (u8 p 2)).isSome) (ansBad stAbsent 4),
      chk (decide (q < 4)) (badArg 0), chk (decide (c ≤ 16)) (badArg 1), chk (decide (u8 p 2 < 32)) (badArg 2), chk (decide (u16 p 4 < 16384)) (badArg 4),
      freeOf s (chanFuncs q c)]

/-- ROW_SPARE (R223): the effect and the answer of an accepted command. -/
def rowSpareEffect (_w : Who) (p : Bytes) (s : State) : Ans × State :=
  let q := u8 p 0
  let c := u8 p 1
  (ansOk [], (spareRow s q c (u8 p 2) (u16 p 4)).getD s)

/-- ROW_SPARE (R223). -/
def rowSpareBody (w : Who) (p : Bytes) (s : State) : Ans × State :=
  orElse (rowSpareChecks w p s) s (rowSpareEffect w p s)

/-- ROW_SPARE. -/
def specRowSpare : CmdSpec := { op := 0x0706, o := true, len := lenIs 8, body := rowSpareBody }

/-- ROW_SPARE (R223, R373). -/
def execRowSpare (m : Fin 24) (slot : Fin 8) (p : Bytes) (s : State) : Host.Outcome State Fault Refusal := .next (runCmd specRowSpare m.val slot.val p s)

/-! ## Policies, totals, the repair record (R219 to R222, R226) -/

/-- TILTH_POLICY: the checks of R352 from the requester's rights on. -/
def tilthPolicyChecks (_w : Who) (p : Bytes) (_s : State) : Option Ans :=
  firstRefusal ((List.range 5).map (fun i => chk (decide (u8 p i ≤ 1)) (badArg i)))

/-- TILTH_POLICY: the effect and the answer of an accepted command. -/
def tilthPolicyEffect (_w : Who) (p : Bytes) (s : State) : Ans × State :=
  (ansOk [], modTilth s (fun t => { t with report := (List.range 5).foldl (fun r i => tset false r i (decide (u8 p i = 1))) [] }))

/-- TILTH_POLICY. -/
def tilthPolicyBody (w : Who) (p : Bytes) (s : State) : Ans × State :=
  orElse (tilthPolicyChecks w p s) s (tilthPolicyEffect w p s)

/-- TILTH_POLICY. -/
def specTilthPolicy : CmdSpec := { op := 0x0707, len := lenIs 8, body := tilthPolicyBody }

/-- TILTH_POLICY (R220). -/
def execTilthPolicy (m : Fin 24) (slot : Fin 8) (p : Bytes) (s : State) : Host.Outcome State Fault Refusal := .next (runCmd specTilthPolicy m.val slot.val p s)

/-- Spares in use and left of a kind, by the row of R219's table; how many detours R188 still allows is left open. -/
def tilthTotals (s : State) (k : Nat) : Nat × Nat :=
  let groups := (List.range 128).filter (groupUp s)
  let ks := [0, 1, 2, 3].filter (stackUp s)
  let count := fun (f : Nat → Bool) => (groups.filter f).length
  match k with
  | 0 => (count (fun g => decide ((groupAt s g).spareFor < 32)), count (fun g => decide ((groupAt s g).spareFor = 0x3F)))
  | 1 => (count (fun g => decide ((groupAt s g).state = .half)), count (fun g => decide (gRank (groupAt s g).state < 2)))
  | 2 => (s.tilth.detours.length, (freeValue s).1.toNat % 2 ^ 32)
  | 3 => ((bypassedRouters s).length, ((presentRouters s).filter bypassable).length)
  | 4 =>
    let used := ks.foldl (fun n p => n + (List.range 17).foldl (fun n c => n + ((chanAt s p c).remap.filter (·.2.isSome)).length) 0) 0
    (used, ks.length * 17 * 32 * 16 - used)
  | 5 => ((ks.filter (fun p => decide ((stackAt s p).spareFor ≠ 0x1F))).length, (ks.filter (spareReady s)).length)
  | 6 => (246 - s.peat.spares, s.peat.spares)
  | _ => (0, 0)

/-- TILTH_STATUS. -/
def tilthStatusBody (_w : Who) (_p : Bytes) (s : State) : Ans × State :=
  (ansOk ((List.range 7).flatMap (fun k => leBytes 4 (tilthTotals s k).1 ++ leBytes 4 (tilthTotals s k).2)), (freeValue s).2)

/-- TILTH_STATUS. -/
def specTilthStatus : CmdSpec := { op := 0x0708, o := true, len := lenIs 0, body := tilthStatusBody }

/-- TILTH_STATUS (R226). -/
def execTilthStatus (m : Fin 24) (slot : Fin 8) (p : Bytes) (s : State) : Host.Outcome State Fault Refusal := .next (runCmd specTilthStatus m.val slot.val p s)

/-- TILTH_CLEAR: the entry is recorded: the checks of R352 from the requester's rights on. -/
def tilthClearChecks (_w : Who) (p : Bytes) (s : State) : Option Ans :=
  firstRefusal [chk (decide (u8 p 0 ≤ 6)) (badArg 0), chk (hasElem s.tilth.recorded (u8 p 0, u64 p 8)) (badArg 8), peatRefuses s]

/-- TILTH_CLEAR: the entry is recorded: the effect and the answer of an accepted command. -/
def tilthClearEffect (w : Who) (p : Bytes) (s : State) : Ans × State :=
  startJob s w 0x0709 p [(.tilth, false)] 0

/-- TILTH_CLEAR's checks: the entry is recorded. -/
def tilthClearBody (w : Who) (p : Bytes) (s : State) : Ans × State :=
  orElse (tilthClearChecks w p s) s (tilthClearEffect w p s)

/-- TILTH_CLEAR. -/
def specTilthClear : CmdSpec := { op := 0x0709, len := lenIs 16, body := tilthClearBody }

/-- TILTH_CLEAR (R221). -/
def execTilthClear (m : Fin 24) (slot : Fin 8) (p : Bytes) (s : State) : Host.Outcome State Fault Refusal := .next (runCmd specTilthClear m.val slot.val p s)

/-- The step of TILTH_CLEAR: the entry goes at the next device reset. -/
def stepTilthClear (s : State) (id : Nat) (j : Job) : State :=
  match peatRefuses s with
  | some a => jobFail s id a.status a.detail 0
  | none => jobOk (sysWrite (modTilth s (fun t => { t with clearing := withElem t.clearing (u8 j.payload 0, u64 j.payload 8) })) 0) id 0 []

/-! ## CRC_SELFTEST, PEAT_RETIRE (R267, R286, R288) -/

/-- CRC_SELFTEST: whether the unit passes is a free value; everything it uses is restored. A failure raises the hub's source: the checks of R352 from the requester's rights on. -/
def crcSelftestChecks (w : Who) (p : Bytes) (s : State) : Option Ans :=
  let q := u8 p 0
  let u := u8 p 1
  let mine := if q = 4 then decide (w.hz = .a) else holderRight s w (plotOfCrc s (256 * q + u))
  firstRefusal [chk mine (ansBad stDenied 0), if q < 4 then dieAbsent s q else none, chk (decide (q ≤ 4)) (badArg 0),
      chk (decide (u < if q = 4 then 8 else 64)) (badArg 1)]

/-- CRC_SELFTEST: whether the unit passes is a free value; everything it uses is restored. A failure raises the hub's source: the effect and the answer of an accepted command. -/
def crcSelftestEffect (_w : Who) (p : Bytes) (s : State) : Ans × State :=
  let q := u8 p 0
  let r := freeValue s
  if bitOf r.1 0 then (ansOk [], r.2) else (ansBad stFault 1, raise r.2 (if q = 4 then 683 else 160 * q + 134))

/-- CRC_SELFTEST: whether the unit passes is a free value; everything it uses is restored. A failure raises the hub's source. -/
def crcSelftestBody (w : Who) (p : Bytes) (s : State) : Ans × State :=
  orElse (crcSelftestChecks w p s) s (crcSelftestEffect w p s)

/-- CRC_SELFTEST. -/
def specCrcSelftest : CmdSpec := { op := 0x070A, b := true, len := lenIs 4, body := crcSelftestBody }

/-- CRC_SELFTEST (R286). -/
def execCrcSelftest (m : Fin 24) (slot : Fin 8) (p : Bytes) (s : State) : Host.Outcome State Fault Refusal := .next (runCmd specCrcSelftest m.val slot.val p s)

/-- PEAT_RETIRE: a spare block is left: the checks of R352 from the requester's rights on. -/
def peatRetireChecks (_w : Who) (p : Bytes) (s : State) : Option Ans :=
  firstRefusal [chk (decide (0 < s.peat.spares) || s.peat.readOnly) (ansBad stAbsent 4), chk (decide (u16 p 0 < 8192)) (badArg 0), peatRefuses s]

/-- PEAT_RETIRE: a spare block is left: the effect and the answer of an accepted command. -/
def peatRetireEffect (w : Who) (p : Bytes) (s : State) : Ans × State :=
  startJob s w 0x070B p [(.peatBlock (u16 p 0), false), (.peatScrub, false)] 0

/-- PEAT_RETIRE's checks: a spare block is left. -/
def peatRetireBody (w : Who) (p : Bytes) (s : State) : Ans × State :=
  orElse (peatRetireChecks w p s) s (peatRetireEffect w p s)

/-- PEAT_RETIRE. -/
def specPeatRetire : CmdSpec := { op := 0x070B, len := lenIs 4, body := peatRetireBody }

/-- PEAT_RETIRE (R267). -/
def execPeatRetire (m : Fin 24) (slot : Fin 8) (p : Bytes) (s : State) : Host.Outcome State Fault Refusal := .next (runCmd specPeatRetire m.val slot.val p s)

/-- The step of PEAT_RETIRE: the block is copied to a spare. -/
def stepPeatRetire (s : State) (id : Nat) (j : Job) : State :=
  match peatRefuses s with
  | some a => jobFail s id a.status a.detail 0
  | none => jobOk (retireBlock s (u16 j.payload 0)) id 0 []

end Machine
end Sys2Proof
end

