-- ==== Sys2Proof/Machine/CmdPort.lean ====
section
/-! DEFINITION. The port and lane commands: PORT_CONFIG, RESET, LOOPBACK and STATUS, IDE_KEY_SET, LANE_STATUS, MARGIN and SLEEP,
REACH_CONFIG (R67 to R88, R370, R371). -/

namespace Sys2Proof
namespace Machine

/-! ## Fields -/

/-- A port's presence. -/
def portAbsent (s : State) (n : Nat) : Option Ans := if n < 8 then dieAbsent s (portDie n) else none

/-- A lane's presence: its port's die, or its reach quad and spine router. -/
def laneAbsent (s : State) (f : Nat) : Option Ans :=
  if f < 128 then dieAbsent s (portDie (f / 16))
  else if f < 160 then
    firstRefusal [chk (decide (f - 128 < partReach s.sys.part)) (ansBad stAbsent 1), chk (reachUp s (f - 128)) (ansBad stAbsent 2)]
  else none

/-- BOUND: 0 for the port's, or 1 ms to 1 s (R75). -/
def boundOk (p : Bytes) (off : Nat) : Option Ans := chk (decide (u32 p off = 0 ∨ (1000 ≤ u32 p off ∧ u32 p off ≤ 1000000))) (badArg off)

/-- The presence and number of a port. -/
def portRefusal (s : State) (p : Bytes) : List (Option Ans) := [portAbsent s (u8 p 0), chk (decide (u8 p 0 < 8)) (badArg 0)]

/-- Offset of the LINKCFG of engine e. -/
def linkCfgOff (e : Nat) : Nat := 8 + 12 * e

/-- Links a bifurcation row has (R74). -/
def rowLinks (row : Nat) : Nat := if (engineLanes row 1).2 = 0 then 1 else 2

/-- The node is an NAU of the shell. -/
def shellNauOk (s : State) (n : Nat) : Bool := decide (n < 1024) && (nauNumber n).isSome && decide (plotOfNau s n = 0)

/-- Another link of the switch group has the upstream role (R75). -/
def upstreamTaken (s : State) (l g : Nat) : Bool :=
  (List.range 16).any (fun k => decide (k / 2 ≠ l / 2 ∧ (linkAt s k).role = 3 ∧ (linkAt s k).group = g))

/-- The checks of one LINKCFG. A disabled link's fields hold no reserved encoding either (R9). -/
def linkCfgRefusal (s : State) (p : Bytes) (e : Nat) : Option Ans :=
  let o := linkCfgOff e
  let role := u8 p o
  let proto := u8 p (o + 3)
  if 0 < e ∧ rowLinks (u8 p 1) = 1 then chk (decide (leN p o 12 = 0)) (badArg o)
  else if role = 0 then
    firstRefusal [chk (decide (u8 p (o + 1) < 4)) (badArg (o + 1)), chk (decide (u8 p (o + 2) ≤ 6)) (badArg (o + 2)), chk (decide (proto < 16)) (badArg (o + 3)),
      chk (decide (u8 p (o + 4) < 8)) (badArg (o + 4)), chk (decide (u8 p (o + 5) ≤ 3)) (badArg (o + 5)), flag01 p (o + 6), chk (decide (u8 p (o + 7) ≤ 3)) (badArg (o + 7))]
  else firstRefusal [chk (decide (role ≤ 4)) (badArg o),
    chk (decide (u8 p (o + 1) < 4) && !(decide (role = 3) && (upstreamTaken s (2 * u8 p 0 + e) (u8 p (o + 1)) ||
      (decide (e = 1) && decide (u8 p (linkCfgOff 0) = 3 ∧ u8 p (linkCfgOff 0 + 1) = u8 p (o + 1)))))) (badArg (o + 1)),
    chk (decide (1 ≤ u8 p (o + 2) ∧ u8 p (o + 2) ≤ 6)) (badArg (o + 2)),
    chk (decide (proto < 16) && decide (proto % 2 = 1 ∨ proto = 0)) (badArg (o + 3)), chk (decide (u8 p (o + 4) < 8)) (badArg (o + 4)),
    chk (decide (u8 p (o + 5) ≤ 3) && (decide (role ≠ 2 ∨ proto = 0) || decide (1 ≤ u8 p (o + 5)))) (badArg (o + 5)), flag01 p (o + 6),
    chk (decide (u8 p (o + 7) ≤ 3) && (decide (e = 0) || decide (u8 p (linkCfgOff 0) = 0) || decide (u8 p (o + 7) = u8 p (linkCfgOff 0 + 7)))) (badArg (o + 7)),
    chk (decide (role ≠ 2 ∧ role ≠ 3) || shellNauOk s (u16 p (o + 8))) (badArg (o + 8))]

/-- The presence of the configuration NAU of a LINKCFG. -/
def cfgNodeAbsent (s : State) (p : Bytes) (e : Nat) : Option Ans :=
  let o := linkCfgOff e
  if (u8 p o = 2 ∨ u8 p o = 3) ∧ u16 p (o + 8) < 1024 then nauAbsent s (u16 p (o + 8)) else none

/-! ## The change of a port (R83, R84) -/

/-- A link is taken to Disabled by command: what waits to be sent to the partner stays held (R84). -/
def linkHeldOff (s : State) (l : Nat) : State :=
  let held := (linkAt s l).heldMsgs
  modLink (linkOff (modLink s l (fun x => { x with heldMsgs := [] })) l) l (fun x => { x with heldMsgs := held })

/-- The port's links are taken down with hot reset; messages from Silt wait (R84, R86). Adaptation stops with the lanes asleep. -/
def portTaken (s : State) (n : Nat) : State :=
  let s1 := modPort s n (fun x => { x with quiesced := true })
  [2 * n, 2 * n + 1].foldl (fun s l => ideInsecure (modLink (linkHeldOff s l) l (fun x => { x with viralSent := false, resetBy := 1, holding := decide (x.role ≠ 0) })) l) s1

/-- No link of the port trains any more: each is up, or its 200 ms have passed. -/
def portSettled (s : State) (n : Nat) : Bool := [2 * n, 2 * n + 1].all (fun l => decide ((linkAt s l).state ≠ .training))

/-- A job waits while the links of its port retrain; then it ends with the data it holds. -/
def portWaits (s : State) (id n : Nat) (j : Job) : State := if portSettled s n then resumeAll (jobOk s id 0 j.data) else s

/-- A job goes on to a stage. -/
def toStage (s : State) (id k : Nat) : State := modJob (stepDone s id) id (fun x => { x with stage := k })

/-- A job of a port with one change: drain, change, retraining. -/
def stepPort (s : State) (id : Nat) (j : Job) (change : State → State) : State :=
  let n := u8 j.payload 0
  if j.stage = 0 then beginDrain s id
  else if j.stage = 2 then toStage (portRetrain (change (portTaken s n)) n) id 4
  else if j.stage = 4 then portWaits s id n j
  else s

/-! ## PORT_CONFIG, PORT_RESET, IDE_KEY_SET -/

/-- PORT_CONFIG: the checks of R352 from the requester's rights on. -/
def portConfigChecks (_w : Who) (p : Bytes) (s : State) : Option Ans :=
  firstRefusal [portAbsent s (u8 p 0), cfgNodeAbsent s p 0, cfgNodeAbsent s p 1, chk (decide (u8 p 0 < 8)) (badArg 0), chk (decide (u8 p 1 ≤ 6)) (badArg 1),
      boundOk p 4, linkCfgRefusal s p 0, linkCfgRefusal s p 1]

/-- PORT_CONFIG: the effect and the answer of an accepted command. -/
def portConfigEffect (w : Who) (p : Bytes) (s : State) : Ans × State :=
  startJob s w 0x0600 p [(.port (u8 p 0), false)] 0

/-- PORT_CONFIG's checks. -/
def portConfigBody (w : Who) (p : Bytes) (s : State) : Ans × State :=
  orElse (portConfigChecks w p s) s (portConfigEffect w p s)

/-- PORT_CONFIG. -/
def specPortConfig : CmdSpec := { op := 0x0600, len := lenIs 32, body := portConfigBody }

/-- PORT_CONFIG (R75). -/
def execPortConfig (m : Fin 24) (slot : Fin 8) (p : Bytes) (s : State) : Host.Outcome State Fault Refusal := .next (runCmd specPortConfig m.val slot.val p s)

/-- The settings of a LINKCFG. -/
def setLink (p : Bytes) (e : Nat) (x : Link) : Link :=
  let o := linkCfgOff e
  let ide := decide (u8 p (o + 6) = 1 ∧ u8 p o ≠ 0)
  { x with
    role := u8 p o, group := u8 p (o + 1), maxRate := u8 p (o + 2), proto := u8 p (o + 3), flits := u8 p (o + 4), cxlType := u8 p (o + 5),
    resetBy := if x.role ≠ u8 p o then 2 else x.resetBy, viral := false
    ide := ide, insecure := ide, cfgNode := u16 p (o + 8), holding := decide (u8 p o ≠ 0) }

/-- The new settings of a port, as one change. -/
def setPort (p : Bytes) (s : State) : State :=
  let n := u8 p 0
  let s1 := modPort s n (fun x => { x with
    bifRow := u8 p 1, profile := some (u8 p ((if u8 p (linkCfgOff 0) = 0 ∧ u8 p (linkCfgOff 1) ≠ 0 then linkCfgOff 1 else linkCfgOff 0) + 7))
    bound := if u32 p 4 = 0 then x.bound else u32 p 4 })
  modLink (modLink s1 (2 * n) (setLink p 0)) (2 * n + 1) (setLink p 1)

/-- A step of PORT_CONFIG. -/
def stepPortConfig (s : State) (id : Nat) (j : Job) : State := stepPort s id j (setPort j.payload)

/-- PORT_RESET: the checks of R352 from the requester's rights on. -/
def portResetChecks (_w : Who) (p : Bytes) (s : State) : Option Ans :=
  firstRefusal (portRefusal s p ++ [boundOk p 4])

/-- PORT_RESET: the effect and the answer of an accepted command. -/
def portResetEffect (w : Who) (p : Bytes) (s : State) : Ans × State :=
  startJob s w 0x0601 p [(.port (u8 p 0), false)] 0

/-- PORT_RESET's checks. -/
def portResetBody (w : Who) (p : Bytes) (s : State) : Ans × State :=
  orElse (portResetChecks w p s) s (portResetEffect w p s)

/-- PORT_RESET. -/
def specPortReset : CmdSpec := { op := 0x0601, len := lenIs 8, body := portResetBody }

/-- PORT_RESET (R84). -/
def execPortReset (m : Fin 24) (slot : Fin 8) (p : Bytes) (s : State) : Host.Outcome State Fault Refusal := .next (runCmd specPortReset m.val slot.val p s)

/-- A step of PORT_RESET. -/
def stepPortReset (s : State) (id : Nat) (j : Job) : State :=
  stepPort s id j (fun t => [2 * u8 j.payload 0, 2 * u8 j.payload 0 + 1].foldl (fun t l => modLink t l (fun x => { x with viral := false })) t)

/-- IDE_KEY_SET: the entry of a link with IDE off is zero: the checks of R352 from the requester's rights on. -/
def ideKeySetChecks (_w : Who) (p : Bytes) (s : State) : Option Ans :=
  let l := 2 * u8 p 0
  firstRefusal (portRefusal s p ++ [boundOk p 4, chk ((linkAt s l).ide || decide (leN p 8 80 = 0)) (badArg 8),
      chk ((linkAt s (l + 1)).ide || decide (leN p 88 80 = 0)) (badArg 88)])

/-- IDE_KEY_SET: the entry of a link with IDE off is zero: the effect and the answer of an accepted command. -/
def ideKeySetEffect (w : Who) (p : Bytes) (s : State) : Ans × State :=
  startJob s w 0x0604 p [(.port (u8 p 0), false)] 0

/-- IDE_KEY_SET's checks: the entry of a link with IDE off is zero. -/
def ideKeySetBody (w : Who) (p : Bytes) (s : State) : Ans × State :=
  orElse (ideKeySetChecks w p s) s (ideKeySetEffect w p s)

/-- IDE_KEY_SET. -/
def specIdeKeySet : CmdSpec := { op := 0x0604, len := lenIs 168, body := ideKeySetBody }

/-- IDE_KEY_SET (R85). -/
def execIdeKeySet (m : Fin 24) (slot : Fin 8) (p : Bytes) (s : State) : Host.Outcome State Fault Refusal := .next (runCmd specIdeKeySet m.val slot.val p s)

/-- The keys of an entry. -/
def ideEntry (p : Bytes) (o : Nat) : BitVec 256 × BitVec 256 × DWord × DWord :=
  (BitVec.ofNat 256 (beN p o 32), BitVec.ofNat 256 (beN p (o + 32) 32), BitVec.ofNat 64 (beN p (o + 64) 8), BitVec.ofNat 64 (beN p (o + 72) 8))

/-- Keys for every link of the port that has IDE on; it is Insecure no longer (R85, R86). -/
def setIdeKeys (p : Bytes) (s : State) : State :=
  [0, 1].foldl (fun s e =>
    let l := 2 * u8 p 0 + e
    if (linkAt s l).ide then
      modLink (modVault s (fun v => { v with ideKeys := tset none v.ideKeys l (some (ideEntry p (8 + 80 * e))) })) l (fun x => { x with insecure := false })
    else s) s

/-- A step of IDE_KEY_SET. -/
def stepIdeKeySet (s : State) (id : Nat) (j : Job) : State := stepPort s id j (setIdeKeys j.payload)

/-! ## PORT_LOOPBACK, PORT_STATUS -/

/-- PORT_LOOPBACK: the checks of R352 from the requester's rights on. -/
def portLoopbackChecks (_w : Who) (p : Bytes) (s : State) : Option Ans :=
  firstRefusal (portRefusal s p ++ [chk (decide (u8 p 1 ≤ 2)) (badArg 1), chk (decide (u8 p 2 ≤ 4)) (badArg 2), boundOk p 4,
      chk (decide (u32 p 8 ≤ 60000)) (badArg 8)])

/-- PORT_LOOPBACK: the effect and the answer of an accepted command. -/
def portLoopbackEffect (w : Who) (p : Bytes) (s : State) : Ans × State :=
  startJob s w 0x0602 p [(.port (u8 p 0), false)] 0

/-- PORT_LOOPBACK's checks. -/
def portLoopbackBody (w : Who) (p : Bytes) (s : State) : Ans × State :=
  orElse (portLoopbackChecks w p s) s (portLoopbackEffect w p s)

/-- PORT_LOOPBACK. -/
def specPortLoopback : CmdSpec := { op := 0x0602, len := lenIs 12, body := portLoopbackBody }

/-- PORT_LOOPBACK (R83). -/
def execPortLoopback (m : Fin 24) (slot : Fin 8) (p : Bytes) (s : State) : Host.Outcome State Fault Refusal := .next (runCmd specPortLoopback m.val slot.val p s)

/-- Words that a measurement fills (free values): n words of a number of bits. -/
def drawWords (bits : Nat) : Nat → State → Bytes × State
  | 0, s => ([], s)
  | n + 1, s =>
    let r := freeValue s
    let q := drawWords bits n r.2
    (leBytes 4 (r.1.toNat % 2 ^ bits) ++ q.1, q.2)

/-- The lanes of a link run a loopback test at the rate it had: adaptation stops in near-end loopback only (R70). -/
def loopLanes (s : State) (l rate : Nat) : State := if rate = 0 then s else (linkLanes s l).foldl (wakeLane · rate false) s

/-- A step of PORT_LOOPBACK: drain; the test; the errors of each lane (free values) and retraining. -/
def stepPortLoopback (s : State) (id : Nat) (j : Job) : State :=
  let n := u8 j.payload 0
  if j.stage = 0 then beginDrain s id
  else if j.stage = 2 then
    let s1 := modPort (portTaken s n) n (fun x => { x with loopback := true, nearEnd := decide (u8 j.payload 1 = 0) })
    toStage ([2 * n, 2 * n + 1].foldl (fun t l => loopLanes t l (linkAt s l).rate) s1) id 3
  else if j.stage = 3 then
    let s1 := [2 * n, 2 * n + 1].foldl (fun s l => (linkLanes s l).foldl sleepLane s) s
    let r := drawWords 32 16 (modPort s1 n (fun x => { x with loopback := false, nearEnd := false }))
    modJob (toStage (portRetrain r.2 n) id 4) id (fun x => { x with data := r.1 })
  else if j.stage = 4 then portWaits s id n j
  else s

/-- STATE of PORT_STATUS; a link in Recovery is training. -/
def linkCode : LState → Nat
  | .disabled => 0
  | .training => 1
  | .l0 => 2
  | .down => 3
  | .insecure => 4
  | .recovery => 1

/-- A link's part of PORT_STATUS. -/
def linkBytes (x : Link) : Bytes :=
  leBytes 1 (linkCode x.state) ++ leBytes 1 x.width ++ leBytes 1 x.rate ++ leBytes 1 (b2n x.viral + 2 * b2n x.reversed) ++
  [x.recovery, x.replay, x.miss, x.agentFault, x.stray].flatMap (fun c => leBytes 4 (ctrWord c)) ++
  leBytes 2 (x.tags.filter (·.2.isSome)).length ++ zeros 2

/-- PORT_STATUS: the checks of R352 from the requester's rights on. -/
def portStatusChecks (_w : Who) (p : Bytes) (s : State) : Option Ans :=
  firstRefusal (portRefusal s p ++ [flag01 p 1])

/-- PORT_STATUS: the effect and the answer of an accepted command. -/
def portStatusEffect (_w : Who) (p : Bytes) (s : State) : Ans × State :=
  let l := 2 * u8 p 0
  let clr := fun (x : Link) => { x with recovery := {}, replay := {}, miss := {}, agentFault := {}, stray := {} }
  (ansOk (linkBytes (linkAt s l) ++ linkBytes (linkAt s (l + 1))), if u8 p 1 = 1 then modLink (modLink s l clr) (l + 1) clr else s)

/-- PORT_STATUS. -/
def portStatusBody (w : Who) (p : Bytes) (s : State) : Ans × State :=
  orElse (portStatusChecks w p s) s (portStatusEffect w p s)

/-- PORT_STATUS. -/
def specPortStatus : CmdSpec := { op := 0x0603, len := lenIs 4, body := portStatusBody }

/-- PORT_STATUS (R371). -/
def execPortStatus (m : Fin 24) (slot : Fin 8) (p : Bytes) (s : State) : Host.Outcome State Fault Refusal := .next (runCmd specPortStatus m.val slot.val p s)

/-! ## LANE_STATUS, LANE_MARGIN, LANE_SLEEP (R70 to R73) -/

/-- The lane status word (R73); RATE and PORT_LANE of a reach lane read zero. -/
def laneWord (s : State) (f : Nat) : Nat :=
  let x := laneAt s f
  x.taps % 32 * 2 ^ 24 + x.preset % 16 * 2 ^ 20 + (if f < 128 then x.rate % 16 * 2 ^ 16 + f % 16 * 2 ^ 12 else 0) + b2n x.polInv * 2 ^ 11 +
  b2n x.reversed * 2 ^ 10 + b2n x.rxSleep * 2 ^ 9 + b2n x.txSleep * 2 ^ 8 + b2n x.adapt * 2 ^ 7 + b2n x.lol * 2 ^ 6 + b2n x.los * 2 ^ 5 + b2n x.locked * 2 ^ 4

/-- A lane's part of LANE_STATUS. -/
def laneBytes (s : State) (f : Nat) : Bytes := leBytes 4 (laneWord s f) ++ (List.range 5).flatMap (fun k => leBytes 4 (ctrWord (tget {} (laneAt s f).cnt k)))

/-- A lane's counters are cleared; a reach lane's next discard and underflow raise again (R88). -/
def laneClear (s : State) (f : Nat) : State :=
  let s1 := modLane s f (fun x => { x with cnt := [] })
  if f < 128 then s1 else modReach s1 (f - 128) (fun x => { x with discardRaised := false, underRaised := false })

/-- LANE_STATUS: the checks of R352 from the requester's rights on. -/
def laneStatusChecks (_w : Who) (p : Bytes) (s : State) : Option Ans :=
  let fs := (List.range (u8 p 1)).map (fun i => u8 p 0 + i)
  firstRefusal [firstRefusal (fs.map (laneAbsent s)), chk (decide (u8 p 0 < 160)) (badArg 0), chk (decide (u8 p 1 ≤ 32 ∧ u8 p 0 + u8 p 1 ≤ 160)) (badArg 1),
      flag01 p 2]

/-- LANE_STATUS: the effect and the answer of an accepted command. -/
def laneStatusEffect (_w : Who) (p : Bytes) (s : State) : Ans × State :=
  let fs := (List.range (u8 p 1)).map (fun i => u8 p 0 + i)
  (ansOk (fs.flatMap (laneBytes s)), if u8 p 2 = 1 then fs.foldl laneClear s else s)

/-- LANE_STATUS. -/
def laneStatusBody (w : Who) (p : Bytes) (s : State) : Ans × State :=
  orElse (laneStatusChecks w p s) s (laneStatusEffect w p s)

/-- LANE_STATUS. -/
def specLaneStatus : CmdSpec := { op := 0x0605, len := lenIs 4, body := laneStatusBody }

/-- LANE_STATUS (R73). -/
def execLaneStatus (m : Fin 24) (slot : Fin 8) (p : Bytes) (s : State) : Host.Outcome State Fault Refusal := .next (runCmd specLaneStatus m.val slot.val p s)

/-- The lane belongs to a link in L0. -/
def laneInL0 (s : State) (f : Nat) : Bool := match linkOfLane s f with | some l => decide ((linkAt s l).state = .l0) | none => false

/-- LANE_MARGIN: scans need a lane of a link in L0: the checks of R352 from the requester's rights on. -/
def laneMarginChecks (_w : Who) (p : Bytes) (s : State) : Option Ans :=
  let f := u8 p 0
  firstRefusal [laneAbsent s f, chk (decide (f < 160) && (decide (u8 p 1 ≤ 1) || laneInL0 s f)) (badArg 0), chk (decide (u8 p 1 ≤ 3)) (badArg 1)]

/-- LANE_MARGIN: scans need a lane of a link in L0: the effect and the answer of an accepted command. -/
def laneMarginEffect (w : Who) (p : Bytes) (s : State) : Ans × State :=
  let f := u8 p 0
  startJob s w 0x0606 p [(.lane f, false)] 0

/-- LANE_MARGIN's checks: scans need a lane of a link in L0. -/
def laneMarginBody (w : Who) (p : Bytes) (s : State) : Ans × State :=
  orElse (laneMarginChecks w p s) s (laneMarginEffect w p s)

/-- LANE_MARGIN. -/
def specLaneMargin : CmdSpec := { op := 0x0606, o := true, len := lenIs 4, body := laneMarginBody }

/-- LANE_MARGIN (R70, R371). -/
def execLaneMargin (m : Fin 24) (slot : Fin 8) (p : Bytes) (s : State) : Host.Outcome State Fault Refusal := .next (runCmd specLaneMargin m.val slot.val p s)

/-- The step of LANE_MARGIN: adaptation frozen or released, or the errors a scan counts (free values). -/
def stepLaneMargin (s : State) (id : Nat) (j : Job) : State :=
  let f := u8 j.payload 0
  match u8 j.payload 1 with
  | 0 => jobOk (modLane s f (fun x => { x with frozen := true, adapt := false })) id 0 (zeros 512)
  | 1 => jobOk (modLane s f (fun x => { x with frozen := false, adapt := !x.rxSleep && adaptsIn s f { x with frozen := false } })) id 0 (zeros 512)
  | 2 => let r := drawWords 32 64 s; jobOk r.2 id 0 (r.1 ++ zeros 256)
  | _ => let r := drawWords 32 128 s; jobOk r.2 id 0 r.1

/-- A lane's directions sleep or wake; a sleeping receiver keeps its adapted values. -/
def laneSleep (s : State) (f : Nat) (tx rx : Bool) : State :=
  modLane s f (fun x =>
    if rx then { x with txSleep := tx, rxSleep := true, taps := 0, adapt := false, locked := false }
    else { x with txSleep := tx, rxSleep := false, taps := dieTaps s f, adapt := adaptsIn s f x })

/-- LANE_SLEEP: not on a lane of a link that is not Disabled, nor on one that a job acts on (R19): the checks of R352 from the requester's rights on. -/
def laneSleepChecks (_w : Who) (p : Bytes) (s : State) : Option Ans :=
  let f := u8 p 0
  let idle := match linkOfLane s f with | some l => decide ((linkAt s l).state = .disabled) | none => true
  firstRefusal [laneAbsent s f, chk (decide (f < 160)) (badArg 0), flag01 p 1, flag01 p 2, chk idle busy2, freeOf s [.lane f]]

/-- LANE_SLEEP: not on a lane of a link that is not Disabled: the effect and the answer of an accepted command. -/
def laneSleepEffect (_w : Who) (p : Bytes) (s : State) : Ans × State :=
  let f := u8 p 0
  (ansOk [], laneSleep s f (decide (u8 p 1 = 1)) (decide (u8 p 2 = 1)))

/-- LANE_SLEEP: not on a lane of a link that is not Disabled. -/
def laneSleepBody (w : Who) (p : Bytes) (s : State) : Ans × State :=
  orElse (laneSleepChecks w p s) s (laneSleepEffect w p s)

/-- LANE_SLEEP. -/
def specLaneSleep : CmdSpec := { op := 0x0607, len := lenIs 4, body := laneSleepBody }

/-- LANE_SLEEP (R72). -/
def execLaneSleep (m : Fin 24) (slot : Fin 8) (p : Bytes) (s : State) : Host.Outcome State Fault Refusal := .next (runCmd specLaneSleep m.val slot.val p s)

/-! ## REACH_CONFIG (R87, R88) -/

/-- The line rates of a mode, in kb/s: NRZ or PAM4. -/
def reachRateOk (mode rate : Nat) (pam4 : Bool) : Bool :=
  let lo := if pam4 then (if mode = 1 then 40000000 else 51562500) else (if mode = 1 then 1250000 else 10312500)
  decide (lo ≤ rate ∧ rate ≤ if pam4 then 112000000 else 56000000)

/-- Bit 2 of FLAGS names a code the rate allows. -/
def fecOk (mode rate : Nat) (rs544 : Bool) : Bool :=
  decide (mode ≠ 3) || (if rs544 then decide (53125000 ≤ rate) else decide (rate < 56000000))

/-- REACH_CONFIG: sinks and sources are shell NAUs: the checks of R352 from the requester's rights on. -/
def reachConfigChecks (_w : Who) (p : Bytes) (s : State) : Option Ans :=
  let f := u8 p 0
  let mode := u8 p 1
  let fl := BitVec.ofNat 8 (u8 p 2)
  let at_ := fun (o : Nat) => if mode ≠ 0 ∧ u16 p o < 1024 then nauAbsent s (u16 p o) else none
  firstRefusal [if 128 ≤ f then laneAbsent s f else none, at_ 8, at_ 10, chk (decide (128 ≤ f ∧ f < 160)) (badArg 0), chk (decide (mode ≤ 3)) (badArg 1),
      chk (decide (mode = 0) || (decide (u8 p 2 < 8) && fecOk mode (u32 p 4) (bitOf fl 2))) (badArg 2),
      chk (decide (mode = 0) || reachRateOk mode (u32 p 4) (bitOf fl 0)) (badArg 4),
      chk (decide (mode = 0) || shellNauOk s (u16 p 8)) (badArg 8), chk (decide (mode = 0) || shellNauOk s (u16 p 10)) (badArg 10)]

/-- REACH_CONFIG: sinks and sources are shell NAUs: the effect and the answer of an accepted command. -/
def reachConfigEffect (w : Who) (p : Bytes) (s : State) : Ans × State :=
  let f := u8 p 0
  startJob s w 0x0608 p [(.lane f, false)] 0

/-- REACH_CONFIG's checks: sinks and sources are shell NAUs. -/
def reachConfigBody (w : Who) (p : Bytes) (s : State) : Ans × State :=
  orElse (reachConfigChecks w p s) s (reachConfigEffect w p s)

/-- REACH_CONFIG. -/
def specReachConfig : CmdSpec := { op := 0x0608, len := lenIs 28, body := reachConfigBody }

/-- REACH_CONFIG (R87). -/
def execReachConfig (m : Fin 24) (slot : Fin 8) (p : Bytes) (s : State) : Host.Outcome State Fault Refusal := .next (runCmd specReachConfig m.val slot.val p s)

/-- The settings of a reach lane; a change of rate or mode discards what it has buffered and relocks (R88). -/
def setReach (p : Bytes) (s : State) : State :=
  let f := u8 p 0
  let old := reachAt s (f - 128)
  let relock := decide (old.mode ≠ u8 p 1 ∨ old.rateKbps ≠ u32 p 4)
  let s1 := modReach s (f - 128) (fun x => { x with
    mode := u8 p 1, flags := u8 p 2, rateKbps := u32 p 4, sink := u16 p 8, source := u16 p 10, fir := subBytes p 12 5, fill := BitVec.ofNat 64 (u64 p 20)
    buf := if relock then [] else x.buf, tx := if relock then [] else x.tx, filler := if relock then none else x.filler })
  if !relock then s1
  else if u8 p 1 ≠ 0 ∧ configured s = true then
    modLane s1 f (fun x => { x with rxSleep := false, txSleep := false, locked := true, los := false, lol := false, adapt := !x.frozen, taps := dieTaps s f })
  else sleepLane s1 f

/-- The step of REACH_CONFIG. -/
def stepReachConfig (s : State) (id : Nat) (j : Job) : State := jobOk (setReach j.payload s) id 0 []

end Machine
end Sys2Proof
end

