-- ==== Sys2Proof/Machine/CmdCfg.lean ====
section
/-! DEFINITION. The configuration and firmware commands: CFG_LOAD, CLEAR, STATUS, STORE, ERASE, BOOT_SET, DIR, READBACK and
SCAN_STATUS, FW_UPDATE, FW_ACTIVATE; settings records; the body blocks of a load, the chain, the frame scan (R294 to R327, R359,
R360). -/

namespace Sys2Proof
namespace Machine

/-! ## Settings records (R304) -/

/-- The commands a settings record may carry: those of groups 0x04 to 0x06 that horizon A may issue, but IDE_KEY_SET. -/
def settingSpecs : List CmdSpec :=
  [specMemRead, specMemWrite, specKaoConfig, specKaoStatus, specKaoMapSet, specKaoOpSet, specKaoChanOffline, specKaoChanOnline, specKaoBist,
   specKaoScrub, specKaoInject, specKaoPatrolSet, specPeatConfig, specPeatScrub, specPeatStatus, specSiltRouteLoad, specSiltRouteRead, specSiltBypass,
   specSiltStatus, specSiltTargetRevive, specSiltProbeSet, specSiltTraceRead, specSiltLeaseSet, specNauRateSet, specNauConfig, specNauStatus,
   specPortConfig, specPortReset, specPortLoopback, specPortStatus, specLaneStatus, specLaneMargin, specLaneSleep, specReachConfig]

/-- A step of a job of groups 0x04 to 0x06. -/
def stepGroups456 (s : State) (id : Nat) (j : Job) : State :=
  match j.op with
  | 0x0400 => stepMemRead s id j
  | 0x0401 => stepMemWrite s id j
  | 0x0402 => stepKaoConfig s id j
  | 0x0404 => stepKaoMapSet s id j
  | 0x0405 => stepKaoOpSet s id j
  | 0x0406 => stepCopy s id j
  | 0x0407 => stepCopy s id j
  | 0x0408 => stepKaoBist s id j
  | 0x0409 => stepKaoScrub s id j
  | 0x040C => stepPeatConfig s id j
  | 0x040D => stepPeatScrub s id j
  | 0x0500 => stepRouteLoad s id j
  | 0x0502 => stepBypass s id j
  | 0x0506 => stepTraceRead s id j
  | 0x0600 => stepPortConfig s id j
  | 0x0601 => stepPortReset s id j
  | 0x0602 => stepPortLoopback s id j
  | 0x0604 => stepIdeKeySet s id j
  | 0x0606 => stepLaneMargin s id j
  | 0x0608 => stepReachConfig s id j
  | _ => s

/-- The settings records of an area, as opcode and payload; none: a record is malformed. -/
def parseSettings : Nat → Bytes → Option (List (Nat × Bytes))
  | 0, b => if b = [] then some [] else none
  | n + 1, b =>
    if b = [] then some []
    else
      let len := leN b 2 2
      let pad := (len + 3) / 4 * 4
      if b.length < 4 + pad ∨ zeroAt b (4 + len) (pad - len) = false then none
      else (parseSettings n (b.drop (4 + pad))).map (fun l => (leN b 0 2, subBytes b 4 len) :: l)

/-- The records of an image. -/
def settingsOf (img : Bytes) : Option (List (Nat × Bytes)) := parseSettings (imgSetLen img) (imgSettings img)

/-- Settings are applied for the owner. -/
def settingWho : Who := { hz := .a, mbx := settingMbx }

/-- The answer of a record's command; other commands are not allowed. -/
def settingAns (r : Nat × Bytes) (s : State) : Ans × State :=
  match settingSpecs.find? (fun c => decide (c.op = r.1)) with
  | some c => runBody c settingWho r.2 s
  | none => (ansBad stDenied 0, s)

/-- A record's command is accepted. -/
def settingTaken (a : Ans) : Bool := decide (a.status = stOk ∨ a.status = stJob)

/-- The device as a full load will find it: Unconfigured (R304). -/
def asUnconfigured (s : State) : State := if configured s then clearConfig s else s

/-- The status of the first record refused at stage 1. -/
def settingsRefusal (s : State) (rs : List (Nat × Bytes)) : Option Nat :=
  rs.findSome? (fun r => let a := (settingAns r (asUnconfigured s)).1; if settingTaken a then none else some a.status)

/-- A job of a settings record makes its steps at once; a drain it waits for has nothing to drain. -/
def settle : Nat → Nat → State → State
  | 0, _, s => s
  | n + 1, id, s =>
    match jobAt s id with
    | some j =>
      if j.state ≠ .running then s
      else if j.stage = 1 then settle n id (stepGroups456 (jobDrained s id) id { j with stage := 2 })
      else settle n id (stepGroups456 s id j)
    | none => s

/-- A record is applied: its status, and the state. -/
def applySetting (s : State) (r : Nat × Bytes) : Nat × State :=
  let a := settingAns r s
  if a.1.status ≠ stJob then (a.1.status, a.2)
  else
    let s1 := settle 5 a.1.job a.2
    let st := match jobAt s1 a.1.job with | some j => if j.state = .running then stOk else j.result | none => stOk
    (st, match jobAt s1 a.1.job with
      | some j => if j.state = .running then s1 else modMgmt s1 (fun g => { g with jobs := tset none g.jobs a.1.job none })
      | none => s1)

/-- Records applied in order; the status of the one refused, if any. -/
def applySettings : List (Nat × Bytes) → State → Option Nat × State
  | [], s => (none, s)
  | r :: l, s =>
    let a := applySetting s r
    if a.1 = stOk then applySettings l a.2 else (some a.1, a.2)

/-- After CFG_DONE the links that the settings name train, and the reach lanes run (R304, R316). -/
def startLanes (s : State) : State :=
  let s1 := (List.range 16).foldl (fun s l =>
    if (linkAt s l).role ≠ 0 ∧ linkLanes s l ≠ [] ∧ portUp s (l / 2) = true ∧ (linkAt s l).state = .disabled then linkStart s l true else s) s
  (List.range 32).foldl (fun s j =>
    if (reachAt s j).mode ≠ 0 ∧ laneUp s (128 + j) = true then
      modLane s (128 + j) (fun x => { x with rxSleep := false, txSleep := false, locked := true, los := false, lol := false, adapt := !x.frozen, taps := dieTaps s (128 + j) })
    else s) s1

/-! ## CFG_LOAD (R316) -/

/-- A full load would destroy the plots of a Configured device: refused while one is at the unswept limit (R251, R296). -/
def clearLimit (s : State) : Option Ans := chk (!plotIds.any (fun p => (plotAt s p).live && plotAtLimit s p)) (ansBad stBusy 5)

/-- CFG_LOAD: the checks of R352 from the requester's rights on. -/
def cfgLoadChecks (w : Who) (p : Bytes) (s : State) : Option Ans :=
  firstRefusal [chk (!noDma w || decide (u64 p 8 = 0)) dmaBad, sourceRefusal s (u8 p 0) (u8 p 1) 0 true 8 p, freeOf s [.shell],
      if configured s then clearLimit s else none]

/-- CFG_LOAD: the effect and the answer of an accepted command. -/
def cfgLoadEffect (w : Who) (p : Bytes) (s : State) : Ans × State :=
  (startFull s w p)

/-- CFG_LOAD's checks. -/
def cfgLoadBody (w : Who) (p : Bytes) (s : State) : Ans × State :=
  orElse (cfgLoadChecks w p s) s (cfgLoadEffect w p s)

/-- CFG_LOAD. -/
def specCfgLoad : CmdSpec := { op := 0x0100, o := true, len := lenIs 16, body := cfgLoadBody }

/-- CFG_LOAD (R316). -/
def execCfgLoad (m : Fin 24) (slot : Fin 8) (p : Bytes) (s : State) : Host.Outcome State Fault Refusal := .next (runCmd specCfgLoad m.val slot.val p s)

/-- The container of a full load: the segment taken, or what its source holds. -/
def cfgImage (s : State) (j : Job) : Bytes :=
  if u8 j.payload 0 = 2 then j.data else sourceImage s (u8 j.payload 0) (u8 j.payload 1) (u64 j.payload 8) (u32 j.payload 4)

/-- The header and manifest checks of a full load, its settings records included. -/
def fullRefusal (s : State) (img : Bytes) : Option LoadFail :=
  match checkHeader s 0 img with
  | some f => some f
  | none =>
    match settingsOf img with
    | none => some { reason := 0x01, stage := 1, status := stBadArg }
    | some rs => checkManifest s 0 img (settingsRefusal s rs)

/-- The end of a full load: settings records, then CFG_DONE. -/
def endFullLoad (s : State) (ld : Load) : State :=
  let r := applySettings ((settingsOf ld.image).getD []) s
  match r.1 with
  | some st => failLoad r.2 ld.job { reason := 0x08, stage := 4, status := st } .done 0
  | none => startLanes (finishFullLoad r.2 ld)

/-- A step of CFG_LOAD: with the chain as its source it arms the device and waits; the checks; the body; the end. -/
def stepCfgLoad (s : State) (id : Nat) (j : Job) : State :=
  if j.stage = 0 then
    if u8 j.payload 0 = 2 ∧ j.data = [] then
      if s.cfg.armed ∨ s.cfg.taking ≠ none then s
      else modCfg (stepDone s id) (fun c => { c with armed := true, armedBy := some id })
    else
      let img := cfgImage s j
      match ((headLost s (u8 j.payload 0) (u8 j.payload 1)).or (lengthRefusal (u8 j.payload 0) (u32 j.payload 4) img)).or (fullRefusal s img) with
      | some f => failLoad s id f .done 0
      | none =>
        match if configured s then clearLimit s else none with
        | some a => failRefused s id a.status a.detail
        | none => modJob (beginFullLoad (stepDone s id) id img) id (fun x => { x with stage := 2, data := img })
  else
    match loadOf s id with
    | some ld => if bodyDone ld then endFullLoad s ld else s
    | none => s

/-- FRAME_WRITER_BLOCK (R309, R311, R321): the next body block of a load's source reaches its frame writer; an empty one is the end of the
stream. Bytes that are not the source's next block reach no frame writer. -/
def execFrameWriterBlock (job : Fin 65536) (block : Bytes) (s : State) : Host.Outcome State Fault Refusal :=
  match loadOf s job.val, jobAt s job.val with
  | some ld, some j =>
    if bodyDone ld then .next s
    else match sourceFails s j ld with
      | some d => .next (failLoad (if d = 1 then raise s srcPeat else s) job.val { reason := 0x0E, stage := 3, status := stFault } .done d)
      | none =>
        if block ≠ nextBlock s j ld then .next s
        else match blockStep s ld block with
          | .inl f => .next (failLoad s job.val f .done 0)
          | .inr x => .next (putLoad x.1 { x.2 with sent := x.2.sent + 1 })
  | _, _ => .next s

/-! ## The chain (R314, R315) -/

/-- A symbol of a pair of the chain: idle K28.5, the opening K27.7 and the closing K29.7 of a segment, a byte. -/
inductive ChainSym where
  | idle | opening | closing | byte (b : Byte)
  deriving DecidableEq, Repr

/-- What a segment puts on pair k: byte i of the stream travels on pair i mod 4, between the opening and the closing on all four (R314). -/
def pairSyms (b : Bytes) (k : Nat) : List ChainSym :=
  [.opening] ++ ((b.zipIdx).filter (fun x => decide (x.2 % 4 = k))).map (fun x => .byte x.1) ++ [.closing]

/-- What CHAIN_OUT has sent on pair k; before, between and after the segments it is idle (R314, R315). -/
def chainOut (s : State) (k : Nat) : List ChainSym := [.idle] ++ s.cfg.forwarded.flatMap (fun b => pairSyms b k ++ [.idle])

/-- Bytes that the chain carries in some nanoseconds, at 640 MB/s (R314). -/
def chainBytes (ns : Nat) : Nat := 64 * ns / 100

/-- CHAIN_SEGMENT (R315): while armed, the device takes the first segment that is for it; every other it forwards. After a trip
CHAIN_OUT is static (R456). -/
def execChainSegment (container : Bytes) (s : State) : Host.Outcome State Fault Refusal :=
  if s.sys.phase = .held ∨ s.sys.phase = .tripHeld ∨ s.sys.thermtrip = true then .next s
  else if s.cfg.armed = true ∧ imgForDevice s container = true then
    let s1 := modCfg s (fun c => { c with armed := false, armedBy := none })
    match s.cfg.armedBy with
    | some id =>
      match jobAt s id with
      | some j =>
        if j.state = .running then .next (modCfg (modJob s1 id (fun x => { x with data := container })) (fun c => { c with taking := some id }))
        else .next s1
      | none => .next s1
    | none =>
      let r := startJob s1 ownSender 0x0100 ([2#8, 0#8] ++ zeros 14) [(.shell, false)] 0
      if r.1.status = stJob then
        .next (modCfg (modJob r.2 r.1.job (fun x => { x with data := container })) (fun c => { c with taking := some r.1.job }))
      else .next s1
  else .next (modCfg s (fun c => { c with forwarded := c.forwarded ++ [container], fwdStart := now s }))

/-- The segment under way to CHAIN_OUT is cut off downstream: what has passed of it is all that is sent (R315). -/
def cutForwarded (s : State) : State :=
  match s.cfg.forwarded.getLast? with
  | none => s
  | some b =>
    let n := chainBytes (now s - s.cfg.fwdStart)
    if n < b.length then modCfg s (fun c => { c with forwarded := c.forwarded.dropLast ++ [b.take n] }) else s

/-- CHAIN_LOCK_LOSS (R315): a load that is taking its segment fails with SOURCE; a segment being forwarded is cut off. -/
def execChainLockLoss (_pair : Fin 4) (s : State) : Host.Outcome State Fault Refusal :=
  match s.cfg.taking with
  | some id =>
    match jobAt s id with
    | some j =>
      if j.state = .running then
        .next (failLoad s id { reason := 0x0E, stage := if j.stage = 0 then 0 else 3, status := stFault } .done 1)
      else .next s
    | none => .next s
  | none => if s.sys.phase = .held ∨ s.sys.phase = .tripHeld then .next s else .next (cutForwarded s)

/-! ## CFG_CLEAR, CFG_STATUS -/

/-- CFG_CLEAR: the checks of R352 from the requester's rights on. -/
def cfgClearChecks (_w : Who) (_p : Bytes) (s : State) : Option Ans :=
  firstRefusal [freeOf s [.shell], clearLimit s]

/-- CFG_CLEAR: the effect and the answer of an accepted command. -/
def cfgClearEffect (w : Who) (p : Bytes) (s : State) : Ans × State :=
  startJob s w 0x0101 p [(.shell, false)] 0

/-- CFG_CLEAR's checks. -/
def cfgClearBody (w : Who) (p : Bytes) (s : State) : Ans × State :=
  orElse (cfgClearChecks w p s) s (cfgClearEffect w p s)

/-- CFG_CLEAR. -/
def specCfgClear : CmdSpec := { op := 0x0101, o := true, len := lenIs 0, body := cfgClearBody }

/-- CFG_CLEAR (R296). -/
def execCfgClear (m : Fin 24) (slot : Fin 8) (p : Bytes) (s : State) : Host.Outcome State Fault Refusal := .next (runCmd specCfgClear m.val slot.val p s)

/-- The step of CFG_CLEAR. -/
def stepCfgClear (s : State) (id : Nat) (_j : Job) : State :=
  match clearLimit s with
  | some a => jobFail s id a.status a.detail 0
  | none => resumeAll (jobOk (clearConfig s) id 0 [])

/-- STATE of CFG_STATUS. -/
def cfgState (s : State) : Nat := if configured s then 2 else b2n s.cfg.loading

/-- CFG_STATUS. -/
def cfgStatusBody (_w : Who) (_p : Bytes) (s : State) : Ans × State :=
  (ansOk (leBytes 1 (cfgState s) ++ leBytes 1 (b2n s.sys.cfgErr) ++ leBytes 1 s.sys.bootSrc.toNat ++
    leBytes 1 (b2n s.cfg.usedFallback + 2 * b2n s.peat.readOnly) ++ leBytes 1 s.peat.primary ++ leBytes 1 s.peat.fallback ++ zeros 2 ++
    leBytes 8 s.cfg.lastResult.toNat ++ beBytes 48 (plotAt s 0).meas.toNat), s)

/-- CFG_STATUS. -/
def specCfgStatus : CmdSpec := { op := 0x0102, o := true, len := lenIs 0, body := cfgStatusBody }

/-- CFG_STATUS (R313, R360). -/
def execCfgStatus (m : Fin 24) (slot : Fin 8) (p : Bytes) (s : State) : Host.Outcome State Fault Refusal := .next (runCmd specCfgStatus m.val slot.val p s)

/-! ## The image directory (R312) -/

/-- Image entry. -/
def imageAt (s : State) (e : Nat) : Option ImageEnt := tget none s.peat.images e

/-- CFG_STORE: a free entry: the checks of R352 from the requester's rights on. -/
def cfgStoreChecks (_w : Who) (p : Bytes) (s : State) : Option Ans :=
  firstRefusal [chk (decide (u8 p 0 < 32) && (imageAt s (u8 p 0)).isNone) (badArg 0), aligned p 8, peatRefuses s]

/-- CFG_STORE: a free entry: the effect and the answer of an accepted command. -/
def cfgStoreEffect (w : Who) (p : Bytes) (s : State) : Ans × State :=
  startJob s w 0x0103 p [(.peatImages, false)] 0

/-- CFG_STORE's checks: a free entry. -/
def cfgStoreBody (w : Who) (p : Bytes) (s : State) : Ans × State :=
  orElse (cfgStoreChecks w p s) s (cfgStoreEffect w p s)

/-- CFG_STORE. -/
def specCfgStore : CmdSpec := { op := 0x0103, len := lenIs 16, body := cfgStoreBody }

/-- CFG_STORE (R312). -/
def execCfgStore (m : Fin 24) (slot : Fin 8) (p : Bytes) (s : State) : Host.Outcome State Fault Refusal := .next (runCmd specCfgStore m.val slot.val p s)

/-- The header and signature of a container of either kind. -/
def storeRefusal (s : State) (b : Bytes) : Option LoadFail :=
  match checkHeader s (if byteAt b 6 = 0 then 0 else 1) b with
  | some f => some f
  | none =>
    if !manifestFormed b || decide (b.length ≠ leN b 0x18 4) then some { reason := 0x01, stage := 1, status := stBadArg }
    else if !sigOk b then some { reason := 0x06, stage := 1, status := stAuth }
    else none

/-- The step of CFG_STORE: the checks, then the image goes into free blocks. A store without enough of them takes no image (log 195). -/
def stepCfgStore (s : State) (id : Nat) (j : Job) : State :=
  let b := dmaRead s (u64 j.payload 8) (u32 j.payload 4)
  match peatRefuses s with
  | some a => jobFail s id a.status a.detail 0
  | none =>
    match storeRefusal s b with
    | some f => jobFail s id f.status (if f.status = stAuth then 1 else 0) (loadWord f)
    | none =>
      if (freeBlocks s.peat).length < blocksFor b.length then jobFail s id stFault 1 0
      else
        let r := takeBlocks (blocksFor b.length) (freeBlocks s.peat) s
        jobOk (sysWrite (modPeat r.2 (fun x =>
          { r.1.foldl writeBlock x with images := tset none x.images (u8 j.payload 0) (some { bytes := b, blocks := r.1 }) })) 3) id 0 []

/-- CFG_ERASE: the checks of R352 from the requester's rights on. -/
def cfgEraseChecks (_w : Who) (p : Bytes) (s : State) : Option Ans :=
  firstRefusal [chk (decide (u8 p 0 < 32)) (badArg 0), peatRefuses s]

/-- CFG_ERASE: the effect and the answer of an accepted command. -/
def cfgEraseEffect (w : Who) (p : Bytes) (s : State) : Ans × State :=
  startJob s w 0x0104 p [(.peatImages, false)] 0

/-- CFG_ERASE's checks. -/
def cfgEraseBody (w : Who) (p : Bytes) (s : State) : Ans × State :=
  orElse (cfgEraseChecks w p s) s (cfgEraseEffect w p s)

/-- CFG_ERASE. -/
def specCfgErase : CmdSpec := { op := 0x0104, len := lenIs 4, body := cfgEraseBody }

/-- CFG_ERASE (R312). -/
def execCfgErase (m : Fin 24) (slot : Fin 8) (p : Bytes) (s : State) : Host.Outcome State Fault Refusal := .next (runCmd specCfgErase m.val slot.val p s)

/-- The step of CFG_ERASE. -/
def stepCfgErase (s : State) (id : Nat) (j : Job) : State :=
  match peatRefuses s with
  | some a => jobFail s id a.status a.detail 0
  | none => jobOk (sysWrite (modPeat s (fun x => { x with images := tset none x.images (u8 j.payload 0) none })) 3) id 0 []

/-- PRIMARY or FALLBACK: none, or an entry in use. -/
def bootEntryOk (s : State) (e : Nat) : Bool := decide (e = 0xFF) || (decide (e < 32) && (imageAt s e).isSome)

/-- CFG_BOOT_SET: the checks of R352 from the requester's rights on. -/
def cfgBootSetChecks (_w : Who) (p : Bytes) (s : State) : Option Ans :=
  firstRefusal [chk (bootEntryOk s (u8 p 0)) (badArg 0), chk (bootEntryOk s (u8 p 1)) (badArg 1), peatRefuses s]

/-- CFG_BOOT_SET: the effect and the answer of an accepted command. -/
def cfgBootSetEffect (w : Who) (p : Bytes) (s : State) : Ans × State :=
  startJob s w 0x0105 p [(.peatImages, false)] 0

/-- CFG_BOOT_SET's checks. -/
def cfgBootSetBody (w : Who) (p : Bytes) (s : State) : Ans × State :=
  orElse (cfgBootSetChecks w p s) s (cfgBootSetEffect w p s)

/-- CFG_BOOT_SET. -/
def specCfgBootSet : CmdSpec := { op := 0x0105, len := lenIs 4, body := cfgBootSetBody }

/-- CFG_BOOT_SET (R312). -/
def execCfgBootSet (m : Fin 24) (slot : Fin 8) (p : Bytes) (s : State) : Host.Outcome State Fault Refusal := .next (runCmd specCfgBootSet m.val slot.val p s)

/-- The step of CFG_BOOT_SET. -/
def stepCfgBootSet (s : State) (id : Nat) (j : Job) : State :=
  match peatRefuses s with
  | some a => jobFail s id a.status a.detail 0
  | none => jobOk (sysWrite (modPeat s (fun x => { x with primary := u8 j.payload 0, fallback := u8 j.payload 1 })) 1) id 0 []

/-- An entry of CFG_DIR. -/
def dirBytes (e : Option ImageEnt) : Bytes :=
  match e with
  | none => zeros 24
  | some e => leBytes 1 1 ++ leBytes 1 (byteAt e.bytes 6) ++ leBytes 2 (leN e.bytes 8 2) ++ leBytes 4 e.bytes.length ++ subBytes e.bytes 0x28 16

/-- CFG_DIR. -/
def cfgDirBody (_w : Who) (_p : Bytes) (s : State) : Ans × State := (ansOk ((List.range 32).flatMap (fun e => dirBytes (imageAt s e))), s)

/-- CFG_DIR. -/
def specCfgDir : CmdSpec := { op := 0x0106, len := lenIs 0, body := cfgDirBody }

/-- CFG_DIR (R312). -/
def execCfgDir (m : Fin 24) (slot : Fin 8) (p : Bytes) (s : State) : Host.Outcome State Fault Refusal := .next (runCmd specCfgDir m.val slot.val p s)

/-! ## CFG_READBACK (R323) -/

/-- Frames of a range, in ascending address order. -/
def rangeFrames (r : FrameRange) : List Nat :=
  (List.range (r.rowHi + 1 - r.rowLo)).flatMap (fun i => (List.range (r.colHi + 1 - r.colLo)).flatMap (fun k =>
    (List.range (Config.columnMinors r.die (r.colLo + k))).map (fun m => frameAddr r.die (r.rowLo + i) (r.colLo + k) m)))

/-- Every frame of the dies in service that a plot holds: its map, or for the shell what no plot holds. -/
def holderFrames (s : State) (q : Nat) : List Nat :=
  if q ≠ 0 then (plotAt s q).res.ranges.flatMap rangeFrames
  else ((diesUp s).flatMap (fun d => rangeFrames { die := d, rowLo := 0, rowHi := 63, colLo := 0, colHi := 1023 })).filter (fun a => decide (plotOfFrame s a = 0))

/-- A frame of the plot, of a die in service. -/
def frameOfPlot (s : State) (q a : Nat) : Bool := if q = 0 then decide (plotOfFrame s a = 0) else inMap s q a

/-- The frames of a readback on a die, ascending. -/
def rbFrames (s : State) (p : Bytes) (die : Nat) : List Nat :=
  let all := if u16 p 2 = 0 then holderFrames s (u8 p 0) else (rbRanges p).flatMap rangeFrames
  ((all.filter (fun a => decide (a / 2 ^ 24 = die))).eraseDups).mergeSort (fun a b => decide (a ≤ b))

/-- The bytes of a frame; a dynamic one shows its current contents, which are free values here. -/
def rbBytes (s : State) (k a : Nat) : Bytes :=
  let f := tget {} s.cfg.frames a
  if f.dynamic then (List.range 8).flatMap (fun i => lineBytes (Config.openValue (s.mgmt.free + 8 * k + i)))
  else (f.bytes ++ zeros 512).take 512

/-- Frames one block holds, each as a FRAMES record. -/
def rbPerBlock : Nat := 125

/-- The number of blocks of a die. -/
def rbBlocks (n : Nat) : Nat := (n + rbPerBlock - 1) / rbPerBlock

/-- A block of a readback chain (R305, R323). -/
def rbBlock (s : State) (key : Option (BitVec 256)) (nonce : Bytes) (die i : Nat) (last : Bool) (fs : List (Nat × Nat)) (next : Bytes) : Bytes :=
  let pay := fs.flatMap (fun x => leBytes 4 (1 * 2 ^ 28 + 1) ++ leBytes 4 x.1 ++ rbBytes s x.2 x.1) ++ (if last then leBytes 4 (15 * 2 ^ 28 + 1) else [])
  let head := leBytes 4 i ++ leBytes 1 die ++ leBytes 1 (b2n last) ++ zeros 2 ++ leBytes 4 pay.length ++ zeros 4
  let body := (pay ++ zeros 65456).take 65456
  match key with
  | none => head ++ body ++ zeros 16 ++ next
  | some k =>
    let r := Config.gcmSeal k (zeros 4 ++ leBytes 4 die ++ leBytes 4 i) (nonce ++ head) body
    head ++ r.1 ++ beBytes 16 r.2.toNat ++ next

/-- The chain of a die, from block i on, with the hash of its first block: each block holds the hash of the one after it. -/
def rbChain (s : State) (key : Option (BitVec 256)) (nonce : Bytes) (die : Nat) : Nat → Nat → List (Nat × Nat) → Bytes × Bytes
  | 0, _, _ => ([], zeros 48)
  | n + 1, i, fs =>
    let r := rbChain s key nonce die n (i + 1) (fs.drop rbPerBlock)
    let b := rbBlock s key nonce die i (decide (n = 0)) (fs.take rbPerBlock) r.2
    (b ++ r.1, beBytes 48 (Config.sha384 b).toNat)

/-- The output of a readback: its chains, and the first-block hash of each die. -/
def rbOutput (s : State) (w : Horizon) (p : Bytes) : Bytes × Bytes :=
  let nonce := subBytes p 16 16
  let key := if w = .b then tenantDerived s (u8 p 0) (infoRdbk ++ nonce) else none
  [0, 1, 2, 3].foldl (fun o die =>
    let fs := (rbFrames s p die).zipIdx
    let r := rbChain s key nonce die (rbBlocks fs.length) 0 fs
    (o.1 ++ r.1, o.2 ++ r.2)) ([], [])

/-- Bytes a readback writes. -/
def rbLength (s : State) (p : Bytes) : Nat := [0, 1, 2, 3].foldl (fun n d => n + 65536 * rbBlocks (rbFrames s p d).length) 0

/-- The right to a readback (R53): horizon O the shell. -/
def rbRight (s : State) (w : Who) (q : Nat) : Bool := if w.hz = .o then decide (q = 0) else holderRight s w q

/-- The dies of the frames named. -/
def rbAbsent (s : State) (p : Bytes) : Option Ans := firstRefusal ((rbRanges p).map (fun r => dieAbsent s r.die))

/-- CFG_READBACK: the checks of R352 from the requester's rights on. -/
def cfgReadbackChecks (w : Who) (p : Bytes) (s : State) : Option Ans :=
  let q := u8 p 0
  firstRefusal [chk (rbRight s w q && (rbRanges p).all (fun r => (rangeFrames r).all (frameOfPlot s q))) (ansBad stDenied 0),
      if q ≤ 16 then plotAbsent s q else none, rbAbsent s p, chk (!noDma w) dmaBad, chk (decide (q ≤ 16)) (badArg 0), aligned p 8,
      firstRefusal ((List.range (u16 p 2)).map (fun i => let r := rangeOf (leN p (32 + 8 * i) 8)
        chk (decide (leN p (32 + 8 * i) 8 % 2 ^ 30 = 0 ∧ r.rowLo ≤ r.rowHi ∧ r.colLo ≤ r.colHi) && rangeExists r) (badArg (32 + 8 * i)))),
      chk (decide (rbLength s p ≤ u32 p 4)) (badArg 4), freeOf s [if q = 0 then .shell else .plot q]]

/-- CFG_READBACK: the effect and the answer of an accepted command. -/
def cfgReadbackEffect (w : Who) (p : Bytes) (s : State) : Ans × State :=
  startJob s w 0x0107 p [(if u8 p 0 = 0 then .shell else .plot (u8 p 0), false)] 0

/-- CFG_READBACK's checks. -/
def cfgReadbackBody (w : Who) (p : Bytes) (s : State) : Ans × State :=
  orElse (cfgReadbackChecks w p s) s (cfgReadbackEffect w p s)

/-- CFG_READBACK. -/
def specCfgReadback : CmdSpec :=
  { op := 0x0107, b := true, o := true, len := fun p => decide (32 ≤ p.length ∧ p.length = 32 + 8 * u16 p 2), body := cfgReadbackBody }

/-- CFG_READBACK (R323). -/
def execCfgReadback (m : Fin 24) (slot : Fin 8) (p : Bytes) (s : State) : Host.Outcome State Fault Refusal := .next (runCmd specCfgReadback m.val slot.val p s)

/-- The step of CFG_READBACK; a plot that has gone, or is no longer the requester's, ends it. -/
def stepCfgReadback (s : State) (id : Nat) (j : Job) : State :=
  let q := u8 j.payload 0
  let w : Who := { hz := j.hz, plot := j.plot, mbx := j.mbx }
  if q ≠ 0 ∧ (plotAt s q).live = false then jobFail s id stAbsent 5 0
  else if rbRight s w q = false then jobFail s id stDenied 0 0
  else
    let r := rbOutput s j.hz j.payload
    let n := [0, 1, 2, 3].foldl (fun n d => n + (rbFrames s j.payload d).length) 0
    jobOk (modMgmt (dmaWrite s (u64 j.payload 8) r.1) (fun g => { g with free := g.free + 8 * n })) id 0 r.2

/-! ## The frame scan (R324, R325) -/

/-- Frames of the dies in service. -/
def framesTotal (s : State) : Nat :=
  (diesUp s).foldl (fun n d => n + 64 * (List.range 1024).foldl (fun m c => m + Config.columnMinors d c) 0) 0

/-- A frame is scanned; the last of a lap ends it. -/
def scanCount (s : State) : State :=
  modCfg s (fun c =>
    if framesTotal s ≤ c.scanned + 1 then { c with scanned := 0, lastLapMs := (now s - c.lapStart) / 1000000, lapStart := now s }
    else { c with scanned := c.scanned + 1 })

/-- Word w of a frame is essential (R298). -/
def essWord (f : Frame) (w : Nat) : Bool := match f.ess with | none => true | some e => bitOf e w

/-- Source of a frame writer (R379). -/
def writerSrc (p : Nat) : Nat := 160 * p + 132

/-- Corrected bits: counted; with an essential word the essential-upset event and its record. -/
def scanCorrected (s : State) (a : Nat) (ess : Bool) : State :=
  let die := a / 2 ^ 24
  let q := plotOfFrame s a
  let s1 := modCfg s (fun c => { c with corr := ctrInc c.corr, essCorr := ctrAdd c.essCorr (b2n ess) })
  let s2 := modPlot s1 q (fun x => { x with scanCorr := ctrInc x.scanCorr, scanEss := ctrAdd x.scanEss (b2n ess), scanAddrs := (a :: x.scanAddrs).take 64 })
  if ess then report s2 { src := writerSrc die, sev := sevCorrected, cause := 0x23, plot := q, node := writerNode die, info := a } else s2

/-- An uncorrectable frame: counted; with an essential word its plot is blanked, or the shell's policy applies. -/
def scanUncorr (s : State) (a : Nat) (ess : Bool) : State :=
  let die := a / 2 ^ 24
  let q := plotOfFrame s a
  let s1 := modCfg s (fun c => { c with uncorr := ctrInc c.uncorr })
  let s2 := modPlot s1 q (fun x => { x with scanUncorr := ctrInc x.scanUncorr })
  let r : RecOf := { src := writerSrc die, sev := sevContained, cause := 0x24, plot := q, node := writerNode die, info := a }
  if !ess then report s2 r
  else if q ≠ 0 then
    let s3 := report s2 r
    let s4 := (plotAt s3 q).res.naus.foldl endTraffic (blankPlot s3 q)
    markActed (plotNotice s4 q) 0x24 (writerNode die)
  else if s.cfg.scanFatal then fatalPath (raise s2 (writerSrc die)) { r with sev := sevFatal } true false
  else raise s2 (writerSrc die)

/-- FRAME_SCAN_READ (R324, R325): dynamic frames and frames of Loading plots are skipped. -/
def execFrameScanRead (addr : Word) (found : ScanFound) (s : State) : Host.Outcome State Fault Refusal :=
  let a := addr.toNat
  let f := tget {} s.cfg.frames a
  let skip := f.dynamic || decide ((plotAt s (plotOfFrame s a)).state = .loading) || s.cfg.loading
  if !frameExists a || !dieUp s (a / 2 ^ 24) || !ohmyxRuns s then .next s
  else
    let s1 := scanCount s
    if skip then .next s1
    else match found with
      | .none => .next s1
      | .correctable bits =>
        if bits = [] ∨ 2 < bits.length then .next s1
        else .next (scanCorrected s1 a (bits.any (fun b => decide (b.val < 4096) && essWord f (b.val / 32))))
      | .uncorrectable => .next (scanUncorr s1 a ((List.range 128).any (essWord f)))

/-- CFG_SCAN_STATUS: PROGRESS in 1/256 of the lap: the checks of R352 from the requester's rights on. -/
def cfgScanStatusChecks (w : Who) (p : Bytes) (_s : State) : Option Ans :=
  let b := decide (w.hz = .b)
  firstRefusal [chk (!(b && decide (u8 p 0 = 1))) (ansBad stDenied 0), flag01 p 0, chk (decide (u8 p 0 = 0 ∨ u8 p 1 ≤ 1)) (badArg 1)]

/-- CFG_SCAN_STATUS: PROGRESS in 1/256 of the lap: the effect and the answer of an accepted command. -/
def cfgScanStatusEffect (w : Who) (p : Bytes) (s : State) : Ans × State :=
  let c := s.cfg
  let x := plotAt s w.plot
  let b := decide (w.hz = .b)
  let addrs := if b then x.scanAddrs else []
  (ansOk (leBytes 4 c.lastLapMs ++ leBytes 1 (min 255 (256 * c.scanned / max 1 (framesTotal s))) ++
      leBytes 1 (if u8 p 0 = 1 then u8 p 1 else b2n c.scanFatal) ++ leBytes 2 addrs.length ++
      leBytes 4 (ctrWord (if b then x.scanCorr else c.corr)) ++ leBytes 4 (ctrWord (if b then x.scanEss else c.essCorr)) ++
      leBytes 4 (ctrWord (if b then x.scanUncorr else c.uncorr)) ++ addrs.flatMap (leBytes 4)),
   if u8 p 0 = 1 then modCfg s (fun c => { c with scanFatal := decide (u8 p 1 = 1) }) else s)

/-- CFG_SCAN_STATUS: PROGRESS in 1/256 of the lap. -/
def cfgScanStatusBody (w : Who) (p : Bytes) (s : State) : Ans × State :=
  orElse (cfgScanStatusChecks w p s) s (cfgScanStatusEffect w p s)

/-- CFG_SCAN_STATUS. -/
def specCfgScanStatus : CmdSpec := { op := 0x0108, b := true, len := lenIs 4, body := cfgScanStatusBody }

/-- CFG_SCAN_STATUS (R324, R360). -/
def execCfgScanStatus (m : Fin 24) (slot : Fin 8) (p : Bytes) (s : State) : Host.Outcome State Fault Refusal := .next (runCmd specCfgScanStatus m.val slot.val p s)

/-! ## FW_UPDATE, FW_ACTIVATE (R326, R327, R360) -/

/-- The slot that is not running. -/
def otherSlot (s : State) : Nat := 1 - s.mgmt.slot

/-- Pieces received so far: the total length they named, and their bytes. -/
def piecesOf (s : State) : Nat × Bytes := match s.mgmt.pieces with | some (n, b, _) => (n, b) | none => (0, [])

/-- A piece: out of order, or past LENGTH, it discards every piece; it is kept; or it completes the image, and the job starts. -/
def fwPiece (w : Who) (p : Bytes) (s : State) : Ans × State :=
  let len := u32 p 0
  let got := piecesOf s
  let data := p.drop 16
  let all := got.2 ++ data
  if u32 p 4 ≠ got.2.length ∨ len < all.length ∨ (got.2 ≠ [] ∧ got.1 ≠ len) then
    (badArg (if len < all.length then 0 else 4), modMgmt s (fun g => { g with pieces := none }))
  else if all.length < len then (ansOk [], modMgmt s (fun g => { g with pieces := some (len, all, now s) }))
  else
    let r := startJob s w 0x0109 (p.take 16) [(.fw, false)] 0
    if r.1.status = stJob then (r.1, modJob (modMgmt r.2 (fun g => { g with pieces := none })) r.1.job (fun x => { x with data := all })) else r

/-- FW_UPDATE: the checks of R352 from the requester's rights on. -/
def fwUpdateChecks (w : Who) (p : Bytes) (s : State) : Option Ans :=
  let dma := decide (u64 p 8 ≠ 0)
  firstRefusal [chk (!(dma && noDma w)) dmaBad, chk (decide (u32 p 0 ≠ 0 ∧ u32 p 0 ≤ 4194304)) (badArg 0), chk (!dma || decide (u32 p 4 = 0)) (badArg 4), aligned p 8,
      peatRefuses s]

/-- FW_UPDATE: the effect and the answer of an accepted command. -/
def fwUpdateEffect (w : Who) (p : Bytes) (s : State) : Ans × State :=
  let dma := decide (u64 p 8 ≠ 0)
  if dma then startJob s w 0x0109 p [(.fw, false)] 0 else fwPiece w p s

/-- FW_UPDATE. -/
def fwUpdateBody (w : Who) (p : Bytes) (s : State) : Ans × State :=
  orElse (fwUpdateChecks w p s) s (fwUpdateEffect w p s)

/-- FW_UPDATE: DATA of 1 to 2,016 bytes when ADDR is 0. -/
def specFwUpdate : CmdSpec :=
  { op := 0x0109, len := fun p => decide (16 ≤ p.length) && (if u64 p 8 = 0 then decide (17 ≤ p.length ∧ p.length ≤ 2032) else decide (p.length = 16))
    body := fwUpdateBody }

/-- FW_UPDATE (R327). -/
def execFwUpdate (m : Fin 24) (slot : Fin 8) (p : Bytes) (s : State) : Host.Outcome State Fault Refusal := .next (runCmd specFwUpdate m.val slot.val p s)

/-- The step of FW_UPDATE: the slot is written, verified and marked; in ROM mode a slot that verifies is started. -/
def stepFwUpdate (s : State) (id : Nat) (j : Job) : State :=
  let img := if u64 j.payload 8 = 0 then j.data else dmaRead s (u64 j.payload 8) (u32 j.payload 0)
  let k := otherSlot s
  match peatRefuses s with
  | some a => jobFail s id a.status a.detail 0
  | none =>
    let s1 := modPeat s (fun x => { ((fwBlocks k).take (blocksFor img.length)).foldl writeBlock x with fw := tset none x.fw k (some (img, true)) })
    if slotAccepted s1 k then
      let s2 := jobOk s1 id 0 []
      if s.sys.phase = .romMode then modSys s2 (fun y => { y with phase := .trained }) else s2
    else jobFail (modPeat s1 (fun x => { x with fw := tset none x.fw k (some (img, false)) })) id stAuth 1 0

/-- An open job has passed the point where it cannot fail. -/
def jobSure (s : State) : Bool :=
  s.mgmt.jobs.any (fun kv => match kv.2 with | some j => decide (j.state = .running) && j.sure | none => false)

/-- FW_ACTIVATE: the restart is asked for: the checks of R352 from the requester's rights on. -/
def fwActivateChecks (_w : Who) (_p : Bytes) (s : State) : Option Ans :=
  firstRefusal [chk (slotAccepted s (otherSlot s)) (badArg 0), chk (!jobSure s) busy2, freeOf s [.fw]]

/-- FW_ACTIVATE: the restart is asked for: the effect and the answer of an accepted command. -/
def fwActivateEffect (_w : Who) (_p : Bytes) (s : State) : Ans × State :=
  (ansOk [], modMgmt s (fun g => { g with restartFw := true }))

/-- FW_ACTIVATE: the restart is asked for. -/
def fwActivateBody (w : Who) (p : Bytes) (s : State) : Ans × State :=
  orElse (fwActivateChecks w p s) s (fwActivateEffect w p s)

/-- FW_ACTIVATE. -/
def specFwActivate : CmdSpec := { op := 0x010A, len := lenIs 0, body := fwActivateBody }

/-- FW_ACTIVATE (R327, R360): the restart begins once the slot is DONE. -/
def execFwActivate (m : Fin 24) (slot : Fin 8) (p : Bytes) (s : State) : Host.Outcome State Fault Refusal :=
  let s1 := runCmd specFwActivate m.val slot.val p s
  .next (if s1.mgmt.restartFw && !s1.mgmt.restarting then restartBegin s1 3 else s1)

end Machine
end Sys2Proof
end

