-- ==== Sys2Proof/Machine/CmdEvt.lean ====
section
/-! DEFINITION. Events, error records and crash dumps: EVT_ROUTE, EVT_REARM, EVT_STATUS, ERR_READ, the dump commands, and the rows of
the event controller and of the dump (R374, R379 to R405). -/

namespace Sys2Proof
namespace Machine

/-! ## Sources and routes (R374, R382, R383) -/

/-- A source number names a source of the tables (R379, R380). -/
def srcKnown (i : Nat) : Bool := decide (i < 768) && !srcReserved i

/-- A notice source (R383). -/
def noticeSrc (i : Nat) : Bool := decide (704 ≤ i ∧ i ≤ 712)

/-- The refusal of a source whose unit is absent or removed (R29). Every source of a position without a die is absent (R380). -/
def srcAbsent (s : State) (i : Nat) : Option Ans :=
  if i < 640 ∧ dieFitted s (i / 160) = false then some (ansBad stAbsent 1)
  else if !srcKnown i || srcUp s i then none
  else if i < 640 then
    firstRefusal [if i % 160 = 133 then none else dieAbsent s (i / 160), if 105 ≤ i % 160 ∧ i % 160 ≤ 122 then stackAbsent s (i / 160) else none,
      some (ansBad stAbsent 1)]
  else some (ansBad stAbsent 1)

/-- The requester routes and re-arms the source (R382): the holder of the plot it is assigned to, else the owner. -/
def srcRight (s : State) (w : Who) (i : Nat) : Bool :=
  match w.hz with
  | .b => decide (plotOfSrc s i = some w.plot)
  | _ => match plotOfSrc s i with
    | some q => !tenantHeld s q
    | none => true

/-- Rights of EVT_ROUTE (R374): a tenant sets neither PINS nor FW, and no function but its own. -/
def routeRight (s : State) (w : Who) (p : Bytes) : Bool :=
  srcRight s w (u16 p 0) &&
  (decide (w.hz ≠ .b) || (decide (u8 p 4 = 0 ∧ u8 p 6 = 0) && (decide (u8 p 2 = 0xFF) || decide (u8 p 2 = (plotAt s w.plot).res.vf))))

/-- Field values of EVT_ROUTE. -/
def routeFields (p : Bytes) : Option Ans :=
  let i := u16 p 0
  firstRefusal [chk (srcKnown i) (badArg 0),
    if noticeSrc i then firstRefusal [chk (decide (u8 p 2 = 0xFF)) (badArg 2), chk (decide (u8 p 5 = 0xFF)) (badArg 5), chk (decide (u16 p 8 = 0)) (badArg 8),
        chk (decide (u16 p 10 = 0)) (badArg 10)]
      else firstRefusal [chk (decide (u8 p 2 ≤ 16 ∨ u8 p 2 = 0xFF)) (badArg 2),
        chk (decide (u8 p 2 = 0xFF ∨ (2 ≤ u8 p 3 ∧ u8 p 3 < (if u8 p 2 = 0 then 64 else 8)))) (badArg 3)],
    chk (decide (u8 p 4 < 16)) (badArg 4), chk (decide (u8 p 5 < 16 ∨ u8 p 5 = 0xFF)) (badArg 5), chk (decide (u8 p 6 ≤ 1)) (badArg 6),
    chk (decide (u16 p 8 ≤ 1000)) (badArg 8)]

/-- The route a request gives a source (R382, R387, R388); the bucket is full. -/
def routeSet (w : Who) (p : Bytes) (c : Src) : Src :=
  { c with
    func := u8 p 2
    vector := u8 p 3
    pins := BitVec.ofNat 4 (u8 p 4)
    fabric := if u8 p 5 = 0xFF then none else some (if w.hz = .b then w.plot else 0, u8 p 5)
    fw := decide (u8 p 6 = 1)
    rate := if u16 p 8 = 0 then 64 else u16 p 8
    stuckMs := if u16 p 10 = 0 then 1000 else u16 p 10
    used := 0 }

/-- EVT_ROUTE: the checks of R352 from the requester's rights on. -/
def evtRouteChecks (w : Who) (p : Bytes) (s : State) : Option Ans :=
  firstRefusal [chk (routeRight s w p) (ansBad stDenied 0), srcAbsent s (u16 p 0), routeFields p]

/-- EVT_ROUTE: the effect and the answer of an accepted command. -/
def evtRouteEffect (w : Who) (p : Bytes) (s : State) : Ans × State :=
  (ansOk [], modSrc s (u16 p 0) (routeSet w p))

/-- EVT_ROUTE. -/
def evtRouteBody (w : Who) (p : Bytes) (s : State) : Ans × State :=
  orElse (evtRouteChecks w p s) s (evtRouteEffect w p s)

/-- EVT_ROUTE. -/
def specEvtRoute : CmdSpec := { op := 0x0800, b := true, len := lenIs 16, body := evtRouteBody }

/-- EVT_ROUTE (R374, R382). -/
def execEvtRoute (m : Fin 24) (slot : Fin 8) (p : Bytes) (s : State) : Host.Outcome State Fault Refusal := .next (runCmd specEvtRoute m.val slot.val p s)

/-- EVT_REARM: an auto-masked source is armed again: the checks of R352 from the requester's rights on. -/
def evtRearmChecks (w : Who) (p : Bytes) (s : State) : Option Ans :=
  let i := u16 p 0
  firstRefusal [chk (srcRight s w i) (ansBad stDenied 0), srcAbsent s i, chk (srcKnown i) (badArg 0)]

/-- EVT_REARM: an auto-masked source is armed again: the effect and the answer of an accepted command. -/
def evtRearmEffect (_w : Who) (p : Bytes) (s : State) : Ans × State :=
  let i := u16 p 0
  (ansOk [], modSrc s i (fun c => if c.state = .masked then { c with state := .armed, owed := 0 } else c))

/-- EVT_REARM: an auto-masked source is armed again. -/
def evtRearmBody (w : Who) (p : Bytes) (s : State) : Ans × State :=
  orElse (evtRearmChecks w p s) s (evtRearmEffect w p s)

/-- EVT_REARM. -/
def specEvtRearm : CmdSpec := { op := 0x0801, b := true, len := lenIs 4, body := evtRearmBody }

/-- EVT_REARM (R388). -/
def execEvtRearm (m : Fin 24) (slot : Fin 8) (p : Bytes) (s : State) : Host.Outcome State Fault Refusal := .next (runCmd specEvtRearm m.val slot.val p s)

/-- Code of a source's state (R374). -/
def srcCode : SrcState → Nat
  | .armed => 0
  | .coalescing => 1
  | .masked => 2

/-- EVT_STATUS; a tenant reads its own sources, and of a notice source the notices to its own VF (R383). CLEAR clears the counts and
the pin flag (R384): the checks of R352 from the requester's rights on. -/
def evtStatusChecks (w : Who) (p : Bytes) (s : State) : Option Ans :=
  let i := u16 p 0
  let mine := decide (w.hz = .b) && noticeSrc i
  firstRefusal [chk (mine || decide (w.hz ≠ .b) || srcRight s w i) (ansBad stDenied 0), srcAbsent s i, chk (srcKnown i) (badArg 0), flag01 p 2]

/-- EVT_STATUS; a tenant reads its own sources, and of a notice source the notices to its own VF (R383). CLEAR clears the counts and
the pin flag (R384): the effect and the answer of an accepted command. -/
def evtStatusEffect (w : Who) (p : Bytes) (s : State) : Ans × State :=
  let i := u16 p 0
  let mine := decide (w.hz = .b) && noticeSrc i
  let key := 32 * (i - 640) + (plotAt s w.plot).res.vf
  let c := srcAt s i
  (ansOk (leBytes 1 (srcCode c.state) ++ zeros 3 ++ leBytes 4 (ctrWord (if mine then tget {} s.evt.notices key else c.count)) ++
      leBytes 4 (if mine then 0 else ctrWord c.coalesced) ++ zeros 4 ++ leBytes 8 c.lastNs),
   if u8 p 2 = 0 then s
   else if mine then modEvt s (fun e => { e with notices := tset {} e.notices key {} })
   else modSrc s i (fun c => { c with count := {}, coalesced := {}, pinFlag := false }))

/-- EVT_STATUS; a tenant reads its own sources, and of a notice source the notices to its own VF (R383). CLEAR clears the counts and
the pin flag (R384). -/
def evtStatusBody (w : Who) (p : Bytes) (s : State) : Ans × State :=
  orElse (evtStatusChecks w p s) s (evtStatusEffect w p s)

/-- EVT_STATUS. -/
def specEvtStatus : CmdSpec := { op := 0x0802, b := true, len := lenIs 4, body := evtStatusBody }

/-- EVT_STATUS (R374). -/
def execEvtStatus (m : Fin 24) (slot : Fin 8) (p : Bytes) (s : State) : Host.Outcome State Fault Refusal := .next (runCmd specEvtStatus m.val slot.val p s)

/-! ## The record ring (R391, R395) -/

/-- A record's 32 bytes with an INFO (R391). -/
def recBytes (r : Rec) (info : Nat) : Bytes :=
  leBytes 32 (r.seq % 2 ^ 32 * 2 ^ 224 + r.time % 2 ^ 64 * 2 ^ 160 + r.src % 1024 * 2 ^ 150 + r.sev % 8 * 2 ^ 147 + b2n r.isOpen * 2 ^ 146 +
    r.plot % 32 * 2 ^ 141 + r.cause % 256 * 2 ^ 133 + r.rpt % 65536 * 2 ^ 117 + r.sub % 65536 * 2 ^ 80 + r.node % 1024 * 2 ^ 64 + info % 2 ^ 64)

/-- INFO as the owner sees it (R395): of a tenant-held plot a slice's line address shows its granule, a frame address nothing; a
Kaolin record names the granule already (R250). DESIGN CHOICE (log 194): whether the plot is tenant-held is asked at the read. -/
def ownerInfo (s : State) (r : Rec) : Nat :=
  if tenantHeld s r.plot then
    if r.cause = 0x23 ∨ r.cause = 0x24 ∨ r.cause = 0x25 then 0
    else if r.sev = sevContained ∧ r.src < 640 ∧ 100 ≤ r.src % 160 ∧ r.src % 160 ≤ 103 then 64 * r.info / 2 ^ 21
    else r.info
  else r.info

/-- The records of a view: the owner's (none) or a plot's. -/
def viewRecs (s : State) (view : Option Nat) : List (Nat × Bytes) :=
  match view with
  | none => s.evt.ring.map (fun r => (r.seq, recBytes r (ownerInfo s r)))
  | some q => (s.evt.ring.filter (fun r => decide (r.plot = q))).map (fun r => (r.seq, recBytes r r.info))

/-- ERR_READ. -/
def errReadBody (w : Who) (p : Bytes) (s : State) : Ans × State :=
  let l := ((viewRecs s (if w.hz = .b then some w.plot else none)).filter (fun r => decide (u32 p 0 ≤ r.1))).take (u8 p 4)
  let next := match l.getLast? with | some r => r.1 + 1 | none => u32 p 0
  let lost := if w.hz = .b then tget {} s.evt.lostB w.plot else s.evt.lostA
  orElse (chk (decide (u8 p 4 ≤ 60)) (badArg 4)) s
    (ansOk (leBytes 4 next ++ leBytes 4 (ctrWord lost) ++ leBytes 1 l.length ++ zeros 3 ++ l.flatMap (·.2)), s)

/-- ERR_READ. -/
def specErrRead : CmdSpec := { op := 0x0803, b := true, len := lenIs 8, body := errReadBody }

/-- ERR_READ (R395). -/
def execErrRead (m : Fin 24) (slot : Fin 8) (p : Bytes) (s : State) : Host.Outcome State Fault Refusal := .next (runCmd specErrRead m.val slot.val p s)

/-! ## The event controller on its own (R387 to R389, R394) -/

/-- SOURCE_RAISE (R387). -/
def execSourceRaise (src : Fin 768) (s : State) : Host.Outcome State Fault Refusal := .next (raise s src.val)

/-- COALESCE_DELIVERY (R387): the next token delivers one message for all coalesced raises. -/
def execCoalesceDelivery (src : Fin 768) (s : State) : Host.Outcome State Fault Refusal :=
  let c := srcAt s src.val
  if c.state = .coalescing ∧ 0 < c.owed then
    let s1 := deliver (modSrc s src.val (fun c => { (srcTake c (now s)) with owed := 0 })) src.val
    .next (if 640 ≤ src.val then sendOwed s1 (src.val - 640) else s1)
  else .next s

/-- COALESCING_END (R387): 1 ms has passed without coalescing. -/
def execCoalescingEnd (src : Fin 768) (s : State) : Host.Outcome State Fault Refusal :=
  let c := srcAt s src.val
  if c.state = .coalescing ∧ c.owed = 0 then .next (stormCheck (modSrc s src.val (fun c => { c with state := .armed }))) else .next s

/-- The source counts as active (R381): a held level, or coalescing. -/
def srcActive (c : Src) : Bool := c.active || decide (c.state = .coalescing)

/-- AUTO_MASKED (R388): the source has been active for longer than STUCK_MS. -/
def execAutoMasked (src : Fin 768) (s : State) : Host.Outcome State Fault Refusal :=
  let c := srcAt s src.val
  if srcActive c && decide (c.stuckMs ≠ 0xFFFF ∧ c.state ≠ .masked) then
    .next (raise (record (modSrc s src.val (fun c => { c with state := .masked, owed := 0 }))
      { src := src.val, sev := sevInfo, cause := 0x2E, plot := (plotOfSrc s src.val).getD 0, node := evtNode }) srcEvt)
  else .next s

/-- HANDLING_WINDOW_CLOSE (R394): 100 ms after a record was made. -/
def execHandlingWindowClose (seq : Word) (s : State) : Host.Outcome State Fault Refusal :=
  .next (modEvt s (fun e => { e with ring := e.ring.map (fun r => if r.seq = seq.toNat then { r with isOpen := false } else r) }))

/-- A record whose cause still requires an action of Ohmyx: a restart under way, a plot's uncorrectable frame not yet blanked (R394). -/
def needsAction (r : Rec) : Bool := !r.acted && (decide (r.cause = 0x22) || (decide (r.cause = 0x24) && decide (r.plot ≠ 0)))

/-- Ohmyx reads the new records and marks handled those that require nothing more of it; not in the fatal state (R394). -/
def readRecords (s : State) : State :=
  if s.sys.fatal then s
  else modEvt s (fun e => { e with ring := e.ring.map (fun r => if needsAction r then r else { r with isOpen := false }) })

/-! ## What a dump holds (R400 to R403) -/

/-- One item (R403). -/
def itemBytes (ty entryLen : Nat) (es : List Bytes) : Bytes :=
  leBytes 2 ty ++ zeros 2 ++ leBytes 4 es.length ++ leBytes 4 entryLen ++ zeros 4 ++ es.flatten

/-- A tracker's 16 bytes (R112). -/
def trkBytes (x : Trk) : Bytes :=
  let st := match x.state with
    | .free => 0 | .eval => 1 | .waitRsp => 2 | .waitMem => 3 | .waitGrain => 4 | .waitLock => 5 | .waitDeliver => 6
  leBytes 16 (st * 2 ^ 124 + b2n x.lock * 2 ^ 123 + b2n x.pois * 2 ^ 122 + (x.agent.getD 0) % 4096 * 2 ^ 110 + x.line % 2 ^ 46 * 2 ^ 64 + x.tag % 65536 * 2 ^ 48 +
    x.pend % 4096 * 2 ^ 36 + x.scratch.toNat * 2 ^ 20 + (x.next.getD 0) % 1024 * 2 ^ 10 + b2n x.next.isSome * 2 ^ 9 + x.gen % 16 * 2 ^ 5)

/-- The holder of a tracker's agent. -/
def trkPlot (s : State) (x : Trk) : Nat := match x.agent with | some a => plotOfAgent s a | none => 0

/-- Trackers in use by agents of a holder. -/
def itemTrackers (s : State) (q : Nat) : Bytes :=
  itemBytes 0x02 20 ((slicesUp s).flatMap (fun i =>
    ((sliceAt s i).trks.filter (fun kv => decide (kv.2.state ≠ .free) && decide (trkPlot s kv.2 = q))).map (fun kv =>
      leBytes 1 i ++ zeros 1 ++ leBytes 2 kv.1 ++ trkBytes kv.2)))

/-- Parked requests of agents of a holder. -/
def itemParked (s : State) (q : Nat) : Bytes :=
  itemBytes 0x03 20 ((slicesUp s).flatMap (fun i =>
    ((sliceAt s i).parked.filter (fun m => decide (plotOfAgent s (fld m.hdr 123 112) = q))).map (fun m => leBytes 1 i ++ zeros 3 ++ leBytes 16 m.hdr.toNat)))

/-- Both planes of a route-table bank of a node's routers, as SILT_ROUTE_READ gives them. -/
def bankBytes (s : State) (bank : Bool) (n : Nat) : Bytes :=
  [0, 1].flatMap (fun pl => (List.range 256).map (fun i =>
    BitVec.ofNat 8 (setCode (bankOf s bank) n pl (4 * i) + 16 * setCode (bankOf s bank) n pl (4 * i + 2))))

/-- Packets in the class buffers of a node's routers, by class code. -/
def bufferCount (s : State) (n c : Nat) : Nat :=
  (s.silt.flights.filter (fun f => decide (f.node / 2 = n / 2 ∧ clsCode f.pkt.cls = c ∧ f.inCode ≠ 15))).length

/-- The Silt routers in service. -/
def itemRouters (s : State) : Bytes :=
  itemBytes 0x04 1088 (((bufferNodes s).filter (attUp s)).map (fun n =>
    leBytes 4 (routerWord s n) ++ linkCodes.flatMap (fun c => leBytes 4 (ctrWord (tget {} (routerAt s n).resends c))) ++
    bankBytes s false n ++ bankBytes s true n ++ (List.range 4).flatMap (fun c => leBytes 4 (bufferCount s n c)) ++ zeros 16))

/-- NAU registers of a holder's NAUs. -/
def itemNaus (s : State) (q : Nat) : Bytes :=
  let ns := (List.range 1024).filter (fun n => (nauNumber n).isSome && attUp s n && decide (plotOfNau s n = q))
  itemBytes 0x05 64 (ns.map (fun n => leBytes 2 n ++ zeros 2 ++ (List.range 15).flatMap (fun i => leBytes 4 (nauReg s n (4 * i)))))

/-- The owner, as the requester whose responses the items copy. -/
def dumpWho : Who := { hz := .a }

/-- A response payload as an entry; none where the unit is absent. -/
def statusEntry (body : Who → Bytes → State → Ans × State) (s : State) (p : Bytes) : List Bytes :=
  let r := (body dumpWho p s).1
  if r.status = stOk then [r.payload] else []

/-- Ports and links, lanes, Kaolin fronts, die-link groups, each as its status command gives it. -/
def itemUnits (s : State) : Bytes :=
  itemBytes 0x06 56 ((List.range 8).flatMap (fun n => statusEntry portStatusBody s (leBytes 1 n ++ zeros 3))) ++
  itemBytes 0x07 24 (((List.range 160).filter (fun f => (laneAbsent s f).isNone)).map (laneBytes s)) ++
  itemBytes 0x08 288 ((List.range 32).flatMap (fun k => statusEntry kaoStatusBody s (leBytes 1 (k / 8) ++ leBytes 1 (k % 8) ++ zeros 2))) ++
  itemBytes 0x09 100 ((List.range 128).flatMap (fun g => statusEntry dlinkStatusBody s (leBytes 1 g ++ zeros 3)))

/-- Flows of a holder. -/
def holderFlows (s : State) (q : Nat) : List Nat := (List.range 8192).filter (fun f => decide (plotOfFlow s f = q))

/-- Flow contexts and the grains on chip. -/
def itemFlows (s : State) (q : Nat) : Bytes :=
  let fs := if s.sys.eff.grn then holderFlows s q else []
  itemBytes 0x0A 12 (fs.map (fun f => leBytes 2 f ++ zeros 2 ++ leBytes 8 (flowContext s f).toNat)) ++
  itemBytes 0x0B 96 (fs.flatMap (fun f => ((flowAt s f).q.filter (fun g => !g.spilled)).map (fun g =>
    leBytes 32 g.desc.toNat ++ lineBytes (g.pay.getD 0#512))))

/-- Line locks of a holder's NAUs. -/
def itemLocks (s : State) (q : Nat) : Bytes :=
  itemBytes 0x0C 12 ((s.silt.locks.filter (fun l => decide (plotOfNau s l.node = q))).map (fun l =>
    leBytes 2 (frontNode (addrStack (64 * l.line)) (frontOf s (64 * l.line))) ++ leBytes 2 l.node ++ leBytes 8 l.line))

/-- Job records, in JOB_STATUS's form. -/
def itemJobs (s : State) (keep : Job → Bool) : Bytes :=
  itemBytes 0x0D 2032 (s.mgmt.jobs.flatMap (fun kv => match kv.2 with
    | some j => if keep j then [(jobBytes s kv.1 j ++ zeros 2032).take 2032] else []
    | none => []))

/-- Scratchpad banks 0 to 3. -/
def itemOhmyx (s : State) : Bytes :=
  itemBytes 0x0E 262144 ((List.range 4).map (fun b => (List.range 65536).flatMap (fun i => leBytes 4 (tget 0#32 s.mgmt.spd (65536 * b + i)).toNat)))

/-- The record ring in a view. -/
def itemRing (s : State) (view : Option Nat) : Bytes := itemBytes 0x01 32 ((viewRecs s view).map (·.2))

/-- Items of a section (R403): 0 vendor, 1 owner, 2 a plot's. -/
def sectBody (s : State) (kind q : Nat) : Bytes :=
  match kind with
  | 0 => itemRing s none ++ itemRouters s ++ itemUnits s ++ itemOhmyx s
  | 1 => itemRing s none ++ itemTrackers s 0 ++ itemParked s 0 ++ itemRouters s ++ itemNaus s 0 ++ itemUnits s ++ itemFlows s 0 ++ itemLocks s 0 ++
      itemJobs s (fun j => decide (j.hz = .a))
  | _ => itemRing s (some q) ++ itemTrackers s q ++ itemParked s q ++ itemNaus s q ++ itemFlows s q ++ itemLocks s q ++
      itemJobs s (fun j => decide (j.hz ≠ .none ∧ j.mbx = (plotAt s q).res.vf))

/-- The sections of a dump: the vendor's, the owner's, one for each plot that exists (R400). -/
def dumpSects (s : State) : List (Nat × Nat) :=
  if s.vault.randomOk then [(0, 0), (1, 0)] ++ (plotIds.filter (fun q => (plotAt s q).live)).map (fun q => (2, q)) else []

/-- FLAGS of the dump header (R400). -/
def dumpFlags (s : State) (direct : Bool) : Nat :=
  b2n (!s.vault.randomOk) + 2 * b2n s.sys.nested + 4 * b2n s.sys.secondFatal + 8 * b2n direct

/-- The 64-byte dump header (R400). -/
def dumpHeader (s : State) (id : Nat) (head : Nat × Nat × Nat × Nat) (flags n total : Nat) : Bytes :=
  leBytes 4 0x4D444B47 ++ leBytes 2 1 ++ leBytes 2 (partCode s.sys.part) ++ leBytes 8 id ++ leBytes 8 head.2.2.2 ++ leBytes 8 s.vault.serial.toNat ++
  leBytes 4 (s.mgmt.fw.2.1 * 256 + s.mgmt.fw.2.2) ++ leBytes 4 head.1 ++ leBytes 2 head.2.1 ++ leBytes 1 head.2.2.1 ++ leBytes 1 flags ++
  leBytes 2 n ++ zeros 2 ++ leBytes 4 total ++ zeros 12

/-- The key of a section (R65, R402): the draw of the vendor section's ephemeral scalar; none: no key is usable. -/
def sectKey (s : State) (id kind q draw : Nat) : Option (BitVec 256) :=
  if kind = 0 then some (Config.hkdf (beBytes 48 (Config.ecdh (Config.drbg draw) Config.vendorRootPub).toNat) (leBytes 8 id) infoDumpV)
  else if kind = 2 ∧ tenantHeld s q = true then tenantDerived s q (infoDump ++ leBytes 8 id)
  else (ownerKey s).map (fun k => Config.hkdf (beBytes 32 k.toNat) [] (infoDump ++ leBytes 8 id))

/-- Bytes 0x000 to 0x00F of a section. -/
def sectHead (s : State) (kind q len : Nat) : Bytes :=
  leBytes 1 kind ++ leBytes 1 q ++ leBytes 1 (b2n (decide (kind = 2) && tenantHeld s q)) ++ zeros 1 ++
  leBytes 4 (if kind = 2 then (plotAt s q).gen else 0) ++ leBytes 4 len ++ zeros 4

/-- A section as stored (R401, R402): its header and its encrypted body; zero where no key is usable. -/
def sealSect (s : State) (hdr : Bytes) (id draw kind q : Nat) (body : Bytes) : Bytes :=
  let nonce := leBytes 12 (Config.drbg (draw + 1)).toNat
  let epub := if kind = 0 then pubBytes (Config.ecPub (Config.drbg draw)) else zeros 96
  match sectKey s id kind q draw with
  | some k =>
    let h := sectHead s kind q body.length
    let r := Config.gcmSeal k nonce (hdr ++ h) body
    h ++ nonce ++ zeros 4 ++ leBytes 16 r.2.toNat ++ zeros 16 ++ epub ++ zeros 96 ++ r.1
  | none => sectHead s kind q 0 ++ nonce ++ zeros 4 ++ zeros 16 ++ zeros 16 ++ epub ++ zeros 96

/-- The dump that Ohmyx begins: its identifier and the bodies of its sections, in order. -/
def planDump (s : State) : DumpPlan :=
  { id := (drawOf s).toNat % 2 ^ 64, draw := s.vault.draws + 1, direct := s.dumps.direct || !stackUp s 0
    bodies := (dumpSects s).map (fun k => (k.1, k.2, if (sectKey s 0 k.1 k.2 0).isSome then sectBody s k.1 k.2 else [])) }

/-- The whole dump as stored: header, sections in order, two draws for each. -/
def sealDump (s : State) (p : DumpPlan) : Dump :=
  let head := s.dumps.head.getD (0, 0, 0, 0)
  let flags := dumpFlags s p.direct
  let n := p.bodies.length
  let hdr := dumpHeader s p.id head flags n (dumpEnd n (p.bodies.map (fun b => 256 + b.2.2.length)))
  { id := p.id, time := head.2.2.2, causeSeq := head.1, src := head.2.1, cause := head.2.2.1, flags := flags
    sects := p.bodies.zipIdx.map (fun x =>
      let k := x.1.1
      let q := x.1.2.1
      (k, q, decide (k = 2) && tenantHeld s q, if k = 2 then (plotAt s q).gen else 0, sealSect s hdr p.id (p.draw + 2 * x.2) k q x.1.2.2)) }

/-- The Peat slot that a copy goes to: a free one, or the older copy's. -/
def slotForCopy (l : List Dump) : Nat :=
  match [0, 1].find? (fun k => !l.any (fun d => decide (d.slot = k))) with
  | some k => k
  | none => match l with | d :: _ => d.slot | [] => 0

/-- A copy goes to a free Peat slot, or takes the place of the older copy; none while the store is read-only (R404). -/
def peatCopy (s : State) (d : Dump) : State :=
  if s.peat.readOnly then s
  else
    let c := { d with slot := slotForCopy s.dumps.peat }
    modPeat (modDumps s (fun x => { x with peat := (if x.peat.length < 2 then x.peat else x.peat.drop 1) ++ [c] }))
      (fun x => (dumpTakes c).foldl writeBlock x)

/-- Ohmyx is free to begin the dump: it runs, and a dump is owed that it has not begun. -/
def dumpDue (s : State) : Bool :=
  s.sys.fatal && s.dumps.wanted && !s.dumps.complete && decide (s.dumps.plan = none) && decide (s.sys.phase = .ready) &&
  !s.mgmt.restarting && s.mgmt.halted.isNone

/-- The dump is begun (R397 steps 2 and 3): the open jobs end, DUMP_ID and the sections' draws are made, and a job of steps writes it. -/
def beginDump (s : State) : State :=
  let s0 := cancelAll s 4
  let d := planDump s0
  let r := newJob (drawn s0 (1 + 2 * d.bodies.length)) ownSender opDump [] [(.dump, false)] 0
  modDumps (modJob r.2 r.1 (fun j => { j with sure := true })) (fun x => { x with plan := some d, direct := d.direct })

/-- DUMP_WRITE (R397 steps 2 and 3). -/
def execDumpWrite (s : State) : Host.Outcome State Fault Refusal :=
  if dumpDue s then .next (beginDump s) else .next s

/-- A step of the dump's job (R20, R397): one for each section; then the dump stands in the Kaolin area, but for one that goes straight
to the Peat store; then the copy, and the notice. -/
def stepDump (s : State) (id : Nat) (j : Job) : State :=
  match s.dumps.plan with
  | none => jobFail s id stFault 4 0
  | some p =>
    if j.steps < p.bodies.length then stepDone s id
    else if j.steps = p.bodies.length then
      stepDone (if p.direct then s else modDumps s (fun x => { x with kaolin := some (sealDump s p) })) id
    else
      let s1 := if p.direct then peatCopy s (sealDump s p) else if s.dumps.copy then peatCopy s (s.dumps.kaolin.getD (sealDump s p)) else s
      notice (modDumps (jobOk s1 id 0 []) (fun x => { x with complete := true, plan := none })) 71 [0]

/-! ## The dump commands (R374, R405) -/

/-- A dump of an identifier: the one in Kaolin, or a Peat copy. -/
def dumpOf (s : State) (id : Nat) : Option Dump := (s.dumps.kaolin.toList ++ s.dumps.peat).find? (fun d => decide (d.id = id))

/-- A section of a dump: kind and plot. -/
def sectOf (d : Dump) (kind q : Nat) : Option (Bool × Bytes) :=
  (d.sects.find? (fun x => decide (x.1 = kind) && (decide (kind ≠ 2) || decide (x.2.1 = q)))).map (fun x => (x.2.2.1, x.2.2.2.2))

/-- The requester may read a section (R405). -/
def sectRight (w : Who) (kind q : Nat) (isHeld : Bool) : Bool :=
  match w.hz with
  | .o => decide (kind = 0)
  | .a => decide (kind = 1) || (decide (kind = 2) && !isHeld)
  | .b => decide (kind = 2) && isHeld && decide (q = w.plot)
  | .none => false

/-- SECTIONS of DUMP_LIST. -/
def sectMask (d : Dump) : Nat := d.sects.foldl (fun m x => m ||| (if x.1 = 0 then 1 else if x.1 = 1 then 2 else 2 ^ (1 + x.2.1))) 0

/-- The dumps that a requester sees, each once, and where they are. -/
def dumpsSeen (s : State) (w : Who) : List (Dump × Nat) :=
  let all := s.dumps.kaolin.toList ++ s.dumps.peat.filter (fun d => !s.dumps.kaolin.toList.any (fun k => decide (k.id = d.id)))
  (all.filter (fun d => d.sects.any (fun x => sectRight w x.1 x.2.1 x.2.2.1))).map (fun d =>
    (d, b2n (s.dumps.kaolin.toList.any (fun k => decide (k.id = d.id))) + 2 * b2n (s.dumps.peat.any (fun k => decide (k.id = d.id)))))

/-- DUMP_LIST. -/
def dumpListBody (w : Who) (_p : Bytes) (s : State) : Ans × State :=
  let l := dumpsSeen s w
  (ansOk (leBytes 1 l.length ++ zeros 3 ++ l.flatMap (fun x => leBytes 8 x.1.id ++ leBytes 8 x.1.time ++ leBytes 4 (sectMask x.1) ++ leBytes 1 x.2 ++ zeros 3)), s)

/-- DUMP_LIST. -/
def specDumpList : CmdSpec := { op := 0x0804, b := true, o := true, len := lenIs 0, body := dumpListBody }

/-- DUMP_LIST (R405). -/
def execDumpList (m : Fin 24) (slot : Fin 8) (p : Bytes) (s : State) : Host.Outcome State Fault Refusal := .next (runCmd specDumpList m.val slot.val p s)

/-- A dump is being written. -/
def dumpRuns (s : State) : Bool := s.dumps.wanted && !s.dumps.complete

/-- The identifier is that of the dump being written. -/
def dumpUnfinished (s : State) (id : Nat) : Bool := s.dumps.plan.any (fun p => decide (p.id = id))

/-- Right of DUMP_READ: what the section's kind decides where the dump or the section is not there. -/
def dumpRight (s : State) (w : Who) (p : Bytes) : Bool :=
  match dumpOf s (u64 p 0) with
  | some d => (match sectOf d (u8 p 8) (u8 p 9) with
    | some x => sectRight w (u8 p 8) (u8 p 9) x.1
    | none => decide (3 ≤ u8 p 8))
  | none => decide (3 ≤ u8 p 8) || sectRight w (u8 p 8) (u8 p 9) (decide (w.hz = .b))

/-- DUMP_READ: the checks of R352 from the requester's rights on. -/
def dumpReadChecks (w : Who) (p : Bytes) (s : State) : Option Ans :=
  firstRefusal [chk (dumpRight s w p) (ansBad stDenied 0), chk (!noDma w) dmaBad,
      chk ((dumpOf s (u64 p 0)).isSome || dumpRuns s) (badArg 0), chk (decide (u8 p 8 ≤ 2)) (badArg 8),
      chk (decide (u8 p 8 = 2 ∨ u8 p 9 = 0)) (badArg 9),
      (match dumpOf s (u64 p 0) with
        | some d => (match sectOf d (u8 p 8) (u8 p 9) with | some x => chk (decide (x.2.length ≤ u32 p 12)) (badArg 12) | none => none)
        | none => none),
      aligned p 16, chk ((dumpOf s (u64 p 0)).isSome && !dumpUnfinished s (u64 p 0)) busy2, freeOf s [.dump]]

/-- DUMP_READ: the effect and the answer of an accepted command. -/
def dumpReadEffect (w : Who) (p : Bytes) (s : State) : Ans × State :=
  startJob s w 0x0805 p [(.dump, false)] 0

/-- DUMP_READ's checks. -/
def dumpReadBody (w : Who) (p : Bytes) (s : State) : Ans × State :=
  orElse (dumpReadChecks w p s) s (dumpReadEffect w p s)

/-- DUMP_READ. -/
def specDumpRead : CmdSpec := { op := 0x0805, b := true, o := true, len := lenIs 24, body := dumpReadBody }

/-- DUMP_READ (R374, R405). -/
def execDumpRead (m : Fin 24) (slot : Fin 8) (p : Bytes) (s : State) : Host.Outcome State Fault Refusal := .next (runCmd specDumpRead m.val slot.val p s)

/-- A dump is read from its Peat slot and a page of it cannot be read (R264). -/
def dumpLost (s : State) (d : Dump) : Bool :=
  !s.dumps.kaolin.toList.any (fun k => decide (k.id = d.id)) && !blocksReadable s.peat (dumpTakes d)

/-- The step of DUMP_READ: the section as stored; a page that cannot be read fails it (R264). -/
def stepDumpRead (s : State) (id : Nat) (j : Job) : State :=
  match dumpOf s (u64 j.payload 0) with
  | some d =>
    if dumpLost s d then jobFail (raise s srcPeat) id stFault 1 0
    else match sectOf d (u8 j.payload 8) (u8 j.payload 9) with
      | some x => jobOk (dmaWrite s (u64 j.payload 16) x.2) id 0 []
      | none => jobFail s id stBadArg 0 0
  | none => jobFail s id stBadArg 0 0

/-- DUMP_POLICY: COPY, kept in the Peat store: the checks of R352 from the requester's rights on. -/
def dumpPolicyChecks (_w : Who) (p : Bytes) (s : State) : Option Ans :=
  firstRefusal [flag01 p 0, peatRefuses s]

/-- DUMP_POLICY: COPY, kept in the Peat store: the effect and the answer of an accepted command. -/
def dumpPolicyEffect (_w : Who) (p : Bytes) (s : State) : Ans × State :=
  (ansOk [], sysWrite (modDumps s (fun d => { d with copy := decide (u8 p 0 = 1) })) 1)

/-- DUMP_POLICY: COPY, kept in the Peat store. -/
def dumpPolicyBody (w : Who) (p : Bytes) (s : State) : Ans × State :=
  orElse (dumpPolicyChecks w p s) s (dumpPolicyEffect w p s)

/-- DUMP_POLICY. -/
def specDumpPolicy : CmdSpec := { op := 0x0806, len := lenIs 4, body := dumpPolicyBody }

/-- DUMP_POLICY (R404). -/
def execDumpPolicy (m : Fin 24) (slot : Fin 8) (p : Bytes) (s : State) : Host.Outcome State Fault Refusal := .next (runCmd specDumpPolicy m.val slot.val p s)

/-- DUMP_ERASE: a Peat slot holds the dump: the checks of R352 from the requester's rights on. -/
def dumpEraseChecks (_w : Who) (p : Bytes) (s : State) : Option Ans :=
  firstRefusal [chk (s.dumps.peat.any (fun d => decide (d.id = u64 p 0))) (badArg 0), peatRefuses s]

/-- DUMP_ERASE: a Peat slot holds the dump: the effect and the answer of an accepted command. -/
def dumpEraseEffect (w : Who) (p : Bytes) (s : State) : Ans × State :=
  startJob s w 0x0807 p [(.dump, false)] 0

/-- DUMP_ERASE's checks: a Peat slot holds the dump. -/
def dumpEraseBody (w : Who) (p : Bytes) (s : State) : Ans × State :=
  orElse (dumpEraseChecks w p s) s (dumpEraseEffect w p s)

/-- DUMP_ERASE. -/
def specDumpErase : CmdSpec := { op := 0x0807, len := lenIs 8, body := dumpEraseBody }

/-- DUMP_ERASE (R405). -/
def execDumpErase (m : Fin 24) (slot : Fin 8) (p : Bytes) (s : State) : Host.Outcome State Fault Refusal := .next (runCmd specDumpErase m.val slot.val p s)

/-- The step of DUMP_ERASE: the Peat slot is free. -/
def stepDumpErase (s : State) (id : Nat) (j : Job) : State :=
  jobOk (modDumps s (fun d => { d with peat := d.peat.filter (fun x => decide (x.id ≠ u64 j.payload 0)) })) id 0 []

end Machine
end Sys2Proof
end

