-- ==== Sys2Proof/Machine/CmdDbg.lean ====
section
/-! DEFINITION. Debug and run control: sessions and their requests, break and watch units, freeze and resume, memory and register
access, core halt, vendor debug (R66, R375 to R377, R406 to R424). -/

namespace Sys2Proof
namespace Machine

/-! ## Session registers (R413) -/

/-- Code of a session's horizon. -/
def hzCode : Horizon → Nat
  | .a => 0
  | .b => 1
  | .o => 2
  | .none => 3

/-- Unit u of a session. -/
def unitAt (x : Session) (u : Nat) : Unit := tget {} x.units u

/-- Bit u: unit u is armed. -/
def armedMask (x : Session) : Nat := ((List.range 16).map (fun u => b2n (unitAt x u).armed * 2 ^ u)).sum

/-- SILT_DBG_STATE. -/
def dbgStateWord (s : State) (x : Session) : Nat :=
  let p := plotAt s x.plot
  plotCode p.state * 2 ^ 30 + (if p.state = .frozen then p.halt else 2) * 2 ^ 28 + b2n p.byBreak * 2 ^ 27 + b2n s.mgmt.halted.isSome * 2 ^ 26 + armedMask x

/-- SILT_DBG_CORE: horizon O only; HALT reads 1 while the pair is halted. -/
def dbgCoreWord (s : State) (x : Session) : Nat := if x.hz = .o then (setFld x.core 31 31 (b2n s.mgmt.halted.isSome)).toNat else 0

/-- A register of a session's block. -/
def sessReg (s : State) (id : Nat) (x : Session) (off : Nat) : Nat :=
  match off with
  | 0x000 => x.plot * 2 ^ 24 + hzCode x.hz * 2 ^ 16 + id
  | 0x004 => x.ctrl.toNat
  | 0x008 => dbgStateWord s x
  | 0x00C => x.hit.toNat
  | 0x010 => x.hit.toNat
  | 0x014 => x.capSrc.toNat
  | 0x018 => fld x.cap 31 0
  | 0x01C => fld x.cap 63 32
  | 0x020 => fld x.cap 95 64
  | 0x024 => fld x.cap 127 96
  | 0x028 => fld x.lstat 31 0
  | 0x02C => fld x.lstat 63 32
  | 0x030 => fld x.lstat 95 64
  | 0x034 => fld x.lstat 127 96
  | 0x038 => dbgCoreWord s x
  | _ => 0

/-- A read of SILT_BRK_HIT clears it. -/
def hitRead (s : State) (id : Nat) : State := modSession s id (fun x => { x with hit := 0#32 })

/-- SILT_BRK_HIT_READ (R413). -/
def execSiltBrkHitRead (session : Fin 65536) (s : State) : Host.Outcome State Fault Refusal := .next (hitRead s session.val)

/-- HALT_MS in force (R413): 0 acts as 1, values above 10,000 as 10,000. -/
def haltMsOf (v : Word) : Nat := max 1 (min 10000 (fld v 13 0))

/-- A write of SILT_DBG_CORE by a session (R422): horizon O halts or releases the core pair; others are ignored. -/
def coreWrite (s : State) (id : Nat) (v : Word) : State :=
  match sessionAt s id with
  | none => s
  | some x =>
    if x.hz = .o then
      modMgmt (modSession s id (fun x => { x with core := v })) (fun g =>
        if bitOf v 31 then { g with halted := some id, haltMs := haltMsOf v } else { g with halted := none })
    else s

/-- SILT_DBG_CORE_WRITE (R422). -/
def execSiltDbgCoreWrite (session : Fin 65536) (v : Word) (s : State) : Host.Outcome State Fault Refusal := .next (coreWrite s session.val v)

/-- CORE_HALT_EXPIRY (R422): HALT_MS ends. -/
def execCoreHaltExpiry (s : State) : Host.Outcome State Fault Refusal := .next (modMgmt s (fun g => { g with halted := none }))

/-- A write of a session's block. -/
def sessRegWrite (s : State) (id off : Nat) (v : Word) : State :=
  if off = 0x004 then modSession s id (fun x => { x with ctrl := v })
  else if off = 0x038 then coreWrite s id v
  else s

/-! ## Memory access (R414, R415) -/

/-- The debug bus master reads a line, stamped as its granule says: status, data (zeros where it is not valid), state. -/
def dbgReadLine (s : State) (a : Nat) : Nat × Line × State :=
  let g := granAt s a
  if !stackUp s (addrStack a) then (0x01, 0#512, s)
  else if !admitted s dbgNode g.plot g.slot a then (0x03, 0#512, chanReport (chanFlag s a 5) a g.plot 0x03)
  else if (chanAt s (addrStack a) (chanOf s a)).state = .retired then (0x05, 0#512, chanReport s a g.plot 0x05)
  else
    let r := readLine (directColumn s a false) a
    (r.1, if r.1 = 0 then r.2.1 else 0#512, r.2.2)

/-- It writes a whole line; in a DIR granule sideband bits [95:0] stay (R247). -/
def dbgWriteLine (s : State) (a : Nat) (data : Line) : Nat × State :=
  let g := granAt s a
  if !stackUp s (addrStack a) then (0x01, s)
  else if !admitted s dbgNode g.plot g.slot a then (0x03, chanReport (chanFlag s a 5) a g.plot 0x03)
  else if (chanAt s (addrStack a) (chanOf s a)).state = .retired then (0x05, chanReport s a g.plot 0x05)
  else writeLine (directColumn s a true) a
    (if g.dir then .part (BitVec.allOnes 64) true else .full (some 0)) data false true

/-- Read lines in order. -/
def dbgReads : List Nat → State → List Nat × Bytes × State
  | [], s => ([], [], s)
  | a :: l, s =>
    let r := dbgReadLine s a
    let q := dbgReads l r.2.2
    (r.1 :: q.1, lineBytes r.2.1 ++ q.2.1, q.2.2)

/-- Write lines in order. -/
def dbgWrites (data : Bytes) : Nat → List Nat → State → List Nat × State
  | _, [], s => ([], s)
  | i, a :: l, s =>
    let r := dbgWriteLine s a (lineOf data (64 * i))
    let q := dbgWrites data (i + 1) l r.2
    (r.1 :: q.1, q.2)

/-- The session keeps the line statuses of its last access. -/
def keepLstat (s : State) (id : Nat) (sts : List Nat) : State :=
  modSession s id (fun x => { x with lstat := BitVec.ofNat 128 (sts.zipIdx.map (fun t => t.1 % 256 * 2 ^ (8 * t.2))).sum })

/-! ## Register access (R414, R416) -/

/-- The holder of the unit behind a register; none: no plot's and none the shell's owner may name to a plot. -/
def regHolder (s : State) (node off : Nat) : Nat :=
  match attOf node with
  | .nau _ => plotOfNau s node
  | .crcHub p =>
    if off < 0x4000 then plotOfCrc s (256 * p + off / 256)
    else match gritOfOff off with
      | some g => plotAtLocal s p (gritRegion g).1 (gritRegion g).2
      | none => 0
  | _ => 0

/-- A unit that a plot may be given: NAUs, check-value units, Grit groups. -/
def plotUnit (node off : Nat) : Bool :=
  match attOf node with
  | .nau _ => true
  | .crcHub _ => decide (off < 0x4000) || (gritOfOff off).isSome
  | _ => false

/-- A session reaches a register (R414). -/
def regReach (s : State) (x : Session) (node off : Nat) : Bool :=
  match x.hz with
  | .o => true
  | _ =>
    if node = dbgNode then true
    else if x.plot = 0 then decide (attOf node ≠ .mgmt) && decide (regHolder s node off = 0)
    else plotUnit node off && decide (regHolder s node off = x.plot)

/-- A register as a session reads it: through its peek alias, or with its side effects where CONSUME is set; every register with a
read side effect has a peek alias (R416). -/
def dbgRegRead (s : State) (id : Nat) (x : Session) (consume : Bool) (a : Nat) : Nat × State :=
  if regNode a = dbgNode then (sessReg s id x (regOff a), if consume && decide (regOff a = 0x00C) then hitRead s id else s)
  else match regRead s (regNode a) (regOff a) with
    | some (_, v, t) => (v, if consume then t else s)
    | none => (0, s)

/-- Read registers in order. -/
def dbgRegReads (id : Nat) (x : Session) (consume : Bool) : List Nat → State → Bytes × State
  | [], s => ([], s)
  | a :: l, s =>
    let r := dbgRegRead s id x consume a
    let q := dbgRegReads id x consume l r.2
    (leBytes 4 r.1 ++ q.1, q.2)

/-- Write a register. -/
def dbgRegWrite (s : State) (id a : Nat) (v : Word) : State :=
  if regNode a = dbgNode then sessRegWrite s id (regOff a) v
  else match regWrite s (regNode a) (regOff a) v with
    | some (_, t) => t
    | none => s

/-- Write registers in order. -/
def dbgRegWrites (id : Nat) (data : Bytes) : Nat → List Nat → State → State
  | _, [], s => s
  | i, a :: l, s => dbgRegWrites id data (i + 1) l (dbgRegWrite s id a (BitVec.ofNat 32 (u32 data (4 * i))))

/-- Addresses of a range of registers. -/
def regsOf (a n : Nat) : List Nat := (List.range (n / 4)).map (fun i => a + 4 * i)

/-! ## Session requests (R375 to R377) -/

/-- The requester a session stands for (R375): its horizon and plot, with the DMA engine of the carrying mailbox. -/
def sessWho (s : State) (x : Session) (w : Who) : Who :=
  { hz := x.hz, plot := x.plot, mbx := if x.hz = .b then (plotAt s x.plot).res.vf else 0, slot := w.slot, consume := w.consume,
    dma := decide (w.mbx ≤ 16) }

/-- An address a session reaches (R414). -/
def dbgReach (s : State) (x : Session) (space a n : Nat) : Bool :=
  if space = 0 then (rangeLines a n).all (fun l => inKaolin l && (decide (x.hz = .o) || (windowOf s x.plot l).isSome))
  else (regsOf a n).all (fun r => inRegs r && regReach s x (regNode r) (regOff r))

/-- Units of a range that are absent or removed (R352 step 4), or that have no registers. -/
def dbgAbsent (s : State) (space a n : Nat) : Option Ans :=
  if space = 0 then firstRefusal ((rangeLines a n).map (fun l => stackAbsent s (addrStack l)))
  else firstRefusal ((regsOf a n).map (fun r =>
    if regNode r = dbgNode then none
    else firstRefusal [nodeAbsent s (regNode r), chk (attUp s (regNode r)) (ansBad stAbsent 1)]))

/-- The checks of DBG_READ and DBG_WRITE: SPACE, COUNT at 4, SADDR at 8. -/
def dbgAccess (s : State) (x : Session) (p : Bytes) : Option Ans :=
  let sp := u8 p 0
  let n := u32 p 4
  let a := u64 p 8
  firstRefusal [chk (decide (1 < sp ∨ 1024 < n) || dbgReach s x sp a n) (ansBad stDenied 0),
    if sp ≤ 1 ∧ n ≤ 1024 then dbgAbsent s sp a n else none,
    chk (decide (sp ≤ 1)) (badArg 0),
    chk (if sp = 0 then decide (n ≤ 1024 ∧ n % 64 = 0) else decide (n ≤ 256 ∧ n % 4 = 0)) (badArg 4), aligned p 8]

/-- DBG_READ's body. -/
def dbgReadBody (id : Nat) (x : Session) (w : Who) (p : Bytes) (s : State) : Ans × State :=
  orElse (dbgAccess s x p) s
    (if u8 p 0 = 0 then
       let r := dbgReads (rangeLines (u64 p 8) (u32 p 4)) s
       (ansOk r.2.1, keepLstat r.2.2 id r.1)
     else
       let r := dbgRegReads id x w.consume (regsOf (u64 p 8) (u32 p 4)) s
       (ansOk r.1, r.2))

/-- DBG_WRITE's body: DATA at 16. -/
def dbgWriteBody (id : Nat) (x : Session) (_w : Who) (p : Bytes) (s : State) : Ans × State :=
  orElse (dbgAccess s x p) s
    (if u8 p 0 = 0 then
       let r := dbgWrites (p.drop 16) 0 (rangeLines (u64 p 8) (u32 p 4)) s
       (ansOk [], keepLstat r.2 id r.1)
     else (ansOk [], dbgRegWrites id (p.drop 16) 0 (regsOf (u64 p 8) (u32 p 4)) s))

/-- DBG_UNIT_SET's body: the checks of R352 from the requester's rights on. -/
def dbgUnitChecks (_id : Nat) (_x : Session) (_w : Who) (p : Bytes) (_s : State) : Option Ans :=
  firstRefusal [chk (decide (u8 p 0 < 16)) (badArg 0), chk (decide (u8 p 1 ≤ 2)) (badArg 1),
      chk (decide (u8 p 2 = 0xFF ∨ u8 p 2 < u8 p 0)) (badArg 2), chk (decide (u8 p 3 < 16)) (badArg 3)]

/-- DBG_UNIT_SET's body: the effect and the answer of an accepted command. -/
def dbgUnitEffect (id : Nat) (x : Session) (_w : Who) (p : Bytes) (s : State) : Ans × State :=
  let u : Unit := { action := u8 p 1, link := u8 p 2, terms := BitVec.ofNat 4 (u8 p 3), opMask := BitVec.ofNat 32 (u32 p 4), addrLo := u64 p 8,
                    addrHi := u64 p 16, ctx := u8 p 24, clsMask := BitVec.ofNat 8 (u8 p 25), armed := decide (u8 p 2 = 0xFF ∧ u8 p 1 ≠ 0) }
  (ansOk [], modSession s id (fun y => { y with units := tset {} y.units (u8 p 0) u }))

/-- DBG_UNIT_SET's body. -/
def dbgUnitBody (id : Nat) (x : Session) (w : Who) (p : Bytes) (s : State) : Ans × State :=
  orElse (dbgUnitChecks id x w p s) s (dbgUnitEffect id x w p s)

/-- A hit count (R412): a sticky overflow above 31 saturating bits. -/
def hitWords (x : Session) : Bytes := (List.range 16).flatMap (fun u => leBytes 4 (ctrWord (unitAt x u).hits))

/-- DBG_STATUS's body. -/
def dbgStatusBody (_id : Nat) (x : Session) (_w : Who) (_p : Bytes) (s : State) : Ans × State :=
  let p := plotAt s x.plot
  (ansOk (leBytes 1 (plotCode p.state) ++ leBytes 1 (if p.state = .frozen then p.halt else 2) ++ leBytes 2 (fld x.hit 15 0) ++ hitWords x), s)

/-- DBG_RESUME's body (R420, R421). -/
def dbgResumeBody (_id : Nat) (x : Session) (_w : Who) (_p : Bytes) (s : State) : Ans × State := (ansOk [], resumePlot s x.plot)

/-- DBG_CLOSE's body (R408). -/
def dbgCloseBody (id : Nat) (_x : Session) (_w : Who) (_p : Bytes) (s : State) : Ans × State := (ansOk [], endSession s id)

/-- A response of a session (R375): SESSION, SEQ, the body sealed with direction 1, the tag; the additional data is the response
header. -/
def sealRsp (s : State) (m i op id : Nat) (key : BitVec 256) (seq : Nat) (a : Ans) : Ans :=
  let retry := if a.status = stBusy then retryHint s else 0
  let nonce := leBytes 2 id ++ leBytes 1 1 ++ zeros 1 ++ leBytes 4 seq ++ zeros 4
  let aad := leBytes 16 (rspHeader op (hdrToken s m i) { a with payload := zeros (24 + a.payload.length) } retry).toNat
  let r := Config.gcmSeal key nonce aad a.payload
  { a with payload := leBytes 2 id ++ zeros 2 ++ leBytes 4 seq ++ r.1 ++ leBytes 16 r.2.toNat }

/-- A session request opened (R375): the session, its number, SEQ and BODY; or the refusal. -/
def openReq (s : State) (w : Who) (p : Bytes) : Except Ans (Nat × Session × Nat × Bytes) :=
  let id := u16 p 0
  let seq := u32 p 4
  match sessionAt s id with
  | none => .error (badArg 0)
  | some x =>
    let n := p.length
    let nonce := leBytes 2 id ++ zeros 2 ++ leBytes 4 seq ++ zeros 4
    if seq < x.seq then .error (ansBad stAuth 4)
    else match Config.gcmOpen x.key nonce (slotReq s w.mbx w.slot 0 16) (subBytes p 8 (n - 24)) (BitVec.ofNat 128 (leN p (n - 16) 16)) with
      | none => .error (ansBad stAuth 4)
      | some b => .ok (id, x, seq, b)

/-- A session request's SEQ is used. -/
def useSeq (s : State) (id seq : Nat) : State := modSession s id (fun x => { x with seq := seq + 1 })

/-- A request of a session: opened, checked, done, and answered sealed. `len`: the lengths its BODY may have. -/
def sessBody (op : Nat) (len : Bytes → Bool) (f : Nat → Session → Who → Bytes → State → Ans × State) (w : Who) (p : Bytes) (s : State) : Ans × State :=
  match openReq s w p with
  | .error a => (a, s)
  | .ok (id, x, seq, b) =>
    let s1 := useSeq s id seq
    let r := if len b then f id x w b s1 else (ansBad stBadArg 0xFF, s1)
    (sealRsp r.2 w.mbx w.slot op id x.key seq r.1, r.2)

/-- A session payload has its fixed fields. -/
def sessLen (p : Bytes) : Bool := decide (24 ≤ p.length)

/-- DBG_CLOSE. -/
def specDbgClose : CmdSpec := { op := 0x0901, len := sessLen, body := sessBody 0x0901 (lenIs 0) dbgCloseBody }
/-- DBG_CLOSE (R375, R408). -/
def execDbgClose (m : Fin 24) (slot : Fin 8) (p : Bytes) (s : State) : Host.Outcome State Fault Refusal := .next (runCmd specDbgClose m.val slot.val p s)

/-- DBG_RESUME. -/
def specDbgResume : CmdSpec := { op := 0x0903, len := sessLen, body := sessBody 0x0903 (lenIs 0) dbgResumeBody }
/-- DBG_RESUME (R420). -/
def execDbgResume (m : Fin 24) (slot : Fin 8) (p : Bytes) (s : State) : Host.Outcome State Fault Refusal := .next (runCmd specDbgResume m.val slot.val p s)

/-- DBG_READ. -/
def specDbgRead : CmdSpec := { op := 0x0904, len := sessLen, body := sessBody 0x0904 (lenIs 16) dbgReadBody }
/-- DBG_READ (R414). -/
def execDbgRead (m : Fin 24) (slot : Fin 8) (p : Bytes) (s : State) : Host.Outcome State Fault Refusal := .next (runCmd specDbgRead m.val slot.val p s)

/-- DBG_WRITE. -/
def specDbgWrite : CmdSpec := { op := 0x0905, len := sessLen, body := sessBody 0x0905 (fun b => decide (16 ≤ b.length ∧ b.length = 16 + u32 b 4)) dbgWriteBody }
/-- DBG_WRITE (R414). -/
def execDbgWrite (m : Fin 24) (slot : Fin 8) (p : Bytes) (s : State) : Host.Outcome State Fault Refusal := .next (runCmd specDbgWrite m.val slot.val p s)

/-- DBG_UNIT_SET. -/
def specDbgUnitSet : CmdSpec := { op := 0x0906, len := sessLen, body := sessBody 0x0906 (lenIs 32) dbgUnitBody }
/-- DBG_UNIT_SET (R411). -/
def execDbgUnitSet (m : Fin 24) (slot : Fin 8) (p : Bytes) (s : State) : Host.Outcome State Fault Refusal := .next (runCmd specDbgUnitSet m.val slot.val p s)

/-- DBG_STATUS. -/
def specDbgStatus : CmdSpec := { op := 0x0907, len := sessLen, body := sessBody 0x0907 (lenIs 0) dbgStatusBody }
/-- DBG_STATUS (R376). -/
def execDbgStatus (m : Fin 24) (slot : Fin 8) (p : Bytes) (s : State) : Host.Outcome State Fault Refusal := .next (runCmd specDbgStatus m.val slot.val p s)

/-! ## Freeze (R417 to R421) -/

/-- A freeze begins: the plot's NAUs hold what lacks LOCKED; `force`: a hard halt may follow. BY_BREAK tells what began it (R413). -/
def beginHalt (s : State) (q : Nat) (force byBreak : Bool) (by_ : Option HaltReq) : State :=
  modPlot s q (fun x => { x with
    halting := some ((x.halting.getD false) || force), haltBy := if by_.isSome then by_ else x.haltBy, byBreak := if x.halting.isSome then x.byBreak else byBreak,
    haltStart := if x.halting.isSome then x.haltStart else now s })

/-- DBG_FREEZE's response. -/
def freezeAns (kind wait broken : Nat) : Ans := ansOk (leBytes 1 kind ++ zeros 3 ++ leBytes 4 wait ++ leBytes 4 broken)

/-- What DBG_FREEZE answers at once (R421); none: the freeze begins and the command waits for it. -/
def freezeNow (s : State) (q : Nat) : Option Ans :=
  let x := plotAt s q
  match x.state with
  | .frozen => some (freezeAns x.halt 0 0)
  | .empty => some (badArg 0)
  | .loading => some busy2
  | .running => if x.haltBy.isSome then some busy2 else none

/-- DBG_FREEZE where it answers at once; a freeze that has to wait is `freezeWaits`. -/
def dbgFreezeBody (_id : Nat) (x : Session) (_w : Who) (p : Bytes) (s : State) : Ans × State :=
  orElse (chk (decide (u8 p 0 ≤ 1)) (badArg 0)) s ((freezeNow s x.plot).getD (ansOk []), s)

/-- DBG_FREEZE. -/
def specDbgFreeze : CmdSpec := { op := 0x0902, len := sessLen, body := sessBody 0x0902 (lenIs 4) dbgFreezeBody }

/-- An authentic DBG_FREEZE of a Running plot that no other freeze of a command holds: it begins a freeze, and its slot stays
EXECUTING until the halt is complete or given up. -/
def freezeWaits (s : State) (w : Who) (p : Bytes) : Option State :=
  match openReq s w p with
  | .error _ => none
  | .ok (id, x, seq, b) =>
    if lenIs 4 b && decide (u8 b 0 ≤ 1) && (freezeNow s x.plot).isNone then
      some (beginHalt (useSeq s id seq) x.plot (decide (u8 b 0 = 1)) false (some { mbx := w.mbx, slot := w.slot, session := id, seq := seq }))
    else none

/-- Carry out DBG_FREEZE for a slot. -/
def runFreeze (m i : Nat) (p : Bytes) (s : State) : State :=
  if serving s = false ∨ 18 < m then s
  else
    let s1 := running s m i
    let w := { (whoOf s m i) with consume := hdrConsume s m i }
    if (gateAns s m 0x0902).isNone && groupOk w 0x0902 && sessLen p then
      match freezeWaits s1 w p with
      | some t => t
      | none => runCmd specDbgFreeze m i p s
    else runCmd specDbgFreeze m i p s

/-- DBG_FREEZE (R417). -/
def execDbgFreeze (m : Fin 24) (slot : Fin 8) (p : Bytes) (s : State) : Host.Outcome State Fault Refusal := .next (runFreeze m.val slot.val p s)

/-- The DBG_FREEZE that waits is answered, sealed under its session. -/
def answerHalt (s : State) (q : Nat) (a : Ans) : State :=
  match (plotAt s q).haltBy with
  | none => s
  | some h =>
    let s1 := modPlot s q (fun x => { x with haltBy := none })
    match sessionAt s h.session with
    | some x => reply s1 h.mbx h.slot 0x0902 (sealRsp s1 h.mbx h.slot 0x0902 h.session x.key h.seq a)
    | none => reply s1 h.mbx h.slot 0x0902 a

/-- SOFT_HALT_COMPLETE (R417): the lock set is empty; the plot is Frozen. -/
def softHaltDone (s : State) (q : Nat) : State :=
  closeGates (answerHalt s q (freezeAns 0 (now s - (plotAt s q).haltStart) 0)) q 0

/-- SOFT_HALT_COMPLETE (R417). -/
def execSoftHaltComplete (plot : Fin 17) (s : State) : Host.Outcome State Fault Refusal :=
  if (plotAt s plot.val).halting.isSome && lockSetEmpty s plot.val then .next (softHaltDone s plot.val) else .next s

/-- BRK_TIMEOUT is set in the sessions bound to the plot (R413). -/
def breakTimeout (s : State) (q : Nat) : State :=
  modDbg s (fun d => { d with sessions := d.sessions.map (fun kv => (kv.1, kv.2.map (fun x => if x.plot = q then { x with hit := setFld x.hit 31 31 1 } else x))) })

/-- HALT_LEASE_BOUND (R417 step 3): a hard halt releases the lock set, or the plot runs on. -/
def leaseBound (s : State) (q : Nat) (force : Bool) : State :=
  if lockSetEmpty s q then softHaltDone s q
  else if force then
    let s1 := breakLocks s q
    closeGates (answerHalt s1 q (freezeAns 1 (1000 * (plotAt s q).lease) (plotAt s1 q).haltBroken)) q 1
  else
    let s1 := if (plotAt s q).byBreak then breakTimeout s q else s
    undoHalt (answerHalt s1 q (ansBad stQuiesceTimeout 0)) q

/-- HALT_LEASE_BOUND (R417). -/
def execHaltLeaseBound (plot : Fin 17) (s : State) : Host.Outcome State Fault Refusal :=
  match (plotAt s plot.val).halting with
  | some f => .next (leaseBound s plot.val f)
  | none => .next s

/-! ## Break and watch units (R409 to R412) -/

/-- A session's units observe a packet at a point (R409). -/
def observes (s : State) (x : Session) (point node : Nat) (p : Packet) : Bool :=
  (decide (x.hz = .o) || decide (p.plot = x.plot)) &&
  (match point with
   | 0 => (nauNumber node).isSome && decide (p.src = node) && (decide (x.hz = .o) || decide (plotOfNau s node = x.plot))
   | 1 => (nauNumber node).isSome && decide (p.dst = node) && (decide (x.hz = .o) || decide (plotOfNau s node = x.plot))
   | _ => (match attOf node with | .slice _ => true | _ => false) && decide (p.src = node) && inKaolin p.addr)

/-- A unit matches a packet (R410). -/
def unitMatches (u : Unit) (p : Packet) : Bool :=
  u.armed && (!bitOf u.terms 0 || decide (u.addrLo ≤ p.addr ∧ p.addr ≤ u.addrHi)) && (!bitOf u.terms 1 || bitOf u.opMask p.op) &&
  (!bitOf u.terms 2 || decide (p.ctx = u.ctx)) && (!bitOf u.terms 3 || bitOf u.clsMask (clsCode p.cls))

/-- The numbers of a session's units that match a packet. -/
def matching (x : Session) (p : Packet) : List Nat := (List.range 16).filter (fun u => unitMatches (unitAt x u) p)

/-- A unit after a match of the units listed (R411, R412): its count, and its arm state. -/
def unitAfter (ms : List Nat) (u : Nat) (c : Unit) : Unit :=
  let hit := hasElem ms u
  let c1 := if hit then { c with hits := ctrInc c.hits, armed := decide (c.link = 0xFF) } else c
  if c.link ≠ 0xFF ∧ hasElem ms c.link = true ∧ c.action ≠ 0 then { c1 with armed := true } else c1

/-- SILT_BRK_CAPSRC of a capture. -/
def capWord (u point node : Nat) (isHeld : Bool) : Word := BitVec.ofNat 32 (2 ^ 31 + u * 2 ^ 22 + point * 2 ^ 20 + b2n isHeld * 2 ^ 19 + node)

/-- The packet stands at its NAU, not yet away (R412). -/
def uninjected (s : State) (node : Nat) (p : Packet) : Bool :=
  s.silt.flights.any (fun f => decide (f.pkt = p ∧ f.node = node ∧ f.inCode = 14))

/-- The NAU holds the packet uninjected until resume. -/
def holdPacket (s : State) (node : Nat) (p : Packet) : State :=
  modNau (modSilt s (fun n => { n with flights := n.flights.eraseP (fun f => decide (f.pkt = p ∧ f.node = node ∧ f.inCode = 14)) })) node
    (fun u => { u with brkHeld := some p })

/-- A match of a session's units (R412): counts, hit bits, links, and the freeze of a break. -/
def breakMatch (s : State) (id : Nat) (x : Session) (point node : Nat) (p : Packet) : State :=
  let ms := matching x p
  let brks := ms.filter (fun u => decide ((unitAt x u).action = 2))
  let s1 := modSession s id (fun x => { x with
    units := (List.range 16).foldl (fun t u => tmod {} t u (unitAfter ms u)) x.units
    hit := x.hit ||| BitVec.ofNat 32 (ms.map (fun u => 2 ^ u)).sum })
  match brks with
  | [] => s1
  | u :: _ =>
    if (plotAt s x.plot).state = .running ∧ ((plotAt s x.plot).halting.isNone = true ∨ bitOf x.capSrc 31 = false) then
      let keep := decide (point = 0) && uninjected s node p
      let s2 := if keep then holdPacket s1 node p else s1
      let s3 := if bitOf x.capSrc 31 then s2
        else modSession s2 id (fun x => { x with capSrc := capWord u point node keep, cap := BitVec.ofNat 128 (routingHdr p).toNat })
      beginHalt s3 x.plot (bitOf x.ctrl 0) true none
    else s1

/-- BREAK_MATCH (R412). -/
def execBreakMatch (session : Fin 65536) (point : Fin 3) (node : Fin 1024) (p : Packet) (s : State) : Host.Outcome State Fault Refusal :=
  match sessionAt s session.val with
  | some x => if observes s x point.val node.val p then .next (breakMatch s session.val x point.val node.val p) else .next s
  | none => .next s

/-! ## DBG_OPEN (R375 to R377, R407) -/

/-- A new session. -/
def newSession (hz : Horizon) (q : Nat) (key : BitVec 256) : Session :=
  { hz := hz, plot := q, key := key, seq := 0, units := [], ctrl := 1#32, hit := 0#32, capSrc := 0#32, cap := 0#128, lstat := 0#128 }

/-- Key of the console's AUTH (R407), or why there is none. -/
def authKey (s : State) (q : Nat) : Option (BitVec 256) :=
  if tenantHeld s q then tenantDerived s q infoDbg
  else (ownerKey s).map (fun k => Config.hkdf (beBytes 32 k.toNat) (leBytes 4 (if q = 0 then 0 else (plotAt s q).gen)) infoDbg)

/-- AUTH is right under a key: HMAC over PUB and NONCE. -/
def authOk (k : BitVec 256) (p : Bytes) : Bool := decide (Config.hmac (beBytes 32 k.toNat) (subBytes p 4 144) = BitVec.ofNat 384 (beN p 148 48))

/-- The check of AUTH: by horizon on a mailbox, by the plot's key on the console. -/
def authCheck (s : State) (w : Who) (p : Bytes) : Option Ans :=
  if w.mbx = 18 ∨ w.hz = .b then
    match authKey s (u8 p 0) with
    | none => some (ansBad stAuth 3)
    | some k => chk (authOk k p) (ansBad stAuth 4)
  else chk (zeroAt p 148 48) (badArg 148)

/-- Checks of DBG_OPEN. -/
def dbgOpenPre (w : Who) (p : Bytes) (s : State) : Option Ans :=
  let q := u8 p 0
  firstRefusal [chk (decide (w.mbx = 18) || holderRight s w q) (ansBad stDenied 0), if q ≤ 16 then plotAbsent s q else none, chk (decide (q ≤ 16)) (badArg 0),
    authCheck s w p, chk (sessionOf s q).isNone busy2, chk s.vault.randomOk noRandom]

/-- The session key (R377). -/
def sessKey (s : State) (pub nonce : Bytes) : BitVec 256 :=
  Config.hkdf (beBytes 48 (Config.ecdh (drawOf s) (BitVec.ofNat 768 (beN pub 0 96))).toNat) nonce infoSess

/-- A session is bound: its number, and the state. -/
def bindSession (s : State) (x : Session) : Nat × State :=
  (s.dbg.nextId, modDbg s (fun d => { d with sessions := tset none d.sessions d.nextId (some x), nextId := nextId d.nextId }))

/-- DBG_OPEN done: the ephemeral pair, the key, the session, DBG_SINCE_LOAD, the signature. -/
def dbgOpenDone (w : Who) (p : Bytes) (s : State) : Ans × State :=
  match dbgOpenPre w p s with
  | some a => (a, s)
  | none =>
    let q := u8 p 0
    let hz := if w.mbx = 18 then (if tenantHeld s q then Horizon.b else .a) else w.hz
    let dev := pubBytes (Config.ecPub (drawOf s))
    let r := bindSession (modPlot s q (fun x => { x with dbgSinceLoad := true })) (newSession hz q (sessKey s (subBytes p 4 96) (subBytes p 100 48)))
    let digest := Config.sha384 (subBytes p 4 96 ++ dev ++ subBytes p 100 48 ++ leBytes 1 q ++ leBytes 2 r.1)
    (ansOk (leBytes 2 r.1 ++ zeros 2 ++ dev ++ pubBytes (Config.identitySign s.vault.identityPriv digest (s.vault.draws + 1))), drawn r.2 2)

/-- DBG_OPEN. -/
def specDbgOpen : CmdSpec := { op := 0x0900, b := true, len := lenIs 196, body := dbgOpenDone }

/-- DBG_OPEN (R376, R407). -/
def execDbgOpen (m : Fin 24) (slot : Fin 8) (p : Bytes) (s : State) : Host.Outcome State Fault Refusal := .next (runPk specDbgOpen dbgOpenPre m.val slot.val p s)

/-! ## VDBG_OPEN (R66) -/

/-- The current vendor-debug nonce: the one VAULT_STATUS issued within the last 60 s. -/
def vdbgNonceNow (s : State) : Option (BitVec 384) :=
  match s.vault.vdbgNonce with
  | some (n, t) => if now s - t ≤ 60000000000 then some n else none
  | none => none

/-- SIG covers ID_HASH and the nonce, by the vendor root. -/
def vdbgSigOk (s : State) (p : Bytes) : Bool :=
  Config.ecdsaOk Config.vendorRootPub (Config.sha384 (beBytes 48 (Config.sha384 (pubBytes (Config.ecPub s.vault.identityPriv))).toNat ++ subBytes p 192 48))
    (BitVec.ofNat 768 (beN p 0 96))

/-- VDBG_OPEN: the checks of R352 from the requester's rights on. From a mailbox other than the one R66 names it answers ST_DENIED, the
status of R53, R352 and R376, where R66 says ST_AUTH: DESIGN CHOICE (log 139). -/
def vdbgOpenChecks (w : Who) (p : Bytes) (s : State) : Option Ans :=
  firstRefusal [chk (decide (w.mbx = 0 ∧ w.hz = .a)) (ansBad stDenied 0), chk (vdbgConsent s) (ansBad stAuth 2),
      chk (decide (vdbgNonceNow s = some (BitVec.ofNat 384 (beN p 192 48)))) (ansBad stAuth 4), chk (vdbgSigOk s p) (ansBad stAuth 1), chk s.vault.randomOk noRandom]

/-- VDBG_OPEN: the effect and the answer of an accepted command. -/
def vdbgOpenEffect (w : Who) (p : Bytes) (s : State) : Ans × State :=
  startJob s w 0x0909 p [(.vendor, false)] 0

/-- VDBG_OPEN's checks. -/
def vdbgOpenBody (w : Who) (p : Bytes) (s : State) : Ans × State :=
  orElse (vdbgOpenChecks w p s) s (vdbgOpenEffect w p s)

/-- VDBG_OPEN. -/
def specVdbgOpen : CmdSpec := { op := 0x0909, len := lenIs 240, body := vdbgOpenBody }

/-- VDBG_OPEN (R66, R376). -/
def execVdbgOpen (m : Fin 24) (slot : Fin 8) (p : Bytes) (s : State) : Host.Outcome State Fault Refusal := .next (runCmd specVdbgOpen m.val slot.val p s)

/-- Every session ends. -/
def endAllSessions (s : State) : State := (s.dbg.sessions.map (·.1)).foldl endSession s

/-- The four steps of R66 before a vendor session starts. -/
def vendorSteps (s : State) : State :=
  let s0 := freshKeys (destroyAll s) ((List.range 63).map (· + 1))
  let s1 := (plotGranules s0 0).foldl (fun s g => bumpGranule s g.1 g.2) s0
  let s2 := plotIds.foldl (fun s q => modPlot s q (fun x => { x with tenantKey := none })) (endAllSessions s1)
  modVault s2 (fun v => { v with vdbg := true })

/-- The step of VDBG_OPEN: the steps of R66, then the session of horizon O. -/
def stepVdbgOpen (s : State) (id : Nat) (j : Job) : State :=
  let s1 := vendorSteps s
  let dev := pubBytes (Config.ecPub (drawOf s1))
  let r := bindSession (modPlot s1 0 (fun x => { x with dbgSinceLoad := true })) (newSession .o 0 (sessKey s1 (subBytes j.payload 96 96) (subBytes j.payload 192 48)))
  jobOk (drawn r.2 1) id 0 (leBytes 2 r.1 ++ zeros 2 ++ dev)

end Machine
end Sys2Proof
end

