-- ==== Sys2Proof/Machine/CmdTele.lean ====
section
/-! DEFINITION. Telemetry and power: the mirror and its update, TEL_READ, VID_SET, TEL_THRESH (R378, R435, R436, R445 to R447). -/

namespace Sys2Proof
namespace Machine

/-! ## What the mirror shows (R446, R447) -/

/-- A signed 32-bit word. -/
def s32 (v : Int) : Bytes := leBytes 4 (v % 2 ^ 32).toNat

/-- Free values a mirror update has for the monitors that have no reading yet, and for the speed monitors (R438, R439). -/
def sampleOf (s : State) (i : Nat) : Nat := (Config.openValue (s.mgmt.free + i)).toNat % 65536

/-- Free values one update uses. -/
def samplesPerUpdate : Nat := 256

/-- FLAGS of the mirror. -/
def mirrorFlags (s : State) : Nat :=
  b2n s.sys.holdover + 2 * b2n s.sys.lanerefLost + 4 * b2n s.sys.mgmtRefLost + 8 * b2n s.sys.xlrefLost +
  ([0, 1, 2, 3].map (fun p => b2n (dieAt s p).clamp * 2 ^ (4 + p))).sum + 256 * b2n s.mgmt.saturated

/-- Reading of sensor i, m°C. -/
def tempOf (s : State) (i : Nat) : Int := match tget none (s.sys.temp.map (fun kv => (kv.1, some kv.2))) i with | some v => v | none => sampleOf s i

/-- Reading of voltage monitor i, mV. -/
def voltOf (s : State) (i : Nat) : Nat :=
  match tget none (s.sys.volt.map (fun kv => (kv.1, some kv.2))) i with | some v => v | none => sampleOf s (64 + i)

/-- Reading of speed monitor i, ps. -/
def speedOf (s : State) (i : Nat) : Nat := sampleOf s (96 + i)

/-- A monitor of a Loam die reads where the die is fitted and in service; the Marl die's always do. -/
def monitorUp (s : State) (perDie i : Nat) : Bool := decide (4 * perDie ≤ i) || dieUp s (i / perDie)

/-- VID of a position: target and driven mV. -/
def vidBytes (s : State) (p : Nat) : Bytes :=
  if dieFitted s p then leBytes 2 (dieAt s p).vidTarget ++ leBytes 2 (700 + 5 * (dieAt s p).vidCode) else zeros 4

/-- QUEUED commands of a mailbox. -/
def queuedIn (s : State) (m : Nat) : Nat := ((mbxAt s m).slots.filter (fun x => decide (x.2.state = .queued))).length

/-- Longest LAST_LAP of a stack's channels. -/
def longestLap (s : State) (p : Nat) : Nat :=
  if stackUp s p then ((List.range 17).map (fun c => (chanAt s p c).lastLap)).foldl max 0 else 0

/-- The header block, 0x0000 to 0x03FF. -/
def mirrorHead (s : State) (seq : Nat) : Bytes :=
  leBytes 4 0x4D544B47 ++ leBytes 2 1 ++ zeros 2 ++ leBytes 4 seq ++ leBytes 4 (mirrorFlags s) ++ leBytes 8 (now s) ++ zeros 8 ++
  (List.range 64).flatMap (fun i => if monitorUp s 14 i then s32 (tempOf s i) else zeros 4) ++
  [0, 1, 2, 3].flatMap (fun p => if stackUp s p then s32 (stackAt s p).temp else leBytes 4 0x80000000) ++ zeros 16 ++
  (List.range 32).flatMap (fun i => leBytes 4 (if monitorUp s 6 i then voltOf s i else 0)) ++
  (List.range 48).flatMap (fun i => leBytes 4 (if monitorUp s 10 i then speedOf s i else 0)) ++
  [0, 1, 2, 3].flatMap (vidBytes s) ++ zeros 112 ++
  leBytes 4 s.mgmt.busy ++ (List.range 5).flatMap (fun i => leBytes 4 (tget 0 s.mgmt.shares i)) ++
  (List.range 24).flatMap (fun m => leBytes 1 (queuedIn s m)) ++ leBytes 4 (openJobs s).length ++
  [0, 1, 2, 3].flatMap (fun p => leBytes 4 (longestLap s p)) ++ leBytes 4 s.cfg.lastLapMs ++ zeros 184

/-- A link's 16 bytes. -/
def mirrorLink (s : State) (l : Nat) : Bytes :=
  let x := linkAt s l
  leBytes 1 (linkCode x.state) ++ leBytes 1 x.width ++ leBytes 1 x.rate ++ leBytes 1 (b2n x.viral + 2 * b2n x.reversed) ++
  [x.recovery, x.replay, x.miss].flatMap (fun c => leBytes 4 (ctrWord c))

/-- The six counters of a Kaolin channel. -/
def mirrorChan (s : State) (p c : Nat) : Bytes :=
  let x := chanAt s p c
  if stackUp s p then [x.cntRd, x.cntWr, x.cntAct, x.cntNref, x.cntPanic, x.cntHaz].flatMap (fun c => leBytes 4 (ctrWord c)) else zeros 24

/-- Sum of counters as a counter. -/
def ctrSum (cs : List Ctr) : Ctr := { n := (cs.map (·.n)).sum, ovf := cs.any (·.ovf) }

/-- An 8-byte counter: bit 63 its overflow bit (R445). -/
def ctr8 (c : Ctr) : Bytes := leBytes 8 (c.n % 2 ^ 63 + 2 ^ 63 * b2n c.ovf)

/-- A Grain quarter's 16 bytes. -/
def mirrorGrain (s : State) (p : Nat) : Bytes :=
  let x := quarterAt s p
  if quarterUp s p then
    leBytes 2 x.onchip.length ++ zeros 2 ++ leBytes 4 (spillPages s p) ++ leBytes 4 (ctrWord x.stray) ++
    leBytes 4 (ctrWord (ctrAdd { n := 0, ovf := (List.range 5).any (fun i => (tget {} x.refusals i).ovf) } ((List.range 5).map (fun i => (tget {} x.refusals i).n)).sum))
  else zeros 16

/-- A slice's 16 bytes. -/
def mirrorSlice (s : State) (i : Nat) : Bytes :=
  let x := sliceAt s i
  if hasElem (slicesUp s) i then
    leBytes 2 (trkBusy s i) ++ leBytes 2 x.parked.length ++ [x.stray, x.contained, x.lockWait].flatMap (fun c => leBytes 4 (ctrWord c))
  else zeros 16

/-- The dies that hold a plot's regions. -/
def plotDies (s : State) (q : Nat) : List Nat := [0, 1, 2, 3].filter (fun p => (plotAt s q).res.regions.any (fun n => decide (nodeDie n = p)))

/-- Highest sensor reading of dies. -/
def hottest (s : State) (ds : List Nat) : Int :=
  match ds.flatMap (fun p => (List.range 14).map (fun i => tempOf s (14 * p + i))) with
  | [] => 0
  | t :: l => l.foldl max t

/-- A plot's section of 1 KiB (R447). -/
def plotSection (s : State) (q : Nat) : Bytes :=
  let x := plotAt s q
  if x.live then
    let ns := x.res.naus.map (nauAt s)
    let fs := (plotFlows s q).map (flowAt s)
    leBytes 1 (plotCode x.state) ++ leBytes 1 (b2n x.tenantKey.isSome) ++ zeros 2 ++ leBytes 4 x.gen ++ zeros 8 ++
    ctr8 (ctrSum (ns.map (·.cntTx))) ++ ctr8 (ctrSum (ns.map (·.cntRx))) ++ ctr8 (ctrSum (ns.map (·.cntHeld))) ++ zeros 8 ++
    ctr8 (ctrSum (fs.map (·.accepted))) ++ ctr8 (ctrSum (fs.map (·.refused))) ++ ctr8 (ctrSum (fs.map (·.spilledN))) ++ ctr8 (ctrSum (fs.map (·.delivered))) ++
    s32 (hottest s (plotDies s q)) ++
    leBytes 4 (((plotDies s q).flatMap (fun p => (List.range 8).map (fun i => speedOf s (10 * p + i)))).foldl max 0) ++ zeros 8 ++
    leBytes 4 (ctrWord x.scanCorr) ++ leBytes 4 (ctrWord x.scanUncorr) ++ zeros 152 ++
    ((x.res.events.flatMap (fun i => leBytes 4 (ctrWord (srcAt s i).count))) ++ zeros 256).take 256 ++ zeros 512
  else zeros 1024

/-- The mirror up to the end of the plot sections (R446). -/
def mirrorBytes (s : State) (seq : Nat) : Bytes :=
  mirrorHead s seq ++ (List.range 768).flatMap (fun i => leBytes 4 (ctrWord (srcAt s i).count)) ++
  (List.range 160).flatMap (fun f => if (laneAbsent s f).isNone then leBytes 4 (laneWord s f) else zeros 4) ++
  (List.range 16).flatMap (mirrorLink s) ++ zeros 128 ++
  [0, 1, 2, 3].flatMap (fun p => (List.range 17).flatMap (mirrorChan s p)) ++ zeros 416 ++
  [0, 1, 2, 3].flatMap (mirrorGrain s) ++ (List.range 7).flatMap (fun k => leBytes 4 (tilthTotals s k).1 ++ leBytes 4 (tilthTotals s k).2) ++ zeros 8 ++
  (List.range 16).flatMap (mirrorSlice s) ++ zeros 25216 ++ plotIds.flatMap (plotSection s)

/-- TELEMETRY_UPDATE (R445): the mirror is rewritten; SEQ is odd meanwhile and ends two higher. -/
def execTelemetryUpdate (s : State) : Host.Outcome State Fault Refusal :=
  if ohmyxRuns s then
    let q := s.tele.seq + 2#32
    .next (modMgmt (modTele s (fun _ => { seq := q, bytes := mirrorBytes s q.toNat })) (fun g => { g with free := g.free + samplesPerUpdate }))
  else .next s

/-! ## Commands (R378) -/

/-- Bytes of the mirror; zero beyond those written. -/
def mirrorRead (s : State) (off n : Nat) : Bytes := ((s.tele.bytes ++ zeros (off + n)).drop off).take n

/-- TEL_READ: the owner reads the mirror, a tenant its plot's section: the checks of R352 from the requester's rights on. -/
def telReadChecks (w : Who) (p : Bytes) (_s : State) : Option Ans :=
  let size := if w.hz = .b then 0x400 else 0x10000
  firstRefusal [chk (decide (u32 p 0 + u16 p 4 ≤ size)) (badArg 0), chk (decide (u16 p 4 ≤ 2032)) (badArg 4)]

/-- TEL_READ: the owner reads the mirror, a tenant its plot's section: the effect and the answer of an accepted command. -/
def telReadEffect (w : Who) (p : Bytes) (s : State) : Ans × State :=
  let base := if w.hz = .b then 0x8000 + (w.plot - 1) * 0x400 else 0
  (ansOk (mirrorRead s (base + u32 p 0) (u16 p 4)), s)

/-- TEL_READ: the owner reads the mirror, a tenant its plot's section. -/
def telReadBody (w : Who) (p : Bytes) (s : State) : Ans × State :=
  orElse (telReadChecks w p s) s (telReadEffect w p s)

/-- TEL_READ. -/
def specTelRead : CmdSpec := { op := 0x0A00, b := true, o := true, len := lenIs 8, body := telReadBody }

/-- TEL_READ (R378). -/
def execTelRead (m : Fin 24) (slot : Fin 8) (p : Bytes) (s : State) : Host.Outcome State Fault Refusal := .next (runCmd specTelRead m.val slot.val p s)

/-- VID_SET: a new target; outside a clamp the ramp turns toward it (R436, R440): the checks of R352 from the requester's rights on. -/
def vidSetChecks (_w : Who) (p : Bytes) (s : State) : Option Ans :=
  let q := u8 p 0
  let mv := u16 p 2
  firstRefusal [if q < 4 then dieAbsent s q else none, chk (decide (q < 4)) (badArg 0), chk (decide (700 ≤ mv ∧ mv ≤ 800 ∧ mv % 5 = 0)) (badArg 2)]

/-- VID_SET: a new target; outside a clamp the ramp turns toward it (R436, R440): the effect and the answer of an accepted command. -/
def vidSetEffect (_w : Who) (p : Bytes) (s : State) : Ans × State :=
  let q := u8 p 0
  let mv := u16 p 2
  (ansOk [], modDie s q (fun d => { d with vidTarget := mv, ramping := if d.clamp then d.ramping else decide (vidCodeOf mv ≠ d.vidCode) }))

/-- VID_SET: a new target; outside a clamp the ramp turns toward it (R436, R440). -/
def vidSetBody (w : Who) (p : Bytes) (s : State) : Ans × State :=
  orElse (vidSetChecks w p s) s (vidSetEffect w p s)

/-- VID_SET. -/
def specVidSet : CmdSpec := { op := 0x0A01, len := lenIs 4, body := vidSetBody }

/-- VID_SET (R436). -/
def execVidSet (m : Fin 24) (slot : Fin 8) (p : Bytes) (s : State) : Host.Outcome State Fault Refusal := .next (runCmd specVidSet m.val slot.val p s)

/-- The sensor or monitor a threshold names: absent with its die. -/
def monitorAbsent (s : State) (kind i : Nat) : Option Ans :=
  let n := if kind = 0 then 14 else 6
  if i < 4 * n then dieAbsent s (i / n) else none

/-- A signed 32-bit field. -/
def i32 (p : Bytes) (off : Nat) : Int := if u32 p off < 2 ^ 31 then u32 p off else (u32 p off : Int) - 2 ^ 32

/-- TEL_THRESH: the checks of R352 from the requester's rights on. -/
def telThreshChecks (_w : Who) (p : Bytes) (s : State) : Option Ans :=
  let i := u8 p 0
  let k := u8 p 1
  firstRefusal [if k ≤ 2 then monitorAbsent s k i else none, chk (decide (i < (if k = 0 then 64 else 32))) (badArg 0), chk (decide (k ≤ 2)) (badArg 1)]

/-- TEL_THRESH: the effect and the answer of an accepted command. -/
def telThreshEffect (_w : Who) (p : Bytes) (s : State) : Ans × State :=
  let i := u8 p 0
  let k := u8 p 1
  (ansOk [], modSys s (fun y =>
    match k with
    | 0 => { y with tempThresh := tset 95000 y.tempThresh i (i32 p 4) }
    | 1 => { y with voltLow := tset 0 y.voltLow i (u32 p 4) }
    | _ => { y with voltHigh := tset 0 y.voltHigh i (u32 p 4) }))

/-- TEL_THRESH. -/
def telThreshBody (w : Who) (p : Bytes) (s : State) : Ans × State :=
  orElse (telThreshChecks w p s) s (telThreshEffect w p s)

/-- TEL_THRESH. -/
def specTelThresh : CmdSpec := { op := 0x0A02, len := lenIs 8, body := telThreshBody }

/-- TEL_THRESH (R378). -/
def execTelThresh (m : Fin 24) (slot : Fin 8) (p : Bytes) (s : State) : Host.Outcome State Fault Refusal := .next (runCmd specTelThresh m.val slot.val p s)

end Machine
end Sys2Proof
end

