-- ==== Sys2Proof/Machine/Turn.lean ====
section
/-! DEFINITION. The turns of Ohmyx: which command, job step or background step runs next (R23, R345), drains (R16, R18), the
completion of public-key operations, DBG_CALL, the serial console's frames (R335, R406), and writes of registers with no row of their
own (R6). -/

namespace Sys2Proof
namespace Machine

/-! ## The commands by opcode (R340) -/

/-- Commands of groups 0x00 to 0x03 and 0x0B. -/
def specsLow : List CmdSpec :=
  [specCaps, specIdCert, specCfgLoad, specCfgClear, specCfgStatus, specCfgStore, specCfgErase, specCfgBootSet, specCfgDir, specCfgReadback,
   specCfgScanStatus, specFwUpdate, specFwActivate, specProfileLoad, specProfileSwap, specProfileUnload, specProfileRead, specProfileStats,
   specHomeMapSet, specHomeMapRead, specAgentBind, specAgentRead, specPceSfAssign, specPceRemap, specPceStatus,
   specPlotCreate, specPlotChange, specPlotDestroy, specPlotReset, specPlotLoad, specPlotStatus, specFlowConfig, specFlowStatus, specSlotLend,
   specSlotReclaim, specGrnConfig, specGrnStatus, specKeyImport, specKeyDrop, specAttest, specVaultStatus, specFuseProg, specBbramKeyWrite,
   specBbramClear, specTamperClear, specJobStatus, specJobCancel, specJobList]

/-- Commands of groups 0x04 to 0x08 and 0x0A. -/
def specsHigh : List CmdSpec :=
  [specMemRead, specMemWrite, specKaoConfig, specKaoStatus, specKaoMapSet, specKaoOpSet, specKaoChanOffline, specKaoChanOnline, specKaoBist,
   specKaoScrub, specKaoInject, specKaoPatrolSet, specPeatConfig, specPeatScrub, specPeatStatus, specSiltRouteLoad, specSiltRouteRead,
   specSiltBypass, specSiltStatus, specSiltTargetRevive, specSiltProbeSet, specSiltTraceRead, specSiltLeaseSet, specNauRateSet, specNauConfig,
   specNauStatus, specPortConfig, specPortReset, specPortLoopback, specPortStatus, specIdeKeySet, specLaneStatus, specLaneMargin,
   specLaneSleep, specReachConfig, specDlinkStatus, specDlinkSwap, specDlinkHalve, specDlinkMargin, specDieIsolate, specKaoChanReplace,
   specRowSpare, specTilthPolicy, specTilthStatus, specTilthClear, specCrcSelftest, specPeatRetire, specEvtRoute, specEvtRearm, specEvtStatus,
   specErrRead, specDumpList, specDumpRead, specDumpPolicy, specDumpErase, specTelRead, specVidSet, specTelThresh]

/-- Commands of group 0x09 but DBG_CALL. -/
def specsDbg : List CmdSpec :=
  [specDbgOpen, specDbgClose, specDbgFreeze, specDbgResume, specDbgRead, specDbgWrite, specDbgUnitSet, specDbgStatus, specVdbgOpen]

/-- A command that DBG_CALL may carry. -/
def innerSpec (op : Nat) : Option CmdSpec := (specsLow ++ specsHigh).find? (fun c => decide (c.op = op))

/-! ## DBG_CALL (R377) -/

/-- The inner command's answer: of group 0x09 none, of an unknown opcode ST_BAD_ARG. -/
def innerRun (s : State) (w : Who) (op : Nat) (p : Bytes) : Ans × State :=
  match innerSpec op with
  | some c => runBody c w p s
  | none => (ansBad stBadArg 0xFF, s)

/-- DBG_CALL's body: OPCODE, INNER at 4. -/
def dbgCallBody (_id : Nat) (x : Session) (w : Who) (p : Bytes) (s : State) : Ans × State :=
  if groupOf (u16 p 0) = 9 then (badArg 0, s)
  else
    let r := innerRun s (sessWho s x w) (u16 p 0) (p.drop 4)
    (ansOk (leBytes 1 r.1.status ++ zeros 1 ++ leBytes 1 r.1.detail ++ zeros 1 ++ leBytes 2 r.1.job ++ zeros 2 ++ r.1.payload), r.2)

/-- DBG_CALL. -/
def specDbgCall : CmdSpec := { op := 0x0908, len := sessLen, body := sessBody 0x0908 (fun b => decide (4 ≤ b.length)) dbgCallBody }

/-- A restart that FW_ACTIVATE has asked for begins once its command is answered (R327). -/
def startAskedRestart (s : State) : State := if s.mgmt.restartFw && !s.mgmt.restarting then restartBegin s 3 else s

/-- DBG_CALL (R377). -/
def execDbgCall (m : Fin 24) (slot : Fin 8) (p : Bytes) (s : State) : Host.Outcome State Fault Refusal :=
  .next (startAskedRestart (runCmd specDbgCall m.val slot.val p s))

/-! ## Public-key operations (R345) -/

/-- Commands that hand an operation to the public-key engine. -/
def pkSpec (op : Nat) : Option CmdSpec := [specKeyImport, specAttest, specDbgOpen].find? (fun c => decide (c.op = op))

/-- The requester of a queued operation. -/
def pkWho (s : State) (o : PkOp) : Who := { (whoOf s o.mbx o.slot) with mbx := o.mbx, slot := o.slot }

/-- PK_OP_COMPLETE (R345): the first operation has finished and its command completes; in the fatal state with ST_FAULT (R398). -/
def execPkOpComplete (s : State) : Host.Outcome State Fault Refusal :=
  if serving s then
    match s.vault.pkQueue with
    | [] => .next s
    | o :: l =>
      let s1 := modVault s (fun v => { v with pkQueue := l })
      if s.sys.fatal then .next (reply s1 o.mbx o.slot o.op (ansBad stFault 1))
      else match pkSpec o.op with
      | some c =>
        let r := c.body (pkWho s1 o) o.payload s1
        .next (reply r.2 o.mbx o.slot o.op r.1)
      | none => .next s1
  else .next s

/-! ## Drains (R16, R18) -/

/-- Agents of a port's links whose share of the drain is not complete by the link's going down (R83). -/
def portAgent (s : State) (n a : Nat) : Bool :=
  [2 * n, 2 * n + 1].any (fun l =>
    decide ((linkAt s l).state ≠ .down) && !(linkAt s l).drained && decide (tget 0 s.pce.linkBase l ≤ a ∧ a < tget 0 s.pce.linkBase l + tget 0 s.pce.linkCount l))

/-- Entries of a slot that hold a taken grain or whose directive is out. -/
def slotTaken (x : ESlot) : Bool := x.entries.any (fun e => match e.2 with | some g => g.taken | none => false)

/-- Entries of a flow taken anywhere. -/
def flowTaken (s : State) (f : Nat) : Bool :=
  s.quarters.any (fun q => q.2.slots.any (fun x => x.2.entries.any (fun e => match e.2 with | some g => g.taken && decide (gFlow g.grain.desc = f) | none => false)))

/-- A plot's drain (R318): its NAUs' requests, trackers, taken entries, locks. -/
def plotDrained (s : State) (q : Nat) : Bool :=
  let ns := (plotAt s q).res.naus
  ns.all (fun n => (nauAt s n).out.all (·.dead)) && agentsDrained s (fun a => decide (plotOfAgent s a = q)) &&
  ns.all (fun n => (quarterAt s (nodeDie n)).slots.all (fun x => decide (slotHolder s (nodeDie n) x.1 ≠ some n) || !slotTaken x.2)) &&
  decide (nauLocksOf s q = [])

/-- What a quiesce of a function waits for has finished. -/
def drainedFn (s : State) : Func → Bool
  | .port n => agentsDrained s (portAgent s n) && [2 * n, 2 * n + 1].all (fun l => decide ((linkAt s l).heldMsgs = []))
  | .agents n => agentsDrained s (fun a => decide (aProfile (agentAt s a) = n))
  | .agentRange f c => agentsDrained s (fun a => decide (f ≤ a ∧ a < f + c))
  | .allAgents => agentsDrained s (fun _ => true)
  | .flow f => !flowTaken s f
  | .slot p k => !slotTaken (tget {} (quarterAt s p).slots k)
  | .front p lx => frontDrained s p lx
  | .chan p c => queuesDrained s p [c] (fun a => decide (chanOf s a = c))
  | .stack p => queuesDrained s p (List.range 17) (fun _ => true)
  | .plot q => plotDrained s q
  | _ => true

/-- A job waits for its drain. -/
def drains (s : State) (id : Nat) : Bool :=
  (match jobAt s id with | some j => decide (j.state = .running ∧ j.stage = 1) | none => false) &&
  s.mgmt.holds.any (fun h => decide (h.job = id) && h.quiesce)

/-- Every function a job holds under quiesce has drained. -/
def allDrained (s : State) (id : Nat) : Bool := (s.mgmt.holds.filter (fun h => decide (h.job = id) && h.quiesce)).all (fun h => drainedFn s h.fn)

/-- The drain is over: the job goes on to its change; a plot load begins its body at once (R319). -/
def drainDone (s : State) (id : Nat) : State :=
  let s1 := jobDrained s id
  match jobAt s id with
  | some j => if j.op = 0x0204 then startPlotBody s1 id (u8 j.payload 0) j.data else s1
  | none => s1

/-- DRAIN_COMPLETE (R16). -/
def execDrainComplete (job : Fin 65536) (s : State) : Host.Outcome State Fault Refusal :=
  if drains s job.val && allDrained s job.val then .next (drainDone s job.val) else .next s

/-- The drain missed its bound: the function resumes on its old settings (R18). -/
def drainFail (s : State) (id : Nat) : State :=
  match jobAt s id with
  | some j =>
    if j.op = 0x0204 then resumeAll (failLoad s id { reason := 0x0A, stage := 2, status := stQuiesceTimeout } .done 0)
    else resumeAll (jobFail (endCopy s j) id stQuiesceTimeout 0 0)
  | none => s

/-- DRAIN_TIMEOUT (R18). -/
def execDrainTimeout (job : Fin 65536) (s : State) : Host.Outcome State Fault Refusal :=
  if drains s job.val then .next (drainFail s job.val) else .next s

/-- PLOT_BLANK_ZEROING_DONE (R363): the frames of the plot that the request names are zero. -/
def execPlotBlankZeroingDone (m : Fin 24) (slot : Fin 8) (p : Bytes) (s : State) : Host.Outcome State Fault Refusal :=
  let q := u8 p 0
  if m.val ≤ 18 ∧ slot.val < 8 ∧ (plotAt s q).zeroing = true then
    .next (modPlot (zeroFrames s (inMap s q)) q (fun x => { x with zeroing := false }))
  else .next s

/-! ## Jobs (R20, R345) -/

/-- A step of a job by its opcode. -/
def stepByOp (s : State) (id : Nat) (j : Job) : State :=
  match j.op with
  | 0x0000 => stepDump s id j
  | 0x0100 => stepCfgLoad s id j
  | 0x0101 => stepCfgClear s id j
  | 0x0103 => stepCfgStore s id j
  | 0x0104 => stepCfgErase s id j
  | 0x0105 => stepCfgBootSet s id j
  | 0x0107 => stepCfgReadback s id j
  | 0x0109 => stepFwUpdate s id j
  | 0x0110 => stepProfileLoad s id j
  | 0x0111 => stepProfileSwap s id j
  | 0x0113 => stepProfileRead s id j
  | 0x0115 => stepHomeMapSet s id j
  | 0x0117 => stepAgentBind s id j
  | 0x011A => stepPceRemap s id j
  | 0x0202 => stepPlotDestroy s id j
  | 0x0204 => stepPlotLoad s id j
  | 0x0206 => stepFlowConfig s id j
  | 0x0209 => stepSlotReclaim s id j
  | 0x0304 => stepFuseProg s id j
  | 0x0701 => stepDlinkSwap s id j
  | 0x0702 => stepDlinkHalve s id j
  | 0x0704 => stepDieIsolate s id j
  | 0x0705 => stepCopy s id j
  | 0x0709 => stepTilthClear s id j
  | 0x070B => stepPeatRetire s id j
  | 0x0805 => stepDumpRead s id j
  | 0x0807 => stepDumpErase s id j
  | 0x0909 => stepVdbgOpen s id j
  | _ => stepGroups456 s id j

/-- The host address of the DMA transfer that a job's next step makes. -/
def jobDma (s : State) (j : Job) : Option Nat :=
  let p := j.payload
  match j.op with
  | 0x0100 => if j.stage = 0 ∧ u8 p 0 = 1 then some (u64 p 8) else none
  | 0x0204 => if j.stage = 0 ∧ u8 p 1 = 1 then some (u64 p 16) else none
  | 0x0103 => some (u64 p 8)
  | 0x0107 => some (u64 p 8)
  | 0x0109 => if u64 p 8 = 0 then none else some (u64 p 8)
  | 0x0110 => if j.stage = 0 then some (u64 p 8) else none
  | 0x0113 => some (u64 p 8)
  | 0x0400 => if memIdle s p then some (memHost p) else none
  | 0x0401 => if memIdle s p then some (memHost p) else none
  | 0x0500 => if j.stage = 0 then some (u64 p 8) else none
  | 0x0506 => some (u64 p 8)
  | 0x0805 => some (u64 p 16)
  | _ => none

/-- A job ends by a DMA error (R354): nothing of the transfer counts. -/
def failDma (s : State) (id : Nat) (j : Job) : State :=
  match j.op with
  | 0x0100 => failLoad s id { reason := 0x0E, stage := 0, status := stFault } .done 3
  | 0x0204 => failLoad s id { reason := 0x0E, stage := 0, status := stFault } .done 3
  | 0x0500 => afterChange (jobFail s id stFault 3 0)
  | _ => jobFail s id stFault 3 0

/-- The transfer of a job's next step fails. -/
def jobDmaFails (s : State) (j : Job) : Bool := match jobDma s j with | some a => dmaFails s a | none => false

/-- One step of a job; a cancel takes effect at its boundary (R349), and a failing DMA transfer ends it (R354). -/
def stepJob (s : State) (id : Nat) : State :=
  match jobAt s id with
  | some j => if j.state ≠ .running then s else if j.cancel && !j.sure then cancelNow s id 4 else if jobDmaFails s j then failDma s id j else stepByOp s id j
  | none => s

/-- The next open job, round robin. -/
def nextOpenJob (s : State) : Option Nat :=
  match (openJobs s).find? (fun id => decide (s.mgmt.lastJob < id)) with
  | some id => some id
  | none => (openJobs s).head?

/-- A job's turn: commands have run for no time since (R345). -/
def jobTurn (s : State) (id : Nat) : State := stepJob (modMgmt s (fun g => { g with lastJob := id, cmdUs := 0 })) id

/-! ## Mailboxes (R345, R406) -/

/-- The oldest QUEUED command of a mailbox. -/
def oldestQueued (s : State) (m : Nat) : Option Nat :=
  (((List.range 8).filter (fun i => decide ((slotAt s m i).state = .queued))).foldl (fun (b : Option (Nat × Nat)) i => match b with
    | none => some (i, (slotAt s m i).seq)
    | some y => if (slotAt s m i).seq < y.2 then some (i, (slotAt s m i).seq) else b) none).map (·.1)

/-- Carry out the command of a slot. -/
def runSlot (s : State) (m i : Nat) : State :=
  let op := hdrOp s m i
  let p := hdrPayload s m i
  let w := { (whoOf s m i) with consume := hdrConsume s m i }
  let bad : CmdSpec := { op := op, b := true, o := true, unb := true, len := fun _ => false, body := fun _ _ s => (ansBad stBadArg 0xFF, s) }
  if 2032 < hdrLen s m i then runCmd bad m i p s
  else if op = 0x0300 then runPk specKeyImport keyImportPre m i p s
  else if op = 0x0302 then runPk specAttest attestPre m i p s
  else if op = 0x0900 then runPk specDbgOpen dbgOpenPre m i p s
  else if op = 0x0902 then runFreeze m i p s
  else if op = 0x0908 then startAskedRestart (runCmd specDbgCall m i p s)
  else if ((op = 0x0400 ∧ admits specMemRead m i p s = true) ∨ (op = 0x0401 ∧ admits specMemWrite m i p s = true)) ∧ memWaits w p s = true then s
  else match (specsLow ++ specsHigh ++ specsDbg).find? (fun c => decide (c.op = op)) with
    | some c => startAskedRestart (runCmd c m i p s)
    | none => runCmd bad m i p s

/-- The head of the monitor's queue already runs: its operation or its freeze is awaited. -/
def monitorRuns (s : State) : Bool :=
  s.vault.pkQueue.any (fun o => decide (o.mbx = 18 ∧ o.slot = monitorSlot)) ||
  s.plots.any (fun kv => match kv.2.haltBy with | some h => decide (h.mbx = 18 ∧ h.slot = monitorSlot) | none => false)

/-- A monitor request waits. -/
def monitorWaits (s : State) : Bool := decide ((mbxAt s 18).monitor ≠ []) && !monitorRuns s

/-- The requester of the serial console's type 0x02 frames (R406): the session's horizon and plot govern. -/
def monitorWho (s : State) : Who := { (whoOf s 18 monitorSlot) with consume := hdrConsume s 18 monitorSlot }

/-- Serve the request at the head of the monitor's queue. -/
def runMonitor (s : State) : State :=
  let op := hdrOp s 18 monitorSlot
  let p := hdrPayload s 18 monitorSlot
  let w := monitorWho s
  let answer := fun (r : Ans × State) => reply r.2 18 monitorSlot op r.1
  if s.sys.fatal then answer (ansBad stFault 1, s)
  else if 2032 < hdrLen s 18 monitorSlot then answer (ansBad stBadArg 0xFF, s)
  else if op = 0x0900 then
    if specDbgOpen.len p then
      match dbgOpenPre w p s with
      | some a => answer (a, s)
      | none => modVault s (fun v => { v with pkQueue := v.pkQueue ++ [{ mbx := 18, slot := monitorSlot, op := op, payload := p }] })
    else answer (ansBad stBadArg 0xFF, s)
  else if op = 0x0902 ∧ sessLen p = true ∧ (freezeWaits s w p).isSome then (freezeWaits s w p).getD s
  else match [specDbgClose, specDbgFreeze, specDbgResume, specDbgRead, specDbgWrite, specDbgUnitSet, specDbgStatus, specDbgCall].find?
      (fun c => decide (c.op = op)) with
    | some c => if c.len p then startAskedRestart (answer (c.body w p s)) else answer (ansBad stBadArg 0xFF, s)
    | none => answer (ansBad stBadArg 0xFF, s)

/-- A mailbox has something for Ohmyx. -/
def mbxWaits (s : State) (m : Nat) : Bool := (oldestQueued s m).isSome || (decide (m = 18) && monitorWaits s)

/-- The mailbox served next, round robin. In ROM mode too: what the boot ROM does not serve it answers ST_ABSENT (R326). -/
def nextMbx (s : State) : Option Nat :=
  ((List.range 19).map (fun i => (s.mgmt.lastMbx + 1 + i) % 19)).find? (mbxWaits s)

/-- Serve a mailbox: mailbox 18's frame requests alternate with its slots (R406). -/
def serveMbx (s : State) (m us : Nat) : State :=
  let s1 := modMgmt s (fun g => { g with lastMbx := m, cmdUs := if (openJobs s).isEmpty then 0 else g.cmdUs + us })
  let slotTurn := match oldestQueued s1 m with
    | some i => modMbx (runSlot s1 m i) m (fun b => { b with lastMonitor := false })
    | none => s1
  if m = 18 ∧ monitorWaits s1 = true ∧ ((oldestQueued s1 m).isNone = true ∨ (mbxAt s1 18).lastMonitor = false) then
    runMonitor (modMbx s1 18 (fun b => { b with lastMonitor := true }))
  else slotTurn

/-! ## Background tasks (R23) -/

/-- Minimum shares, per mille, in the order of R23. -/
def floors : List Nat := [50, 50, 20, 20, 10]

/-- Tasks in round-robin order after the last. -/
def taskOrder (s : State) : List Nat := (List.range 5).map (fun i => (s.mgmt.lastTask + 1 + i) % 5)

/-- A task's floor in the current window: a task that needs less than its share returns the rest to the pool. -/
def floorOf (s : State) (i : Nat) : Nat := min (floors.getD i 0) (Config.taskNeed i s.mgmt.windows)

/-- The next background task that has used less than its floor pro rata in the window. -/
def belowFloor (s : State) : Option Nat := (taskOrder s).find? (fun i => decide (1000 * tget 0 s.mgmt.used i < floorOf s i * s.mgmt.windowUs))

/-- One step of a background task. Peat wear management (task 3) acts in it; what the steps of the others find is told by rows of their own. -/
def taskTurn (s : State) (i us : Nat) : State :=
  modMgmt (if i = 3 then peatWear s else s) (fun g => { g with lastTask := i, used := tmod 0 g.used i (· + us), taskSteps := tmod 0 g.taskSteps i (· + 1) })

/-- Core time of the window that was not left over to background tasks beyond their floors, per mille. -/
def busyOf (g : Mgmt) : Nat :=
  let over_ := ((List.range 5).map (fun i => tget 0 g.used i - floors.getD i 0 * g.windowUs / 1000)).sum
  1000 * (g.windowUs - over_) / max 1 g.windowUs

/-- The management time of a turn counts; a window of 100 ms that is full becomes the last one (R23, R446). -/
def countTurn (s : State) (us : Nat) : State :=
  modMgmt s (fun g0 =>
    let g := { g0 with windowUs := g0.windowUs + us }
    if g.windowUs < 100000 then g
    else { g with
      shares := (List.range 5).foldl (fun t i => tset 0 t i (1000 * tget 0 g.used i / g.windowUs)) [], busy := busyOf g, used := [], windowUs := 0, windows := g.windows + 1 })

/-- What runs in a turn (R345). In ROM mode the ROM serves commands and their jobs only. -/
def chooseTurn (s : State) (us : Nat) : State :=
  let rom := decide (s.sys.phase = .romMode)
  match if rom then none else belowFloor s with
  | some i => taskTurn s i us
  | none =>
    match (if 1000 ≤ s.mgmt.cmdUs then nextOpenJob s else none) with
    | some id => jobTurn s id
    | none =>
      match nextMbx s with
      | some m => serveMbx s m us
      | none =>
        match nextOpenJob s with
        | some id => jobTurn s id
        | none => if rom then s else taskTurn s ((taskOrder s).headD 0) us

/-- What Ohmyx does at every turn before it chooses: the other copies of system-area records it has written (R265), the error records, and
what of its own waited for its turn (R21, R218, R227). -/
def turnFirst (s : State) : State :=
  let s1 := if s.peat.sysDue = [] then s else sysSecond s
  if s1.sys.phase = .ready then runTriggers (startOwed (readRecords s1)) else s1

/-- TURN (R345): a turn that lasts `us` microseconds. -/
def execTurn (us : Nat) (s : State) : Host.Outcome State Fault Refusal :=
  if serving s then .next (countTurn (chooseTurn (turnFirst s) us) us) else .next s

/-! ## The serial console (R335, R406) -/

/-- One bit of CRC-32 with the IEEE polynomial, least significant bit first. -/
def frameCrcBit (c : Word) : Word := if bitOf c 0 then (c >>> 1) ^^^ 0xEDB88320#32 else c >>> 1

/-- CRC-32 of bytes. -/
def crc32 (b : Bytes) : Word :=
  ~~~(b.foldl (fun c x => frameCrcBit (frameCrcBit (frameCrcBit (frameCrcBit (frameCrcBit (frameCrcBit (frameCrcBit (frameCrcBit (c ^^^ x.setWidth 32))))))))) 0xFFFFFFFF#32)

/-- The bytes of a frame without its delimiters and escapes. -/
def unescape : Bytes → Bytes
  | [] => []
  | [x] => if x = 0x7E#8 ∨ x = 0x7D#8 then [] else [x]
  | x :: y :: l => if x = 0x7E#8 then unescape (y :: l) else if x = 0x7D#8 then (y ^^^ 0x20#8) :: unescape l else x :: unescape (y :: l)

/-- A monitor request is answered at once. -/
def monitorBusy (s : State) (h : BitVec 128) (detail : Nat) : State :=
  modMbx (drawFree s) 18 (fun b => { b with sent := b.sent ++ [(rspHeader (fld h 15 0) (fld h 63 32) (ansBad stBusy detail) (retryHint s), [])] })

/-- The session a request names is the horizon O session, and the request is one that the debug bus master serves itself (R422). -/
def masterServes (s : State) (h : BitVec 128) (p : Bytes) : Bool :=
  (decide (fld h 15 0 = 0x0904) || decide (fld h 15 0 = 0x0905) || decide (fld h 15 0 = 0x0907)) &&
  (match sessionAt s (u16 p 0) with | some x => decide (x.hz = .o) | none => false)

/-- A type 0x02 frame (R406): queued for the monitor, answered ST_BUSY, or served by the debug bus master while the cores are halted. -/
def monitorFrame (s : State) (h : BitVec 128) (p : Bytes) : State :=
  if s.sys.phase ≠ .ready then s
  else if s.mgmt.restarting then monitorBusy s h 4
  else if s.mgmt.halted.isSome then
    if masterServes s h p then runMonitor (modMbx s 18 (fun b => { b with monitor := (h, p) :: b.monitor }))
    else monitorBusy s h 2
  else if 4 ≤ (mbxAt s 18).monitor.length then monitorBusy s h 1
  else modMbx s 18 (fun b => { b with monitor := b.monitor ++ [(h, p)] })

/-- MONITOR_FRAME (R406). -/
def execMonitorFrame (header : BitVec 128) (payload : Bytes) (s : State) : Host.Outcome State Fault Refusal := .next (monitorFrame s header payload)

/-- A frame's type, body and whether its CRC fits. -/
def frameOk (b : Bytes) : Bool := decide (5 ≤ b.length) && decide (crc32 (b.take (b.length - 4)) = BitVec.ofNat 32 (leN b (b.length - 4) 4))

/-- UART_FRAME (R335). -/
def execUartFrame (frame : Bytes) (s : State) : Host.Outcome State Fault Refusal :=
  let b := unescape frame
  let body := subBytes b 1 (b.length - 5)
  let h := BitVec.ofNat 128 (leN body 0 16)
  if !frameOk b then .next (modMgmt s (fun g => { g with crcErr := ctrInc g.crcErr }))
  else if body.length < 16 then .next s
  else if u8 b 0 = 1 then .next (transportRequest s 18 h (body.drop 16))
  else if u8 b 0 = 2 then .next (monitorFrame s h (body.drop 16))
  else .next s

/-! ## REGISTER_WRITE (R6, R336) -/

/-- A write in a mailbox control page (R343). -/
def mbxRegWrite (s : State) (m off : Nat) (v : Word) : State :=
  match off with
  | 0x008 => doorbell s m v
  | 0x010 => ackSlots s m v
  | 0x014 => modMbx s m (fun b => { b with doneEn := bitOf v 0, irqHi := BitVec.ofNat 31 (fld v 31 1) })
  | 0x02C => mbxCntClear s m v
  | _ => s

/-- A write in a slot's page: its request area. -/
def slotRegWrite (s : State) (m i off : Nat) (v : Word) : State :=
  if 2048 ≤ off then s else hostSlotWrite s m i off (leBytes 4 v.toNat)

/-- A vector's mask bit is set. -/
def maskVector (s : State) (f v : Nat) : State := modFn s f (fun n => { n with unmasked := without n.unmasked v })

/-- A write of the MSI-X table (R336): address and data words, and the mask bit of an entry. -/
def msixWrite (s : State) (f off : Nat) (v : Word) : State :=
  let e := off / 16
  if e < fnVectors s f then
    if off % 16 = 12 then (if bitOf v 0 then maskVector s f e else unmaskVector s f e)
    else modFn s f (fun n => { n with table := tset 0#32 n.table (off / 4) v })
  else s

/-- A 32-bit word of bytes at an offset; zero beyond them. -/
def wordOf (b : Bytes) (off : Nat) : Nat := leN b off 4

/-- What a read of a slot's page returns (R338, R340): the request area is written only, the response area holds the response of a
slot that is DONE and reads 0 otherwise, as it does where the endpoint port does not reach the bank (R330). -/
def slotReg (s : State) (m i off : Nat) : Nat :=
  let x := slotAt s m i
  if off < 2048 ∨ x.state ≠ .done ∨ bankLets s (slotBank m) .endpoint = false then 0 else wordOf (leBytes 16 x.rspHdr.toNat ++ x.rsp) (off - 2048)

/-- What a read of a function's BAR0 returns (R336, R337): capability page, mailbox control page, slots, MSI-X table and pending bits,
and the telemetry mirror of PF0; reserved ranges read 0. -/
def barReg (s : State) (f off : Nat) : Nat :=
  if off < 0x1000 then wordOf (capBytes s f) off
  else if off < 0x2000 then mbxReg s f (off - 0x1000)
  else if off < 0xA000 then slotReg s f ((off - 0x2000) / 4096) ((off - 0x2000) % 4096)
  else if off < 0xB000 then
    let e := (off - 0xA000) / 16
    if e < fnVectors s f then
      (if off % 16 = 12 then b2n (!hasElem (fnAt s f).unmasked e) else (tget 0#32 (fnAt s f).table ((off - 0xA000) / 4)).toNat)
    else 0
  else if off < 0xC000 then
    ((List.range 32).map (fun i => b2n (hasElem (fnAt s f).pending (8 * (off - 0xB000) + i)) * 2 ^ i)).sum
  else if 0x10000 ≤ off ∧ off < 0x20000 ∧ f = 0 then wordOf s.tele.bytes (off - 0x10000)
  else 0

/-- A write of a function's BAR0 (R336). -/
def barWrite (s : State) (f off : Nat) (v : Word) : State :=
  if off % 4 ≠ 0 then s
  else if 0x1000 ≤ off ∧ off < 0x2000 then mbxRegWrite s f (off - 0x1000) v
  else if 0x2000 ≤ off ∧ off < 0xA000 then slotRegWrite s f ((off - 0x2000) / 4096) ((off - 0x2000) % 4096) v
  else if 0xA000 ≤ off ∧ off < 0xB000 then msixWrite s f (off - 0xA000) v
  else s

/-- A write of a Silt register by a master its register admits (R180): at an attachment in service that has registers. -/
def siltWrite (s : State) (a : Nat) (v : Word) : State :=
  if inRegs a && decide (a % 4 = 0) && attUp s (regNode a) then
    match regWrite s (regNode a) (regOff a) v with
    | some (_, t) => t
    | none => s
  else s

/-- REGISTER_WRITE (R6). -/
def execRegisterWrite (a : RegAddr) (v : Word) (s : State) : Host.Outcome State Fault Refusal :=
  match a with
  | .bar f off => if mbxReached s f.val then .next (barWrite s f.val off v) else .next s
  | .silt addr => .next (siltWrite s addr v)
  | .spd off => .next (spdRegWrite s off v)
  | .dbg session off => .next (sessRegWrite s session.val off v)

end Machine
end Sys2Proof
end

