-- ==== Sys2Proof/Machine/Dispatch.lean ====
section
/-! DEFINITION. One arm per command: a direct call of its meaning. -/

namespace Sys2Proof
namespace Machine

-- The effect of a command on everything but the queue (R1 to R464, by command).
def exec (i : Instr) (s : State) : Host.Outcome State Fault Refusal :=
  match i with
  | .porNAssert lowUs => Sys2Proof.Machine.execPorNAssert lowUs s
  | .porNRelease bootSrc => Sys2Proof.Machine.execPorNRelease bootSrc s
  | .loamResetRelease synthBad groups => Sys2Proof.Machine.execLoamResetRelease synthBad groups s
  | .ohmyxStart kaolinBad => Sys2Proof.Machine.execOhmyxStart kaolinBad s
  | .mailboxReady => Sys2Proof.Machine.execMailboxReady s
  | .brownOut rail => Sys2Proof.Machine.execBrownOut rail s
  | .loamRailLow pos => Sys2Proof.Machine.execLoamRailLow pos s
  | .vbattLow => Sys2Proof.Machine.execVbattLow s
  | .railOutOfLimits monitor mv => Sys2Proof.Machine.execRailOutOfLimits monitor mv s
  | .refclkLoss input => Sys2Proof.Machine.execRefclkLoss input s
  | .thermalWarning sensor mc => Sys2Proof.Machine.execThermalWarning sensor mc s
  | .thermalClamp sensor => Sys2Proof.Machine.execThermalClamp sensor s
  | .clampEnd pos => Sys2Proof.Machine.execClampEnd pos s
  | .thermalTrip src => Sys2Proof.Machine.execThermalTrip src s
  | .vidRampStep pos => Sys2Proof.Machine.execVidRampStep pos s
  | .voltageDrift pos => Sys2Proof.Machine.execVoltageDrift pos s
  | .tamper => Sys2Proof.Machine.execTamper s
  | .synthLockLoss pos => Sys2Proof.Machine.execSynthLockLoss pos s
  | .tapInstruction inst => Sys2Proof.Machine.execTapInstruction inst s
  | .tapReset => Sys2Proof.Machine.execTapReset s
  | .brdEvtInput inst => Sys2Proof.Machine.execBrdEvtInput inst s
  | .mbxDoorbell m value => Sys2Proof.Machine.execMbxDoorbell m value s
  | .mbxAck m value => Sys2Proof.Machine.execMbxAck m value s
  | .slotZeroized m slot => Sys2Proof.Machine.execSlotZeroized m slot s
  | .mctpRequest pecOk header payload => Sys2Proof.Machine.execMctpRequest pecOk header payload s
  | .setEndpointId eid => Sys2Proof.Machine.execSetEndpointId eid s
  | .getEndpointId => Sys2Proof.Machine.execGetEndpointId s
  | .getMctpVersionSupport msgType => Sys2Proof.Machine.execGetMctpVersionSupport msgType s
  | .getMessageTypeSupport => Sys2Proof.Machine.execGetMessageTypeSupport s
  | .uartFrame frame => Sys2Proof.Machine.execUartFrame frame s
  | .monitorFrame header payload => Sys2Proof.Machine.execMonitorFrame header payload s
  | .turn us => Sys2Proof.Machine.execTurn us s
  | .pkOpComplete => Sys2Proof.Machine.execPkOpComplete s
  | .saturation => Sys2Proof.Machine.execSaturation s
  | .mgmtWatchdogExpiry => Sys2Proof.Machine.execMgmtWatchdogExpiry s
  | .lockstepMismatch => Sys2Proof.Machine.execLockstepMismatch s
  | .scratchpadUncorrectable word victim => Sys2Proof.Machine.execScratchpadUncorrectable word victim s
  | .managementRestartDone => Sys2Proof.Machine.execManagementRestartDone s
  | .flr f => Sys2Proof.Machine.execFlr f s
  | .vfDisable numVfs => Sys2Proof.Machine.execVfDisable numVfs s
  | .endpointHotReset => Sys2Proof.Machine.execEndpointHotReset s
  | .fwPieceTimeout => Sys2Proof.Machine.execFwPieceTimeout s
  | .spdBankOwnerWrite bank v => Sys2Proof.Machine.execSpdBankOwnerWrite bank v s
  | .spdSetAliasWrite master word v => Sys2Proof.Machine.execSpdSetAliasWrite master word v s
  | .spdClearAliasWrite master word v => Sys2Proof.Machine.execSpdClearAliasWrite master word v s
  | .spdErrRead => Sys2Proof.Machine.execSpdErrRead s
  | .spdCntClr v => Sys2Proof.Machine.execSpdCntClr v s
  | .mbxErrRead m => Sys2Proof.Machine.execMbxErrRead m s
  | .mbxCntClr m v => Sys2Proof.Machine.execMbxCntClr m v s
  | .registerWrite a v => Sys2Proof.Machine.execRegisterWrite a v s
  | .caps m slot p => Sys2Proof.Machine.execCaps m slot p s
  | .idCert m slot p => Sys2Proof.Machine.execIdCert m slot p s
  | .jobStatus m slot p => Sys2Proof.Machine.execJobStatus m slot p s
  | .jobCancel m slot p => Sys2Proof.Machine.execJobCancel m slot p s
  | .jobList m slot p => Sys2Proof.Machine.execJobList m slot p s
  | .cfgLoad m slot p => Sys2Proof.Machine.execCfgLoad m slot p s
  | .cfgClear m slot p => Sys2Proof.Machine.execCfgClear m slot p s
  | .cfgStatus m slot p => Sys2Proof.Machine.execCfgStatus m slot p s
  | .cfgStore m slot p => Sys2Proof.Machine.execCfgStore m slot p s
  | .cfgErase m slot p => Sys2Proof.Machine.execCfgErase m slot p s
  | .cfgBootSet m slot p => Sys2Proof.Machine.execCfgBootSet m slot p s
  | .cfgDir m slot p => Sys2Proof.Machine.execCfgDir m slot p s
  | .cfgReadback m slot p => Sys2Proof.Machine.execCfgReadback m slot p s
  | .cfgScanStatus m slot p => Sys2Proof.Machine.execCfgScanStatus m slot p s
  | .fwUpdate m slot p => Sys2Proof.Machine.execFwUpdate m slot p s
  | .fwActivate m slot p => Sys2Proof.Machine.execFwActivate m slot p s
  | .profileLoad m slot p => Sys2Proof.Machine.execProfileLoad m slot p s
  | .profileSwap m slot p => Sys2Proof.Machine.execProfileSwap m slot p s
  | .profileUnload m slot p => Sys2Proof.Machine.execProfileUnload m slot p s
  | .profileRead m slot p => Sys2Proof.Machine.execProfileRead m slot p s
  | .profileStats m slot p => Sys2Proof.Machine.execProfileStats m slot p s
  | .homeMapSet m slot p => Sys2Proof.Machine.execHomeMapSet m slot p s
  | .homeMapRead m slot p => Sys2Proof.Machine.execHomeMapRead m slot p s
  | .agentBind m slot p => Sys2Proof.Machine.execAgentBind m slot p s
  | .agentRead m slot p => Sys2Proof.Machine.execAgentRead m slot p s
  | .pceSfAssign m slot p => Sys2Proof.Machine.execPceSfAssign m slot p s
  | .pceRemap m slot p => Sys2Proof.Machine.execPceRemap m slot p s
  | .pceStatus m slot p => Sys2Proof.Machine.execPceStatus m slot p s
  | .plotCreate m slot p => Sys2Proof.Machine.execPlotCreate m slot p s
  | .plotChange m slot p => Sys2Proof.Machine.execPlotChange m slot p s
  | .plotDestroy m slot p => Sys2Proof.Machine.execPlotDestroy m slot p s
  | .plotReset m slot p => Sys2Proof.Machine.execPlotReset m slot p s
  | .plotBlankZeroingDone m slot p => Sys2Proof.Machine.execPlotBlankZeroingDone m slot p s
  | .plotLoad m slot p => Sys2Proof.Machine.execPlotLoad m slot p s
  | .plotStatus m slot p => Sys2Proof.Machine.execPlotStatus m slot p s
  | .flowConfig m slot p => Sys2Proof.Machine.execFlowConfig m slot p s
  | .flowStatus m slot p => Sys2Proof.Machine.execFlowStatus m slot p s
  | .slotLend m slot p => Sys2Proof.Machine.execSlotLend m slot p s
  | .slotReclaim m slot p => Sys2Proof.Machine.execSlotReclaim m slot p s
  | .grnConfig m slot p => Sys2Proof.Machine.execGrnConfig m slot p s
  | .grnStatus m slot p => Sys2Proof.Machine.execGrnStatus m slot p s
  | .keyImport m slot p => Sys2Proof.Machine.execKeyImport m slot p s
  | .keyDrop m slot p => Sys2Proof.Machine.execKeyDrop m slot p s
  | .attest m slot p => Sys2Proof.Machine.execAttest m slot p s
  | .vaultStatus m slot p => Sys2Proof.Machine.execVaultStatus m slot p s
  | .fuseProg m slot p => Sys2Proof.Machine.execFuseProg m slot p s
  | .bbramKeyWrite m slot p => Sys2Proof.Machine.execBbramKeyWrite m slot p s
  | .bbramClear m slot p => Sys2Proof.Machine.execBbramClear m slot p s
  | .tamperClear m slot p => Sys2Proof.Machine.execTamperClear m slot p s
  | .memRead m slot p => Sys2Proof.Machine.execMemRead m slot p s
  | .memWrite m slot p => Sys2Proof.Machine.execMemWrite m slot p s
  | .kaoConfig m slot p => Sys2Proof.Machine.execKaoConfig m slot p s
  | .kaoStatus m slot p => Sys2Proof.Machine.execKaoStatus m slot p s
  | .kaoMapSet m slot p => Sys2Proof.Machine.execKaoMapSet m slot p s
  | .kaoOpSet m slot p => Sys2Proof.Machine.execKaoOpSet m slot p s
  | .kaoChanOffline m slot p => Sys2Proof.Machine.execKaoChanOffline m slot p s
  | .kaoChanOnline m slot p => Sys2Proof.Machine.execKaoChanOnline m slot p s
  | .kaoBist m slot p => Sys2Proof.Machine.execKaoBist m slot p s
  | .kaoScrub m slot p => Sys2Proof.Machine.execKaoScrub m slot p s
  | .kaoInject m slot p => Sys2Proof.Machine.execKaoInject m slot p s
  | .kaoPatrolSet m slot p => Sys2Proof.Machine.execKaoPatrolSet m slot p s
  | .peatConfig m slot p => Sys2Proof.Machine.execPeatConfig m slot p s
  | .peatScrub m slot p => Sys2Proof.Machine.execPeatScrub m slot p s
  | .peatStatus m slot p => Sys2Proof.Machine.execPeatStatus m slot p s
  | .siltRouteLoad m slot p => Sys2Proof.Machine.execSiltRouteLoad m slot p s
  | .siltRouteRead m slot p => Sys2Proof.Machine.execSiltRouteRead m slot p s
  | .siltBypass m slot p => Sys2Proof.Machine.execSiltBypass m slot p s
  | .siltStatus m slot p => Sys2Proof.Machine.execSiltStatus m slot p s
  | .siltTargetRevive m slot p => Sys2Proof.Machine.execSiltTargetRevive m slot p s
  | .siltProbeSet m slot p => Sys2Proof.Machine.execSiltProbeSet m slot p s
  | .siltTraceRead m slot p => Sys2Proof.Machine.execSiltTraceRead m slot p s
  | .siltLeaseSet m slot p => Sys2Proof.Machine.execSiltLeaseSet m slot p s
  | .nauRateSet m slot p => Sys2Proof.Machine.execNauRateSet m slot p s
  | .nauConfig m slot p => Sys2Proof.Machine.execNauConfig m slot p s
  | .nauStatus m slot p => Sys2Proof.Machine.execNauStatus m slot p s
  | .portConfig m slot p => Sys2Proof.Machine.execPortConfig m slot p s
  | .portReset m slot p => Sys2Proof.Machine.execPortReset m slot p s
  | .portLoopback m slot p => Sys2Proof.Machine.execPortLoopback m slot p s
  | .portStatus m slot p => Sys2Proof.Machine.execPortStatus m slot p s
  | .ideKeySet m slot p => Sys2Proof.Machine.execIdeKeySet m slot p s
  | .laneStatus m slot p => Sys2Proof.Machine.execLaneStatus m slot p s
  | .laneMargin m slot p => Sys2Proof.Machine.execLaneMargin m slot p s
  | .laneSleep m slot p => Sys2Proof.Machine.execLaneSleep m slot p s
  | .reachConfig m slot p => Sys2Proof.Machine.execReachConfig m slot p s
  | .dlinkStatus m slot p => Sys2Proof.Machine.execDlinkStatus m slot p s
  | .dlinkSwap m slot p => Sys2Proof.Machine.execDlinkSwap m slot p s
  | .dlinkHalve m slot p => Sys2Proof.Machine.execDlinkHalve m slot p s
  | .dlinkMargin m slot p => Sys2Proof.Machine.execDlinkMargin m slot p s
  | .dieIsolate m slot p => Sys2Proof.Machine.execDieIsolate m slot p s
  | .kaoChanReplace m slot p => Sys2Proof.Machine.execKaoChanReplace m slot p s
  | .rowSpare m slot p => Sys2Proof.Machine.execRowSpare m slot p s
  | .tilthPolicy m slot p => Sys2Proof.Machine.execTilthPolicy m slot p s
  | .tilthStatus m slot p => Sys2Proof.Machine.execTilthStatus m slot p s
  | .tilthClear m slot p => Sys2Proof.Machine.execTilthClear m slot p s
  | .crcSelftest m slot p => Sys2Proof.Machine.execCrcSelftest m slot p s
  | .peatRetire m slot p => Sys2Proof.Machine.execPeatRetire m slot p s
  | .evtRoute m slot p => Sys2Proof.Machine.execEvtRoute m slot p s
  | .evtRearm m slot p => Sys2Proof.Machine.execEvtRearm m slot p s
  | .evtStatus m slot p => Sys2Proof.Machine.execEvtStatus m slot p s
  | .errRead m slot p => Sys2Proof.Machine.execErrRead m slot p s
  | .dumpList m slot p => Sys2Proof.Machine.execDumpList m slot p s
  | .dumpRead m slot p => Sys2Proof.Machine.execDumpRead m slot p s
  | .dumpPolicy m slot p => Sys2Proof.Machine.execDumpPolicy m slot p s
  | .dumpErase m slot p => Sys2Proof.Machine.execDumpErase m slot p s
  | .dbgOpen m slot p => Sys2Proof.Machine.execDbgOpen m slot p s
  | .dbgClose m slot p => Sys2Proof.Machine.execDbgClose m slot p s
  | .dbgFreeze m slot p => Sys2Proof.Machine.execDbgFreeze m slot p s
  | .dbgResume m slot p => Sys2Proof.Machine.execDbgResume m slot p s
  | .dbgRead m slot p => Sys2Proof.Machine.execDbgRead m slot p s
  | .dbgWrite m slot p => Sys2Proof.Machine.execDbgWrite m slot p s
  | .dbgUnitSet m slot p => Sys2Proof.Machine.execDbgUnitSet m slot p s
  | .dbgStatus m slot p => Sys2Proof.Machine.execDbgStatus m slot p s
  | .dbgCall m slot p => Sys2Proof.Machine.execDbgCall m slot p s
  | .vdbgOpen m slot p => Sys2Proof.Machine.execVdbgOpen m slot p s
  | .telRead m slot p => Sys2Proof.Machine.execTelRead m slot p s
  | .vidSet m slot p => Sys2Proof.Machine.execVidSet m slot p s
  | .telThresh m slot p => Sys2Proof.Machine.execTelThresh m slot p s
  | .telemetryUpdate => Sys2Proof.Machine.execTelemetryUpdate s
  | .nauErrRead node => Sys2Proof.Machine.execNauErrRead node s
  | .nauCntClr node v => Sys2Proof.Machine.execNauCntClr node v s
  | .nauRateWrite node cls v => Sys2Proof.Machine.execNauRateWrite node cls v s
  | .kaoChErrRead stack ch => Sys2Proof.Machine.execKaoChErrRead stack ch s
  | .kaoCntClr stack ch v => Sys2Proof.Machine.execKaoCntClr stack ch v s
  | .kaoProtClr stack front v => Sys2Proof.Machine.execKaoProtClr stack front v s
  | .kaoInjCtrlWrite stack front v => Sys2Proof.Machine.execKaoInjCtrlWrite stack front v s
  | .kaoInjStatusRead stack front => Sys2Proof.Machine.execKaoInjStatusRead stack front s
  | .grtErrRead pos g => Sys2Proof.Machine.execGrtErrRead pos g s
  | .grtSeqRun pos g v => Sys2Proof.Machine.execGrtSeqRun pos g v s
  | .grtSeqStop pos g v => Sys2Proof.Machine.execGrtSeqStop pos g v s
  | .grtProgWrite pos g inst v => Sys2Proof.Machine.execGrtProgWrite pos g inst v s
  | .crcCtrlWrite u v => Sys2Proof.Machine.execCrcCtrlWrite u v s
  | .crcAliveWrite u v => Sys2Proof.Machine.execCrcAliveWrite u v s
  | .crcValWrite u hi v => Sys2Proof.Machine.execCrcValWrite u hi v s
  | .crcStatusRead u => Sys2Proof.Machine.execCrcStatusRead u s
  | .crcCntClr u v => Sys2Proof.Machine.execCrcCntClr u v s
  | .crcFeedB m v => Sys2Proof.Machine.execCrcFeedB m v s
  | .crcFeedH m v => Sys2Proof.Machine.execCrcFeedH m v s
  | .crcFeedW m v => Sys2Proof.Machine.execCrcFeedW m v s
  | .crcEnd m v => Sys2Proof.Machine.execCrcEnd m v s
  | .siltBrkHitRead session => Sys2Proof.Machine.execSiltBrkHitRead session s
  | .siltDbgCoreWrite session v => Sys2Proof.Machine.execSiltDbgCoreWrite session v s
  | .coreHaltExpiry => Sys2Proof.Machine.execCoreHaltExpiry s
  | .nauRequest node r => Sys2Proof.Machine.execNauRequest node r s
  | .answerTimeout node tag => Sys2Proof.Machine.execAnswerTimeout node tag s
  | .coherentOut node header data => Sys2Proof.Machine.execCoherentOut node header data s
  | .producerGrain node flow user pay => Sys2Proof.Machine.execProducerGrain node flow user pay s
  | .slotOpen node slot mask => Sys2Proof.Machine.execSlotOpen node slot mask s
  | .slotClose node slot => Sys2Proof.Machine.execSlotClose node slot s
  | .entryTake node slot entry => Sys2Proof.Machine.execEntryTake node slot entry s
  | .directiveWrite node d data => Sys2Proof.Machine.execDirectiveWrite node d data s
  | .crcPortFeed pos unit bytes => Sys2Proof.Machine.execCrcPortFeed pos unit bytes s
  | .crcPortEnd pos unit alive check => Sys2Proof.Machine.execCrcPortEnd pos unit alive check s
  | .bramAccess pos block a b near => Sys2Proof.Machine.execBramAccess pos block a b near s
  | .gritIssue pos g => Sys2Proof.Machine.execGritIssue pos g s
  | .gritEvent pos g => Sys2Proof.Machine.execGritEvent pos g s
  | .gritGo pos g => Sys2Proof.Machine.execGritGo pos g s
  | .gritOutAccept pos g => Sys2Proof.Machine.execGritOutAccept pos g s
  | .operandLoad pos g tile addr v => Sys2Proof.Machine.execOperandLoad pos g tile addr v s
  | .fabricEventOutput pos region => Sys2Proof.Machine.execFabricEventOutput pos region s
  | .plotWatchdogKick pos region => Sys2Proof.Machine.execPlotWatchdogKick pos region s
  | .plotWatchdogExpiry pos region => Sys2Proof.Machine.execPlotWatchdogExpiry pos region s
  | .reservationTokenRequest src dst cls n => Sys2Proof.Machine.execReservationTokenRequest src dst cls n s
  | .tokenReturn src dst cls => Sys2Proof.Machine.execTokenReturn src dst cls s
  | .siltPacketForward f => Sys2Proof.Machine.execSiltPacketForward f s
  | .linkCrcFail node code data => Sys2Proof.Machine.execLinkCrcFail node code data s
  | .deadTargetStall node => Sys2Proof.Machine.execDeadTargetStall node s
  | .shadowBankAck node => Sys2Proof.Machine.execShadowBankAck node s
  | .routerAckTimeout node => Sys2Proof.Machine.execRouterAckTimeout node s
  | .attachmentEpochSwitch node cls => Sys2Proof.Machine.execAttachmentEpochSwitch node cls s
  | .routeChangeEnd => Sys2Proof.Machine.execRouteChangeEnd s
  | .leaseExpiry line => Sys2Proof.Machine.execLeaseExpiry line s
  | .lockBrokenNotice node => Sys2Proof.Machine.execLockBrokenNotice node s
  | .read p => Sys2Proof.Machine.execRead p s
  | .write p => Sys2Proof.Machine.execWrite p s
  | .writePart p => Sys2Proof.Machine.execWritePart p s
  | .lockRead p => Sys2Proof.Machine.execLockRead p s
  | .unlockWrite p => Sys2Proof.Machine.execUnlockWrite p s
  | .unlock p => Sys2Proof.Machine.execUnlock p s
  | .regRead p => Sys2Proof.Machine.execRegRead p s
  | .regWrite p => Sys2Proof.Machine.execRegWrite p s
  | .msg p => Sys2Proof.Machine.execMsg p s
  | .grainCreate p => Sys2Proof.Machine.execGrainCreate p s
  | .grainPush p => Sys2Proof.Machine.execGrainPush p s
  | .directive p => Sys2Proof.Machine.execDirective p s
  | .dirReport p => Sys2Proof.Machine.execDirReport p s
  | .stream p => Sys2Proof.Machine.execStream p s
  | .event p => Sys2Proof.Machine.execEvent p s
  | .frame p => Sys2Proof.Machine.execFrame p s
  | .completion p => Sys2Proof.Machine.execCompletion p s
  | .data p => Sys2Proof.Machine.execData p s
  | .delivered p => Sys2Proof.Machine.execDelivered p s
  | .kaoSchedule stack ch => Sys2Proof.Machine.execKaoSchedule stack ch s
  | .lineReadComplete stack ch => Sys2Proof.Machine.execLineReadComplete stack ch s
  | .refreshDue stack ch bank => Sys2Proof.Machine.execRefreshDue stack ch bank s
  | .activationTableClear stack ch => Sys2Proof.Machine.execActivationTableClear stack ch s
  | .openPageTimeout stack ch bank => Sys2Proof.Machine.execOpenPageTimeout stack ch bank s
  | .stackTempHigh stack => Sys2Proof.Machine.execStackTempHigh stack s
  | .periodicCalibration stack ch ok => Sys2Proof.Machine.execPeriodicCalibration stack ch ok s
  | .patrolRead stack ch => Sys2Proof.Machine.execPatrolRead stack ch s
  | .patrolLapEnd stack ch => Sys2Proof.Machine.execPatrolLapEnd stack ch s
  | .forcedSweep stack granule => Sys2Proof.Machine.execForcedSweep stack granule s
  | .rowSpareAuto stack ch bank row => Sys2Proof.Machine.execRowSpareAuto stack ch bank row s
  | .channelStopsAnswering stack => Sys2Proof.Machine.execChannelStopsAnswering stack s
  | .blockRetire block => Sys2Proof.Machine.execBlockRetire block s
  | .frameWriterBlock job block => Sys2Proof.Machine.execFrameWriterBlock job block s
  | .chainSegment container => Sys2Proof.Machine.execChainSegment container s
  | .chainLockLoss pair => Sys2Proof.Machine.execChainLockLoss pair s
  | .frameScanRead addr found => Sys2Proof.Machine.execFrameScanRead addr found s
  | .drainComplete job => Sys2Proof.Machine.execDrainComplete job s
  | .drainTimeout job => Sys2Proof.Machine.execDrainTimeout job s
  | .decode port u => Sys2Proof.Machine.execDecode port u s
  | .evaluate slice => Sys2Proof.Machine.execEvaluate slice s
  | .continueChain slice trk => Sys2Proof.Machine.execContinueChain slice trk s
  | .directoryFetchComplete slice trk status => Sys2Proof.Machine.execDirectoryFetchComplete slice trk status s
  | .lockQueueHead slice trk => Sys2Proof.Machine.execLockQueueHead slice trk s
  | .deliveryReport slice trk status => Sys2Proof.Machine.execDeliveryReport slice trk status s
  | .parkedRequestServe slice => Sys2Proof.Machine.execParkedRequestServe slice s
  | .emission slice => Sys2Proof.Machine.execEmission slice s
  | .escalationTimeout slice trk => Sys2Proof.Machine.execEscalationTimeout slice trk s
  | .dropNotice slice trk tgen status => Sys2Proof.Machine.execDropNotice slice trk tgen status s
  | .grainRefill pos => Sys2Proof.Machine.execGrainRefill pos s
  | .slotFill pos slot => Sys2Proof.Machine.execSlotFill pos slot s
  | .linkTraining link rate lanes reversed eq => Sys2Proof.Machine.execLinkTraining link rate lanes reversed eq s
  | .linkUp link => Sys2Proof.Machine.execLinkUp link s
  | .trainingTimeout link => Sys2Proof.Machine.execTrainingTimeout link s
  | .trainingRetry link => Sys2Proof.Machine.execTrainingRetry link s
  | .lossOfSignal lane ns => Sys2Proof.Machine.execLossOfSignal lane ns s
  | .lossOfLock lane ns quadPll => Sys2Proof.Machine.execLossOfLock lane ns quadPll s
  | .linkDown link => Sys2Proof.Machine.execLinkDown link s
  | .viralReceived link => Sys2Proof.Machine.execViralReceived link s
  | .ideIntegrityFail link => Sys2Proof.Machine.execIdeIntegrityFail link s
  | .flitReplay flit => Sys2Proof.Machine.execFlitReplay flit s
  | .dfeAdaptationUpdate lane v => Sys2Proof.Machine.execDfeAdaptationUpdate lane v s
  | .partnerPresetRequest lane req => Sys2Proof.Machine.execPartnerPresetRequest lane req s
  | .partnerMarginRequest lane cmd => Sys2Proof.Machine.execPartnerMarginRequest lane cmd s
  | .configSpaceForward link req off wr => Sys2Proof.Machine.execConfigSpaceForward link req off wr s
  | .reachReceive lane pkt seen => Sys2Proof.Machine.execReachReceive lane pkt seen s
  | .reachUnderflow lane => Sys2Proof.Machine.execReachUnderflow lane s
  | .dlinkMarginSample group margins => Sys2Proof.Machine.execDlinkMarginSample group margins s
  | .plannedSwapAuto group lane => Sys2Proof.Machine.execPlannedSwapAuto group lane s
  | .laneCheck group bad => Sys2Proof.Machine.execLaneCheck group bad s
  | .tilthDetour node code => Sys2Proof.Machine.execTilthDetour node code s
  | .dieIsolation pos => Sys2Proof.Machine.execDieIsolation pos s
  | .sourceRaise src => Sys2Proof.Machine.execSourceRaise src s
  | .coalesceDelivery src => Sys2Proof.Machine.execCoalesceDelivery src s
  | .coalescingEnd src => Sys2Proof.Machine.execCoalescingEnd src s
  | .autoMasked src => Sys2Proof.Machine.execAutoMasked src s
  | .handlingWindowClose seq => Sys2Proof.Machine.execHandlingWindowClose seq s
  | .dumpWrite => Sys2Proof.Machine.execDumpWrite s
  | .breakMatch session point node p => Sys2Proof.Machine.execBreakMatch session point node p s
  | .softHaltComplete plot => Sys2Proof.Machine.execSoftHaltComplete plot s
  | .haltLeaseBound plot => Sys2Proof.Machine.execHaltLeaseBound plot s
  | .railRecovery bootSrc => Sys2Proof.Machine.execRailRecovery bootSrc s
  | .refclkReturn input => Sys2Proof.Machine.execRefclkReturn input s
  | .thermalWarningEnd sensor mc => Sys2Proof.Machine.execThermalWarningEnd sensor mc s
  | .kaolinStackHot stack hot => Sys2Proof.Machine.execKaolinStackHot stack hot s
  | .laneReturn lane => Sys2Proof.Machine.execLaneReturn lane s
  | .dlinkForwardedClockLoss group => Sys2Proof.Machine.execDlinkForwardedClockLoss group s
  | .randomSourceHealthFailure => Sys2Proof.Machine.execRandomSourceHealthFailure s
  | .numvfsWrite n => Sys2Proof.Machine.execNumvfsWrite n s
  | .msixVectorUnmask f v => Sys2Proof.Machine.execMsixVectorUnmask f v s
  | .slotRequestWrite m slot off data => Sys2Proof.Machine.execSlotRequestWrite m slot off data s
  | .forcedSweepEnd stack granule => Sys2Proof.Machine.execForcedSweepEnd stack granule s
  | .nauRegulatorRefill node => Sys2Proof.Machine.execNauRegulatorRefill node s
  | .brdEvtRelease inst => Sys2Proof.Machine.execBrdEvtRelease inst s
  | .fabricEventOutputFall pos region => Sys2Proof.Machine.execFabricEventOutputFall pos region s
  | .linkPowerStateChange link width l1 => Sys2Proof.Machine.execLinkPowerStateChange link width l1 s
  | .pcieTlpReceive link tlp => Sys2Proof.Machine.execPcieTlpReceive link tlp s
  | .coherentInAccept node answer => Sys2Proof.Machine.execCoherentInAccept node answer s
  | .transportResponseSent uart slot => Sys2Proof.Machine.execTransportResponseSent uart slot s

end Machine
end Sys2Proof
end

