-- ==== Sys2Proof/Machine/Step.lean ====
section
/-! DEFINITION. One step: the command at the front of the queue, or a tick of the device's time base. -/

namespace Sys2Proof
namespace Machine

/-- Take the command at the front of the queue and run it with the queue's rest; on an empty queue the device's time
base (R428) advances by one nanosecond. -/
def step (s : State) : Host.Outcome State Fault Refusal :=
  match s.pending with
  | [] => .next (idleTick s)
  | c :: rest => exec c (dropPending s rest)

/-- The state with the command that a table word spells put at the front of its queue. -/
def State.withFetchWord (s : State) (nbits w : Nat) : State :=
  match decodeTableWord nbits w with
  | none => s
  | some c => { s with pending := c :: s.pending }

end Machine
end Sys2Proof
end

