-- ==== Sys2Proof/Machine/Pins.lean ====
section
/-! DEFINITION. What the board sees on the slow I/O pins and in the TAP's identification register (R384, R435, R454, R456, R459). -/

namespace Sys2Proof
namespace Machine

/-- The device is held by POR_N or a brown-out. -/
def pinsHeld (s : State) : Bool := decide (s.sys.phase = .held)

/-- CFG_DONE (R294, R456). -/
def cfgDonePin (s : State) : PinLevel := if configured s && !pinsHeld s then .high else .low

/-- An open-drain output: low, or released. -/
def openDrain (low : Bool) : PinLevel := if low then .low else .released

/-- CFG_ERR_N (R295, R456). -/
def cfgErrPin (s : State) : PinLevel := openDrain (s.sys.cfgErr && !pinsHeld s)

/-- FATAL_N (R384). -/
def fatalNPin (s : State) : PinLevel := openDrain (s.sys.fatalPin && !pinsHeld s)

/-- EVT_N[i] (R384): low while any source routed to the pin has its pin flag set. -/
def evtPin (s : State) (i : Nat) : PinLevel :=
  openDrain (s.evt.srcs.any (fun kv => kv.2.pinFlag && kv.2.pins.getLsbD i) && !pinsHeld s)

/-- THERMTRIP_N (R441). -/
def thermtripPin (s : State) : PinLevel := openDrain (s.sys.thermtrip && !pinsHeld s)

/-- VIDp[4:0] (R435): the code driven; none: high impedance, until the Marl PLLs lock as start-up begins. -/
def vidPins (s : State) (p : Nat) : Option (BitVec 5) := if pinsHeld s then none else some (BitVec.ofNat 5 (dieAt s p).vidCode)

/-- UART_TX between frames (R456). -/
def uartTxPin (s : State) : PinLevel := if s.sys.phase = .held ∨ s.sys.phase = .tripHeld then .highZ else .high

/-- The identification register of the TAP (R459): version, device code, the manufacturer's code of the BSDL file, and 1. -/
def idcodeWord (s : State) : Word :=
  BitVec.ofNat 32 (1 * 2 ^ 28 + partCode s.sys.part * 2 ^ 12 + Config.manufacturer.toNat * 2 + 1)

end Machine
end Sys2Proof
end

