-- ==== Sys2Proof/Safety.lean ====
section
/-! DEFINITION. The terms in which claims about the device are made: what no command changes, the canonical form of host memory,
an mayRun mailbox command, its answer, and the state with the mailboxes and the functions' messages put aside. -/

namespace Sys2Proof
namespace Machine

/-! ## What no command changes -/

/-- What manufacture fixes (R1, R55: the part, VENDOR_ROOT_HASH, SERIAL), and the queue of waiting commands, which is the block's
interface. -/
def fixedPart (s : State) : List Instr × Part × BitVec 384 × DWord :=
  (s.pending, s.sys.part, s.vault.vendorRootHash, s.vault.serial)

/-- The same, and host memory. -/
def kept (s : State) : (List Instr × Part × BitVec 384 × DWord) × List Host.Cell := (fixedPart s, s.host)

/-- Host memory in its canonical form: addresses strictly rising, no byte equal to what an unlisted address reads as. -/
def hostOk (s : State) : Bool := tblWf 0#8 s.host

/-- The part and the fuses of manufacture have given values, and host memory stands in its canonical form. -/
def madeAs (p : Part) (root : BitVec 384) (serial : DWord) (s : State) : Prop :=
  s.sys.part = p ∧ s.vault.vendorRootHash = root ∧ s.vault.serial = serial ∧ hostOk s = true

/-! ## Device reset -/

/-- What a device reset leaves (R432): fuses as programmed, BBRAM, the tamper latch and what the Peat store holds stand, and every
unit is as after power-on; the queue of commands and host memory are not the device's. -/
def afterReset (s t : State) : Prop :=
  t.sys.phase = .held ∧ t.sys.fatal = false ∧ t.sys.timeNs = 0 ∧ t.sys.cfgDone = false ∧ t.sys.part = s.sys.part ∧
  t.vault.vendorRootHash = s.vault.vendorRootHash ∧ t.vault.serial = s.vault.serial ∧ t.vault.ownerKeyF = s.vault.nextOwnerKeyF ∧
  t.vault.ownerSignHash = s.vault.nextOwnerSignHash ∧ t.vault.ownerCtrl = s.vault.nextOwnerCtrl ∧ t.vault.minFw = s.vault.nextMinFw ∧
  t.vault.ownerKeyB = s.vault.ownerKeyB ∧ t.vault.keyCheck = s.vault.keyCheck ∧ t.vault.tamperLatch = s.vault.tamperLatch ∧
  t.vault.slotKeys = [] ∧ t.vault.ideKeys = [] ∧ t.vault.vdbg = false ∧ t.vault.pkQueue = [] ∧ t.vault.identityPriv = s.vault.identityPriv ∧
  t.vault.trim = s.vault.trim ∧ t.peat = peatAfterReset s ∧ t.tilth = tilthAfterReset s ∧ t.dumps.copy = copyAfterReset s ∧
  t.pce = State.reset.pce ∧ t.silt = State.reset.silt ∧ t.evt = State.reset.evt ∧ t.mgmt = State.reset.mgmt ∧ t.plots = State.reset.plots ∧
  t.mbxs = State.reset.mbxs ∧ t.fns = State.reset.fns ∧ t.flows = State.reset.flows ∧ t.quarters = State.reset.quarters ∧
  t.dbg = State.reset.dbg ∧ t.io = State.reset.io ∧ t.cfg = State.reset.cfg ∧ t.host = s.host ∧ t.pending = s.pending

/-! ## Mailbox commands (R338 to R354) -/

/-- Every mailbox command of the table: its mailbox, slot, payload, and what carries it out. -/
def mailboxRow : Instr → Option (Fin 24 × Fin 8 × Bytes × CmdSpec)
  | .caps m i p => some (m, i, p, specCaps)
  | .idCert m i p => some (m, i, p, specIdCert)
  | .jobStatus m i p => some (m, i, p, specJobStatus)
  | .jobCancel m i p => some (m, i, p, specJobCancel)
  | .jobList m i p => some (m, i, p, specJobList)
  | .cfgLoad m i p => some (m, i, p, specCfgLoad)
  | .cfgClear m i p => some (m, i, p, specCfgClear)
  | .cfgStatus m i p => some (m, i, p, specCfgStatus)
  | .cfgStore m i p => some (m, i, p, specCfgStore)
  | .cfgErase m i p => some (m, i, p, specCfgErase)
  | .cfgBootSet m i p => some (m, i, p, specCfgBootSet)
  | .cfgDir m i p => some (m, i, p, specCfgDir)
  | .cfgReadback m i p => some (m, i, p, specCfgReadback)
  | .cfgScanStatus m i p => some (m, i, p, specCfgScanStatus)
  | .fwUpdate m i p => some (m, i, p, specFwUpdate)
  | .profileLoad m i p => some (m, i, p, specProfileLoad)
  | .profileSwap m i p => some (m, i, p, specProfileSwap)
  | .profileUnload m i p => some (m, i, p, specProfileUnload)
  | .profileRead m i p => some (m, i, p, specProfileRead)
  | .profileStats m i p => some (m, i, p, specProfileStats)
  | .homeMapSet m i p => some (m, i, p, specHomeMapSet)
  | .homeMapRead m i p => some (m, i, p, specHomeMapRead)
  | .agentBind m i p => some (m, i, p, specAgentBind)
  | .agentRead m i p => some (m, i, p, specAgentRead)
  | .pceSfAssign m i p => some (m, i, p, specPceSfAssign)
  | .pceRemap m i p => some (m, i, p, specPceRemap)
  | .pceStatus m i p => some (m, i, p, specPceStatus)
  | .plotCreate m i p => some (m, i, p, specPlotCreate)
  | .plotChange m i p => some (m, i, p, specPlotChange)
  | .plotDestroy m i p => some (m, i, p, specPlotDestroy)
  | .plotReset m i p => some (m, i, p, specPlotReset)
  | .plotLoad m i p => some (m, i, p, specPlotLoad)
  | .plotStatus m i p => some (m, i, p, specPlotStatus)
  | .flowConfig m i p => some (m, i, p, specFlowConfig)
  | .flowStatus m i p => some (m, i, p, specFlowStatus)
  | .slotLend m i p => some (m, i, p, specSlotLend)
  | .slotReclaim m i p => some (m, i, p, specSlotReclaim)
  | .grnConfig m i p => some (m, i, p, specGrnConfig)
  | .grnStatus m i p => some (m, i, p, specGrnStatus)
  | .keyImport m i p => some (m, i, p, specKeyImport)
  | .keyDrop m i p => some (m, i, p, specKeyDrop)
  | .attest m i p => some (m, i, p, specAttest)
  | .vaultStatus m i p => some (m, i, p, specVaultStatus)
  | .fuseProg m i p => some (m, i, p, specFuseProg)
  | .bbramKeyWrite m i p => some (m, i, p, specBbramKeyWrite)
  | .bbramClear m i p => some (m, i, p, specBbramClear)
  | .tamperClear m i p => some (m, i, p, specTamperClear)
  | .kaoConfig m i p => some (m, i, p, specKaoConfig)
  | .kaoStatus m i p => some (m, i, p, specKaoStatus)
  | .kaoMapSet m i p => some (m, i, p, specKaoMapSet)
  | .kaoOpSet m i p => some (m, i, p, specKaoOpSet)
  | .kaoChanOffline m i p => some (m, i, p, specKaoChanOffline)
  | .kaoChanOnline m i p => some (m, i, p, specKaoChanOnline)
  | .kaoBist m i p => some (m, i, p, specKaoBist)
  | .kaoScrub m i p => some (m, i, p, specKaoScrub)
  | .kaoInject m i p => some (m, i, p, specKaoInject)
  | .kaoPatrolSet m i p => some (m, i, p, specKaoPatrolSet)
  | .peatConfig m i p => some (m, i, p, specPeatConfig)
  | .peatScrub m i p => some (m, i, p, specPeatScrub)
  | .peatStatus m i p => some (m, i, p, specPeatStatus)
  | .siltRouteLoad m i p => some (m, i, p, specSiltRouteLoad)
  | .siltRouteRead m i p => some (m, i, p, specSiltRouteRead)
  | .siltBypass m i p => some (m, i, p, specSiltBypass)
  | .siltStatus m i p => some (m, i, p, specSiltStatus)
  | .siltTargetRevive m i p => some (m, i, p, specSiltTargetRevive)
  | .siltProbeSet m i p => some (m, i, p, specSiltProbeSet)
  | .siltTraceRead m i p => some (m, i, p, specSiltTraceRead)
  | .siltLeaseSet m i p => some (m, i, p, specSiltLeaseSet)
  | .nauRateSet m i p => some (m, i, p, specNauRateSet)
  | .nauConfig m i p => some (m, i, p, specNauConfig)
  | .nauStatus m i p => some (m, i, p, specNauStatus)
  | .portConfig m i p => some (m, i, p, specPortConfig)
  | .portReset m i p => some (m, i, p, specPortReset)
  | .portLoopback m i p => some (m, i, p, specPortLoopback)
  | .portStatus m i p => some (m, i, p, specPortStatus)
  | .ideKeySet m i p => some (m, i, p, specIdeKeySet)
  | .laneStatus m i p => some (m, i, p, specLaneStatus)
  | .laneMargin m i p => some (m, i, p, specLaneMargin)
  | .laneSleep m i p => some (m, i, p, specLaneSleep)
  | .reachConfig m i p => some (m, i, p, specReachConfig)
  | .dlinkStatus m i p => some (m, i, p, specDlinkStatus)
  | .dlinkSwap m i p => some (m, i, p, specDlinkSwap)
  | .dlinkHalve m i p => some (m, i, p, specDlinkHalve)
  | .dlinkMargin m i p => some (m, i, p, specDlinkMargin)
  | .dieIsolate m i p => some (m, i, p, specDieIsolate)
  | .kaoChanReplace m i p => some (m, i, p, specKaoChanReplace)
  | .rowSpare m i p => some (m, i, p, specRowSpare)
  | .tilthPolicy m i p => some (m, i, p, specTilthPolicy)
  | .tilthStatus m i p => some (m, i, p, specTilthStatus)
  | .tilthClear m i p => some (m, i, p, specTilthClear)
  | .crcSelftest m i p => some (m, i, p, specCrcSelftest)
  | .peatRetire m i p => some (m, i, p, specPeatRetire)
  | .evtRoute m i p => some (m, i, p, specEvtRoute)
  | .evtRearm m i p => some (m, i, p, specEvtRearm)
  | .evtStatus m i p => some (m, i, p, specEvtStatus)
  | .errRead m i p => some (m, i, p, specErrRead)
  | .dumpList m i p => some (m, i, p, specDumpList)
  | .dumpRead m i p => some (m, i, p, specDumpRead)
  | .dumpPolicy m i p => some (m, i, p, specDumpPolicy)
  | .dumpErase m i p => some (m, i, p, specDumpErase)
  | .dbgOpen m i p => some (m, i, p, specDbgOpen)
  | .dbgClose m i p => some (m, i, p, specDbgClose)
  | .dbgResume m i p => some (m, i, p, specDbgResume)
  | .dbgRead m i p => some (m, i, p, specDbgRead)
  | .dbgWrite m i p => some (m, i, p, specDbgWrite)
  | .dbgUnitSet m i p => some (m, i, p, specDbgUnitSet)
  | .dbgStatus m i p => some (m, i, p, specDbgStatus)
  | .vdbgOpen m i p => some (m, i, p, specVdbgOpen)
  | .telRead m i p => some (m, i, p, specTelRead)
  | .vidSet m i p => some (m, i, p, specVidSet)
  | .telThresh m i p => some (m, i, p, specTelThresh)
  | .fwActivate m i p => some (m, i, p, specFwActivate)
  | .memRead m i p => some (m, i, p, specMemRead)
  | .memWrite m i p => some (m, i, p, specMemWrite)
  | .dbgFreeze m i p => some (m, i, p, specDbgFreeze)
  | .dbgCall m i p => some (m, i, p, specDbgCall)
  | _ => none

/-- The requester of a command, as its checks see it (R46). -/
def asker (s : State) (m : Fin 24) (i : Fin 8) : Who :=
  { (gateWho s (whoOf s m.val i.val)) with consume := hdrConsume s m.val i.val }

/-- The device serves the command, and steps 1 and 2 of R352 pass: the requester may issue it, and its length is right. -/
def mayRun (k : CmdSpec) (s : State) (m : Fin 24) (i : Fin 8) (p : Bytes) : Bool :=
  serving s && decide (m.val ≤ 18) && (gateAns s m.val k.op).isNone && groupOk (asker s m i) k.op &&
    horizonOk k (asker s m i) && k.len p

/-- Every admitted command that its checks pass has an effect and an answer, and its slot takes the answer. -/
def Answers (row : Fin 24 → Fin 8 → Bytes → Instr) (k : CmdSpec) (checks : Who → Bytes → State → Option Ans)
    (e : Who → Bytes → State → Ans × State) : Prop :=
  ∀ (s : State) (m : Fin 24) (i : Fin 8) (p : Bytes),
    mayRun k s m i p = true → checks (asker s m i) p (running s m.val i.val) = none →
    exec (row m i p) s =
      .next (reply (e (asker s m i) p (running s m.val i.val)).2 m.val i.val k.op (e (asker s m i) p (running s m.val i.val)).1)

/-- Every admitted command that its checks refuse changes nothing but its slot, which takes the refusal (R352). -/
def Refuses (row : Fin 24 → Fin 8 → Bytes → Instr) (k : CmdSpec) (checks : Who → Bytes → State → Option Ans) : Prop :=
  ∀ (s : State) (m : Fin 24) (i : Fin 8) (p : Bytes) (a : Ans),
    mayRun k s m i p = true → checks (asker s m i) p (running s m.val i.val) = some a →
    exec (row m i p) s = .next (reply (running s m.val i.val) m.val i.val k.op a)

/-- A job may start (R19, R21, R347): no open job holds a function of it, fewer than 32 are open, and a record is free. -/
def jobRoom (s : State) (fs : List (Func × Bool)) : Bool :=
  !anyHeld s (fs.map (·.1)) && recordFree s

/-- The state in which a job has started (R20, R21, R347): its record under the next identifier, and the functions it holds. -/
def jobStarted (s : State) (w : Who) (op : Nat) (p : Bytes) (fs : List (Func × Bool)) : State :=
  let freed := if s.mgmt.jobs.length < 256 then s.mgmt.jobs else tset none s.mgmt.jobs ((oldestReusable s).getD 0) none
  let j : Job := { op := op, mbx := w.mbx, hz := w.hz, plot := w.plot, payload := p, state := .running, stage := 0 }
  { s with mgmt := { s.mgmt with
      jobs := tset none freed s.mgmt.nextJob (some j)
      nextJob := if s.mgmt.nextJob = 65535 then 1 else s.mgmt.nextJob + 1
      holds := s.mgmt.holds ++ fs.map (fun f => { fn := f.1, job := s.mgmt.nextJob, quiesce := f.2 }) } }

/-- Every admitted command that its checks pass, and for which a job may start, starts a job over its functions and answers
ST_JOB with the job's identifier. -/
def StartsJob (row : Fin 24 → Fin 8 → Bytes → Instr) (k : CmdSpec) (checks : Who → Bytes → State → Option Ans)
    (fs : Who → Bytes → State → List (Func × Bool)) : Prop :=
  ∀ (s : State) (m : Fin 24) (i : Fin 8) (p : Bytes),
    mayRun k s m i p = true → checks (asker s m i) p (running s m.val i.val) = none →
    jobRoom (running s m.val i.val) (fs (asker s m i) p (running s m.val i.val)) = true →
    exec (row m i p) s =
      .next (reply (jobStarted (running s m.val i.val) (asker s m i) k.op p (fs (asker s m i) p (running s m.val i.val)))
        m.val i.val k.op { status := stJob, job := s.mgmt.nextJob })

/-- Every admitted command that its checks pass waits for the public-key engine, behind those it already has (R345). -/
def Queues (row : Fin 24 → Fin 8 → Bytes → Instr) (k : CmdSpec) (checks : Who → Bytes → State → Option Ans) : Prop :=
  ∀ (s : State) (m : Fin 24) (i : Fin 8) (p : Bytes),
    mayRun k s m i p = true → checks (whoOf s m.val i.val) p (running s m.val i.val) = none →
    exec (row m i p) s = .next { (running s m.val i.val) with vault := { s.vault with
      pkQueue := s.vault.pkQueue ++ [{ mbx := m.val, slot := i.val, op := k.op, payload := p }] } }

/-- Every admitted request of a session whose SEQ is not used up (R375): sealed under another key or changed, it is refused with
ST_AUTH, DETAIL 4, and nothing else happens; opened, its SEQ is used, and a BODY of a right length has an effect and an answer,
which goes back sealed. `fin`: what follows the command once it is answered. -/
def SessionAnswers (row : Fin 24 → Fin 8 → Bytes → Instr) (k : CmdSpec) (len : Bytes → Bool)
    (e : Nat → Session → Who → Bytes → State → Ans × State) (fin : State → State) : Prop :=
  ∀ (s : State) (m : Fin 24) (i : Fin 8) (p : Bytes) (x : Session),
    mayRun k s m i p = true → sessionAt s (u16 p 0) = some x → x.seq ≤ u32 p 4 →
    exec (row m i p) s = .next (fin (
      match Config.gcmOpen x.key (leBytes 2 (u16 p 0) ++ zeros 2 ++ leBytes 4 (u32 p 4) ++ zeros 4)
          (slotReq (running s m.val i.val) m.val i.val 0 16) (subBytes p 8 (p.length - 24))
          (BitVec.ofNat 128 (leN p (p.length - 16) 16)) with
      | none => reply (running s m.val i.val) m.val i.val k.op (ansBad stAuth 4)
      | some b =>
        let t := modSession (running s m.val i.val) (u16 p 0) (fun y => { y with seq := u32 p 4 + 1 })
        let r := if len b then e (u16 p 0) x (asker s m i) b t else (ansBad stBadArg 0xFF, t)
        reply r.2 m.val i.val k.op (sealRsp r.2 m.val i.val k.op (u16 p 0) x.key (u32 p 4) r.1)))

end Machine
end Sys2Proof
end

