-- ==== Sys2Proof/Certificates/Slice0/Obligations.lean ====
section
/-! DEFINITION. The statements for the provers, from the rules of the manual: the block's queue and its state as a whole, the mailbox
commands, then the other commands family by family. -/

open Sys2Proof Sys2Proof.Machine

/-- A mailbox command that its checks refuse changes nothing but its slot, which takes the refusal (R352). -/
def Obligations.RefusedCommands : Prop :=
  (Refuses .cfgLoad specCfgLoad cfgLoadChecks) ∧
  (Refuses .cfgClear specCfgClear cfgClearChecks) ∧
  (Refuses .cfgStore specCfgStore cfgStoreChecks) ∧
  (Refuses .cfgErase specCfgErase cfgEraseChecks) ∧
  (Refuses .cfgBootSet specCfgBootSet cfgBootSetChecks) ∧
  (Refuses .cfgReadback specCfgReadback cfgReadbackChecks) ∧
  (Refuses .cfgScanStatus specCfgScanStatus cfgScanStatusChecks) ∧
  (Refuses .fwUpdate specFwUpdate fwUpdateChecks) ∧
  (Refuses .profileLoad specProfileLoad profileLoadChecks) ∧
  (Refuses .profileSwap specProfileSwap profileSwapChecks) ∧
  (Refuses .profileUnload specProfileUnload profileUnloadChecks) ∧
  (Refuses .profileRead specProfileRead profileReadChecks) ∧
  (Refuses .profileStats specProfileStats profileStatsChecks) ∧
  (Refuses .homeMapSet specHomeMapSet homeMapSetChecks) ∧
  (Refuses .agentBind specAgentBind agentBindChecks) ∧
  (Refuses .agentRead specAgentRead agentReadChecks) ∧
  (Refuses .pceRemap specPceRemap pceRemapChecks) ∧
  (Refuses .pceStatus specPceStatus pceStatusChecks) ∧
  (Refuses .plotCreate specPlotCreate plotCreateChecks) ∧
  (Refuses .plotChange specPlotChange plotChangeChecks) ∧
  (Refuses .plotDestroy specPlotDestroy plotDestroyChecks) ∧
  (Refuses .plotReset specPlotReset plotResetChecks) ∧
  (Refuses .plotLoad specPlotLoad plotLoadChecks) ∧
  (Refuses .plotStatus specPlotStatus plotStatusChecks) ∧
  (Refuses .flowConfig specFlowConfig flowConfigChecks) ∧
  (Refuses .flowStatus specFlowStatus flowStatusChecks) ∧
  (Refuses .slotLend specSlotLend slotLendChecks) ∧
  (Refuses .slotReclaim specSlotReclaim slotReclaimChecks) ∧
  (Refuses .grnConfig specGrnConfig grnConfigChecks) ∧
  (Refuses .grnStatus specGrnStatus grnStatusChecks) ∧
  (Refuses .keyDrop specKeyDrop keyDropChecks) ∧
  (Refuses .fuseProg specFuseProg fuseProgChecks) ∧
  (Refuses .kaoConfig specKaoConfig kaoConfigChecks) ∧
  (Refuses .kaoStatus specKaoStatus kaoStatusChecks) ∧
  (Refuses .kaoMapSet specKaoMapSet kaoMapSetChecks) ∧
  (Refuses .kaoOpSet specKaoOpSet kaoOpSetChecks) ∧
  (Refuses .kaoChanOffline specKaoChanOffline kaoOfflineChecks) ∧
  (Refuses .kaoChanOnline specKaoChanOnline kaoOnlineChecks) ∧
  (Refuses .kaoBist specKaoBist kaoBistChecks) ∧
  (Refuses .kaoScrub specKaoScrub kaoScrubChecks) ∧
  (Refuses .kaoInject specKaoInject kaoInjectChecks) ∧
  (Refuses .kaoPatrolSet specKaoPatrolSet kaoPatrolSetChecks) ∧
  (Refuses .peatConfig specPeatConfig peatConfigChecks) ∧
  (Refuses .peatScrub specPeatScrub peatScrubChecks) ∧
  (Refuses .siltRouteLoad specSiltRouteLoad routeLoadChecks) ∧
  (Refuses .siltRouteRead specSiltRouteRead routeReadChecks) ∧
  (Refuses .siltBypass specSiltBypass bypassChecks) ∧
  (Refuses .siltStatus specSiltStatus siltStatusChecks) ∧
  (Refuses .siltTargetRevive specSiltTargetRevive reviveChecks) ∧
  (Refuses .siltProbeSet specSiltProbeSet probeSetChecks) ∧
  (Refuses .siltTraceRead specSiltTraceRead traceReadChecks) ∧
  (Refuses .siltLeaseSet specSiltLeaseSet leaseSetChecks) ∧
  (Refuses .nauRateSet specNauRateSet nauRateSetChecks) ∧
  (Refuses .nauConfig specNauConfig nauConfigChecks) ∧
  (Refuses .nauStatus specNauStatus nauStatusChecks) ∧
  (Refuses .portConfig specPortConfig portConfigChecks) ∧
  (Refuses .portReset specPortReset portResetChecks) ∧
  (Refuses .portLoopback specPortLoopback portLoopbackChecks) ∧
  (Refuses .portStatus specPortStatus portStatusChecks) ∧
  (Refuses .ideKeySet specIdeKeySet ideKeySetChecks) ∧
  (Refuses .laneStatus specLaneStatus laneStatusChecks) ∧
  (Refuses .laneMargin specLaneMargin laneMarginChecks) ∧
  (Refuses .laneSleep specLaneSleep laneSleepChecks) ∧
  (Refuses .reachConfig specReachConfig reachConfigChecks) ∧
  (Refuses .dlinkStatus specDlinkStatus dlinkStatusChecks) ∧
  (Refuses .dlinkSwap specDlinkSwap dlinkSwapChecks) ∧
  (Refuses .dlinkHalve specDlinkHalve dlinkHalveChecks) ∧
  (Refuses .dlinkMargin specDlinkMargin dlinkMarginChecks) ∧
  (Refuses .dieIsolate specDieIsolate dieIsolateChecks) ∧
  (Refuses .kaoChanReplace specKaoChanReplace chanReplaceChecks) ∧
  (Refuses .rowSpare specRowSpare rowSpareChecks) ∧
  (Refuses .tilthPolicy specTilthPolicy tilthPolicyChecks) ∧
  (Refuses .tilthClear specTilthClear tilthClearChecks) ∧
  (Refuses .crcSelftest specCrcSelftest crcSelftestChecks) ∧
  (Refuses .peatRetire specPeatRetire peatRetireChecks) ∧
  (Refuses .evtRoute specEvtRoute evtRouteChecks) ∧
  (Refuses .evtRearm specEvtRearm evtRearmChecks) ∧
  (Refuses .evtStatus specEvtStatus evtStatusChecks) ∧
  (Refuses .dumpRead specDumpRead dumpReadChecks) ∧
  (Refuses .dumpPolicy specDumpPolicy dumpPolicyChecks) ∧
  (Refuses .dumpErase specDumpErase dumpEraseChecks) ∧
  (Refuses .vdbgOpen specVdbgOpen vdbgOpenChecks) ∧
  (Refuses .telRead specTelRead telReadChecks) ∧
  (Refuses .vidSet specVidSet vidSetChecks) ∧
  (Refuses .telThresh specTelThresh telThreshChecks) ∧
  (Refuses .jobStatus specJobStatus (fun w p s => jobRefusal s w (u16 p 0))) ∧
  (Refuses .jobCancel specJobCancel (fun w p s => jobRefusal s w (u16 p 0))) ∧
  (Refuses .memRead specMemRead memRefusal) ∧
  (Refuses .memWrite specMemWrite memRefusal) ∧
  (∀ (s : State) (m : Fin 24) (i : Fin 8) (p : Bytes) (a : Ans), s.mgmt.restartFw = false → mayRun specFwActivate s m i p = true →
    fwActivateChecks (asker s m i) p (running s m.val i.val) = some a →
    exec (.fwActivate m i p) s = .next (reply (running s m.val i.val) m.val i.val 0x010A a))

/-- A step is the command at the front of the queue, run with the queue's rest; on an empty queue the time base advances by one
nanosecond, which is the model's choice (log entry 1). -/
def Obligations.StepRunsTheFront : Prop :=
  (∀ (c : Instr) (s : State), step { s with pending := c :: s.pending } = exec c s) ∧
  (∀ (c : Instr) (rest : List Instr) (s : State), s.pending = c :: rest → step s = exec c { s with pending := rest }) ∧
  (∀ s : State, s.pending = [] → step s = .next { s with sys := { s.sys with timeNs := s.sys.timeNs + 1 } })

/-- Every step, from every state, answers a next state. -/
def Obligations.EveryStepCompletes : Prop := ∀ s : State, ∃ t, step s = .next t

/-- No step changes what manufacture fixed, the part and the fuses of R55, and host memory keeps its canonical form; the queue loses
its front and nothing else. -/
def Obligations.StepKeepsManufacture : Prop :=
  ∀ (p : Part) (root : BitVec 384) (serial : DWord) (s t : State), madeAs p root serial s → step s = .next t →
    madeAs p root serial t ∧ t.pending = s.pending.drop 1

/-- The state after reset: the invariant holds of it, nothing waits, and the device is held in reset. -/
def Obligations.ResetState : Prop :=
  madeAs State.reset.sys.part State.reset.vault.vendorRootHash State.reset.vault.serial State.reset ∧ State.reset.pending = [] ∧
  State.reset.sys.phase = .held ∧ State.reset.sys.fatal = false ∧ State.reset.sys.timeNs = 0 ∧ State.reset.host = [] ∧
  State.reset.silt.sink = false ∧ State.reset.sys.cfgDone = false

/-- Gates before a mailbox command is looked at (R46, R326, R338, R352, R398): a device that does not serve leaves the slot as it is; in
ROM mode a command that the ROM does not carry is answered ST_ABSENT, DETAIL 3, in the fatal state one outside groups 0x00, 0x08, 0x0A and
0x0B ST_FAULT, DETAIL 1; one that the requester may not issue ST_DENIED, one of a wrong length ST_BAD_ARG, DETAIL 0xFF. Nothing but
the slot and its mailbox changes. -/
def Obligations.MailboxGates : Prop :=
  ∀ (c : Instr) (m : Fin 24) (i : Fin 8) (p : Bytes) (k : CmdSpec) (s : State), mailboxRow c = some (m, i, p, k) →
    ((k.op = 0x010A ∨ k.op = 0x0908) → s.mgmt.restartFw = false) →
    ((serving s = false ∨ 18 < m.val) → exec c s = .next s) ∧
    (serving s = true → m.val ≤ 18 → s.sys.phase = .romMode →
      ¬ ((m.val = 0 ∨ m.val = 18) ∧ (k.op = 0x0000 ∨ k.op = 0x0109 ∨ k.op = 0x0B00)) →
      exec c s = .next (reply (running s m.val i.val) m.val i.val k.op (ansBad stAbsent 3))) ∧
    (serving s = true → m.val ≤ 18 → s.sys.phase = .ready → s.sys.fatal = true →
      (k.op / 256 ≠ 0x00 ∧ k.op / 256 ≠ 0x08 ∧ k.op / 256 ≠ 0x0A ∧ k.op / 256 ≠ 0x0B) →
      exec c s = .next (reply (running s m.val i.val) m.val i.val k.op (ansBad stFault 1))) ∧
    (serving s = true → m.val ≤ 18 → s.sys.phase = .ready → s.sys.fatal = false →
      (groupOk (asker s m i) k.op = false ∨ horizonOk k (asker s m i) = false) →
      exec c s = .next (reply (running s m.val i.val) m.val i.val k.op (ansBad stDenied 0))) ∧
    (serving s = true → m.val ≤ 18 → s.sys.phase = .ready → s.sys.fatal = false →
      groupOk (asker s m i) k.op = true → horizonOk k (asker s m i) = true → k.len p = false →
      exec c s = .next (reply (running s m.val i.val) m.val i.val k.op (ansBad stBadArg 0xFF)))

/-- A response (R338, R341, R343, R344): the slot becomes DONE and holds the response's header and payload, the mailbox counts it, and
vector 0 of a function that asks for it fires; of a slot that a function-level reset has marked the response is discarded and the
slot left IDLE. Plots, host memory, jobs, the vault and the units of the fabric stay as they are. -/
def Obligations.Responses : Prop :=
  ∀ (s : State) (m op : Nat) (i : Fin 8) (a : Ans), a.status ≠ stBusy →
    let t := reply s m i.val op a
    (t.plots = s.plots ∧ t.host = s.host ∧ t.mgmt = s.mgmt ∧ t.vault = s.vault ∧ t.fab = s.fab ∧ t.kstacks = s.kstacks ∧ t.silt = s.silt ∧
      t.evt = s.evt ∧ t.pce = s.pce ∧ t.sys = s.sys ∧ t.peat = s.peat ∧ t.pending = s.pending) ∧
    (mbxAt t m).cntDone = ctrInc (mbxAt s m).cntDone ∧
    ((slotAt s m i.val).discard = false →
      slotAt t m i.val = { (slotAt s m i.val) with state := .done, rspHdr := rspHeader op (hdrToken s m i.val) a 0, rsp := a.payload }) ∧
    ((slotAt s m i.val).discard = true → (slotAt t m i.val).state = .idle ∧ t.fns = s.fns) ∧
    ((slotAt s m i.val).discard = false → ((mbxAt s m).doneEn = false ∨ 16 < m) → t.fns = s.fns) ∧
    ((slotAt s m i.val).discard = false → (mbxAt s m).doneEn = true → m ≤ 16 → ∃ u : State, t = msix u m 0 ∧ u.fns = s.fns)

/-- Host memory under DMA: what is written reads back, every byte outside it reads as before, and the canonical form stands. -/
def Obligations.HostMemory : Prop :=
  ∀ (s : State) (a : Nat) (b : Bytes), hostOk s = true →
    dmaRead (dmaWrite s a b) a b.length = b ∧ hostOk (dmaWrite s a b) = true ∧
    (∀ x n, (x + n ≤ a ∨ a + b.length ≤ x) → dmaRead (dmaWrite s a b) x n = dmaRead s x n)

/-- R35: die-local and package coordinates, and where the attachments of a Loam die stand. -/
def Obligations.LoamCoordinates : Prop :=
  (∀ lx ly : Nat, lx < 8 → ly < 8 → pkgXY 0 lx ly = (lx, ly) ∧ pkgXY 1 lx ly = (ly, 7 - lx) ∧ pkgXY 2 lx ly = (7 - lx, 7 - ly) ∧
    pkgXY 3 lx ly = (7 - ly, lx)) ∧
  (∀ p lx ly : Nat, p < 4 → lx < 8 → ly < 8 → localXY p (pkgXY p lx ly).1 (pkgXY p lx ly).2 = (lx, ly)) ∧
  (∀ g : Nat, g < 128 → groupEdge g = 0 → ∃ lx, lx < 8 ∧ groupNode g = nodeLocal (groupPos g) lx 0 0) ∧
  (∀ g : Nat, g < 128 → groupEdge g = 1 → groupPair g < 4 → ∃ ly, ly < 8 ∧ groupNode g = nodeLocal (groupPos g) 7 ly 0 ∧
    ∃ ly', ly' < 8 ∧ groupPeer g / 2 = nodeLocal ((groupPos g + 1) % 4) 0 ly' 0 / 2) ∧
  (∀ p lx : Nat, p < 4 → lx < 8 → frontNode p lx = nodeLocal p lx 7 0) ∧
  (∀ n : Nat, n < 8 → ∃ lx, lx < 8 ∧ portNode n = nodeLocal (portDie n) lx 7 1)

/-- R389: with more than 64 sources coalescing, a raise makes source 39 of the device raise with cause STORM and makes an INFO record;
one storm raises it once. What a raise does at its own source does not depend on a storm. -/
def Obligations.Storms : Prop :=
  (∀ (s : State) (i : Nat), 64 < coalescingCount (raiseBase s i) → (raiseBase s i).evt.storm = false →
    raise s i = raiseBase (record (modEvt (raiseBase s i) (fun e => { e with storm := true }))
      { src := 640 + 39, sev := 0, cause := 0x2D, node := evtNode }) (640 + 39)) ∧
  (∀ (s : State) (i : Nat), 64 < coalescingCount (raiseBase s i) → (raiseBase s i).evt.storm = true → raise s i = raiseBase s i) ∧
  (∀ (s : State) (i : Nat), coalescingCount (raiseBase s i) ≤ 64 → raise s i = modEvt (raiseBase s i) (fun e => { e with storm := false })) ∧
  (∀ (s : State) (i : Nat) (b : Bool), raiseBase (modEvt s (fun e => { e with storm := b })) i =
    modEvt (raiseBase s i) (fun e => { e with storm := b }))

/-- CAPS, ID_CERT, JOB_STATUS, JOB_CANCEL and JOB_LIST (R357, R358). A command that its gates, its length and its checks let through has the effect and the answer that its clause gives. -/
def Obligations.JobCommands : Prop :=
  (Answers .caps specCaps (fun _ _ _ => none)
    (fun w _ s =>
  (ansOk (capBytes s w.mbx ++ leBytes 4 Config.iana.toNat ++ leBytes 8 (s.pce.sfBase.getD 0) ++
    [0, 1, 2, 3].flatMap (fun p => leBytes 8 (spillBase s p)) ++ [0, 1, 2, 3].flatMap (fun p => leBytes 8 (ctrBase s p)) ++
    leBytes 8 (dumpBase s) ++
    (List.range 32).flatMap (fun i => leBytes 2 (Config.colBand (i / 8) (i % 8)).1 ++ leBytes 2 (Config.colBand (i / 8) (i % 8)).2)), s))) ∧
  (Answers .idCert specIdCert (fun _ _ _ => none)
    (fun _ _ s =>
  let c := Config.identityCert.take 1900
  (ansOk (pubBytes Config.vendorRootPub ++ leBytes 2 c.length ++ zeros 2 ++ c), s))) ∧
  (Answers .jobStatus specJobStatus (fun w p s => jobRefusal s w (u16 p 0))
    (fun _ p s => match jobAt s (u16 p 0) with
      | none => (badArg 0, s)
      | some j => (ansOk (jobBytes s (u16 p 0) j), s))) ∧
  (Answers .jobCancel specJobCancel (fun w p s => jobRefusal s w (u16 p 0))
    (fun _ p s => match jobAt s (u16 p 0) with
      | none => (badArg 0, s)
      | some j => (ansOk (leBytes 1 (jobCode j.state) ++ zeros 3),
          if j.state = .running then { s with mgmt := { s.mgmt with jobs := tset none s.mgmt.jobs (u16 p 0) (some { j with cancel := true }) } } else s))) ∧
  (Answers .jobList specJobList (fun _ _ _ => none)
    (fun w _ s =>
  let l := (openJobs s).filter (fun id => (jobRefusal s w id).isNone)
  (ansOk (leBytes 2 l.length ++ l.flatMap (leBytes 2)), s)))

/-- CFG_LOAD to CFG_SCAN_STATUS, FW_UPDATE and FW_ACTIVATE (R359, R360, R327). A command that its gates, its length and its checks let through has the effect and the answer that its clause gives. -/
def Obligations.ConfigurationCommands : Prop :=
  (Answers .cfgStatus specCfgStatus (fun _ _ _ => none)
    (fun _ _ s =>
  (ansOk (leBytes 1 (cfgState s) ++ leBytes 1 (b2n s.sys.cfgErr) ++ leBytes 1 s.sys.bootSrc.toNat ++
    leBytes 1 (b2n s.cfg.usedFallback + 2 * b2n s.peat.readOnly) ++ leBytes 1 s.peat.primary ++ leBytes 1 s.peat.fallback ++ zeros 2 ++
    leBytes 8 s.cfg.lastResult.toNat ++ beBytes 48 (plotAt s 0).meas.toNat), s))) ∧
  (Answers .cfgDir specCfgDir (fun _ _ _ => none)
    (fun _ _ s => (ansOk ((List.range 32).flatMap (fun e => dirBytes (imageAt s e))), s))) ∧
  (Answers .cfgScanStatus specCfgScanStatus cfgScanStatusChecks
    (fun w p s =>
    let c := s.cfg
    let x := plotAt s w.plot
    let b := decide (w.hz = .b)
    let addrs := if b then x.scanAddrs else []
    (ansOk (leBytes 4 c.lastLapMs ++ leBytes 1 (min 255 (256 * c.scanned / max 1 (framesTotal s))) ++
        leBytes 1 (if u8 p 0 = 1 then u8 p 1 else b2n c.scanFatal) ++ leBytes 2 addrs.length ++
        leBytes 4 (ctrWord (if b then x.scanCorr else c.corr)) ++ leBytes 4 (ctrWord (if b then x.scanEss else c.essCorr)) ++
        leBytes 4 (ctrWord (if b then x.scanUncorr else c.uncorr)) ++ addrs.flatMap (leBytes 4)),
     if u8 p 0 = 1 then modCfg s (fun c => { c with scanFatal := decide (u8 p 1 = 1) }) else s))) ∧
  (∀ (s : State) (m : Fin 24) (i : Fin 8) (p : Bytes),
    mayRun specCfgLoad s m i p = true → cfgLoadChecks (asker s m i) p (running s m.val i.val) = none →
    jobRoom s [(.shell, false)] = true →
    exec (.cfgLoad m i p) s = .next (reply
      (let t := jobStarted (running s m.val i.val) (asker s m i) 0x0100 p [(.shell, false)]
       { t with sys := { t.sys with cfgErr := false } })
      m.val i.val 0x0100 { status := stJob, job := s.mgmt.nextJob })) ∧
  (StartsJob .cfgClear specCfgClear cfgClearChecks (fun _ _ _ => [(.shell, false)])) ∧
  (StartsJob .cfgStore specCfgStore cfgStoreChecks (fun _ _ _ => [(.peatImages, false)])) ∧
  (StartsJob .cfgErase specCfgErase cfgEraseChecks (fun _ _ _ => [(.peatImages, false)])) ∧
  (StartsJob .cfgBootSet specCfgBootSet cfgBootSetChecks (fun _ _ _ => [(.peatImages, false)])) ∧
  (StartsJob .cfgReadback specCfgReadback cfgReadbackChecks
    (fun _ p _ => [(if u8 p 0 = 0 then .shell else .plot (u8 p 0), false)])) ∧
  (∀ (s : State) (m : Fin 24) (i : Fin 8) (p : Bytes),
    mayRun specFwUpdate s m i p = true → fwUpdateChecks (asker s m i) p (running s m.val i.val) = none →
    (u64 p 8 ≠ 0 → jobRoom s [(.fw, false)] = true →
      exec (.fwUpdate m i p) s = .next (reply (jobStarted (running s m.val i.val) (asker s m i) 0x0109 p [(.fw, false)])
        m.val i.val 0x0109 { status := stJob, job := s.mgmt.nextJob })) ∧
    (u64 p 8 = 0 → u32 p 4 = (piecesOf s).2.length → ((piecesOf s).2 = [] ∨ (piecesOf s).1 = u32 p 0) →
      (piecesOf s).2.length + (p.length - 16) < u32 p 0 →
      exec (.fwUpdate m i p) s = .next (reply
        { (running s m.val i.val) with mgmt := { s.mgmt with pieces := some (u32 p 0, (piecesOf s).2 ++ p.drop 16, now s) } }
        m.val i.val 0x0109 (ansOk []))) ∧
    (u64 p 8 = 0 → u32 p 4 ≠ (piecesOf s).2.length → (piecesOf s).2.length + (p.length - 16) ≤ u32 p 0 →
      exec (.fwUpdate m i p) s = .next (reply
        { (running s m.val i.val) with mgmt := { s.mgmt with pieces := none } } m.val i.val 0x0109 (badArg 4))) ∧
    (u64 p 8 = 0 → u32 p 4 = (piecesOf s).2.length → ((piecesOf s).2 = [] ∨ (piecesOf s).1 = u32 p 0) →
      (piecesOf s).2.length + (p.length - 16) = u32 p 0 → jobRoom s [(.fw, false)] = true →
      exec (.fwUpdate m i p) s = .next (reply
        (let t := jobStarted (running s m.val i.val) (asker s m i) 0x0109 (p.take 16) [(.fw, false)]
         modJob { t with mgmt := { t.mgmt with pieces := none } } s.mgmt.nextJob
           (fun x => { x with data := (piecesOf s).2 ++ p.drop 16 }))
        m.val i.val 0x0109 { status := stJob, job := s.mgmt.nextJob }))) ∧
  (∀ (s : State) (m : Fin 24) (i : Fin 8) (p : Bytes),
    mayRun specFwActivate s m i p = true → s.mgmt.restartFw = false → jobSure s = false → anyHeld s [.fw] = false →
    exec (.fwActivate m i p) s = .next (
      if slotAccepted s (otherSlot s) then
        restartBegin (reply { (running s m.val i.val) with mgmt := { s.mgmt with restartFw := true } } m.val i.val 0x010A (ansOk [])) 3
      else reply (running s m.val i.val) m.val i.val 0x010A (badArg 0)))

/-- PROFILE_LOAD to PROFILE_STATS, HOME_MAP_SET and READ, AGENT_BIND and READ, PCE_SF_ASSIGN, PCE_REMAP, PCE_STATUS (R361). A command that its gates, its length and its checks let through has the effect and the answer that its clause gives. -/
def Obligations.ProfileCommands : Prop :=
  (StartsJob .profileLoad specProfileLoad profileLoadChecks (fun _ p _ => [(.profile (u8 p 0), false)])) ∧
  (StartsJob .profileSwap specProfileSwap profileSwapChecks (fun _ p _ =>
    let n := u8 p 0
    [(.profile n, false), (.agents n, false)])) ∧
  (Answers .profileUnload specProfileUnload profileUnloadChecks
    (fun _ p s =>
    let n := u8 p 0
    (ansOk [], modProfile s n (fun x => if u8 p 1 = 1 then { x with shadow := none } else { x with active := none, shadow := none })))) ∧
  (StartsJob .profileRead specProfileRead profileReadChecks (fun _ p _ => [(.profile (u8 p 0), false)])) ∧
  (Answers .profileStats specProfileStats
    (fun _ p s =>
    let rules := match (profileAt s (u8 p 0)).active with | some b => bkRules b | none => 0
    firstRefusal [profileNum p, flag01 p 1, chk (decide (4 * rules ≤ u32 p 4)) (badArg 4), aligned p 8])
    (fun _ p s =>
    let n := u8 p 0
    let x := profileAt s n
    let rules := match x.active with | some b => bkRules b | none => 0
    let s1 := dmaWrite s (u64 p 8) ((List.range rules).flatMap (fun i => leBytes 4 (ctrWord (tget {} x.hits (runBase x + i)))))
    let s2 := if u8 p 1 = 1 then modProfile s1 n (fun x => { x with faults := [], hits := [], raised := [] }) else s1
    if dmaFails s (u64 p 8) then (ansBad stFault 3, s)
    else (ansOk ((List.range 10).flatMap (fun k => leBytes 4 (ctrWord (tget {} x.faults k))) ++
       leBytes 2 (runBase x) ++ leBytes 2 rules), s2))) ∧
  (StartsJob .homeMapSet specHomeMapSet homeMapSetChecks (fun _ p s =>
    let i := u8 p 0
    let e := homeOf p
    let ps := homeProfiles s i e
    ((.homeEntry i, false) :: ps.map (fun n => (.agents n, false))))) ∧
  (Answers .homeMapRead specHomeMapRead (fun _ p _ => if u8 p 0 < 64 then none else some (badArg 0))
    (fun _ p s => (ansOk (homeBytes (u8 p 0) (homeAt s (u8 p 0))), s))) ∧
  (StartsJob .agentBind specAgentBind agentBindChecks (fun _ p s => if u8 p 0 = 0 then
    (.agentSet (u16 p 2) (u16 p 4), false) ::
      ((bindAgents p).filter (bindQuiesces s (contextOf p))).map (fun a => (Func.agentRange a 1, false)) else [(.linkRange (u8 p 1), false)])) ∧
  (Answers .agentRead specAgentRead agentReadChecks
    (fun _ p s =>
    (ansOk ((List.range (u16 p 2)).flatMap (fun i => leBytes 12 (contextShown s (u16 p 0 + i)).toNat)), s))) ∧
  (Answers .pceSfAssign specPceSfAssign (fun _ p s => firstRefusal [kaoAbsent s (u64 p 0) (sfSize s),
      chk (s.pce.sfBase.isNone && decide (u64 p 0 % 0x200000 = 0) &&
        (plotAt s 0).res.windows.any (fun x => decide (x.base ≤ u64 p 0 ∧ u64 p 0 + sfSize s ≤ x.base + 2 ^ x.sizeLog2))) (badArg 0)])
    (fun _ p s => (ansOk [],
      (List.range (sfSize s / 0x200000)).foldl
        (fun s k => modGran (regionClear s (u64 p 0 + k * 0x200000) 0x200000) (u64 p 0 / 0x200000000) (u64 p 0 % 0x200000000 / 0x200000 + k)
          (fun g => { g with kind := .snoop, plot := 0, slot := if imePresent s then 63 else 0 }))
        { s with pce := { s.pce with sfBase := some (u64 p 0) } }))) ∧
  (StartsJob .pceRemap specPceRemap pceRemapChecks (fun _ _ _ => [(.allAgents, false)])) ∧
  (Answers .pceStatus specPceStatus pceStatusChecks
    (fun _ p s =>
    let i := u8 p 0
    let x := sliceAt s i
    (ansOk (leBytes 2 (trkBusy s i) ++ leBytes 2 x.parked.length ++ leBytes 1 (reservedBusy s i) ++ zeros 3 ++
        (sliceCtrs x).flatMap (fun c => leBytes 4 (ctrWord c))),
     if u8 p 1 = 1 then modSlice s i (fun x => { x with
       stray := {}, parkFull := {}, evict := {}, recov := {}, contained := {}, mismatch := {}, lockWait := {} }) else s)))

/-- PLOT_CREATE, PLOT_CHANGE, PLOT_DESTROY, PLOT_RESET, the end of its blank, PLOT_LOAD, PLOT_STATUS (R362, R363). A command that its gates, its length and its checks let through has the effect and the answer that its clause gives. -/
def Obligations.PlotCommands : Prop :=
  (Answers .plotCreate specPlotCreate plotCreateChecks
    (fun _ p s =>
    let q := u8 p 0
    let r := recRes s p
    (ansOk (leBytes 4 1), plotCreate s q r (recMeas s p)))) ∧
  (Answers .plotChange specPlotChange plotChangeChecks
    (fun _ p s =>
    let q := u8 p 0
    let r := recRes s p
    let x := plotAt s q
    let s1 := changeRes (if q ≠ 0 ∧ x.state = .empty then markRegions (zeroFrames s (fun a => r.ranges.any (fun g => inRange g a))) r.regions true else s) q r (recMeas s p)
    (ansOk (leBytes 4 (plotAt s1 q).gen), s1))) ∧
  (∀ (s : State) (m : Fin 24) (i : Fin 8) (p : Bytes),
    mayRun specPlotDestroy s m i p = true → plotDestroyChecks (asker s m i) p (running s m.val i.val) = none →
    jobRoom s [] = true →
    exec (.plotDestroy m i p) s = .next (reply (jobStarted (running s m.val i.val) (asker s m i) 0x0202 p [(.plot (u8 p 0), false)])
      m.val i.val 0x0202 { status := stJob, job := s.mgmt.nextJob })) ∧
  (Answers .plotReset specPlotReset plotResetChecks
    (fun _ p s =>
    let q := u8 p 0
    let s1 := plotReset s q (decide (u8 p 1 = 1))
    (ansOk (leBytes 4 (plotAt s1 q).gen), s1))) ∧
  (∀ (s : State) (m : Fin 24) (i : Fin 8) (p : Bytes), m.val ≤ 18 → (plotAt s (u8 p 0)).zeroing = true →
    exec (.plotBlankZeroingDone m i p) s =
      .next (modPlot (zeroFrames s (inMap s (u8 p 0))) (u8 p 0) (fun x => { x with zeroing := false }))) ∧
  (StartsJob .plotLoad specPlotLoad plotLoadChecks (fun _ p s =>
    let q := u8 p 0
    let r := (plotAt s q).res
    ((.plot q, false) :: (if r.agentCount = 0 then [] else [(.agentRange r.agentBase r.agentCount, false)])))) ∧
  (Answers .plotStatus specPlotStatus plotStatusChecks
    (fun _ p s =>
    let q := u8 p 0
    let x := plotAt s q
    (ansOk (leBytes 1 (plotCode x.state) ++ leBytes 1 (b2n (tenantHeld s q)) ++ leBytes 1 x.res.vf ++
      leBytes 1 (b2n x.broken + 2 * b2n (sessionOf s q).isSome + 4 * b2n x.zeroing) ++ leBytes 4 x.gen ++
      beBytes 48 x.resMeas.toNat ++ beBytes 48 x.meas.toNat), s)))

/-- FLOW_CONFIG, FLOW_STATUS, SLOT_LEND, SLOT_RECLAIM, GRN_CONFIG, GRN_STATUS (R363). A command that its gates, its length and its checks let through has the effect and the answer that its clause gives. -/
def Obligations.FlowCommands : Prop :=
  (StartsJob .flowConfig specFlowConfig flowConfigChecks (fun _ p _ =>
    let fs := cfgFlows p
    (fs.map (fun f => (.flow f, false))))) ∧
  (Answers .flowStatus specFlowStatus flowStatusChecks
    (fun w p s =>
    let f := u16 p 0
    let x := flowAt s f
    let pl := plotOfFlow s f
    (ansOk ((if w.hz = .a ∧ tenantHeld s pl = true then zeros 8 else leBytes 8 (flowContext s f).toNat) ++
        [x.accepted, x.refused, x.spilledN, x.delivered].flatMap (fun c => leBytes 4 (ctrWord c))),
     if u8 p 2 = 1 then modFlow s f (fun x => { x with accepted := {}, refused := {}, spilledN := {}, delivered := {} }) else s))) ∧
  (Answers .slotLend specSlotLend slotLendChecks
    (fun _ p s =>
    let q := u8 p 0
    let n := nauNode q (u8 p 1)
    let k := u8 p 2
    let r := lendSlots q n k [] s
    (ansOk (r.1.flatMap (leBytes 2)), r.2))) ∧
  (StartsJob .slotReclaim specSlotReclaim slotReclaimChecks (fun _ p _ =>
    let q := u8 p 0
    [(.slot q (u16 p 2), false)])) ∧
  (Answers .grnConfig specGrnConfig grnConfigChecks
    (fun _ p s =>
    let q := u8 p 0
    (ansOk [], modQuarter s q (fun x => { x with spillLow := u16 p 2, spillHigh := u16 p 4 })))) ∧
  (Answers .grnStatus specGrnStatus grnStatusChecks
    (fun _ p s =>
    let q := u8 p 0
    let x := quarterAt s q
    (ansOk (leBytes 2 x.onchip.length ++ zeros 2 ++ leBytes 4 (spillPages s q) ++ leBytes 4 (ctrWord x.stray) ++
        (List.range 5).flatMap (fun i => leBytes 4 (ctrWord (tget {} x.refusals i)))),
     if u8 p 1 = 1 then modQuarter s q (fun x => { x with stray := {}, refusals := [] }) else s)))

/-- KEY_IMPORT, KEY_DROP, ATTEST, VAULT_STATUS, FUSE_PROG, BBRAM_KEY_WRITE, BBRAM_CLEAR, TAMPER_CLEAR (R364, R365). A command that its gates, its length and its checks let through has the effect and the answer that its clause gives. -/
def Obligations.VaultCommands : Prop :=
  (Queues .keyImport specKeyImport keyImportPre) ∧
  (Answers .keyDrop specKeyDrop keyDropChecks
    (fun w _ s =>
    let q := w.plot
    let s1 := modPlot (disownJobs (plotReset s q true) q) q (fun x => { x with tenantKey := none, signHash := 0#384, importHash := 0#384 })
    (ansOk (leBytes 4 (plotAt s1 q).gen), s1))) ∧
  (Queues .attest specAttest attestPre) ∧
  (Answers .vaultStatus specVaultStatus
    (fun w _ s => if w.mbx = 0 ∧ w.hz = .a ∧ s.vault.randomOk = false then some (ansBad stFault 6) else none)
    (fun w _ s =>
      let n := if w.mbx = 0 ∧ w.hz = .a then drawOf s else 0#384
      (ansOk (leBytes 8 s.vault.ownerCtrl.toNat ++ leBytes 1 (vaultFlags s) ++ zeros 1 ++ leBytes 2 (minFwOf s) ++ zeros 4 ++
          leBytes 8 s.vault.serial.toNat ++ beBytes 48 s.vault.vendorRootHash.toNat ++ beBytes 48 s.vault.ownerSignHash.toNat ++
          beBytes 48 n.toNat),
        if w.mbx = 0 ∧ w.hz = .a then drawn { s with vault := { s.vault with vdbgNonce := some (n, now s) } } 1 else s))) ∧
  (StartsJob .fuseProg specFuseProg fuseProgChecks (fun _ _ _ => [(.fuses, false)])) ∧
  (Answers .bbramKeyWrite specBbramKeyWrite (fun _ _ s => bbramRight s)
    (fun _ p s => (ansOk [], { s with vault := { s.vault with
      ownerKeyB := BitVec.ofNat 256 (beN p 0 32), keyCheck := keyCheckOf (BitVec.ofNat 256 (beN p 0 32)), keyCheckOk := true } }))) ∧
  (Answers .bbramClear specBbramClear (fun _ _ s => bbramRight s)
    (fun _ _ s => (ansOk [], { s with vault := { s.vault with ownerKeyB := 0#256, keyCheck := 0#64, keyCheckOk := false } }))) ∧
  (Answers .tamperClear specTamperClear (fun _ _ _ => none)
    (fun _ _ s => (ansOk [], { s with vault := { s.vault with tamperLatch := false } })))

/-- MEM_READ, MEM_WRITE, KAO_CONFIG to KAO_PATROL_SET, PEAT_CONFIG, PEAT_SCRUB, PEAT_STATUS (R366 to R368). A command that its gates, its length and its checks let through has the effect and the answer that its clause gives. -/
def Obligations.MemoryCommands : Prop :=
  (∀ (s : State) (m : Fin 24) (i : Fin 8) (p : Bytes),
    mayRun specMemRead s m i p = true → memRefusal (asker s m i) p (running s m.val i.val) = none →
    (memHost p ≠ 0 → jobRoom s [] = true →
      exec (.memRead m i p) s = .next (reply (jobStarted (running s m.val i.val) (asker s m i) 0x0400 p [])
        m.val i.val 0x0400 { status := stJob, job := s.mgmt.nextJob })) ∧
    (memHost p = 0 → memIdle s p = true → exec (.memRead m i p) s = .next
      (let r := mgmtReads (u8 p 0) (rangeLines (memAddr p) (memLen p)) (running s m.val i.val)
       reply r.2.2 m.val i.val 0x0400 (ansOk (r.1.map (BitVec.ofNat 8) ++ r.2.1)))) ∧
    (memHost p = 0 → memIdle s p = false → exec (.memRead m i p) s = .next s)) ∧
  (∀ (s : State) (m : Fin 24) (i : Fin 8) (p : Bytes),
    mayRun specMemWrite s m i p = true → memRefusal (asker s m i) p (running s m.val i.val) = none →
    (memHost p ≠ 0 → jobRoom s [] = true →
      exec (.memWrite m i p) s = .next (reply (jobStarted (running s m.val i.val) (asker s m i) 0x0401 p [])
        m.val i.val 0x0401 { status := stJob, job := s.mgmt.nextJob })) ∧
    (memHost p = 0 → memIdle s p = true → exec (.memWrite m i p) s = .next
      (let r := mgmtWrites (u8 p 0) (p.drop 24) 0 (rangeLines (memAddr p) (memLen p)) (running s m.val i.val)
       reply r.2 m.val i.val 0x0401 (ansOk (r.1.map (BitVec.ofNat 8))))) ∧
    (memHost p = 0 → memIdle s p = false → exec (.memWrite m i p) s = .next s)) ∧
  (Answers .kaoConfig specKaoConfig kaoConfigChecks
    (fun w p s =>
    let q := u8 p 0
    let lx := u8 p 1
    if changesHaz s p then startJob s w 0x0402 p [(.front q lx, false)] 0
    else (ansOk [], kaoRegWrite s q lx (u16 p 4) (BitVec.ofNat 32 (u32 p 8))))) ∧
  (Answers .kaoStatus specKaoStatus kaoStatusChecks
    (fun _ p s =>
    let q := u8 p 0
    let lx := u8 p 1
    (ansOk (kaoStatusOffs.flatMap (fun o => leBytes 4 (kaoReg s q lx o))), if u8 p 2 = 1 then kaoClear s q lx else s))) ∧
  (StartsJob .kaoMapSet specKaoMapSet kaoMapSetChecks (fun _ p _ =>
    let q := u8 p 0
    [(.stack q, false)])) ∧
  (StartsJob .kaoOpSet specKaoOpSet kaoOpSetChecks (fun _ p _ =>
    let q := u8 p 0
    [(.stack q, false)])) ∧
  (Answers .kaoChanOffline specKaoChanOffline kaoOfflineChecks
    (fun w p s =>
    let q := u8 p 0
    let c := u8 p 1
    (copyStart s w opOffline q c))) ∧
  (Answers .kaoChanOnline specKaoChanOnline kaoOnlineChecks
    (fun w p s =>
    let q := u8 p 0
    let c := u8 p 1
    if (chanAt s q c).bistBad then (ansBad stFault 1, if (chanAt s q c).state = .offline then makePermanent s q c else s) else copyStart s w opOnline q c)) ∧
  (StartsJob .kaoBist specKaoBist kaoBistChecks (fun _ p _ =>
    let q := u8 p 0
    [(.chan q (u8 p 1), false)])) ∧
  (StartsJob .kaoScrub specKaoScrub kaoScrubChecks (fun _ p _ =>
    ((granulesOf (scrubRange p).1 (scrubRange p).2).map addrStack).dedup.map (fun k => (.scrub k, false)))) ∧
  (Answers .kaoInject specKaoInject kaoInjectChecks
    (fun _ p s =>
    let a := u64 p 8
    let pos := addrStack a
    let lx := frontOf s a
    let f := frontAt s pos lx
    (ansOk (leBytes 4 f.injStatus.toNat),
     modFront s pos lx (fun f =>
       injCtrlSet { f with injLine := BitVec.ofNat 32 (addrLine a), injSym := tset 0#32 (tset 0#32 (tset 0#32 [] 0 (injWord p 0)) 1 (injWord p 1)) 2 (injWord p 2) }
         (BitVec.ofNat 32 (u8 p 2 * 2 ^ 31 + u8 p 1 * 2 ^ 29)))))) ∧
  (Answers .kaoPatrolSet specKaoPatrolSet kaoPatrolSetChecks
    (fun _ p s =>
    let q := u8 p 0
    (ansOk [], modStack s q (fun k => { k with lapMin := u16 p 2 })))) ∧
  (StartsJob .peatConfig specPeatConfig peatConfigChecks (fun _ _ _ => [(.peatImages, false), (.peatScrub, false)])) ∧
  (StartsJob .peatScrub specPeatScrub peatScrubChecks (fun _ _ _ => [(.peatScrub, false)])) ∧
  (Answers .peatStatus specPeatStatus (fun _ p _ => if u8 p 0 ≤ 1 then none else some (badArg 0))
    (fun _ p s =>
      (ansOk (leBytes 2 s.peat.spares ++ leBytes 1 (b2n s.peat.readOnly) ++ leBytes 1 s.peat.t ++ leBytes 4 (peatMax s.peat) ++
          leBytes 4 (peatMin s.peat) ++ leBytes 4 s.peat.lastLapH ++
          (List.range 8).flatMap (fun i => leBytes 4 (tget 0 s.peat.hist i))),
        if u8 p 0 = 1 then { s with peat := { s.peat with hist := [] } } else s)))

/-- SILT_ROUTE_LOAD to SILT_LEASE_SET, NAU_RATE_SET, NAU_CONFIG, NAU_STATUS (R369, R370). A command that its gates, its length and its checks let through has the effect and the answer that its clause gives. -/
def Obligations.SiltCommands : Prop :=
  (StartsJob .siltRouteLoad specSiltRouteLoad routeLoadChecks (fun _ _ _ => [(.routes, false)])) ∧
  (Answers .siltRouteRead specSiltRouteRead routeReadChecks
    (fun _ p s =>
    let n := u16 p 0
    let bank := if u8 p 3 = 2 then s.silt.epoch else decide (u8 p 3 = 1)
    (ansOk ((List.range 256).map (fun i =>
        BitVec.ofNat 8 (setCode (bankOf s bank) n (u8 p 2) (4 * i) + 16 * setCode (bankOf s bank) n (u8 p 2) (4 * i + 2)))), s))) ∧
  (StartsJob .siltBypass specSiltBypass bypassChecks (fun _ _ _ => [(.routes, false)])) ∧
  (Answers .siltStatus specSiltStatus siltStatusChecks
    (fun _ p s =>
    let n := u16 p 0
    let r := routerAt s n
    let s1 := if u8 p 3 = 1 then modRouter s n (fun r => { r with resends := [] }) else s
    (ansOk (leBytes 4 (routerWord s n) ++ linkCodes.flatMap (fun c => leBytes 4 (ctrWord (tget {} r.resends c)))),
     if u8 p 2 = 1 then modSilt s1 (fun x => { x with deadBound := u32 p 4 }) else s1))) ∧
  (Answers .siltTargetRevive specSiltTargetRevive reviveChecks
    (fun _ p s =>
    let n := u16 p 0
    (ansOk [], modSilt s (fun x => { x with stalled := without x.stalled n, unitReset := without x.unitReset n })))) ∧
  (Answers .siltProbeSet specSiltProbeSet probeSetChecks
    (fun _ p s =>
    let mode := u8 p 19
    (ansOk [], modSilt s (fun n =>
      let n1 := { n with filters := tset {} n.filters (4 * u8 p 0 + u8 p 1) (filterOf p) }
      if mode = 2 then { n1 with probeCnt := [], trace := [], lost := {}, traceN := 0 } else { n1 with wrap := decide (mode = 1) })))) ∧
  (StartsJob .siltTraceRead specSiltTraceRead traceReadChecks (fun _ _ _ => [(.trace, false)])) ∧
  (Answers .siltLeaseSet specSiltLeaseSet leaseSetChecks
    (fun _ p s =>
    let q := u8 p 0
    (ansOk [], modPlot s q (fun x => { x with lease := u16 p 2 })))) ∧
  (Answers .nauRateSet specNauRateSet nauRateSetChecks
    (fun _ p s =>
    let n := u16 p 0
    (ansOk [], nauServe (modNau s n (fun u => nauRateSet u (u8 p 2) (BitVec.ofNat 32 (u32 p 4)))) n))) ∧
  (Answers .nauConfig specNauConfig nauConfigChecks
    (fun _ p s =>
    let n := u16 p 0
    let f := BitVec.ofNat 8 (u8 p 2)
    (ansOk [], nauServe (modNau s n (nauConfigSet f (BitVec.ofNat 32 (u32 p 4)) (BitVec.ofNat 32 (u32 p 8)))) n))) ∧
  (Answers .nauStatus specNauStatus nauStatusChecks
    (fun _ p s =>
    let n := u16 p 0
    (ansOk ((List.range 15).flatMap (fun i => leBytes 4 (nauReg s n (4 * i)))),
     if u8 p 2 = 1 then modNau s n (fun u => nauCntClear { u with err := 0#9 }) else s)))

/-- PORT_CONFIG to PORT_STATUS, IDE_KEY_SET, LANE_STATUS to LANE_SLEEP, REACH_CONFIG (R371). A command that its gates, its length and its checks let through has the effect and the answer that its clause gives. -/
def Obligations.PortCommands : Prop :=
  (StartsJob .portConfig specPortConfig portConfigChecks (fun _ p _ => [(.port (u8 p 0), false)])) ∧
  (StartsJob .portReset specPortReset portResetChecks (fun _ p _ => [(.port (u8 p 0), false)])) ∧
  (StartsJob .portLoopback specPortLoopback portLoopbackChecks (fun _ p _ => [(.port (u8 p 0), false)])) ∧
  (Answers .portStatus specPortStatus portStatusChecks
    (fun _ p s =>
    let l := 2 * u8 p 0
    let clr := fun (x : Link) => { x with recovery := {}, replay := {}, miss := {}, agentFault := {}, stray := {} }
    (ansOk (linkBytes (linkAt s l) ++ linkBytes (linkAt s (l + 1))), if u8 p 1 = 1 then modLink (modLink s l clr) (l + 1) clr else s))) ∧
  (StartsJob .ideKeySet specIdeKeySet ideKeySetChecks (fun _ p _ => [(.port (u8 p 0), false)])) ∧
  (Answers .laneStatus specLaneStatus laneStatusChecks
    (fun _ p s =>
    let fs := (List.range (u8 p 1)).map (fun i => u8 p 0 + i)
    (ansOk (fs.flatMap (laneBytes s)), if u8 p 2 = 1 then fs.foldl laneClear s else s))) ∧
  (StartsJob .laneMargin specLaneMargin laneMarginChecks (fun _ p _ =>
    let f := u8 p 0
    [(.lane f, false)])) ∧
  (Answers .laneSleep specLaneSleep laneSleepChecks
    (fun _ p s =>
    let f := u8 p 0
    (ansOk [], laneSleep s f (decide (u8 p 1 = 1)) (decide (u8 p 2 = 1))))) ∧
  (StartsJob .reachConfig specReachConfig reachConfigChecks (fun _ p _ =>
    let f := u8 p 0
    [(.lane f, false)]))

/-- DLINK_STATUS to DLINK_MARGIN, DIE_ISOLATE, KAO_CHAN_REPLACE, ROW_SPARE, TILTH_POLICY to TILTH_CLEAR, CRC_SELFTEST, PEAT_RETIRE (R372, R373). A command that its gates, its length and its checks let through has the effect and the answer that its clause gives. -/
def Obligations.TilthCommands : Prop :=
  (Answers .dlinkStatus specDlinkStatus dlinkStatusChecks
    (fun _ p s =>
    let g := u8 p 0
    let x := groupAt s g
    (ansOk (leBytes 4 (groupWord s g) ++ zeros 4 ++ leBytes 8 x.oos.toNat ++ (List.range 33).flatMap (fun l => leBytes 2 (worstWord s x l)) ++ zeros 2 ++
        [x.checks, x.noFault, x.swaps, x.halves].flatMap (fun c => leBytes 4 (ctrWord c))),
     if u8 p 1 = 1 then modGroup (drawLanes s) g (fun x => { x with worst := [], checks := {}, noFault := {}, swaps := {}, halves := {} })
     else drawLanes s))) ∧
  (StartsJob .dlinkSwap specDlinkSwap dlinkSwapChecks (fun _ p _ =>
    let g := u8 p 0
    [(.group g, false)])) ∧
  (StartsJob .dlinkHalve specDlinkHalve dlinkHalveChecks (fun _ p _ =>
    let g := u8 p 0
    [(.group g, false)])) ∧
  (Answers .dlinkMargin specDlinkMargin dlinkMarginChecks
    (fun _ p s =>
    let g := u8 p 0
    let set := fun (s : State) (g : Nat) => modGroup s g (fun x => { x with tThr := u8 p 1, vThr := u8 p 2 })
    (ansOk [], if g = 0xFF then ((List.range 128).filter (groupUp s)).foldl set s else set s g))) ∧
  (StartsJob .dieIsolate specDieIsolate dieIsolateChecks (fun _ p _ => [(.die (u8 p 0), false)])) ∧
  (Answers .kaoChanReplace specKaoChanReplace chanReplaceChecks
    (fun w p s =>
    let q := u8 p 0
    let c := u8 p 1
    (copyStart s w opReplace q c))) ∧
  (Answers .rowSpare specRowSpare rowSpareChecks
    (fun _ p s =>
    let q := u8 p 0
    let c := u8 p 1
    (ansOk [], (spareRow s q c (u8 p 2) (u16 p 4)).getD s))) ∧
  (Answers .tilthPolicy specTilthPolicy tilthPolicyChecks
    (fun _ p s =>
    (ansOk [], modTilth s (fun t => { t with report := (List.range 5).foldl (fun r i => tset false r i (decide (u8 p i = 1))) [] })))) ∧
  (Answers .tilthStatus specTilthStatus (fun _ _ _ => none)
    (fun _ _ s =>
  (ansOk ((List.range 7).flatMap (fun k => leBytes 4 (tilthTotals s k).1 ++ leBytes 4 (tilthTotals s k).2)), (freeValue s).2))) ∧
  (StartsJob .tilthClear specTilthClear tilthClearChecks (fun _ _ _ => [(.tilth, false)])) ∧
  (Answers .crcSelftest specCrcSelftest crcSelftestChecks
    (fun _ p s =>
    let q := u8 p 0
    let r := freeValue s
    if bitOf r.1 0 then (ansOk [], r.2) else (ansBad stFault 1, raise r.2 (if q = 4 then 683 else 160 * q + 134)))) ∧
  (StartsJob .peatRetire specPeatRetire peatRetireChecks (fun _ p _ => [(.peatBlock (u16 p 0), false), (.peatScrub, false)]))

/-- EVT_ROUTE to EVT_STATUS, ERR_READ, DUMP_LIST to DUMP_ERASE, TEL_READ, VID_SET, TEL_THRESH (R374, R378). A command that its gates, its length and its checks let through has the effect and the answer that its clause gives. -/
def Obligations.EventCommands : Prop :=
  (Answers .evtRoute specEvtRoute evtRouteChecks
    (fun w p s =>
    (ansOk [], modSrc s (u16 p 0) (routeSet w p)))) ∧
  (Answers .evtRearm specEvtRearm evtRearmChecks
    (fun _ p s =>
    let i := u16 p 0
    (ansOk [], modSrc s i (fun c => if c.state = .masked then { c with state := .armed, owed := 0 } else c)))) ∧
  (Answers .evtStatus specEvtStatus evtStatusChecks
    (fun w p s =>
    let i := u16 p 0
    let mine := decide (w.hz = .b) && noticeSrc i
    let key := 32 * (i - 640) + (plotAt s w.plot).res.vf
    let c := srcAt s i
    (ansOk (leBytes 1 (srcCode c.state) ++ zeros 3 ++ leBytes 4 (ctrWord (if mine then tget {} s.evt.notices key else c.count)) ++
        leBytes 4 (if mine then 0 else ctrWord c.coalesced) ++ zeros 4 ++ leBytes 8 c.lastNs),
     if u8 p 2 = 0 then s
     else if mine then modEvt s (fun e => { e with notices := tset {} e.notices key {} })
     else modSrc s i (fun c => { c with count := {}, coalesced := {}, pinFlag := false })))) ∧
  (Answers .errRead specErrRead (fun _ p _ => if u8 p 4 ≤ 60 then none else some (badArg 4))
    (fun w p s =>
      let l := ((viewRecs s (if w.hz = .b then some w.plot else none)).filter (fun r => decide (u32 p 0 ≤ r.1))).take (u8 p 4)
      let lost := if w.hz = .b then tget {} s.evt.lostB w.plot else s.evt.lostA
      (ansOk (leBytes 4 (match l.getLast? with | some r => r.1 + 1 | none => u32 p 0) ++ leBytes 4 (ctrWord lost) ++
        leBytes 1 l.length ++ zeros 3 ++ l.flatMap (·.2)), s))) ∧
  (Answers .dumpList specDumpList (fun _ _ _ => none)
    (fun w _ s =>
  let l := dumpsSeen s w
  (ansOk (leBytes 1 l.length ++ zeros 3 ++ l.flatMap (fun x => leBytes 8 x.1.id ++ leBytes 8 x.1.time ++ leBytes 4 (sectMask x.1) ++ leBytes 1 x.2 ++ zeros 3)), s))) ∧
  (StartsJob .dumpRead specDumpRead dumpReadChecks (fun _ _ _ => [(.dump, false)])) ∧
  (Answers .dumpPolicy specDumpPolicy dumpPolicyChecks
    (fun _ p s =>
    (ansOk [], sysWrite (modDumps s (fun d => { d with copy := decide (u8 p 0 = 1) })) 1))) ∧
  (StartsJob .dumpErase specDumpErase dumpEraseChecks (fun _ _ _ => [(.dump, false)])) ∧
  (Answers .telRead specTelRead telReadChecks
    (fun w p s =>
    let base := if w.hz = .b then 0x8000 + (w.plot - 1) * 0x400 else 0
    (ansOk (mirrorRead s (base + u32 p 0) (u16 p 4)), s))) ∧
  (Answers .vidSet specVidSet vidSetChecks
    (fun _ p s =>
    let q := u8 p 0
    let mv := u16 p 2
    (ansOk [], modDie s q (fun d => { d with vidTarget := mv, ramping := if d.clamp then d.ramping else decide (vidCodeOf mv ≠ d.vidCode) })))) ∧
  (Answers .telThresh specTelThresh telThreshChecks
    (fun _ p s =>
    let i := u8 p 0
    let k := u8 p 1
    (ansOk [], modSys s (fun y =>
      match k with
      | 0 => { y with tempThresh := tset 95000 y.tempThresh i (i32 p 4) }
      | 1 => { y with voltLow := tset 0 y.voltLow i (u32 p 4) }
      | _ => { y with voltHigh := tset 0 y.voltHigh i (u32 p 4) }))))

/-- DBG_OPEN, the requests of a debug session, VDBG_OPEN (R375 to R377). A command that its gates, its length and its checks let through has the effect and the answer that its clause gives. -/
def Obligations.DebugCommands : Prop :=
  (Queues .dbgOpen specDbgOpen dbgOpenPre) ∧
  (SessionAnswers .dbgClose specDbgClose (lenIs 0)
    (fun id _ _ _ t => (ansOk [], endSession t id))
    (fun s => s)) ∧
  (∀ (s : State) (m : Fin 24) (i : Fin 8) (p : Bytes) (x : Session),
    mayRun specDbgFreeze s m i p = true → sessionAt s (u16 p 0) = some x → x.seq ≤ u32 p 4 →
    (plotAt s x.plot).state = .running → (plotAt s x.plot).haltBy = none → s.sys.phase = .ready →
    exec (.dbgFreeze m i p) s = .next (
      match Config.gcmOpen x.key (leBytes 2 (u16 p 0) ++ zeros 2 ++ leBytes 4 (u32 p 4) ++ zeros 4)
          (slotReq (running s m.val i.val) m.val i.val 0 16) (subBytes p 8 (p.length - 24))
          (BitVec.ofNat 128 (leN p (p.length - 16) 16)) with
      | none => reply (running s m.val i.val) m.val i.val 0x0902 (ansBad stAuth 4)
      | some b =>
        let t := modSession (running s m.val i.val) (u16 p 0) (fun y => { y with seq := u32 p 4 + 1 })
        if b.length = 4 ∧ u8 b 0 ≤ 1 then
          beginHalt t x.plot (decide (u8 b 0 = 1)) false
            (some { mbx := m.val, slot := i.val, session := u16 p 0, seq := u32 p 4 })
        else
          let a := if b.length = 4 then badArg 0 else ansBad stBadArg 0xFF
          reply t m.val i.val 0x0902 (sealRsp t m.val i.val 0x0902 (u16 p 0) x.key (u32 p 4) a))) ∧
  (SessionAnswers .dbgResume specDbgResume (lenIs 0)
    (fun _ x _ _ t => (ansOk [], resumePlot t x.plot))
    (fun s => s)) ∧
  (SessionAnswers .dbgRead specDbgRead (lenIs 16)
    (fun id x w b t =>
      match dbgAccess t x b with
      | some a => (a, t)
      | none =>
        if u8 b 0 = 0 then
          let r := dbgReads (rangeLines (u64 b 8) (u32 b 4)) t
          (ansOk r.2.1, keepLstat r.2.2 id r.1)
        else
          let r := dbgRegReads id x w.consume (regsOf (u64 b 8) (u32 b 4)) t
          (ansOk r.1, r.2))
    (fun s => s)) ∧
  (SessionAnswers .dbgWrite specDbgWrite (fun b => decide (16 ≤ b.length ∧ b.length = 16 + u32 b 4))
    (fun id x _ b t =>
      match dbgAccess t x b with
      | some a => (a, t)
      | none =>
        if u8 b 0 = 0 then
          let r := dbgWrites (b.drop 16) 0 (rangeLines (u64 b 8) (u32 b 4)) t
          (ansOk [], keepLstat r.2 id r.1)
        else (ansOk [], dbgRegWrites id (b.drop 16) 0 (regsOf (u64 b 8) (u32 b 4)) t))
    (fun s => s)) ∧
  (SessionAnswers .dbgUnitSet specDbgUnitSet (lenIs 32)
    (fun id _ _ b t =>
      if 16 ≤ u8 b 0 then (badArg 0, t)
      else if 2 < u8 b 1 then (badArg 1, t)
      else if u8 b 2 ≠ 0xFF ∧ u8 b 0 ≤ u8 b 2 then (badArg 2, t)
      else if 16 ≤ u8 b 3 then (badArg 3, t)
      else
        let u : Sys2Proof.Machine.Unit :=
          { action := u8 b 1, link := u8 b 2, terms := BitVec.ofNat 4 (u8 b 3),
            opMask := BitVec.ofNat 32 (u32 b 4), addrLo := u64 b 8, addrHi := u64 b 16, ctx := u8 b 24,
            clsMask := BitVec.ofNat 8 (u8 b 25), armed := decide (u8 b 2 = 0xFF ∧ u8 b 1 ≠ 0) }
        (ansOk [], modSession t id (fun y => { y with units := tset {} y.units (u8 b 0) u })))
    (fun s => s)) ∧
  (SessionAnswers .dbgStatus specDbgStatus (lenIs 0)
    (fun _ x _ _ t =>
      (ansOk (leBytes 1 (plotCode (plotAt t x.plot).state) ++
        leBytes 1 (if (plotAt t x.plot).state = .frozen then (plotAt t x.plot).halt else 2) ++ leBytes 2 (fld x.hit 15 0) ++
        (List.range 16).flatMap (fun u => leBytes 4 (ctrWord (tget {} x.units u).hits))), t))
    (fun s => s)) ∧
  (SessionAnswers .dbgCall specDbgCall (fun b => decide (4 ≤ b.length))
    (fun _ x w b t =>
      if u16 b 0 / 256 = 9 then (badArg 0, t)
      else
        let r := match innerSpec (u16 b 0) with
          | some c => runBody c (sessWho t x w) (b.drop 4) t
          | none => (ansBad stBadArg 0xFF, t)
        (ansOk (leBytes 1 r.1.status ++ zeros 1 ++ leBytes 1 r.1.detail ++ zeros 1 ++ leBytes 2 r.1.job ++ zeros 2 ++ r.1.payload), r.2))
    startAskedRestart) ∧
  (∀ (s : State) (m : Fin 24) (i : Fin 8) (p : Bytes),
    mayRun specVdbgOpen s m i p = true → m.val = 0 → vdbgConsent s = true → s.vault.randomOk = true →
    jobRoom s [(.vendor, false)] = true → vdbgNonceNow s = some (BitVec.ofNat 384 (beN p 192 48)) →
    exec (.vdbgOpen m i p) s = .next (
      if vdbgSigOk s p then
        reply (jobStarted (running s m.val i.val) (asker s m i) 0x0909 p [(.vendor, false)]) m.val i.val 0x0909
          { status := stJob, job := s.mgmt.nextJob }
      else reply (running s m.val i.val) m.val i.val 0x0909 (ansBad stAuth 1)))

/-- POR_N_ASSERT, BROWN_OUT: what a device reset keeps and clears (R431 to R433); of every system-area record it uses the copy with the
higher sequence number that decodes, and a brown-out cuts short what is being written to the Peat store (R265). -/
def Obligations.DeviceReset : Prop :=
  (∀ (s : State) (us : Nat), us < 10 → exec (.porNAssert us) s = .next s) ∧
  (∀ (s : State) (us : Nat), 10 ≤ us → ∃ t, exec (.porNAssert us) s = .next t ∧ t.sys.porLow = true ∧
    t.sys.tapDrives = tapActs s.sys.tap ∧ afterReset s t) ∧
  (∀ s : State, ∃ t, exec (.brownOut .vccMarl) s = .next t ∧ t.sys.marlLow = true ∧ t.sys.auxLow = s.sys.auxLow ∧
    afterReset (peatCut s) t) ∧
  (∀ s : State, ∃ t, exec (.brownOut .vccAux) s = .next t ∧ t.sys.auxLow = true ∧ t.sys.marlLow = s.sys.marlLow ∧
    afterReset (peatCut s) t)

/-- POR_N_RELEASE and RAIL_RECOVERY begin start-up, LOAM_RESET_RELEASE, OHMYX_START and MAILBOX_READY take it on (R429, R433). -/
def Obligations.StartUp : Prop :=
  (∀ (s : State) (b : BitVec 2), s.sys.phase = .held → s.sys.porLow = true → s.sys.marlLow = false → s.sys.auxLow = false →
    exec (.porNRelease b) s = .next { s with
      sys := { s.sys with porLow := false, phase := .booting, bootSrc := b, timeNs := 0, tap := .idcode, tapDrives := false,
                          endpointUp := !s.sys.mgmtRefLost }
      vault := { s.vault with keyCheckOk := decide (s.vault.keyCheck = keyCheckOf s.vault.ownerKeyB) }
      cfg := if b = 2#2 then { s.cfg with armed := true, armedBy := none } else s.cfg }) ∧
  (∀ (s : State) (b : BitVec 2), s.sys.phase = .held → s.sys.porLow = true → (s.sys.marlLow = true ∨ s.sys.auxLow = true) →
    exec (.porNRelease b) s = .next { s with sys := { s.sys with porLow := false, tap := .idcode, tapDrives := false } }) ∧
  (∀ (s : State) (b : BitVec 2), (s.sys.marlLow = true ∨ s.sys.auxLow = true) → s.sys.porLow = false →
    exec (.railRecovery b) s = .next { s with
      sys := { s.sys with marlLow := false, auxLow := false, phase := .booting, bootSrc := b, timeNs := 0, tap := .idcode,
                          tapDrives := false, endpointUp := !s.sys.mgmtRefLost }
      vault := { s.vault with keyCheckOk := decide (s.vault.keyCheck = keyCheckOf s.vault.ownerKeyB) }
      cfg := if b = 2#2 then { s.cfg with armed := true, armedBy := none } else s.cfg }) ∧
  (∀ (s : State) (b : BitVec 2), (s.sys.marlLow = true ∨ s.sys.auxLow = true) → s.sys.porLow = true →
    exec (.railRecovery b) s = .next { s with sys := { s.sys with marlLow := false, auxLow := false } }) ∧
  (∀ (s : State) (bad : List (Fin 4)) (gs : List GroupTest), s.sys.phase = .booting → s.sys.tampered = false →
    let t1 := (partDies s.sys.part).foldl (placeDie bad) ((List.range 128).foldl (trainGroup gs) s)
    let t2 := modSys t1 (fun y => { y with eff := effective t1 })
    let t := if dieMismatch t2 then raise t2 133 else t2
    (dieUp t 0 = true → exec (.loamResetRelease bad gs) s = .next (modSys t (fun y => { y with phase := .trained }))) ∧
    (dieUp t 0 = false → exec (.loamResetRelease bad gs) s = .next (modSys t (fun y => { y with phase := .stuck, fatalPin := true })))) ∧
  (∀ (s : State) (bad : List (Fin 4)), s.sys.phase = .trained → s.sys.tampered = false → ∃ t, exec (.ohmyxStart bad) s = .next t ∧
    match bootSlot s with
    | none => t = { s with sys := { s.sys with phase := .romMode, trained := true, stackBad := bad.map (·.val) } }
    | some k => t.sys.phase = .filling ∧ t.mgmt.slot = k ∧ t.mgmt.fw = fwOf s k ∧
        t.silt.bank0 = computedSet (s.tilth.recorded.foldl applySilt s) [] []) ∧
  (∀ s : State, s.sys.phase = .filling → s.sys.tampered = false → s.sys.bootSrc.toNat ≠ 0 →
    exec .mailboxReady s = .next { s with sys := { s.sys with phase := .ready, trained := true } }) ∧
  (∀ s : State, s.sys.phase = .filling → s.sys.tampered = false → s.sys.bootSrc.toNat = 0 → s.peat.primary = 0xFF → s.peat.fallback = 0xFF →
    exec .mailboxReady s = .next { s with sys := { s.sys with phase := .ready, trained := true, cfgErr := true } }) ∧
  (∀ s : State, s.sys.tampered = true →
    (∀ bad gs, exec (.loamResetRelease bad gs) s = .next s) ∧ (∀ bad, exec (.ohmyxStart bad) s = .next s) ∧
    exec .mailboxReady s = .next s) ∧
  (∀ s : State, exec .endpointHotReset s = .next (
    let t := (List.range 17).foldl flrOne s
    { t with mgmt := { t.mgmt with numVfs := 0 } }))

/-- Rails, clocks and voltage steps: LOAM_RAIL_LOW, VBATT_LOW, RAIL_OUT_OF_LIMITS, REFCLK_LOSS and REFCLK_RETURN, SYNTH_LOCK_LOSS,
VID_RAMP_STEP, VOLTAGE_DRIFT (R38, R58, R427, R433, R436). What the reach lanes keep without XLREF is the model's own choice (entry 230). -/
def Obligations.PowerEvents : Prop :=
  (∀ (s : State) (pos : Fin 4), exec (.loamRailLow pos) s = .next (isolateDie s pos.val (160 * pos.val + 133))) ∧
  (∀ s : State, exec .vbattLow s = .next { s with vault := { s.vault with ownerKeyB := 0#256, keyCheck := 0#64, keyCheckOk := false } }) ∧
  (∀ (s : State) (i : Fin 32) (mv : Nat), powered s = true →
    let t := { s with sys := { s.sys with volt := tset 0 s.sys.volt i.val mv } }
    ((mv < tget 0 s.sys.voltLow i.val ∨ (tget 0 s.sys.voltHigh i.val ≠ 0 ∧ tget 0 s.sys.voltHigh i.val < mv)) →
      exec (.railOutOfLimits i mv) s = .next (raise t 678)) ∧
    (tget 0 s.sys.voltLow i.val ≤ mv → (tget 0 s.sys.voltHigh i.val = 0 ∨ mv ≤ tget 0 s.sys.voltHigh i.val) →
      exec (.railOutOfLimits i mv) s = .next t)) ∧
  (∀ (s : State) (c : RefClk), powered s = true → ∃ t, exec (.refclkLoss c) s = .next t ∧
    t = report (match c with
      | .sysclk => { s with sys := { s.sys with holdover := true, sysclkLost := true } }
      | .laneref => { s with sys := { s.sys with lanerefLost := true } }
      | .mgmtRefclk => { s with sys := { s.sys with mgmtRefLost := true, endpointUp := false } }
      | .xlref => reachUnlock { s with sys := { s.sys with xlrefLost := true } })
      { src := 678, sev := sevInfo, cause := 0x2A, sub := refCode c, node := mgmtNode }) ∧
  (∀ s : State, exec (.refclkReturn .sysclk) s = .next { s with sys := { s.sys with sysclkLost := false } }) ∧
  (∀ s : State, exec (.refclkReturn .laneref) s = .next { s with sys := { s.sys with lanerefLost := false } }) ∧
  (∀ s : State, exec (.refclkReturn .mgmtRefclk) s = .next (
    let t := { s with sys := { s.sys with mgmtRefLost := false } }
    if powered s then (List.range 17).foldl flushMsix { t with sys := { t.sys with endpointUp := true } } else t)) ∧
  (∀ s : State, s.sys.xlrefLost = true →
    exec (.refclkReturn .xlref) s = .next (reachRelock { s with sys := { s.sys with xlrefLost := false } })) ∧
  (∀ (s : State) (j : Nat), tblWf {} s.io.lanes = true → j < partReach s.sys.part → (laneAt (reachUnlock s) (128 + j)).lol = true ∧
    (laneAt (reachUnlock s) (128 + j)).locked = false) ∧
  (∀ (s : State) (pos : Fin 4), dieUp s pos.val = true →
    exec (.synthLockLoss pos) s =
      .next (isolateDie (modDie s pos.val (fun d => { d with synthLocked := false })) pos.val (160 * pos.val + 133))) ∧
  (∀ (s : State) (pos : Fin 4) (c : Nat), dieUp s pos.val = true → (dieAt s pos.val).ramping = true → (dieAt s pos.val).clamp = false →
    c = (if (dieAt s pos.val).vidCode < ((dieAt s pos.val).vidTarget - 700) / 5 then (dieAt s pos.val).vidCode + 1
         else if ((dieAt s pos.val).vidTarget - 700) / 5 < (dieAt s pos.val).vidCode then (dieAt s pos.val).vidCode - 1
         else (dieAt s pos.val).vidCode) →
    exec (.vidRampStep pos) s = .next (modDie s pos.val (fun d => { d with
      vidCode := c, ramping := decide (c ≠ ((dieAt s pos.val).vidTarget - 700) / 5) }))) ∧
  (∀ (s : State) (pos : Fin 4), dieUp s pos.val = true → (dieAt s pos.val).ramping = false →
    exec (.voltageDrift pos) s = .next (raise s 678))

/-- Thermal protection and tamper: THERMAL_WARNING, THERMAL_WARNING_END, THERMAL_CLAMP, CLAMP_END, THERMAL_TRIP, TAMPER,
RANDOM_SOURCE_HEALTH_FAILURE (R59, R60, R440 to R442). -/
def Obligations.ThermalAndTamper : Prop :=
  (∀ (s : State) (i : Fin 64) (mc : Int), powered s = true →
    let t := { s with sys := { s.sys with temp := tset 0 s.sys.temp i.val mc } }
    (tget 95000 s.sys.tempThresh i.val ≤ mc → hasElem s.sys.warned i.val = false →
      exec (.thermalWarning i mc) s = .next (raise { t with sys := { t.sys with warned := s.sys.warned ++ [i.val] } } 678)) ∧
    ((mc < tget 95000 s.sys.tempThresh i.val ∨ hasElem s.sys.warned i.val = true) → exec (.thermalWarning i mc) s = .next t)) ∧
  (∀ (s : State) (i : Fin 64) (mc : Int), mc ≤ tget 95000 s.sys.tempThresh i.val - 2000 →
    exec (.thermalWarningEnd i mc) s = .next { s with sys := { s.sys with
      temp := tset 0 s.sys.temp i.val mc, warned := without s.sys.warned i.val } }) ∧
  (∀ (s : State) (i : Fin 64) (mc : Int), tget 95000 s.sys.tempThresh i.val - 2000 < mc →
    exec (.thermalWarningEnd i mc) s = .next { s with sys := { s.sys with temp := tset 0 s.sys.temp i.val mc } }) ∧
  (∀ (s : State) (i : Fin 56), dieUp s (i.val / 14) = true → (dieAt s (i.val / 14)).clamp = false →
    exec (.thermalClamp i) s =
      .next (raise (modDie s (i.val / 14) (fun d => { d with clamp := true, vidCode := 0, ramping := false })) 678)) ∧
  (∀ (s : State) (pos : Fin 4), dieUp s pos.val = true → (dieAt s pos.val).clamp = true →
    exec (.clampEnd pos) s = .next (modDie s pos.val (fun d => { d with
      clamp := false, ramping := decide ((d.vidTarget - 700) / 5 ≠ d.vidCode) }))) ∧
  (∀ (s : State) (src : TripSrc), powered s = true → ∃ t, exec (.thermalTrip src) s = .next t ∧
    t.sys.thermtrip = true ∧ t.sys.fatal = true ∧ t.dumps.wanted = false ∧ t.dumps.kaolin = none ∧ t.vault.slotKeys = [] ∧
    (tripOnMarl src = true → t.sys.phase = .tripHeld ∧ t.sys.endpointUp = false)) ∧
  (∀ s : State, powered s = true → ∃ t, exec .tamper s = .next t ∧
    t.vault.tamperLatch = true ∧ t.vault.ownerKeyB = 0#256 ∧ t.vault.keyCheck = 0#64 ∧ t.vault.slotKeys = [] ∧ t.vault.ideKeys = [] ∧
    t.vault.pkQueue = [] ∧ t.dbg.sessions = [] ∧ t.sys.fatal = true ∧ t.sys.tampered = true ∧ t.dumps.wanted = false) ∧
  (∀ s : State, powered s = false → exec .tamper s = .next { s with vault := { s.vault with
    ownerKeyB := 0#256, keyCheck := 0#64, keyCheckOk := false, tamperLatch := true } }) ∧
  (∀ s : State, powered s = true →
    exec .randomSourceHealthFailure s = .next (raise { s with vault := { s.vault with randomOk := false } } 673))

/-- The board pins and the test access port: TAP_INSTRUCTION, TAP_RESET, BRD_EVT_INPUT, BRD_EVT_RELEASE, the levels of the slow outputs
and the TAP's identification register (R381, R384, R456, R459, R460). The stage at which VID is driven and UART_TX between frames are the
model's own choices (entry 233). -/
def Obligations.PinsAndTap : Prop :=
  (∀ (s : State) (i : TapInstr), exec (.tapInstruction i) s =
    .next { s with sys := { s.sys with tap := i, tapDrives := s.sys.porLow && tapActs i } }) ∧
  (∀ s : State, exec .tapReset s = .next { s with sys := { s.sys with tap := .idcode, tapDrives := false } }) ∧
  (∀ (s : State) (i : Fin 2), powered s = true → hasElem s.sys.brdLow i.val = false →
    exec (.brdEvtInput i) s = .next (raise (modSrc { s with sys := { s.sys with brdLow := s.sys.brdLow ++ [i.val] } }
      (681 + i.val) (fun c => { c with active := true })) (681 + i.val))) ∧
  (∀ (s : State) (i : Fin 2), powered s = true → hasElem s.sys.brdLow i.val = true → exec (.brdEvtInput i) s = .next s) ∧
  (∀ (s : State) (i : Fin 2), exec (.brdEvtRelease i) s = .next (modSrc
    { s with sys := { s.sys with brdLow := without s.sys.brdLow i.val } } (681 + i.val) (fun c => { c with active := false }))) ∧
  (∀ s : State, s.sys.phase = .held → cfgDonePin s = .low ∧ cfgErrPin s = .released ∧ fatalNPin s = .released ∧
    thermtripPin s = .released ∧ uartTxPin s = .highZ ∧ (∀ i, evtPin s i = .released) ∧ (∀ p, vidPins s p = none)) ∧
  (∀ s : State, s.sys.phase ≠ .held → (cfgDonePin s = .high ↔ s.sys.cfgDone = true) ∧ (cfgErrPin s = .low ↔ s.sys.cfgErr = true) ∧
    (fatalNPin s = .low ↔ s.sys.fatalPin = true) ∧ (thermtripPin s = .low ↔ s.sys.thermtrip = true) ∧
    (∀ i, evtPin s i = .low ↔ ∃ x ∈ s.evt.srcs, x.2.pinFlag = true ∧ x.2.pins.getLsbD i = true) ∧
    (∀ p, vidPins s p = some (BitVec.ofNat 5 (dieAt s p).vidCode)) ∧ (s.sys.phase ≠ .tripHeld → uartTxPin s = .high)) ∧
  (∀ s : State, fld (idcodeWord s) 31 28 = 1 ∧ fld (idcodeWord s) 27 12 = partCode s.sys.part ∧ bitOf (idcodeWord s) 0 = true)

/-- What restarts the management complex, and what a restart ends with: MGMT_WATCHDOG_EXPIRY, LOCKSTEP_MISMATCH, SCRATCHPAD_UNCORRECTABLE,
MANAGEMENT_RESTART_DONE, FW_PIECE_TIMEOUT, CORE_HALT_EXPIRY, SILT_DBG_CORE_WRITE, SATURATION (R327 to R329, R332, R350, R422). When the
cores run and the cause codes in INFO of the restart record are the model's own choices (entries 223 and 224 of the log). -/
def Obligations.ManagementRestart : Prop :=
  (∀ s : State, (s.sys.phase = .filling ∨ s.sys.phase = .ready) → s.mgmt.restarting = false → s.mgmt.halted = none →
    exec .mgmtWatchdogExpiry s = .next (restartBegin s 1)) ∧
  (∀ (s : State) (h : Nat), s.mgmt.halted = some h → exec .mgmtWatchdogExpiry s = .next s) ∧
  (∀ s : State, (s.sys.phase = .filling ∨ s.sys.phase = .ready ∨ s.sys.phase = .romMode) → s.mgmt.restarting = false →
    exec .lockstepMismatch s = .next (restartBegin s 0)) ∧
  (∀ (s : State) (word : Fin 524288) (x : SpdVictim), word.val < 262144 →
    (s.sys.phase = .filling ∨ s.sys.phase = .ready ∨ s.sys.phase = .romMode) → s.mgmt.restarting = false →
    exec (.scratchpadUncorrectable word x) s = .next (restartBegin (raise
      (modMgmt s (fun g => { g with spdErr := setFld (setFld g.spdErr 2 2 1) 11 9 (word.val / 65536) })) 675) 2)) ∧
  (∀ (s : State) (why : Nat), s.sys.fatal = false → s.mgmt.lastRestart = none → restartBegin s why = report
    (cancelAll (stopDump (modMgmt (faultExecuting s 5) (fun g => { g with
      restarting := true, restartFw := decide (why = 3), halted := none, lastRestart := if why = 3 then g.lastRestart else some (now s) })) 5) 5)
    { src := 675, sev := sevInfo, cause := 0x22, node := mgmtNode, info := why }) ∧
  (∀ (s : State) (word : Fin 524288) (m : Fin 24) (i : Fin 8), 262144 ≤ word.val → (slotAt s m.val i.val).state = .executing →
    exec (.scratchpadUncorrectable word (.slot m i)) s = .next (
      let t := raise (modMgmt s (fun g => { g with spdErr := setFld (setFld g.spdErr 2 2 1) 11 9 (word.val / 65536) })) 675
      reply t m.val i.val (hdrOp t m.val i.val) (ansBad stFault 7))) ∧
  (∀ s : State, s.mgmt.restarting = true → s.mgmt.restartFw = false →
    exec .managementRestartDone s = .next (s.mgmt.owed.foldl (fun s f => notice s 64 [f])
      (markActed { s with mgmt := { s.mgmt with restarting := false, restartFw := false, owed := [] } } 0x22 mgmtNode))) ∧
  (∀ s : State, s.mgmt.restarting = true → s.mgmt.restartFw = true →
    exec .managementRestartDone s = .next (
      let t := { s with mgmt := { s.mgmt with restarting := false, restartFw := false, owed := [], slot := 1 - s.mgmt.slot } }
      s.mgmt.owed.foldl (fun s f => notice s 64 [f])
        (markActed (capEvent { t with mgmt := { t.mgmt with fw := fwOf t (1 - s.mgmt.slot) } }) 0x22 mgmtNode))) ∧
  (∀ s : State, exec .fwPieceTimeout s = .next { s with mgmt := { s.mgmt with pieces := none } }) ∧
  (∀ s : State, exec .coreHaltExpiry s = .next { s with mgmt := { s.mgmt with halted := none } }) ∧
  (∀ (s : State) (id : Fin 65536) (x : Session) (v : Word), sessionAt s id.val = some x → x.hz = .o →
    exec (.siltDbgCoreWrite id v) s = .next (modMgmt (modSession s id.val (fun x => { x with core := v })) (fun g =>
      if bitOf v 31 = true then { g with halted := some id.val, haltMs := max 1 (min 10000 (fld v 13 0)) } else { g with halted := none }))) ∧
  (∀ (s : State) (id : Fin 65536) (x : Session) (v : Word), sessionAt s id.val = some x → x.hz ≠ .o →
    exec (.siltDbgCoreWrite id v) s = .next s) ∧
  (∀ s : State, overdue s = true → s.mgmt.saturated = false → s.mgmt.busyAt.1 = none →
    exec .saturation s = .next (notice { s with mgmt := { s.mgmt with saturated := true, busyAt := (some (now s), s.mgmt.busyAt.2) } } 70 [0])) ∧
  (∀ s : State, overdue s = false → s.mgmt.saturated = true → s.mgmt.busyAt.2 = none →
    exec .saturation s = .next (notice { s with mgmt := { s.mgmt with saturated := false, busyAt := (s.mgmt.busyAt.1, some (now s)) } } 70 [0])) ∧
  (∀ s : State, overdue s = s.mgmt.saturated → exec .saturation s = .next s)

/-- The scratchpad's registers: SPD_BANK_OWNER_WRITE, SPD_SET_ALIAS_WRITE, SPD_CLEAR_ALIAS_WRITE, SPD_ERR_READ, SPD_CNT_CLR (R330 to
R332). That an alias write reaches a request area in any state of its slot is the model's own choice (entry 222). -/
def Obligations.Scratchpad : Prop :=
  (∀ (s : State) (b : Fin 8) (v : Word), exec (.spdBankOwnerWrite b v) s = .next { s with mgmt := { s.mgmt with
    owners := tset 0 s.mgmt.owners b.val (fld v 1 0), ownerHi := tset 0 s.mgmt.ownerHi b.val (fld v 30 2) } }) ∧
  (∀ (s : State) (a : SpdMaster) (word : Fin 524288) (v : Word), a ≠ .endpoint →
    (bankOwner s (word.val / 65536) = 3 ∨ bankOwner s (word.val / 65536) = masterCode a) → (word.val < 262144 ∨ 458752 ≤ word.val) →
    exec (.spdSetAliasWrite a word v) s = .next { s with mgmt := { s.mgmt with
      spd := tset 0#32 s.mgmt.spd word.val (tget 0#32 s.mgmt.spd word.val ||| v) } } ∧
    exec (.spdClearAliasWrite a word v) s = .next { s with mgmt := { s.mgmt with
      spd := tset 0#32 s.mgmt.spd word.val (tget 0#32 s.mgmt.spd word.val &&& ~~~v) } }) ∧
  (∀ (s : State) (a : SpdMaster) (word : Fin 524288) (v : Word),
    let m := (word.val - 262144) / 8192
    let i := (word.val - 262144) % 8192 / 1024
    let off := 4 * ((word.val - 262144) % 1024)
    a ≠ .endpoint → (bankOwner s (word.val / 65536) = 3 ∨ bankOwner s (word.val / 65536) = masterCode a) →
    262144 ≤ word.val → word.val < 458752 → off < 2048 →
    let old := BitVec.ofNat 32 (leN ((List.range 4).map (fun k => tget 0#8 (slotAt s m i).req (off + k))) 0 4)
    exec (.spdSetAliasWrite a word v) s = .next (fillSlotReq s m i off (leBytes 4 (old ||| v).toNat)) ∧
    exec (.spdClearAliasWrite a word v) s = .next (fillSlotReq s m i off (leBytes 4 (old &&& ~~~v).toNat))) ∧
  (∀ (s : State) (word : Fin 524288) (v : Word), exec (.spdSetAliasWrite .endpoint word v) s = .next s ∧
    exec (.spdClearAliasWrite .endpoint word v) s = .next s) ∧
  (∀ (s : State) (a : SpdMaster) (word : Fin 524288) (v : Word), a ≠ .endpoint →
    bankOwner s (word.val / 65536) ≠ 3 → bankOwner s (word.val / 65536) ≠ masterCode a →
    exec (.spdSetAliasWrite a word v) s = .next { s with mgmt := { s.mgmt with
      spdErr := setFld (setFld (setFld s.mgmt.spdErr 0 0 1) 11 9 (word.val / 65536)) 8 7 (masterCode a) } } ∧
    exec (.spdClearAliasWrite a word v) s = exec (.spdSetAliasWrite a word v) s) ∧
  (∀ s : State, exec .spdErrRead s = .next { s with mgmt := { s.mgmt with spdErr := 0#12 } }) ∧
  (∀ (s : State) (v : Word), bitOf v 0 = true →
    exec (.spdCntClr v) s = .next { s with mgmt := { s.mgmt with cntConflict := {}, cntCorr := {} } }) ∧
  (∀ (s : State) (v : Word), bitOf v 0 = false → exec (.spdCntClr v) s = .next s)

/-- The mailbox pages: MBX_DOORBELL, MBX_ACK, SLOT_ZEROIZED, SLOT_REQUEST_WRITE, MBX_ERR_READ, MBX_CNT_CLR, and what a read of each
register of the page returns (R338, R339, R343). The doorbell's retry hint is at least 1 and is 1,000 µs while every slot is DONE (R350). Of a
doorbell at READY 0 the model's own choices are that it counts in MBX_CNT_REJ and that the hint during a restart is 25,000 µs (entries 13
and 39 of the log). -/
def Obligations.MailboxPages : Prop :=
  (∀ (s : State) (m : Fin 17) (v : Word), mbxReached s m.val = true → serving s = true → (slotAt s m.val (fld v 2 0)).state = .idle →
    exec (.mbxDoorbell m v) s = .next (modMbx
      (modMbx (modSlot s m.val (fld v 2 0) (fun x => { x with
          state := .queued, seq := (mbxAt s m.val).nextSeq, queuedAt := now s, discard := false })) m.val
        (fun b => { b with nextSeq := (mbxAt s m.val).nextSeq + 1 })) m.val
      (fun b => { b with dbResult := dbWord 0 stOk ((mbxAt s m.val).nextSeq + 1) (fld v 2 0) }))) ∧
  (∀ (s : State) (m : Fin 17) (v : Word), mbxReached s m.val = true → serving s = true → (slotAt s m.val (fld v 2 0)).state ≠ .idle →
    (∃ k < 8, (slotAt s m.val k).state = .idle) →
    exec (.mbxDoorbell m v) s = .next (modMbx (modMbx s m.val (fun b => { b with nextSeq := (mbxAt s m.val).nextSeq + 1 })) m.val
      (fun b => { b with dbResult := dbWord 0 stBadArg ((mbxAt s m.val).nextSeq + 1) (fld v 2 0), err := b.err ||| 2#4 }))) ∧
  (∀ (s : State) (m : Fin 17) (v : Word), mbxReached s m.val = true → serving s = true → (∀ k < 8, (slotAt s m.val k).state ≠ .idle) →
    exec (.mbxDoorbell m v) s = .next (modMbx (modMbx (drawFree s) m.val (fun b => { b with nextSeq := (mbxAt s m.val).nextSeq + 1 }))
      m.val (fun b => { b with
        dbResult := dbWord (retryAt s m.val) stBusy ((mbxAt s m.val).nextSeq + 1) (fld v 2 0), err := b.err ||| 4#4,
        cntRej := ctrInc b.cntRej }))) ∧
  (∀ (s : State) (m : Fin 17) (v : Word), mbxReached s m.val = true → serving s = false →
    exec (.mbxDoorbell m v) s = .next (modMbx (modMbx (drawFree s) m.val (fun b => { b with nextSeq := (mbxAt s m.val).nextSeq + 1 }))
      m.val (fun b => { b with
        dbResult := dbWord (if s.mgmt.restarting = true then 25000 else retryAt s m.val) stBusy ((mbxAt s m.val).nextSeq + 1) (fld v 2 0)
        cntRej := ctrInc b.cntRej }))) ∧
  (∀ (s : State) (m : Nat), 1 ≤ retryAt s m ∧ retryAt s m < 65536 ∧
    ((∀ k < 8, (slotAt s m k).state = .done) → retryAt s m = 1000)) ∧
  (∀ (s : State) (m : Fin 17) (v : Word), mbxReached s m.val = true → exec (.mbxAck m v) s = .next ((List.range 8).foldl (fun s i =>
    if bitOf v i = false then s
    else if (slotAt s m.val i).state = .done then modSlot s m.val i (fun x => { x with zeroizing := true })
    else modMbx s m.val (fun b => { b with err := b.err ||| 8#4 })) s)) ∧
  (∀ (s : State) (m : Fin 17) (i : Fin 8), (slotAt s m.val i.val).zeroizing = true →
    exec (.slotZeroized m i) s = .next (modSlot s m.val i.val (fun _ => {}))) ∧
  (∀ (s : State) (m : Fin 17) (i : Fin 8), (slotAt s m.val i.val).zeroizing = false → exec (.slotZeroized m i) s = .next s) ∧
  (∀ (s : State) (m : Fin 17) (i : Fin 8) (off : Fin 2048) (d : Bytes), mbxReached s m.val = true → (slotAt s m.val i.val).state = .idle →
    (bankOwner s (4 + m.val / 8) = 3 ∨ bankOwner s (4 + m.val / 8) = 1) →
    exec (.slotRequestWrite m i off d) s = .next (modSlot s m.val i.val (fun x => { x with
      req := d.zipIdx.foldl (fun t e => if off.val + e.2 < 2048 then tset 0#8 t (off.val + e.2) e.1 else t) x.req }))) ∧
  (∀ (s : State) (m : Fin 17) (i : Fin 8) (off : Fin 2048) (d : Bytes), mbxReached s m.val = true → (slotAt s m.val i.val).state = .idle →
    bankOwner s (4 + m.val / 8) ≠ 3 → bankOwner s (4 + m.val / 8) ≠ 1 →
    exec (.slotRequestWrite m i off d) s = .next { s with mgmt := { s.mgmt with
      spdErr := setFld (setFld (setFld s.mgmt.spdErr 0 0 1) 11 9 (4 + m.val / 8)) 8 7 1 } }) ∧
  (∀ (s : State) (m : Fin 17) (i : Fin 8) (off : Fin 2048) (d : Bytes), mbxReached s m.val = true → (slotAt s m.val i.val).state ≠ .idle →
    exec (.slotRequestWrite m i off d) s = .next (modMbx s m.val (fun b => { b with err := b.err ||| 1#4 }))) ∧
  (∀ (s : State) (m : Fin 17), mbxReached s m.val = true → exec (.mbxErrRead m) s = .next (modMbx s m.val (fun b => { b with
    readData := BitVec.ofNat 32 (mbxAt s m.val).err.toNat, err := 0#4 }))) ∧
  (∀ (s : State) (m : Fin 17) (v : Word), mbxReached s m.val = true → bitOf v 0 = true →
    exec (.mbxCntClr m v) s = .next (modMbx s m.val (fun b => { b with cntRej := {}, cntDone := {} }))) ∧
  (∀ (s : State) (m : Fin 17) (v : Word), mbxReached s m.val = true → bitOf v 0 = false → exec (.mbxCntClr m v) s = .next s) ∧
  (∀ (s : State) (m : Fin 17) (v : Word) (i : Fin 8) (off : Fin 2048) (d : Bytes), mbxReached s m.val = false →
    exec (.mbxDoorbell m v) s = .next s ∧ exec (.mbxAck m v) s = .next s ∧ exec (.slotRequestWrite m i off d) s = .next s ∧
    exec (.mbxErrRead m) s = .next s ∧ exec (.mbxCntClr m v) s = .next s) ∧
  (∀ (s : State) (m : Fin 17),
    mbxReg s m.val 0x000 = (if m.val = 0 then 0 else match plotOfVf s m.val with
      | some p => p * 2 ^ 19 + 1 * 2 ^ 17
      | none => 0x1F * 2 ^ 19 + 2 * 2 ^ 17) + m.val ∧
    mbxReg s m.val 0x004 = b2n (serving s) * 2 ^ 31 + b2n s.mgmt.restarting * 2 ^ 30 + b2n (decide (s.sys.phase = .romMode)) * 2 ^ 29 +
      ((List.range 8).map (fun i => (match (slotAt s m.val i).state with
        | .idle => 0
        | .queued => 1
        | .executing => 2
        | .done => 3) * 4 ^ i)).sum ∧
    mbxReg s m.val 0x008 = 0 ∧ mbxReg s m.val 0x00C = (mbxAt s m.val).dbResult.toNat ∧ mbxReg s m.val 0x010 = 0 ∧
    mbxReg s m.val 0x014 = 2 * (mbxAt s m.val).irqHi.toNat + b2n (mbxAt s m.val).doneEn ∧ mbxReg s m.val 0x018 = (mbxAt s m.val).err.toNat ∧
    mbxReg s m.val 0x01C = (mbxAt s m.val).err.toNat ∧ mbxReg s m.val 0x020 = ctrWord (mbxAt s m.val).cntRej ∧
    mbxReg s m.val 0x024 = ctrWord (mbxAt s m.val).cntDone ∧ mbxReg s m.val 0x02C = 0)

/-- Mailboxes 17 and 18 and the control messages of the management bus: MCTP_REQUEST, UART_FRAME, MONITOR_FRAME,
TRANSPORT_RESPONSE_SENT, SET_ENDPOINT_ID, GET_ENDPOINT_ID, GET_MCTP_VERSION_SUPPORT, GET_MESSAGE_TYPE_SUPPORT (R334, R335, R406). -/
def Obligations.Transports : Prop :=
  (∀ (s : State) (h : BitVec 128) (p : Bytes), exec (.mctpRequest true h p) s = .next (transportRequest s 17 h p)) ∧
  (∀ (s : State) (h : BitVec 128) (p : Bytes), exec (.mctpRequest false h p) s =
    .next { s with mgmt := { s.mgmt with pecErr := ctrInc s.mgmt.pecErr } }) ∧
  (∀ (s : State) (f : Bytes), frameOk (unescape f) = false →
    exec (.uartFrame f) s = .next { s with mgmt := { s.mgmt with crcErr := ctrInc s.mgmt.crcErr } }) ∧
  (∀ (s : State) (f : Bytes), frameOk (unescape f) = true → 16 ≤ (subBytes (unescape f) 1 ((unescape f).length - 5)).length →
    let b := subBytes (unescape f) 1 ((unescape f).length - 5)
    (u8 (unescape f) 0 = 1 → exec (.uartFrame f) s = .next (transportRequest s 18 (BitVec.ofNat 128 (leN b 0 16)) (b.drop 16))) ∧
    (u8 (unescape f) 0 = 2 → exec (.uartFrame f) s = .next (monitorFrame s (BitVec.ofNat 128 (leN b 0 16)) (b.drop 16)))) ∧
  (∀ (s : State) (h : BitVec 128) (p : Bytes), s.sys.phase = .ready → s.mgmt.restarting = false → s.mgmt.halted = none →
    (mbxAt s 18).monitor.length < 4 →
    exec (.monitorFrame h p) s = .next (modMbx s 18 (fun b => { b with monitor := b.monitor ++ [(h, p)] }))) ∧
  (∀ (s : State) (h : BitVec 128) (p : Bytes), s.sys.phase = .ready → s.mgmt.restarting = true →
    exec (.monitorFrame h p) s = .next (modMbx (drawFree s) 18 (fun b => { b with
      sent := b.sent ++ [(rspHeader (fld h 15 0) (fld h 63 32) (ansBad stBusy 4) (retryHint s), [])] }))) ∧
  (∀ (s : State) (u : Bool) (i : Fin 8), (slotAt s (if u then 18 else 17) i.val).state = .done →
    exec (.transportResponseSent u i) s = .next (modSlot (modMbx s (if u then 18 else 17) (fun b => { b with sent := b.sent ++
      [((slotAt s (if u then 18 else 17) i.val).rspHdr, (slotAt s (if u then 18 else 17) i.val).rsp)] })) (if u then 18 else 17) i.val (fun _ => {}))) ∧
  (∀ (s : State) (e : Byte), smbusUp s = true → exec (.setEndpointId e) s =
    .next { s with mgmt := { s.mgmt with eid := e, ctrlSent := s.mgmt.ctrlSent ++ [[1#8, 0#8, 0#8, e, 0#8]] } }) ∧
  (∀ s : State, smbusUp s = true → exec .getEndpointId s =
    .next { s with mgmt := { s.mgmt with ctrlSent := s.mgmt.ctrlSent ++ [[2#8, 0#8, s.mgmt.eid, 0#8, 0#8]] } }) ∧
  (∀ (s : State) (t : Byte), smbusUp s = true → (t = 0xFF#8 ∨ t = 0#8 ∨ t = 0x7F#8) → exec (.getMctpVersionSupport t) s =
    .next { s with mgmt := { s.mgmt with ctrlSent := s.mgmt.ctrlSent ++ [[4#8, 0#8, 1#8, 0xF1#8, 0xF3#8, 0xF0#8, 0#8]] } }) ∧
  (∀ (s : State) (t : Byte), smbusUp s = true → t ≠ 0xFF#8 → t ≠ 0#8 → t ≠ 0x7F#8 → exec (.getMctpVersionSupport t) s =
    .next { s with mgmt := { s.mgmt with ctrlSent := s.mgmt.ctrlSent ++ [[4#8, 0x80#8]] } }) ∧
  (∀ s : State, smbusUp s = true → exec .getMessageTypeSupport s =
    .next { s with mgmt := { s.mgmt with ctrlSent := s.mgmt.ctrlSent ++ [[5#8, 0#8, 1#8, 0x7F#8]] } })

/-- The functions of the endpoint: FLR, VF_DISABLE, NUMVFS_WRITE, MSIX_VECTOR_UNMASK; register writes with no row of their own,
REGISTER_WRITE; when a message on a vector is sent and when it stays pending, and what the endpoint presents (R6, R89 to R91, R344, R386). -/
def Obligations.Functions : Prop :=
  (∀ (s : State) (f : Fin 17), f.val ≠ 0 → fnEnabled s f.val = true → exec (.flr f) s = .next (modFn (modMbx s f.val (fun b => { b with
    slots := (List.range 8).foldl (fun t i => tset {} t i
      (if (tget {} b.slots i).state = .executing then { (tget {} b.slots i) with discard := true } else {})) b.slots })) f.val (fun _ => {}))) ∧
  (∀ s : State, exec (.flr 0) s = .next (modMgmt ((List.range 17).foldl flrOne s) (fun g => { g with numVfs := 0 }))) ∧
  (∀ (s : State) (n : Fin 17), exec (.numvfsWrite n) s = .next ((List.range 17).foldl flushMsix (modMgmt
    (((List.range 17).filter (fun f => decide (n.val < f ∧ f ≤ s.mgmt.numVfs))).foldl flrOne s) (fun g => { g with numVfs := n.val })))) ∧
  (∀ (s : State) (n : Fin 17), n.val < s.mgmt.numVfs → exec (.vfDisable n) s = exec (.numvfsWrite n) s) ∧
  (∀ (s : State) (n : Fin 17), s.mgmt.numVfs ≤ n.val → exec (.vfDisable n) s = .next s) ∧
  (∀ (s : State) (f : Fin 17) (v : Fin 64), fnEnabled s f.val = true → (f.val = 0 ∨ v.val < 8) → exec (.msixVectorUnmask f v) s =
    .next (flushMsix (modFn s f.val (fun n => { n with unmasked := withElem n.unmasked v.val })) f.val)) ∧
  (∀ (s : State) (f : Fin 17) (v : Fin 64), (fnEnabled s f.val = false ∨ (f.val ≠ 0 ∧ 8 ≤ v.val)) → exec (.msixVectorUnmask f v) s = .next s) ∧
  (∀ (s : State) (f v : Nat), fnEnabled s f = true → s.sys.endpointUp = true → hasElem (fnAt s f).unmasked v = true →
    msix s f v = modFn s f (fun n => { n with sent := tmod 0 n.sent v (· + 1) }) ∧
    ((fnAt s f).pending = [v] → flushMsix s f = modFn s f (fun n => { n with pending := without n.pending v, sent := tmod 0 n.sent v (· + 1) }))) ∧
  (∀ (s : State) (f v : Nat), (fnEnabled s f = false ∨ s.sys.endpointUp = false ∨ hasElem (fnAt s f).unmasked v = false) →
    msix s f v = modFn s f (fun n => { n with pending := withElem n.pending v }) ∧ ((fnAt s f).pending = [v] → flushMsix s f = s)) ∧
  (∀ s : State, (epIdentity s).device = partCode s.sys.part ∧ (epIdentity s).vfDevice = partCode s.sys.part ∧
    (epIdentity s).totalVfs = 16 ∧ (epIdentity s).vfOffset = 1 ∧ (epIdentity s).vfStride = 1 ∧ (epIdentity s).pfBar = 2 ^ 20 ∧
    (epIdentity s).vfBar = 2 ^ 16 ∧ (epIdentity s).maxPayload = 256) ∧
  (∀ (s : State) (f : Fin 17) (v : Word), mbxReached s f.val = true →
    exec (.registerWrite (.bar f 0x1008) v) s = exec (.mbxDoorbell f v) s ∧
    exec (.registerWrite (.bar f 0x1010) v) s = exec (.mbxAck f v) s ∧
    exec (.registerWrite (.bar f 0x1014) v) s = .next (modMbx s f.val (fun b => { b with
      doneEn := bitOf v 0, irqHi := BitVec.ofNat 31 (fld v 31 1) }))) ∧
  (∀ (s : State) (a : Nat) (v : Word), exec (.registerWrite (.silt a) v) s = .next (siltWrite s a v)) ∧
  (∀ (s : State) (off : Nat) (v : Word), exec (.registerWrite (.spd off) v) s = .next (spdRegWrite s off v)) ∧
  (∀ (s : State) (id : Fin 65536) (v : Word), exec (.registerWrite (.dbg id 0x004) v) s =
    .next (modSession s id.val (fun x => { x with ctrl := v })))

/-- TURN (R23, R265, R345): a turn runs one thing, and counts its time. A command runs before a job's step while jobs have not waited for
1 ms of commands; a background task below its share runs before both. -/
def Obligations.Turns : Prop :=
  (∀ (s : State) (us : Nat), serving s = false → exec (.turn us) s = .next s) ∧
  (∀ s : State, s.sys.phase = .ready → turnFirst s = runTriggers (startOwed (readRecords (if s.peat.sysDue = [] then s else sysSecond s)))) ∧
  (∀ (s : State) (k : Nat), s.peat.sysDue = [k] → copySeq (tget none s.peat.sysB k) < copySeq (tget none s.peat.sysA k) →
    (sysSecond s).peat.sysDue = [] ∧ tget none (sysSecond s).peat.sysA k = tget none s.peat.sysA k ∧
    tget none (sysSecond s).peat.sysB k = tget none s.peat.sysA k) ∧
  (∀ (s : State) (us : Nat), serving s = true → (turnFirst s).sys.phase = .ready →
    exec (.turn us) s = .next (countTurn (match belowFloor (turnFirst s) with
      | some i => taskTurn (turnFirst s) i us
      | none => chooseTurn (turnFirst s) us) us)) ∧
  (∀ (s : State) (us id : Nat), serving s = true → (turnFirst s).sys.phase = .ready → belowFloor (turnFirst s) = none →
    1000 ≤ (turnFirst s).mgmt.cmdUs → nextOpenJob (turnFirst s) = some id →
    exec (.turn us) s = .next (countTurn (jobTurn (turnFirst s) id) us)) ∧
  (∀ (s : State) (us m : Nat), serving s = true → (turnFirst s).sys.phase = .ready → belowFloor (turnFirst s) = none →
    ((turnFirst s).mgmt.cmdUs < 1000 ∨ nextOpenJob (turnFirst s) = none) → nextMbx (turnFirst s) = some m →
    exec (.turn us) s = .next (countTurn (serveMbx (turnFirst s) m us) us)) ∧
  (∀ (s : State) (us id : Nat), serving s = true → (turnFirst s).sys.phase = .ready → belowFloor (turnFirst s) = none →
    (turnFirst s).mgmt.cmdUs < 1000 → nextMbx (turnFirst s) = none → nextOpenJob (turnFirst s) = some id →
    exec (.turn us) s = .next (countTurn (jobTurn (turnFirst s) id) us)) ∧
  (∀ (s : State) (us m : Nat), serving s = true → (turnFirst s).sys.phase = .romMode →
    ((turnFirst s).mgmt.cmdUs < 1000 ∨ nextOpenJob (turnFirst s) = none) → nextMbx (turnFirst s) = some m →
    mbxWaits (turnFirst s) m = true ∧ exec (.turn us) s = .next (countTurn (serveMbx (turnFirst s) m us) us)) ∧
  (∀ (s : State) (i : Nat), floorOf s i ≤ floors.getD i 0 ∧ (belowFloor s ≠ some i ∨ 0 < Config.taskNeed i s.mgmt.windows))

/-- A command waits for the public-key engine no longer: PK_OP_COMPLETE (R345); a drain ends or misses its bound: DRAIN_COMPLETE,
DRAIN_TIMEOUT (R16, R18, R224, R398). -/
def Obligations.Completions : Prop :=
  (∀ (s : State) (o : PkOp) (l : List PkOp), serving s = true → s.vault.pkQueue = o :: l → s.sys.fatal = true →
    exec .pkOpComplete s = .next (reply { s with vault := { s.vault with pkQueue := l } } o.mbx o.slot o.op (ansBad stFault 1))) ∧
  (∀ (s : State) (o : PkOp) (l : List PkOp) (k : CmdSpec), serving s = true → s.vault.pkQueue = o :: l → s.sys.fatal = false →
    pkSpec o.op = some k →
    exec .pkOpComplete s = .next (
      let t := { s with vault := { s.vault with pkQueue := l } }
      let r := k.body { (whoOf t o.mbx o.slot) with mbx := o.mbx, slot := o.slot } o.payload t
      reply r.2 o.mbx o.slot o.op r.1)) ∧
  (∀ s : State, s.vault.pkQueue = [] → exec .pkOpComplete s = .next s) ∧
  (∀ (s : State) (id : Fin 65536) (j : Job), jobAt s id.val = some j → drains s id.val = true → allDrained s id.val = true → j.op ≠ 0x0204 →
    exec (.drainComplete id) s = .next (modJob s id.val (fun j => { j with stage := 2 }))) ∧
  (∀ (s : State) (id : Fin 65536) (j : Job), jobAt s id.val = some j → drains s id.val = true → allDrained s id.val = true → j.op = 0x0204 →
    exec (.drainComplete id) s =
      .next (startPlotBody (modJob s id.val (fun j => { j with stage := 2 })) id.val (u8 j.payload 0) j.data)) ∧
  (∀ (s : State) (id : Fin 65536), (drains s id.val = false ∨ allDrained s id.val = false) → exec (.drainComplete id) s = .next s) ∧
  (∀ (s : State) (id : Fin 65536) (j : Job), jobAt s id.val = some j → drains s id.val = true → j.op ≠ 0x0204 →
    exec (.drainTimeout id) s = .next (resumeAll (endJob (modJob (endCopy s j) id.val (fun j => { j with steps := j.steps + 1 })) id.val
      .done stQuiesceTimeout 0 0 []))) ∧
  (∀ (s : State) (j : Job), (j.op = 0x0705 ∨ j.op = 0x0406 ∨ j.op = 0x0407) →
    endCopy s j = modStack s (byteAt j.payload 0) (fun k => { k with copying := none, both := [] })) ∧
  (∀ (s : State) (id : Fin 65536) (j : Job), jobAt s id.val = some j → drains s id.val = true → j.op = 0x0204 →
    exec (.drainTimeout id) s =
      .next (resumeAll (failLoad s id.val { reason := 0x0A, stage := 2, status := stQuiesceTimeout } .done 0)))

/-- Memory operations at their front and answers at their requester: READ, WRITE, WRITE_PART, LOCK_READ, UNLOCK_WRITE, UNLOCK,
COMPLETION, DATA, DELIVERED; what a front does with a request, with each line of it and with a lock (R151, R183, R186 to R189, R194,
R231, R232). -/
def Obligations.MemoryPackets : Prop :=
  (∀ (s : State) (p : Packet) (st lx : Nat), arrives s p 0x00 = true → attOf p.dst = .front st lx → frontRoom s p = true →
    heldByQuiesce s p = false → exec (.read p) s = .next (frontRequest (arrive s p) p)) ∧
  (∀ (s : State) (p : Packet) (st lx : Nat), arrives s p 0x01 = true → attOf p.dst = .front st lx → frontRoom s p = true →
    heldByQuiesce s p = false → exec (.write p) s = .next (frontRequest (arrive s p) p)) ∧
  (∀ (s : State) (p : Packet) (st lx : Nat), arrives s p 0x02 = true → attOf p.dst = .front st lx → frontRoom s p = true →
    heldByQuiesce s p = false → exec (.writePart p) s = .next (frontRequest (arrive s p) p)) ∧
  (∀ (s : State) (p : Packet) (st lx : Nat), arrives s p 0x03 = true → attOf p.dst = .front st lx → frontRoom s p = true →
    heldByQuiesce s p = false → exec (.lockRead p) s = .next (frontRequest (arrive s p) p)) ∧
  (∀ (s : State) (p : Packet) (st lx : Nat), arrives s p 0x04 = true → attOf p.dst = .front st lx → frontRoom s p = true →
    heldByQuiesce s p = false → exec (.unlockWrite p) s = .next (frontRequest (arrive s p) p)) ∧
  (∀ (s : State) (p : Packet) (st lx : Nat), arrives s p 0x05 = true → attOf p.dst = .front st lx → frontRoom s p = true →
    heldByQuiesce s p = false → exec (.unlock p) s = .next (frontRequest (arrive s p) p)) ∧
  (∀ (s : State) (p : Packet) (row : Packet → Instr) (op : Nat),
    (row, op) ∈ [(Instr.read, 0x00), (Instr.write, 0x01), (Instr.writePart, 0x02), (Instr.lockRead, 0x03), (Instr.unlockWrite, 0x04),
      (Instr.unlock, 0x05)] →
    (∀ st lx, arrives s p op = true → attOf p.dst = .front st lx → (frontRoom s p = false ∨ heldByQuiesce s p = true) →
      exec (row p) s = .next s) ∧
    (∀ i, arrives s p op = true → attOf p.dst = .slice i → planeOf p.cls = 0 →
      exec (row p) s = .next (inject (arrive s p) (completionOf p 0x12)))) ∧
  (∀ (s : State) (p : Packet), p.op ≤ 2 → servedForm s p = true → waitsOnLock s p = false → frontRoom s p = true →
    frontRequest s p = (packetLines s p).foldl (acceptLine p) s) ∧
  (∀ (s : State) (p : Packet), p.op ≤ 3 → servedForm s p = false → frontRequest s p = inject s (completionOf p 0x12)) ∧
  (∀ (s : State) (p : Packet), p.op ≤ 3 → servedForm s p = true → (waitsOnLock s p = true ∨ frontRoom s p = false) →
    frontRequest s p = modSilt s (fun n => { n with lockWait := n.lockWait ++ [p] })) ∧
  (∀ (s : State) (p : Packet), p.op = 0x03 → servedForm s p = true → waitsOnLock s p = false → frontRoom s p = true →
    lockOf s p.addr = none → (accessStatus s p.src p.plot p.key p.addr).1 = 0 →
    frontRequest s p = acceptLine p (modSilt s (fun n => { n with locks := n.locks ++
      [{ line := p.addr / 64, node := p.src, until_ := now s + 1000 * (plotAt s p.plot).lease }] })) p.addr) ∧
  (∀ (s : State) (p : Packet), p.op = 0x04 → servedForm s p = true → waitsOnLock s p = false → frontRoom s p = true →
    lockOf s p.addr = none → (accessStatus s p.src p.plot p.key p.addr).1 = 0 → frontRequest s p = serveWaiting (inject s (completionOf p 0x0B))) ∧
  (∀ (s : State) (p : Packet), p.op = 0x05 → servedForm s p = true → waitsOnLock s p = false → frontRoom s p = true →
    admitted s p.src p.plot p.key p.addr = true → frontRequest s p = serveWaiting (inject (dropLock s p.addr) (completionOf p 0))) ∧
  (∀ (s : State) (p : Packet) (l : LineLock), packetLines s p = [p.addr] → lockOf s p.addr = some l →
    (l.node = p.src → waitsOnLock s p = lockTableFull s p) ∧ (l.node ≠ p.src → waitsOnLock s p = true)) ∧
  (∀ (s : State) (p : Packet) (a : Nat), (accessStatus s p.src p.plot p.key a).1 ≠ 0 →
    acceptLine p s a = lineDone (accessStatus s p.src p.plot p.key a).2 p a (accessStatus s p.src p.plot p.key a).1 0#512) ∧
  (∀ (s : State) (p : Packet) (a : Nat) (q : KReq), (accessStatus s p.src p.plot p.key a).1 = 0 →
    q = { pkt := p, line := addrLine a, wr := !isReadOp p.op, at_ := now s, issued := false, hazed := false, early := earlyWrite s p a,
          rmw := lineRmw s p a, ctrl := (frontFor s a).ctrl, sched := (frontFor s a).sched } →
    let t := modChan s (addrStack a) (chanOf s a) (fun c => { c with queue := c.queue ++ [q] })
    (q.early = true → acceptLine p s a = lineDone t p a 0 0#512) ∧ (q.early = false → acceptLine p s a = t)) ∧
  (∀ (s : State) (p : Packet) (a : Nat), (isReadOp p.op = true ∨ sourceOrder s a = true) → earlyWrite s p a = false) ∧
  (∀ (s : State) (p : Packet) (a : Nat), isReadOp p.op = false → sourceOrder s a = false → fullWrite s p a = true →
    earlyWrite s p a = true) ∧
  (∀ (s : State) (p : Packet) (k : Nat), attOf p.dst = .nau k → arrives s p 0x10 = true →
    exec (.completion p) s = .next (nauTakes (arrive s p) p.dst p)) ∧
  (∀ (s : State) (p : Packet) (k : Nat), attOf p.dst = .nau k → arrives s p 0x11 = true →
    exec (.data p) s = .next (nauTakes (arrive s p) p.dst p)) ∧
  (∀ (s : State) (p : Packet) (i : Nat), attOf p.dst = .slice i → arrives s p 0x10 = true → bitOf p.hdr 64 = true →
    exec (.completion p) s = .next (dropNotice (arrive s p) i p.tag (fld p.hdr 3 0) p.status)) ∧
  (∀ (s : State) (p : Packet) (i : Nat), attOf p.dst = .slice i → arrives s p 0x10 = true → bitOf p.hdr 64 = false →
    exec (.completion p) s = .next (sliceTakes (arrive s p) i p)) ∧
  (∀ (s : State) (p : Packet) (i : Nat), attOf p.dst = .slice i → arrives s p 0x11 = true →
    exec (.data p) s = .next (sliceTakes (arrive s p) i p)) ∧
  (∀ (s : State) (p : Packet) (i : Nat), attOf p.dst = .slice i → arrives s p 0x12 = true →
    exec (.delivered p) s = .next (sliceTakes (noteDelivered (arrive s p) p.dst p.tag) i p)) ∧
  (∀ (s : State) (p : Packet) (n : Nat), attOf p.dst = .port n → arrives s p 0x10 = true →
    (∀ l, (l = 2 * n ∨ l = 2 * n + 1) → (linkAt (arrive s p) l).cfgReqs.any (fun q => decide (q.1 = p.tag)) = false) →
    exec (.completion p) s = .next (lateAnswer (arrive s p)))

/-- What each other operation does where it is served: REG_READ, REG_WRITE, MSG, GRAIN_CREATE, GRAIN_PUSH, DIRECTIVE, DIR_REPORT,
STREAM, EVENT, FRAME; and BAD_OP where it is not (R163, R164, R168, R180, R183, R462). A frame
writer's answer to a FRAME, and that the configuration manager passes one on and acknowledges it, are the model's choices (log entry 153). -/
def Obligations.ServicePackets : Prop :=
  (∀ (s : State) (p : Packet), arrives s p 0x06 = true → attOf p.dst = .mgmt →
    exec (.regRead p) s = .next (inject
      (if regOff p.addr = 0x020 then modMgmt (arrive s p) (fun g => { g with spdErr := 0#12 }) else arrive s p)
      (dataOf p 0 false (BitVec.ofNat 384 (spdReg (arrive s p) (regOff p.addr))) []))) ∧
  (∀ (s : State) (p : Packet) (i : Nat), arrives s p 0x06 = true → attOf p.dst = .slice i → planeOf p.cls = 0 → nauNumber p.dst = none →
    exec (.regRead p) s = .next (inject (arrive s p) (completionOf p 0x12))) ∧
  (∀ (s : State) (p : Packet), arrives s p 0x07 = true → attOf p.dst = .mgmt → nauNumber p.dst = none →
    exec (.regWrite p) s = .next (inject (spdRegWrite (arrive s p) (regOff p.addr) (BitVec.ofNat 32 p.hdr.toNat)) (completionOf p 0))) ∧
  (∀ (s : State) (p : Packet) (i : Nat), arrives s p 0x08 = true → attOf p.dst = .slice i →
    exec (.msg p) s = .next (sliceMsg (arrive s p) i p)) ∧
  (∀ (s : State) (p : Packet) (q : Nat), arrives s p 0x09 = true → attOf p.dst = .quarter q →
    (flowHome (gFlow (BitVec.ofNat 256 p.hdr.toNat)) = q →
      exec (.grainCreate p) s = .next (
        let r := acceptGrain (arrive s p) (gFlow (BitVec.ofNat 256 p.hdr.toNat)) (BitVec.ofNat 256 p.hdr.toNat) p.data.head?
        inject r.2 (completionOf p r.1))) ∧
    (flowHome (gFlow (BitVec.ofNat 256 p.hdr.toNat)) ≠ q →
      exec (.grainCreate p) s = .next (inject (arrive s p) (completionOf p 0x0C)))) ∧
  (∀ (s : State) (p : Packet) (i e : Nat) (x : Entry), arrives s p 0x0A = true →
    entryOfHandle (arrive s p) p.dst (gHandle (BitVec.ofNat 256 p.hdr.toNat)) = some (i, e, x) →
    exec (.grainPush p) s = .next (setEntry (arrive s p) (gHandle (BitVec.ofNat 256 p.hdr.toNat) / 4096) i e (some { x with arrived := true }))) ∧
  (∀ (s : State) (p : Packet) (i : Nat), arrives s p 0x0B = true → attOf p.dst = .slice i →
    exec (.directive p) s = .next (sliceDirective (arrive s p) i p)) ∧
  (∀ (s : State) (p : Packet) (k : Nat), arrives s p 0x0C = true → attOf p.dst = .nau k →
    exec (.dirReport p) s = .next (nauTakes (arrive s p) p.dst p)) ∧
  (∀ (s : State) (p : Packet) (k : Nat), arrives s p 0x0D = true → attOf p.dst = .nau k →
    exec (.stream p) s = .next (modNau (arrive s p) p.dst (fun u => { u with streams := u.streams ++ [p] }))) ∧
  (∀ (s : State) (p : Packet), arrives s p 0x0E = true → attOf p.dst = .evtCtl →
    srcUp (arrive s p) (fld p.hdr 15 0) = true → srcReserved (fld p.hdr 15 0) = false →
    exec (.event p) s = .next (modSrc (raise (arrive s p) (fld p.hdr 15 0)) (fld p.hdr 15 0)
      (fun c => { c with count := ctrAdd c.count (fld p.hdr 31 16) }))) ∧
  (∀ (s : State) (p : Packet), arrives s p 0x0E = true → attOf p.dst ≠ .evtCtl → exec (.event p) s = .next (arrive s p)) ∧
  (∀ (s : State) (p : Packet), arrives s p 0x0F = true → attOf p.dst = .cfgMgr →
    exec (.frame p) s = .next (
      if frameExists (fld p.hdr 31 0) = true ∧ p.data.length = 4 then inject
        (inject (modCfg (arrive s p) (fun c => { c with passed := c.passed ++ [(p.tag, now (arrive s p))] }))
          { p with src := p.dst, dst := nodeLocal (bits (fld p.hdr 31 0) 25 24) 0 0 0, epoch := false, track := false }) (completionOf p 0)
      else inject (arrive s p) (completionOf p 0x12))) ∧
  (∀ (s : State) (p : Packet) (d : Nat), arrives s p 0x0F = true → attOf p.dst = .frameWriter d →
    exec (.frame p) s = .next (inject (arrive s p) (completionOf p (
      if frameExists (fld p.hdr 31 0) = true ∧ bits (fld p.hdr 31 0) 25 24 = d ∧
        (∃ ld ∈ (arrive s p).cfg.loads, hasElem ld.wrote (fld p.hdr 31 0) = true) ∧
        subBytes ((tget {} (arrive s p).cfg.frames (fld p.hdr 31 0)).bytes ++ zeros 512) (256 * b2n (bitOf p.hdr 32)) 256 =
          p.data.flatMap lineBytes then 0 else 0x12))))

/-- Tokens and forwarding: RESERVATION_TOKEN_REQUEST, TOKEN_RETURN, SILT_PACKET_FORWARD; when a packet leaves its source and when it waits
there (R178, R182, R185, R186, R191, R193, R196, R201, R202). -/
def Obligations.SiltForwarding : Prop :=
  (∀ (s : State) (src dst : Fin 1024) (c : Cls) (n : Nat), planeOf c = 0 →
    let t := offerHeld (grantAsked (askTokens s src.val dst.val c n) dst.val c) src.val
    (nauNumber src.val = none → exec (.reservationTokenRequest src dst c n) s = .next t) ∧
    (∀ a, attOf src.val = .nau a → exec (.reservationTokenRequest src dst c n) s = .next (nauServe t src.val))) ∧
  (∀ (s : State) (src dst n : Nat) (c : Cls),
    ((∀ a ∈ s.silt.asks, ¬(a.1 = acKey dst c ∧ a.2.1 = src)) →
      askTokens s src dst c n = { s with silt := { s.silt with asks := s.silt.asks ++ [(acKey dst c, src, min n 8)] } }) ∧
    ((∃ a ∈ s.silt.asks, a.1 = acKey dst c ∧ a.2.1 = src) → askTokens s src dst c n = { s with silt := { s.silt with
      asks := s.silt.asks.map (fun a => if a.1 = acKey dst c ∧ a.2.1 = src then (acKey dst c, src, min n 8) else a) } })) ∧
  (∀ (s : State) (m src dst n : Nat) (c : Cls) (got : List Nat),
    s.silt.asks.find? (fun a => decide (a.1 = acKey dst c)) = some (acKey dst c, src, n + 1) →
    (tokensGranted s src dst c 1 = 0 → serveAsks (m + 1) s dst c got = (s, got)) ∧
    (tokensGranted s src dst c 1 = 1 → serveAsks (m + 1) s dst c got = serveAsks m { s with silt := { s.silt with
      tokens := tmod 0 s.silt.tokens (tokKey src dst c) (· + 1), granted := tmod 0 s.silt.granted (acKey dst c) (· + 1)
      asks := dropFirst s.silt.asks (acKey dst c, src, n + 1) ++ [(acKey dst c, src, n)] } } dst c (withElem got src))) ∧
  (∀ (s : State) (src dst : Nat) (c : Cls) (n : Nat), tokensGranted s src dst c n ≤ 8 ∧ tokensGranted s src dst c n ≤ n ∧
    ((attUp s dst = false ∨ routeDead s src dst c = true) → tokensGranted s src dst c n = min n 8)) ∧
  (∀ (s : State) (src dst n : Nat), attUp s dst = true → routeDead s src dst .req = false → withholds s dst = true →
    tokensGranted s src dst .req n = 0) ∧
  (∀ (s : State) (src dst n : Nat) (p : Packet), attUp s dst = true → routeDead s src dst .snp = false → p ∈ (nauAt s dst).cohSnp →
    p.cls = .snp → tokensGranted s src dst .snp n = 0) ∧
  (∀ (s : State) (src dst : Fin 1024) (c : Cls) (n : Nat), planeOf c ≠ 0 → exec (.reservationTokenRequest src dst c n) s = .next s) ∧
  (∀ (s : State) (src dst : Fin 1024) (c : Cls), exec (.tokenReturn src dst c) s = .next (grantAsked (modSilt s (fun x => { x with
    tokens := tset 0 x.tokens (tokKey src.val dst.val c) 0
    granted := tmod 0 x.granted (acKey dst.val c) (· - tget 0 s.silt.tokens (tokKey src.val dst.val c)) })) dst.val c)) ∧
  (∀ (s : State) (p : Packet), regulatorOk s p = true → (mayLeave s p = false ∨ behindHeld s p = true) →
    inject s p = { s with silt := { s.silt with heldOut := s.silt.heldOut ++ [p] } }) ∧
  (∀ (s : State) (p : Packet), fromNau p = false → planeOf p.cls = 0 → mayLeave s p = true → behindHeld s p = false →
    inject s p = { s with silt := { s.silt with
      tokens := tmod 0 s.silt.tokens (tokKey p.src p.dst p.cls) (· - 1)
      flights := s.silt.flights ++ [{ pkt := { p with epoch := s.silt.epoch }, node := p.src, inCode := 14 }] } }) ∧
  (∀ (s : State) (p : Packet), planeOf p.cls = 0 → tokensHeld s p.src p.dst p.cls = 0 → mayLeave s p = false) ∧
  (∀ (s : State) (p : Packet), (lagging s p.src p.cls = true ∨ sinkStops s p = true ∨ regulatorOk s p = false) → mayLeave s p = false) ∧
  (∀ (s : State) (f : Flight), hasElem s.silt.flights f = true → f.inCode ≠ 15 → atHead s f = true → servedNext s f = true →
    let t := probeSee (takeFlight (noteServed s f) f) f.node f.inCode (routeCode s f.node f.pkt) f.pkt
    (f.inCode = 14 → badPacket f.pkt = true → exec (.siltPacketForward f) s = .next (refusePacket t f.node f.pkt)) ∧
    ((f.inCode ≠ 14 ∨ badPacket f.pkt = false) → routeCode s f.node f.pkt = 14 → attUp s (f.node / 2 * 2 + f.pkt.dst % 2) = true →
      exec (.siltPacketForward f) s = .next (eject t { pkt := f.pkt, node := f.node / 2 * 2 + f.pkt.dst % 2, inCode := 15 })) ∧
    ((f.inCode ≠ 14 ∨ badPacket f.pkt = false) → routeCode s f.node f.pkt = 14 → attUp s (f.node / 2 * 2 + f.pkt.dst % 2) = false →
      exec (.siltPacketForward f) s = .next (deadPacket t f.node f.pkt)) ∧
    (∀ m, (f.inCode ≠ 14 ∨ badPacket f.pkt = false) → routeCode s f.node f.pkt ≠ 14 → linkOk s f.node (routeCode s f.node f.pkt) = true →
      linkTo f.node (routeCode s f.node f.pkt) = some m →
      exec (.siltPacketForward f) s = .next (putFlight (crossed t f.node (routeCode s f.node f.pkt) f.pkt.cls)
        { pkt := f.pkt, node := m, inCode := codeToward m (f.node / 2 * 2) })) ∧
    ((f.inCode ≠ 14 ∨ badPacket f.pkt = false) → routeCode s f.node f.pkt ≠ 14 → linkOk s f.node (routeCode s f.node f.pkt) = false →
      exec (.siltPacketForward f) s = .next (deadPacket t f.node f.pkt))) ∧
  (∀ (s : State) (f : Flight), hasElem s.silt.flights f = true → atHead s f = true → contenders s f = [f] → f.inCode ≤ 14 →
    servedNext s f = true) ∧
  (∀ (s : State) (f : Flight), (hasElem s.silt.flights f = false ∨ f.inCode = 15 ∨ atHead s f = false ∨ servedNext s f = false) →
    exec (.siltPacketForward f) s = .next s)

/-- Faults and route changes of Silt: LINK_CRC_FAIL, DEAD_TARGET_STALL, SHADOW_BANK_ACK, ROUTER_ACK_TIMEOUT, ATTACHMENT_EPOCH_SWITCH,
ROUTE_CHANGE_END, DIE_ISOLATION, LEASE_EXPIRY, LOCK_BROKEN_NOTICE (R185, R195, R197 to R201, R213, R216, R217). -/
def Obligations.SiltChanges : Prop :=
  (∀ (s : State) (node : Fin 1024) (c : Fin 7) (d : Bool), linkOk s (node.val / 2 * 2) c.val = true →
    let n := node.val / 2 * 2
    let w := if now s - (tget (0, 0) (routerAt s n).window c.val).1 < 1000000000
      then ((tget (0, 0) (routerAt s n).window c.val).1, (tget (0, 0) (routerAt s n).window c.val).2 + 1) else (now s, 1)
    let t := modRouter s n (fun r => { r with
      resends := tmod {} r.resends c.val ctrInc, window := tset (0, 0) r.window c.val w
      fails := tmod 0 r.fails (8 * b2n d + c.val) (failRun n c.val) })
    let u := if w.2 = 101 then raise t (routerSrc n) else t
    (tget 0 (routerAt u n).fails (8 * b2n d + c.val) < 4 → exec (.linkCrcFail node c d) s = .next u) ∧
    (4 ≤ tget 0 (routerAt u n).fails (8 * b2n d + c.val) → exec (.linkCrcFail node c d) s =
      .next (raise (modRouter (failLink u n c.val) n (fun r => { r with fails := tset 0 r.fails (8 * b2n d + c.val) 0 })) (routerSrc n)))) ∧
  (∀ n c k : Nat, (dieLink n c = true → failRun n c 1 = 0) ∧ ((dieLink n c = false ∨ k ≠ 1) → failRun n c k = k + 1)) ∧
  (∀ (s : State) (node : Fin 1024), attUp s node.val = true → boundPassed s node.val = true →
    (nauNumber node.val = none ∨ (plotAt s (plotOfNau s node.val)).state ≠ .frozen) →
    let t := dropUnconsumed s node.val
    exec (.deadTargetStall node) s = .next (raise (((ejected s node.val).map (·.pkt) ++
        (unconsumed s).filter (fun p => decide (p.dst = node.val))).foldl (fun s p => deadPacket s (node.val / 2 * 2) p)
      { t with silt := { t.silt with
        stalled := withElem t.silt.stalled node.val, unitReset := without t.silt.unitReset node.val
        flights := t.silt.flights.filter (fun f => !hasElem (ejected s node.val) f) } }) (routerSrc node.val))) ∧
  (∀ (s : State) (node : Fin 1024), boundPassed s node.val = false → exec (.deadTargetStall node) s = .next s) ∧
  (∀ (s : State) (n t : Nat) (c : Cls), tget none s.silt.fullSince (acKey n c) = some t → t + 1000 * s.silt.deadBound ≤ now s →
    boundPassed s n = true) ∧
  (∀ (s : State) (node : Fin 1024) (k : Nat), nauNumber node.val = some k → (plotAt s (plotOfNau s node.val)).state = .frozen →
    exec (.deadTargetStall node) s = .next s) ∧
  (∀ (s : State) (node : Fin 1024) (job : Nat), s.silt.change = some (job, false) → hasElem (presentRouters s) (node.val / 2 * 2) = true →
    let t := modRouter s node.val (fun r => { r with shadowOk := true })
    ((∃ n ∈ presentRouters t, (routerAt t n).shadowOk = false) → exec (.shadowBankAck node) s = .next t) ∧
    ((∀ n ∈ presentRouters t, (routerAt t n).shadowOk = true) →
      exec (.shadowBankAck node) s = .next (modJob (flipEpoch t) job (fun j => { j with sure := true })))) ∧
  (∀ (s : State) (node : Fin 1024) (job : Nat), s.silt.change = some (job, false) → hasElem (presentRouters s) (node.val / 2 * 2) = true →
    (routerAt s node.val).shadowOk = false →
    exec (.routerAckTimeout node) s = .next (afterChange (jobFail (dropChange s) job stQuiesceTimeout 0 0))) ∧
  (∀ (s : State) (node : Fin 1024) (c : Cls), lagging s node.val c = true → inFlight s node.val c = 0 →
    let t := offerHeld { s with silt := { s.silt with lagging := tset false s.silt.lagging (acKey node.val c) false } } node.val
    (nauNumber node.val = none → exec (.attachmentEpochSwitch node c) s = .next t) ∧
    (∀ a, attOf node.val = .nau a → exec (.attachmentEpochSwitch node c) s = .next (nauServe t node.val))) ∧
  (∀ (s : State) (job : Nat), s.silt.change = some (job, true) → oldAnywhere s = true → exec .routeChangeEnd s = .next s) ∧
  (∀ (s : State) (job : Nat), s.silt.change = some (job, true) → oldAnywhere s = false →
    exec .routeChangeEnd s = .next (afterChange (notice (jobOk (s.silt.removing.foldl disableElem
      { s with silt := { s.silt with change := none, removing := [] } }) job 0 []) 68 [0]))) ∧
  (∀ (s : State) (pos : Fin 4), dieUp s pos.val = false → exec (.dieIsolation pos) s = .next s) ∧
  (∀ (s : State) (pos : Fin 4), dieUp s pos.val = true → ∃ t, exec (.dieIsolation pos) s = .next t ∧
    (dieAt t pos.val).state = .isolated ∧ (dieAt t pos.val).heldInReset = true ∧ (pos.val = 0 → t.sys.fatal = true)) ∧
  (∀ (s : State) (pos : Fin 4), dieUp s pos.val = true → pos.val ≠ 0 →
    let t := endDieJobs (isolateHw s pos.val (160 * pos.val + 131)) pos.val
    (recordFree t = true → exec (.dieIsolation pos) s = .next (
      let r := newJob t ownSender 0x0704 [BitVec.ofNat 8 pos.val, 0#8, 0#8, 0#8] [(.die pos.val, false)] 2
      modJob r.2 r.1 (fun j => { j with sure := true }))) ∧
    (recordFree t = false → exec (.dieIsolation pos) s =
      .next { t with mgmt := { t.mgmt with owedIsolations := t.mgmt.owedIsolations ++ [pos.val] } })) ∧
  (∀ (s : State) (line : Nat) (l : LineLock), s.silt.locks.find? (fun l => decide (l.line = line)) = some l → l.until_ ≤ now s →
    exec (.leaseExpiry line) s = .next (modSilt (serveWaiting (dropLock s (64 * line))) (fun n => { n with lockNotices := n.lockNotices ++ [l.node] }))) ∧
  (∀ (s : State) (line : Nat) (l : LineLock), s.silt.locks.find? (fun l => decide (l.line = line)) = some l → now s < l.until_ →
    exec (.leaseExpiry line) s = .next s) ∧
  (∀ (s : State) (node : Fin 1024), hasElem s.silt.lockNotices node.val = false → exec (.lockBrokenNotice node) s = .next s) ∧
  (∀ (s : State) (node : Fin 1024), hasElem s.silt.lockNotices node.val = true →
    exec (.lockBrokenNotice node) s = .next (modNau { s with silt := { s.silt with
      lockNotices := dropFirst s.silt.lockNotices node.val } } node.val (fun u => { u with broken := true })))

/-- Training and the states of a link: LINK_TRAINING, LINK_UP, TRAINING_TIMEOUT, TRAINING_RETRY, LINK_DOWN, VIRAL_RECEIVED,
IDE_INTEGRITY_FAIL, FLIT_REPLAY, LINK_POWER_STATE_CHANGE, CONFIG_SPACE_FORWARD, PCIE_TLP_RECEIVE (R69, R72, R74 to R79, R81, R82, R84,
R86). -/
def Obligations.Links : Prop :=
  (∀ (s : State) (l : Fin 16) (t : TrainStep), portUp s (l.val / 2) = true → (linkAt s l.val).state = .training → (linkAt s l.val).rate = 0 →
    (∀ w, t.rate.val = 1 → widest s l.val t.reversed (stepGood s l.val t) = some w →
      let cxl := t.partnerCxl && decide ((linkAt s l.val).proto % 2 = 1) && decide (3 ≤ min (linkAt s l.val).maxRate t.partnerRate.val)
      let top := topRateOf (linkAt s l.val) t.partnerRate.val t.partnerFlit cxl
      exec (.linkTraining l t.rate t.toTrainLanes t.reversed t.toTrainEq) s = .next (modLink (runLanes s l.val 1 w t t.reversed false) l.val (fun x => { x with
        rate := 1, width := w, trainedWidth := w, reversed := t.reversed, flitMode := t.partnerFlit, cxl := cxl, topRate := top
        settled := decide (top ≤ 1) }))) ∧
    ((t.rate.val ≠ 1 ∨ widest s l.val t.reversed (stepGood s l.val t) = none) → exec (.linkTraining l t.rate t.toTrainLanes t.reversed t.toTrainEq) s = .next s)) ∧
  (∀ (s : State) (l : Fin 16) (t : TrainStep), portUp s (l.val / 2) = true → (linkAt s l.val).state = .training → (linkAt s l.val).rate ≠ 0 →
    (linkAt s l.val).settled = false → t.rate.val = nextRate (linkAt s l.val).rate (linkAt s l.val).topRate →
    ((t.rate.val < 3 ∨ stepEqualized s l.val t = true) → exec (.linkTraining l t.rate t.toTrainLanes t.reversed t.toTrainEq) s = .next (modLink
      (runLanes s l.val t.rate.val (linkAt s l.val).width t (linkAt s l.val).reversed (decide (3 ≤ t.rate.val))) l.val (fun x => { x with
        rate := t.rate.val, settled := decide (x.topRate ≤ t.rate.val) }))) ∧
    (3 ≤ t.rate.val → stepEqualized s l.val t = false →
      exec (.linkTraining l t.rate t.toTrainLanes t.reversed t.toTrainEq) s = .next (raise (modLink s l.val (fun x => { x with
        settled := true, cxl := x.cxl && decide (3 ≤ x.rate) })) (linkSrc l.val)))) ∧
  (∀ (s : State) (l : Fin 16) (t : TrainStep), portUp s (l.val / 2) = true → (linkAt s l.val).state = .recovery →
    (∀ w, widest s l.val (linkAt s l.val).reversed (stepGood s l.val t) = some w →
      let u := if w < (linkAt s l.val).width then raise s (linkSrc l.val) else s
      exec (.linkTraining l t.rate t.toTrainLanes t.reversed t.toTrainEq) s = .next (modLink (runLanes u l.val (linkAt s l.val).rate w t (linkAt s l.val).reversed false) l.val
        (fun x => { x with state := .training, width := w, trainedWidth := w, settled := true, holding := true }))) ∧
    (widest s l.val (linkAt s l.val).reversed (stepGood s l.val t) = none →
      exec (.linkTraining l t.rate t.toTrainLanes t.reversed t.toTrainEq) s = .next (raise ((linkLanes s l.val).foldl sleepLane (aerSet (linkToDown s l.val) l.val 5)) (linkSrc l.val)))) ∧
  (∀ (s : State) (l w : Nat) (rev : Bool) (good : Nat → Bool), widest s l rev good = some w →
    w ≤ (linkLanes s l).length ∧ (usedLanes s l w rev).all good = true) ∧
  (∀ (s : State) (l : Nat) (t : TrainStep) (f : Nat), (linkAt s l).state = .recovery → (laneAt s f).los = true → stepGood s l t f = false) ∧
  nextRate 1 6 = 3 ∧ nextRate 3 6 = 4 ∧ nextRate 4 6 = 5 ∧ nextRate 5 6 = 6 ∧ nextRate 1 2 = 2 ∧
  (∀ (x : Link) (p : Nat) (fl cxl : Bool), topRateOf x p fl cxl ≤ x.maxRate ∧ topRateOf x p fl cxl ≤ p ∧
    (fl = false → topRateOf x p fl cxl ≠ 6) ∧ (cxl = true → x.flits / 2 % 4 = 0 → topRateOf x p fl cxl ≠ 6)) ∧
  (∀ (s : State) (l : Fin 16), (linkAt s l.val).state = .training → (linkAt s l.val).settled = true →
    exec (.linkUp l) s = .next (linkPump (raise (modLink s l.val (fun x => { x with
      state := if x.insecure then .insecure else .l0, holding := false })) (linkSrc l.val)) l.val)) ∧
  (∀ (s : State) (l : Fin 16), (linkAt s l.val).state = .training →
    exec (.trainingTimeout l) s = .next (raise ((linkLanes s l.val).foldl sleepLane (aerSet (linkToDown s l.val) l.val 5)) (linkSrc l.val))) ∧
  (∀ (s : State) (l : Fin 16), (linkAt s l.val).state = .down → exec (.trainingRetry l) s = .next (linkStart s l.val false)) ∧
  (∀ (s : State) (l : Fin 16), ((linkAt s l.val).state = .l0 ∨ (linkAt s l.val).state = .insecure ∨ (linkAt s l.val).state = .recovery) →
    exec (.linkDown l) s = .next (raise ((linkLanes s l.val).foldl sleepLane (aerSet (linkToDown s l.val) l.val 5)) (linkSrc l.val))) ∧
  (∀ (s : State) (l : Fin 16), (linkAt s l.val).state = .l0 → (linkAt s l.val).proto % 2 = 1 →
    exec (.viralReceived l) s = .next (raise (modLink s l.val (fun x => { x with viral := true })) (linkSrc l.val))) ∧
  (∀ (s : State) (l : Fin 16), (linkAt s l.val).state = .l0 → (linkAt s l.val).ide = true →
    exec (.ideIntegrityFail l) s = .next (raise (modLink s l.val (fun x => { x with state := .insecure, insecure := true })) (linkSrc l.val))) ∧
  (∀ (s : State) (l : Fin 16) (bad : Bool) (fec : List Nat), ((linkAt s l.val).state = .l0 ∨ (linkAt s l.val).state = .insecure) →
    let t := ((usedLanes s l.val (linkAt s l.val).width (linkAt s l.val).reversed).zip fec).foldl (fun s fk => countSymbols s fk.1 fk.2) s
    exec (.flitReplay ⟨l, bad, fec⟩) s = .next (if bad = true then countReplay t l.val else t)) ∧
  (∀ (s : State) (f k : Nat),
    let o := tget {} (laneAt s f).cnt 4
    let t := modLane s f (fun y => { y with cnt := tset {} y.cnt 4 (ctrAdd o k) })
    countSymbols s f k = if o.n ≤ Config.fecThreshold f ∧ Config.fecThreshold f < (ctrAdd o k).n then raise t (laneSrc f) else t) ∧
  (∀ (s : State) (l : Nat),
    let o := (linkAt s l).replay
    let t := modLink s l (fun x => { x with replay := ctrInc o, aerCor := setFld x.aerCor 6 6 1 })
    countReplay s l = if o.n ≤ Config.replayThreshold l ∧ Config.replayThreshold l < (ctrInc o).n then raise t (linkSrc l) else t) ∧
  (∀ (s : State) (l : Fin 16) (w : Fin 17) (pw : LinkPower), (linkAt s l.val).state = .l0 →
    let n := if hasElem [4, 8, 16] w.val && decide (w.val ≤ (linkAt s l.val).trainedWidth) then w.val else (linkAt s l.val).width
    let t := (linkLanes s l.val).foldl sleepLane s
    (pw ≠ .active → exec (.linkPowerStateChange l w pw) s = .next (modLink t l.val (fun x => { x with power := pw, width := n }))) ∧
    (pw = .active → exec (.linkPowerStateChange l w pw) s = .next (modLink
      ((usedLanes t l.val n (linkAt s l.val).reversed).foldl (wakeLane · (linkAt s l.val).rate (linkAt s l.val).reversed) t) l.val
      (fun x => { x with power := .active, width := n })))) ∧
  (∀ (s : State) (l : Fin 16) (req : CfgReq) (off : Fin 4096) (wr : Option Word), (linkAt s l.val).state = .l0 →
    ((linkAt s l.val).role = 2 ∨ (linkAt s l.val).role = 3) → (req = .doe ∨ (req = .config ∧ 0x400 ≤ off.val)) →
    (configured s = false → exec (.configSpaceForward l req off wr) s =
      .next (modLink (aerSet s l.val 20) l.val (fun x => { x with cfgDone := x.cfgDone ++ [(off.val, none)] }))) ∧
    (configured s = true → exec (.configSpaceForward l req off wr) s = .next (inject
      (modLink s l.val (fun x => { x with
        cfgReqs := x.cfgReqs ++ [(cfgTag s l.val, off.val)], cfgSent := tset 0 x.cfgSent (cfgTag s l.val) (now s) }))
      { mkPacket (portNode (l.val / 2)) (linkAt s l.val).cfgNode .req (if wr.isSome then 0x07 else 0x06) with
        tag := cfgTag s l.val, addr := off.val, hdr := BitVec.ofNat 384 ((wr.map (·.toNat)).getD 0) }))) ∧
  (∀ (s : State) (l : Fin 16) (off : Fin 4096) (v : Word), (linkAt s l.val).state = .l0 →
    ((linkAt s l.val).role = 2 ∨ (linkAt s l.val).role = 3) → off.val < 0x400 →
    exec (.configSpaceForward l .config off none) s = .next (modLink s l.val (fun x => { x with
      cfgDone := x.cfgDone ++ [(off.val, some (hardWord s l.val off.val).toNat)] })) ∧
    exec (.configSpaceForward l .config off (some v)) s = .next (modLink (modLink s l.val (fun x => hardWrite x off.val v)) l.val
      (fun x => { x with cfgDone := x.cfgDone ++ [(off.val, some 0)] }))) ∧
  (∀ (s : State) (l : Nat), fld (hardWord s l 0) 31 16 = partCode s.sys.part) ∧
  (∀ (s : State) (l : Fin 16) (i : Fin 256) (off : Fin 4096) (wr : Option Word), (linkAt s l.val).state = .l0 →
    ((linkAt s l.val).role = 2 ∨ (linkAt s l.val).role = 3) →
    exec (.configSpaceForward l (.discovery i) off wr) s = .next (modLink s l.val (fun x => { x with
      cfgDone := x.cfgDone ++ [(off.val, some (if i.val = 0 then 1 else (Config.doeProtocol i.val).toNat))] }))) ∧
  (∀ (s : State) (l : Fin 16) (q : Tlp), (linkAt s l.val).state = .insecure → exec (.pcieTlpReceive l q) s = .next s) ∧
  (∀ (s : State) (l : Fin 16) (q : Tlp), (linkAt s l.val).state = .l0 → (512 < 4 * q.words.length ∨ 4096 < q.readLen) →
    exec (.pcieTlpReceive l q) s = .next (modLink s l.val (fun y => { y with aer := setFld y.aer 18 18 1 }))) ∧
  (∀ (s : State) (l : Fin 16) (q : Tlp), (linkAt s l.val).state = .l0 → tlpOk q = true →
    (∀ k d, q.hdm = some (k, d) → ((linkAt s l.val).role = 2 ∨ (linkAt s l.val).role = 3) →
      exec (.pcieTlpReceive l q) s = .next (modLink s l.val (fun y => { y with hdm := tset none y.hdm k.val (some d) }))) ∧
    (q.hdm = none → q.toLink = none →
      exec (.pcieTlpReceive l q) s = .next (modLink s l.val (fun y => { y with tlps := y.tlps ++ [q] })))) ∧
  (∀ (s : State) (l d : Fin 16) (q : Tlp), (linkAt s l.val).state = .l0 → tlpOk q = true → q.hdm = none → q.toLink = some d →
    3 ≤ (linkAt s l.val).role → 3 ≤ (linkAt s d.val).role → (linkAt s l.val).group = (linkAt s d.val).group →
    ((linkAt s d.val).state = .l0 ∨ (linkAt s d.val).state = .insecure ∨ (linkAt s d.val).state = .recovery) →
    exec (.pcieTlpReceive l q) s = .next (modLink s d.val (fun y => { y with tlps := y.tlps ++ [q] })))

/-- The lanes: LOSS_OF_SIGNAL, LOSS_OF_LOCK, LANE_RETURN, DFE_ADAPTATION_UPDATE, PARTNER_PRESET_REQUEST, PARTNER_MARGIN_REQUEST,
REACH_RECEIVE, REACH_UNDERFLOW (R69 to R72, R78, R87, R88). -/
def Obligations.Lanes : Prop :=
  (∀ (s : State) (f : Fin 160) (ns : Nat), laneUp s f.val = true → (laneAt s f.val).rxSleep = false → 2000 ≤ ns →
    exec (.lossOfSignal f ns) s = .next (toRecovery (raise (laneCount
      (modLane s f.val (fun x => { x with los := true, locked := false })) f.val (if f.val < 128 then 1 else 4)) (laneSrc f.val)) f.val)) ∧
  (∀ (s : State) (f : Fin 160) (ns : Nat), laneUp s f.val = true → (laneAt s f.val).rxSleep = false → ns < 2000 → f.val < 128 →
    exec (.lossOfSignal f ns) s = .next (modLane s f.val (fun x => { x with cnt := tmod {} x.cnt 0 ctrInc }))) ∧
  (∀ (s : State) (f : Fin 160) (ns : Nat), laneUp s f.val = true → (laneAt s f.val).rxSleep = false → 1000 ≤ ns → f.val < 128 →
    exec (.lossOfLock f ns false) s = .next (toRecovery (raise (laneCount
      (modLane s f.val (fun x => { x with lol := true, locked := false })) f.val 2) (laneSrc f.val)) f.val)) ∧
  (∀ (s : State) (f : Fin 160) (ns : Nat), laneUp s f.val = true → (laneAt s f.val).rxSleep = false → ns < 1000 →
    exec (.lossOfLock f ns false) s = .next s) ∧
  (∀ (s : State) (f : Fin 160) (ns : Nat), laneUp s f.val = true →
    exec (.lossOfLock f ns true) s = .next (lolReport (lolReport (lolReport (lolReport s (f.val / 4 * 4)) (f.val / 4 * 4 + 1))
      (f.val / 4 * 4 + 2)) (f.val / 4 * 4 + 3))) ∧
  (∀ (s : State) (f : Fin 160), laneUp s f.val = true → (laneAt s f.val).rxSleep = false →
    let t := modLane s f.val (fun x => { x with los := false, lol := false, locked := true })
    (linkOfLane t f.val = none → exec (.laneReturn f) s = .next t) ∧
    (∀ l, linkOfLane t f.val = some l → (linkAt t l).state ≠ .recovery → exec (.laneReturn f) s = .next t) ∧
    (∀ l, linkOfLane t f.val = some l → (linkAt t l).state = .recovery →
      (usedLanes t l (linkAt t l).width (linkAt t l).reversed).all (fun g => !(laneAt t g).los && !(laneAt t g).lol) = true →
      exec (.laneReturn f) s = .next (linkPump (modLink t l (fun k => { k with
        state := if k.insecure then .insecure else .l0, recovery := ctrInc k.recovery })) l))) ∧
  (∀ (s : State) (f : Fin 160) (v : Nat), (laneAt s f.val).adapt = true → (laneAt s f.val).rxSleep = false → (laneAt s f.val).frozen = false →
    exec (.dfeAdaptationUpdate f v) s = .next (modLane s f.val (fun x => { x with adapted := v }))) ∧
  (∀ (s : State) (f : Fin 160) (v : Nat), ((laneAt s f.val).adapt = false ∨ (laneAt s f.val).rxSleep = true ∨ (laneAt s f.val).frozen = true) →
    exec (.dfeAdaptationUpdate f v) s = .next s) ∧
  (∀ (s : State) (f : Fin 128), laneUp s f.val = true → (laneAt s f.val).txSleep = false →
    (∀ n ≤ 10, exec (.partnerPresetRequest f (.preset n)) s = .next (modLane s f.val (fun x => { x with preset := n, refused := false }))) ∧
    (∀ n > 10, exec (.partnerPresetRequest f (.preset n)) s = .next (modLane s f.val (fun x => { x with refused := true }))) ∧
    (∀ a b c, a ≤ 12 → a + b + c = 48 → a + c + 12 ≤ b →
      exec (.partnerPresetRequest f (.coeff a b c)) s = .next (modLane s f.val (fun x => { x with
        preset := 15, fir := (a, b, c), refused := false }))) ∧
    (∀ a b c, (12 < a ∨ a + b + c ≠ 48 ∨ b < a + c + 12) → exec (.partnerPresetRequest f (.coeff a b c)) s =
      .next (modLane s f.val (fun x => { x with refused := true })))) ∧
  (∀ (s : State) (f : Fin 128) (l : Nat) (v : Word), linkOfLane s f.val = some l → (linkAt s l).state = .l0 →
    exec (.partnerMarginRequest f v) s = .next (modLane s f.val (fun x => { x with margins := x.margins ++ [v] }))) ∧
  (∀ (s0 : State) (j : Fin 32) (b : Bytes) (v : Word) (c u : Nat),
    let s := countFec s0 j.val c u
    laneUp s (128 + j.val) = true → (laneAt s (128 + j.val)).rxSleep = false → (reachAt s j.val).mode ≠ 0 →
    s.sys.xlrefLost = false →
    ((reachAt s j.val).buf.length < 256 → exec (.reachReceive j b ⟨v, c, u⟩) s0 = .next (reachPump (modReach s j.val (fun r => { r with
      buf := r.buf ++ [((b ++ zeros 256).take 256, v, (reachAt s j.val).seq)], seq := ((reachAt s j.val).seq + 1) % 65536 })) j.val)) ∧
    (256 ≤ (reachAt s j.val).buf.length → exec (.reachReceive j b ⟨v, c, u⟩) s0 = .next (
      let t := modReach (laneCount s (128 + j.val) 2) j.val (fun r => { r with seq := ((reachAt s j.val).seq + 1) % 65536, discardRaised := true })
      if (reachAt s j.val).discardRaised then t else raise t (laneSrc (128 + j.val))))) ∧
  (∀ (s : State) (j c u : Nat), ((reachAt s j).mode ≠ 3 → countFec s j c u = s) ∧
    ((reachAt s j).mode = 3 → countFec s j c u = modLane s (128 + j) (fun x => { x with
      cnt := tmod {} (tmod {} x.cnt 0 (fun k => ctrAdd k c)) 1 (fun k => ctrAdd k u) }))) ∧
  (∀ (s : State) (j : Fin 32), laneUp s (128 + j.val) = true → (laneAt s (128 + j.val)).txSleep = false → (reachAt s j.val).mode ≠ 0 →
    s.sys.xlrefLost = false → exec (.reachUnderflow j) s = .next (
      let u := modReach (laneCount s (128 + j.val) 3) j.val (fun r => { r with
        tx := [], underRaised := true, filler := some (if r.mode = 1 then r.fill else idleBlock) })
      if (reachAt s j.val).underRaised then u else raise u (laneSrc (128 + j.val)))) ∧
  (∀ (s : State) (j : Fin 32), s.sys.xlrefLost = true → exec (.reachUnderflow j) s = .next s)

/-- The event controller: SOURCE_RAISE, COALESCE_DELIVERY, COALESCING_END, AUTO_MASKED, HANDLING_WINDOW_CLOSE (R387 to R389, R394). A
raise always counts; a masked source delivers nothing, one with a token delivers at once, one without coalesces. -/
def Obligations.EventSources : Prop :=
  (∀ (s : State) (i : Fin 768), srcUp s i.val = true → (srcAt s i.val).state = .masked →
    exec (.sourceRaise i) s = .next (stormCheck (modSrc s i.val (fun c => { c with count := ctrInc c.count, lastNs := now s })))) ∧
  (∀ (s : State) (i : Fin 768), srcUp s i.val = true → (srcAt s i.val).state ≠ .masked → srcHasToken (srcAt s i.val) (now s) = true →
    exec (.sourceRaise i) s = .next (stormCheck (deliver (modSrc (modSrc s i.val
      (fun c => { c with count := ctrInc c.count, lastNs := now s })) i.val (fun c => { (srcTake c (now s)) with owed := 0 })) i.val))) ∧
  (∀ (s : State) (i : Fin 768), srcUp s i.val = true → (srcAt s i.val).state ≠ .masked → srcHasToken (srcAt s i.val) (now s) = false →
    exec (.sourceRaise i) s = .next (stormCheck (modSrc (modSrc s i.val
      (fun c => { c with count := ctrInc c.count, lastNs := now s })) i.val
      (fun c => { c with coalesced := ctrInc c.coalesced, owed := c.owed + 1, state := .coalescing })))) ∧
  (∀ (s : State) (i : Fin 768), i.val < 640 → (srcAt s i.val).state = .coalescing → 0 < (srcAt s i.val).owed →
    exec (.coalesceDelivery i) s = .next (deliver (modSrc s i.val (fun c => { (srcTake c (now s)) with owed := 0 })) i.val)) ∧
  (∀ (s : State) (i : Fin 768), 640 ≤ i.val → (srcAt s i.val).state = .coalescing → 0 < (srcAt s i.val).owed →
    exec (.coalesceDelivery i) s =
      .next (sendOwed (deliver (modSrc s i.val (fun c => { (srcTake c (now s)) with owed := 0 })) i.val) (i.val - 640))) ∧
  (∀ (s : State) (i : Fin 768), (srcAt s i.val).state = .coalescing → (srcAt s i.val).owed = 0 →
    exec (.coalescingEnd i) s = .next (stormCheck (modSrc s i.val (fun c => { c with state := .armed })))) ∧
  (∀ (s : State) (i : Fin 768), ((srcAt s i.val).active = true ∨ (srcAt s i.val).state = .coalescing) → (srcAt s i.val).stuckMs ≠ 0xFFFF →
    (srcAt s i.val).state ≠ .masked →
    exec (.autoMasked i) s = .next (raise (record (modSrc s i.val (fun c => { c with state := .masked, owed := 0 }))
      { src := i.val, sev := sevInfo, cause := 0x2E, plot := (plotOfSrc s i.val).getD 0, node := evtNode }) 679)) ∧
  (∀ (s : State) (q : Word), exec (.handlingWindowClose q) s = .next { s with evt := { s.evt with
    ring := s.evt.ring.map (fun r => if r.seq = q.toNat then { r with isOpen := false } else r) } })

/-- The fatal dump and telemetry: DUMP_WRITE, TELEMETRY_UPDATE (R397, R404, R445). DUMP_WRITE begins a job of Ohmyx's own (its
opcode, 0, is the model's: log 174); its steps write one section each, then the dump, then the copy, and notice 71 follows. -/
def Obligations.DumpAndTelemetry : Prop :=
  (∀ s : State, s.sys.phase = .ready → s.mgmt.restarting = false → s.mgmt.halted = none → s.sys.fatal = true → s.dumps.wanted = true →
    s.dumps.complete = false →
    s.dumps.plan = none →
    let t0 := cancelAll s 4
    let d := planDump t0
    let r := newJob (drawn t0 (1 + 2 * d.bodies.length)) ownSender opDump [] [(.dump, false)] 0
    exec .dumpWrite s = .next (modDumps (modJob r.2 r.1 (fun j => { j with sure := true }))
      (fun x => { x with plan := some d, direct := t0.dumps.direct || !stackUp t0 0 }))) ∧
  (∀ s : State, (s.sys.fatal = false ∨ s.dumps.wanted = false ∨ s.dumps.complete = true ∨ s.dumps.plan ≠ none) →
    exec .dumpWrite s = .next s) ∧
  (∀ (s : State) (id : Nat) (j : Job) (p : DumpPlan), j.op = 0 → s.dumps.plan = some p → j.steps < p.bodies.length →
    stepByOp s id j = stepDone s id) ∧
  (∀ (s : State) (id : Nat) (j : Job) (p : DumpPlan), j.op = 0 → s.dumps.plan = some p → j.steps = p.bodies.length → p.direct = false →
    stepByOp s id j = stepDone (modDumps s (fun x => { x with kaolin := some (sealDump s p) })) id) ∧
  (∀ (s : State) (id : Nat) (j : Job) (p : DumpPlan), j.op = 0 → s.dumps.plan = some p → p.bodies.length < j.steps →
    let s1 := if p.direct then peatCopy s (sealDump s p)
      else if s.dumps.copy then peatCopy s (s.dumps.kaolin.getD (sealDump s p)) else s
    stepByOp s id j = notice (modDumps (jobOk s1 id 0 []) (fun x => { x with complete := true, plan := none })) 71 [0]) ∧
  (∀ s : State, s.sys.phase = .ready → s.mgmt.restarting = false → s.mgmt.halted = none →
    exec .telemetryUpdate s = .next { s with
      tele := { seq := s.tele.seq + 2#32, bytes := mirrorBytes s (s.tele.seq + 2#32).toNat }
      mgmt := { s.mgmt with free := s.mgmt.free + samplesPerUpdate } }) ∧
  (∀ s : State, (s.sys.phase ≠ .ready ∨ s.mgmt.restarting = true ∨ s.mgmt.halted ≠ none) → exec .telemetryUpdate s = .next s)

/-- Images on their way in, and the frame scan: FRAME_WRITER_BLOCK, CHAIN_SEGMENT, CHAIN_LOCK_LOSS, FRAME_SCAN_READ (R309, R315, R321,
R324, R325). That the store's source raises at a page it cannot read is the model's own choice (entry 232). -/
def Obligations.LoadsAndScan : Prop :=
  (∀ (s : State) (id : Fin 65536) (ld : Load) (j : Job), loadOf s id.val = some ld → jobAt s id.val = some j → bodyDone ld = false →
    (∀ (b : Bytes) (d : Nat), sourceFails s j ld = some d → exec (.frameWriterBlock id b) s =
      .next (failLoad (if d = 1 then raise s 676 else s) id.val { reason := 0x0E, stage := 3, status := stFault } .done d)) ∧
    (∀ b : Bytes, sourceFails s j ld = none → b ≠ nextBlock s j ld → exec (.frameWriterBlock id b) s = .next s) ∧
    (sourceFails s j ld = none → exec (.frameWriterBlock id (nextBlock s j ld)) s = .next (match blockStep s ld (nextBlock s j ld) with
      | .inl f => failLoad s id.val f .done 0
      | .inr x => putLoad x.1 { x.2 with sent := x.2.sent + 1 }))) ∧
  (∀ (s : State) (j : Job) (ld : Load), leN ld.image 0x24 4 ≤ ld.sent → nextBlock s j ld = []) ∧
  (∀ (s : State) (id : Fin 65536) (b : Bytes), loadOf s id.val = none → exec (.frameWriterBlock id b) s = .next s) ∧
  (∀ (s : State) (b : Bytes), s.sys.phase ≠ .held → s.sys.phase ≠ .tripHeld →
    s.sys.thermtrip = false → s.cfg.armed = false →
    exec (.chainSegment b) s = .next { s with cfg := { s.cfg with forwarded := s.cfg.forwarded ++ [b], fwdStart := now s } }) ∧
  (∀ (s : State) (b : Bytes) (id : Nat) (j : Job), s.sys.phase ≠ .held → s.sys.phase ≠ .tripHeld →
    s.sys.thermtrip = false → s.cfg.armed = true →
    imgForDevice s b = true → s.cfg.armedBy = some id → jobAt s id = some j → j.state = .running →
    exec (.chainSegment b) s = .next (
      let t := modJob { s with cfg := { s.cfg with armed := false, armedBy := none } } id (fun x => { x with data := b })
      { t with cfg := { t.cfg with taking := some id } })) ∧
  (∀ (s : State) (b : Bytes), s.sys.phase ≠ .held → s.sys.phase ≠ .tripHeld →
    s.sys.thermtrip = false → s.cfg.armed = true → imgForDevice s b = true →
    s.cfg.armedBy = none → jobRoom s [(.shell, false)] = true →
    exec (.chainSegment b) s = .next (
      let t := modJob (jobStarted { s with cfg := { s.cfg with armed := false, armedBy := none } } { hz := .a, mbx := 24 } 0x0100
        ([2#8, 0#8] ++ zeros 14) [(.shell, false)]) s.mgmt.nextJob (fun x => { x with data := b })
      { t with cfg := { t.cfg with taking := some s.mgmt.nextJob } })) ∧
  (∀ (s : State) (pair : Fin 4) (id : Nat) (j : Job), s.cfg.taking = some id → jobAt s id = some j → j.state = .running →
    exec (.chainLockLoss pair) s =
      .next (failLoad s id { reason := 0x0E, stage := if j.stage = 0 then 0 else 3, status := stFault } .done 1)) ∧
  (∀ (s : State) (pair : Fin 4), s.cfg.taking = none → s.sys.phase ≠ .held → s.sys.phase ≠ .tripHeld →
    exec (.chainLockLoss pair) s = .next (cutForwarded s)) ∧
  (∀ (s : State) (a : Word), dieUp s (a.toNat / 2 ^ 24) = true → s.sys.phase = .ready → s.mgmt.restarting = false → s.mgmt.halted = none →
    (((tget {} s.cfg.frames a.toNat).dynamic = true ∨ (plotAt s (plotOfFrame s a.toNat)).state = .loading ∨ s.cfg.loading = true) →
      ∀ f, exec (.frameScanRead a f) s = .next (if frameExists a.toNat then scanCount s else s)) ∧
    ((tget {} s.cfg.frames a.toNat).dynamic = false → (plotAt s (plotOfFrame s a.toNat)).state ≠ .loading → s.cfg.loading = false →
      exec (.frameScanRead a .none) s = .next (if frameExists a.toNat then scanCount s else s) ∧
      (∀ bs : List (Fin 4225), bs ≠ [] → bs.length ≤ 2 → exec (.frameScanRead a (.correctable bs)) s =
        .next (if frameExists a.toNat then scanCorrected (scanCount s) a.toNat
          (bs.any (fun b => decide (b.val < 4096) && essWord (tget {} s.cfg.frames a.toNat) (b.val / 32))) else s)) ∧
      exec (.frameScanRead a .uncorrectable) s = .next (if frameExists a.toNat then
        scanUncorr (scanCount s) a.toNat ((List.range 128).any (essWord (tget {} s.cfg.frames a.toNat))) else s)))

/-- Debug events: SILT_BRK_HIT_READ, BREAK_MATCH, SOFT_HALT_COMPLETE, HALT_LEASE_BOUND (R409 to R413, R417). How a break meets a freeze
under way is the model's own choice (entry 231). -/
def Obligations.DebugEvents : Prop :=
  (∀ (s : State) (id : Fin 65536), exec (.siltBrkHitRead id) s = .next (modSession s id.val (fun x => { x with hit := 0#32 }))) ∧
  (∀ (s : State) (id : Fin 65536) (x : Session) (pt : Fin 3) (node : Fin 1024) (p : Packet), sessionAt s id.val = some x →
    observes s x pt.val node.val p = true →
    let ms := (List.range 16).filter (fun u => unitMatches (tget {} x.units u) p)
    let t := modSession s id.val (fun x => { x with
      units := (List.range 16).foldl (fun t u => tmod {} t u (unitAfter ms u)) x.units
      hit := x.hit ||| BitVec.ofNat 32 (ms.map (fun u => 2 ^ u)).sum })
    ((∀ u ∈ ms, (tget {} x.units u).action ≠ 2) → exec (.breakMatch id pt node p) s = .next t) ∧
    ((∃ u ∈ ms, (tget {} x.units u).action = 2) → (plotAt s x.plot).state = .running → (plotAt s x.plot).halting = none →
      bitOf x.capSrc 31 = true → pt.val ≠ 0 →
      exec (.breakMatch id pt node p) s = .next (beginHalt t x.plot (bitOf x.ctrl 0) true none)) ∧
    ((plotAt s x.plot).halting ≠ none → bitOf x.capSrc 31 = true → exec (.breakMatch id pt node p) s = .next t)) ∧
  (∀ (s : State) (id : Fin 65536) (pt : Fin 3) (node : Fin 1024) (p : Packet), sessionAt s id.val = none →
    exec (.breakMatch id pt node p) s = .next s) ∧
  (∀ (s : State) (q : Fin 17), (plotAt s q.val).halting ≠ none → lockSetEmpty s q.val = true → ∃ t, exec (.softHaltComplete q) s = .next t ∧
    (plotAt t q.val).state = .frozen ∧ (plotAt t q.val).halt = 0 ∧ (plotAt t q.val).halting = none ∧ (plotAt t q.val).captured = true) ∧
  (∀ (s : State) (q : Fin 17), ((plotAt s q.val).halting = none ∨ lockSetEmpty s q.val = false) → exec (.softHaltComplete q) s = .next s) ∧
  (∀ (s : State) (q : Fin 17), (plotAt s q.val).halting = some true → lockSetEmpty s q.val = false → ∃ t, exec (.haltLeaseBound q) s = .next t ∧
    (plotAt t q.val).state = .frozen ∧ (plotAt t q.val).halt = 1 ∧ (plotAt t q.val).halting = none) ∧
  (∀ (s : State) (q : Fin 17), (plotAt s q.val).halting = some false → lockSetEmpty s q.val = false →
    ∃ t, exec (.haltLeaseBound q) s = .next t ∧ (plotAt t q.val).halting = none ∧ (plotAt t q.val).byBreak = false) ∧
  (∀ (s : State) (q : Fin 17), (plotAt s q.val).halting = none → exec (.haltLeaseBound q) s = .next s)

/-- Check-value units: writes, reads, feeds and ends by register and by port (R283 to R289). A unit of a die out of service takes
nothing. -/
def Obligations.CheckValueUnits : Prop :=
  (∀ (u : CrcUnitId) (v : Word) (s : State), crcUp s u = true →
    exec (.crcCtrlWrite u v) s = .next (modCrc s (crcKey u) (fun c => { c with ctrl := v, val := c.init })) ∧
    exec (.crcAliveWrite u v) s = .next (modCrc s (crcKey u) (fun c => { c with alive := BitVec.ofNat 9 (256 + fld v 7 0) })) ∧
    exec (.crcStatusRead u) s = .next (modCrc s (crcKey u) (fun c => { c with status := 0#3 })) ∧
    (bitOf v 0 = true → exec (.crcCntClr u v) s = .next (modCrc s (crcKey u) (fun c => { c with cntErr := {} }))) ∧
    (bitOf v 0 = false → exec (.crcCntClr u v) s = .next s)) ∧
  (∀ (u : CrcUnitId) (hi : Bool) (v : Word) (s : State), crcUp s u = true →
    exec (.crcValWrite u hi v) s = .next (modCrc s (crcKey u)
      (fun c => { c with val := if hi then setFld c.val 63 32 v.toNat else setFld c.val 31 0 v.toNat }))) ∧
  (∀ (u : CrcUnitId) (hi : Bool) (v : Word) (s : State), crcUp s u = false →
    exec (.crcCtrlWrite u v) s = .next s ∧ exec (.crcAliveWrite u v) s = .next s ∧ exec (.crcStatusRead u) s = .next s ∧
    exec (.crcCntClr u v) s = .next s ∧ exec (.crcValWrite u hi v) s = .next s) ∧
  (∀ (m : Fin 8) (v : Word) (s : State),
    exec (.crcFeedB m v) s = .next (modCrc s (256 + m.val) (fun c => crcFeed c [v.toNat % 256])) ∧
    exec (.crcFeedH m v) s = .next (modCrc s (256 + m.val) (fun c => crcFeed c [v.toNat % 256, v.toNat / 256 % 256])) ∧
    exec (.crcFeedW m v) s = .next (modCrc s (256 + m.val) (fun c => crcFeed c
      [v.toNat % 256, v.toNat / 256 % 256, v.toNat / 65536 % 256, v.toNat / 16777216 % 256])) ∧
    exec (.crcEnd m v) s = .next (modCrc s (256 + m.val) (fun c => crcEndOp c (fld v 7 0) c.rx.toNat))) ∧
  (∀ (p : Fin 4) (u : Fin 64) (bytes : Bytes) (alive : Byte) (check : DWord) (s : State),
    regionRuns s p.val (u.val % 8) (u.val / 8) = true →
    exec (.crcPortFeed p u bytes) s = .next (modCrc s (64 * p.val + u.val) (fun c => crcFeed c (bytes.map (·.toNat)))) ∧
    exec (.crcPortEnd p u alive check) s = .next (modCrc s (64 * p.val + u.val) (fun c => crcEndOp c alive.toNat check.toNat))) ∧
  (∀ (p : Fin 4) (u : Fin 64) (bytes : Bytes) (alive : Byte) (check : DWord) (s : State),
    regionRuns s p.val (u.val % 8) (u.val / 8) = false →
    exec (.crcPortFeed p u bytes) s = .next s ∧ exec (.crcPortEnd p u alive check) s = .next s)

/-- END of a check-value unit (R284). In CHECK mode a wrong check answers 1, and after a correct one a repeated alive value 2 and
one outside the window 3, where FIRST is clear; only a correct check updates the last alive value, and only 0 leaves the error count
and the status as they were; in GEN mode the check of the bytes and the alive value is the result and ALIVE advances by one. -/
def Obligations.CheckValueEnd : Prop :=
  (∀ (c : Crc) (a check : Nat), bitOf c.ctrl 9 = false →
    (crcEndOp c a check).res = BitVec.ofNat 64 (crcFinal c (crcByte c c.val.toNat (fld c.alive 7 0))) ∧
    (crcEndOp c a check).endAlive = fld c.alive 7 0 ∧ (crcEndOp c a check).val = c.init ∧
    fld (crcEndOp c a check).alive 7 0 = (fld c.alive 7 0 + 1) % 256 ∧ (crcEndOp c a check).cntErr = c.cntErr) ∧
  (∀ (c : Crc) (a check : Nat), bitOf c.ctrl 9 = true → a < 256 →
    crcFinal c (crcByte c c.val.toNat a) ≠ check % 2 ^ crcWidth c →
    (crcEndOp c a check).endStatus = 1 ∧ fld (crcEndOp c a check).status 0 0 = 1 ∧
    (crcEndOp c a check).cntErr = ctrInc c.cntErr ∧ (crcFirst c = false → (crcEndOp c a check).alive = c.alive) ∧
    (crcEndOp c a check).val = c.init) ∧
  (∀ (c : Crc) (a check : Nat), bitOf c.ctrl 9 = true → a < 256 →
    crcFinal c (crcByte c c.val.toNat a) = check % 2 ^ crcWidth c → crcFirst c = true →
    (crcEndOp c a check).endStatus = 0 ∧ (crcEndOp c a check).status = c.status ∧ (crcEndOp c a check).cntErr = c.cntErr ∧
    fld (crcEndOp c a check).alive 7 0 = a ∧ crcFirst (crcEndOp c a check) = false) ∧
  (∀ (c : Crc) (a check : Nat), bitOf c.ctrl 9 = true → a < 256 →
    crcFinal c (crcByte c c.val.toNat a) = check % 2 ^ crcWidth c → crcFirst c = false →
    let d := (a + 256 - fld c.alive 7 0) % 256
    (crcEndOp c a check).endStatus = (if d = 0 then 2 else if max 1 (fld c.ctrl 23 16) < d then 3 else 0) ∧
    fld (crcEndOp c a check).alive 7 0 = (if d = 0 then fld c.alive 7 0 else a))

/-- Grit groups: GRT_ERR_READ, GRT_SEQ_RUN, GRT_SEQ_STOP, GRT_PROG_WRITE, GRIT_ISSUE, GRIT_EVENT, GRIT_GO, GRIT_OUT_ACCEPT, OPERAND_LOAD
(R276, R277, R279 to R282). The registers of sequenced mode exist where the mode is in force; a program is written only while the
sequencer is Stopped or Halted; RUN := 1 applies the program to a sequencer that is Stopped or Halted, and with RESTART to any; a RUN := 1
without RESTART while the sequencer runs or waits leaves it where it is, which is the model's choice (log entry 210), as are the height of
the go input to the end of the next clock and that an OUT goes on only once its outputs are presented; a group whose region is not clocked
does nothing. -/
def Obligations.GritGroups : Prop :=
  (∀ (p : Fin 4) (g : Fin 480) (s : State), dieUp s p.val = true →
    exec (.grtErrRead p g) s = .next (modGrit s (480 * p.val + g.val) (fun x => { x with err := 0#4 }))) ∧
  (∀ (p : Fin 4) (g : Fin 480) (v : Word) (s : State), dieUp s p.val = true → s.sys.eff.gseq = true →
    exec (.grtSeqRun p g v) s = .next (modGrit s (480 * p.val + g.val) (fun x => gRun x (setFld v 31 31 1))) ∧
    exec (.grtSeqStop p g v) s = .next (modGrit s (480 * p.val + g.val) (fun x => gStop x (setFld v 31 31 0)))) ∧
  (∀ (p : Fin 4) (g : Fin 480) (i : Fin 64) (v : Word) (s : State), dieUp s p.val = true → s.sys.eff.gseq = true →
    exec (.grtProgWrite p g i v) s = .next (modGrit s (480 * p.val + g.val) (fun x => gProgSet x i.val v))) ∧
  (∀ (p : Fin 4) (g : Fin 480) (i : Fin 64) (v : Word) (s : State), (dieUp s p.val = false ∨ s.sys.eff.gseq = false) →
    exec (.grtSeqRun p g v) s = .next s ∧ exec (.grtSeqStop p g v) s = .next s ∧ exec (.grtProgWrite p g i v) s = .next s) ∧
  (∀ (x : Grit) (i : Nat) (v : Word), (x.seq = .stopped ∨ x.seq = .halted) → fld v 31 28 ≤ 12 → (fld v 31 28 ≠ 4 ∧ fld v 31 28 ≠ 5) →
    (gProgSet x i v).prog = tset 0#32 x.prog i v ∧ (gProgSet x i v).err = x.err) ∧
  (∀ (x : Grit) (i : Nat) (v : Word), (x.seq = .running ∨ x.seq = .waiting) →
    (gProgSet x i v).prog = x.prog ∧ (gProgSet x i v).err = x.err ||| 4#4) ∧
  (∀ (x : Grit) (v : Word), (x.seq = .running ∨ x.seq = .waiting) → bitOf v 30 = false →
    (gRun x v).seq = x.seq ∧ (gRun x v).prim = x.prim ∧ (gRun x v).live = x.live) ∧
  (∀ (x : Grit) (v : Word), (x.seq = .stopped ∨ x.seq = .halted) → bitOf v 30 = false → x.evtPend = false →
    (gRun x v).seq = .running ∧ (gRun x v).prim = x.prim ∧ (gRun x v).shadow = x.shadow ∧ (gRun x v).live = x.prog) ∧
  (∀ (x : Grit) (v : Word), bitOf v 30 = true → x.evtPend = false →
    (gRun x v).seq = .running ∧ (gRun x v).shadow = false ∧ (gRun x v).live = x.prog ∧
    (gRun x v).prim = { acc := [], x := 0#9, lc := 0#18, pc := BitVec.ofNat 6 (fld v 13 8) }) ∧
  (∀ (x : Grit) (v : Word), bitOf x.ctrl 31 = true → (gStop x v).seq = .stopped ∧ (gStop x v).outStall = false ∧ (gStop x v).outs = [] ∧
    (x.pipe = [] → x.seq = .waiting → x.shadow = false → (gStop x v).prim = { x.prim with pc := x.prim.pc + 1#6 })) ∧
  (∀ (p : Fin 4) (g : Fin 480) (s : State), gritRuns s p.val g.val = true →
    ((gritAt s (480 * p.val + g.val)).seq ≠ .stopped → exec (.gritIssue p g) s =
      .next (modGrit (freeValue s).2 (480 * p.val + g.val) (gStep (freeValue s).1.toNat))) ∧
    ((gritAt s (480 * p.val + g.val)).seq = .stopped → exec (.gritIssue p g) s =
      .next (modGrit (freeValue s).2 (480 * p.val + g.val)
        (if Config.gritDirect (480 * p.val + g.val) (regionEpoch s (nodeLocal p.val (gritRegion g.val).1 (gritRegion g.val).2 0)).1
          then gDirectStep (freeValue s).1.toNat else gStep (freeValue s).1.toNat))) ∧
    exec (.gritEvent p g) s = .next (modGrit s (480 * p.val + g.val) gEvent) ∧
    exec (.gritGo p g) s = .next (modGrit s (480 * p.val + g.val) gGo) ∧
    exec (.gritOutAccept p g) s = .next (modGrit s (480 * p.val + g.val) gAccept)) ∧
  (∀ (p : Fin 4) (g : Fin 480) (tile : Fin 8) (a : Fin 512) (v : BitVec 24) (s : State), gritRuns s p.val g.val = true →
    exec (.operandLoad p g tile a v) s = .next (modGrit s (480 * p.val + g.val)
      (fun x => if x.seq = .running then { x with load := x.load ++ [(tile.val, a.val, v)] }
        else { x with mem := tset 0#24 x.mem (512 * tile.val + a.val) v }))) ∧
  (∀ (p : Fin 4) (g : Fin 480) (tile : Fin 8) (a : Fin 512) (v : BitVec 24) (s : State), gritRuns s p.val g.val = false →
    exec (.gritIssue p g) s = .next s ∧ exec (.gritEvent p g) s = .next s ∧ exec (.gritGo p g) s = .next s ∧
    exec (.gritOutAccept p g) s = .next s ∧ exec (.operandLoad p g tile a v) s = .next s) ∧
  (∀ x : Grit, x.seq = .waiting → (x.outStall = false ∨ x.outOf ≠ x.shadow) → (gGo x).seq = .running ∧ (gGo x).go = true ∧
    (x.shadow = false → (gGo x).prim = { x.prim with pc := x.prim.pc + 1#6 })) ∧
  (∀ x : Grit, (x.seq ≠ .waiting ∨ (x.outStall = true ∧ x.outOf = x.shadow)) → gGo x = { x with go := true }) ∧
  (∀ x : Grit, x.outStall = true → x.outReady = true → x.outOf = x.shadow → (gAccept x).seq = .running ∧ (gAccept x).outs = [] ∧
    (gAccept x).outStall = false) ∧
  (∀ x : Grit, x.outStall = true → x.outReady = true → x.outOf ≠ x.shadow → (gAccept x).seq = x.seq ∧ (gAccept x).outs = [] ∧
    (gAccept x).retTo = .running ∧ (gAccept x).prim = { x.prim with pc := x.prim.pc + 1#6 }) ∧
  (∀ x : Grit, (x.outStall = false ∨ x.outReady = false) → gAccept x = x) ∧
  (∀ x : Grit, x.shadow = false → x.seq = .waiting → bitOf x.ctrl 29 = true →
    (gEvent x).shadow = true ∧ (gEvent x).retTo = .waiting ∧ (gEvent x).seq = .running ∧
    (gEvent x).shad.pc = BitVec.ofNat 6 (fld x.ctrl 21 16) ∧ (gEvent x).prim = x.prim) ∧
  (∀ x : Grit, (x.shadow = true ∨ x.seq = .stopped) → (gEvent x).evtPend = true ∧ (gEvent x).seq = x.seq)

/-- What one Grit clock does (the program of the last RUN := 1 is the one in force) to a group that runs in its primary bank with an empty pipeline, an empty load port, go low and no event latched,
by the instruction at PC (R275, R276, R279): NOP moves on, HALT halts, WAIT waits, or with go high moves on, SETLC and SETX put the new LC or X
into the pipeline for stage 2, BRANCH jumps while LC is above 0 and counts LC down, OUT stalls the issue with its outputs still to come, and MUL
writes the saturated product of the two operands to the accumulator of each of the eight tiles. -/
def Obligations.GritInstructions : Prop :=
  ∀ (free : Nat) (g : Grit), g.seq = .running → g.shadow = false → g.evtPend = false → g.pipe = [] → g.load = [] →
    g.go = false →
    let w := tget 0#32 g.live g.prim.pc.toNat
    let h := gStep free g
    (bitOf w 7 = false → fld w 31 28 = 0 → h = { g with prim := { g.prim with pc := g.prim.pc + 1#6 } }) ∧
    (bitOf w 7 = false → fld w 31 28 = 12 → h.seq = .halted ∧ h.prim = { g.prim with pc := g.prim.pc + 1#6 }) ∧
    (bitOf w 7 = false → fld w 31 28 = 10 → h = { g with seq := .waiting }) ∧
    (bitOf w 7 = false → fld w 31 28 = 10 → gStep free { g with go := true } = { g with prim := { g.prim with pc := g.prim.pc + 1#6 } }) ∧
    (bitOf w 7 = false → fld w 31 28 = 6 → h.pipe = [(2, .lc false (BitVec.ofNat 18 (fld w 27 10)))] ∧
      h.prim = { g.prim with pc := g.prim.pc + 1#6 }) ∧
    (bitOf w 7 = false → fld w 31 28 = 9 → g.prim.lc = 0#18 → h = { g with prim := { g.prim with pc := g.prim.pc + 1#6 } }) ∧
    (bitOf w 7 = false → fld w 31 28 = 9 → g.prim.lc ≠ 0#18 → h.prim = { g.prim with pc := BitVec.ofNat 6 (fld w 5 0) } ∧
      h.pipe = [(2, .lc false (g.prim.lc - 1#18))]) ∧
    (bitOf w 7 = false → fld w 31 28 = 5 → g.outStall = false → h.seq = .waiting ∧ h.outStall = true ∧ h.outReady = false ∧ h.prim = g.prim) ∧
    (bitOf w 7 = false → fld w 31 28 = 7 → h.pipe = [(2, .x false false (BitVec.ofNat 9 (fld w 27 19)))]) ∧
    (fld w 31 28 = 11 → h.err = g.err ||| 8#4 ∧ h.shadow = false) ∧
    (fld w 31 28 = 2 → bitOf w 9 = false → bitOf w 8 = false → h.prim.acc = tiles.foldl (fun acc t => tset 0#56 acc t
      (BitVec.ofInt 56 (saturate (bitOf g.ctrl 28) 56 (gOperand (bitOf g.ctrl 28) (tget 0#24 g.mem (512 * t + fld w 27 19)) *
        gOperand (bitOf g.ctrl 28) (tget 0#24 g.mem (512 * t + fld w 18 10)))).1)) g.prim.acc)

/-- Block RAM and the regions' event outputs: BRAM_ACCESS, FABRIC_EVENT_OUTPUT, FABRIC_EVENT_OUTPUT_FALL, PLOT_WATCHDOG_KICK,
PLOT_WATCHDOG_EXPIRY (R271 to R274, R381, R423). -/
def Obligations.BlockRamAndRegionEvents : Prop :=
  (∀ (p : Fin 4) (b : Fin 5400) (x y : Option BramAcc) (near : Bool) (s : State),
    regionRuns s p.val (bramRegion b.val).1 (bramRegion b.val).2 = true →
    exec (.bramAccess p b x y near) s = .next (modFab (freeValue s).2 (fun e => { e with
      brams := tset {} e.brams (5400 * p.val + b.val)
        (bramStep (5400 * p.val + b.val) (freeValue s).1.toNat (bramView s p.val b.val) x y near) }))) ∧
  (∀ (p : Fin 4) (b : Fin 5400) (x y : Option BramAcc) (near : Bool) (s : State),
    regionRuns s p.val (bramRegion b.val).1 (bramRegion b.val).2 = false → exec (.bramAccess p b x y near) s = .next s) ∧
  (∀ (p : Fin 4) (r : Fin 64) (s : State), regionClocked s p.val r.val = true → (srcAt s (regionSrc p.val r.val)).active = false →
    exec (.fabricEventOutput p r) s =
      .next (modSrc (raise s (regionSrc p.val r.val)) (regionSrc p.val r.val) (fun c => { c with active := true }))) ∧
  (∀ (p : Fin 4) (r : Fin 64) (s : State), (regionClocked s p.val r.val = false ∨ (srcAt s (regionSrc p.val r.val)).active = true) →
    exec (.fabricEventOutput p r) s = .next s) ∧
  (∀ (p : Fin 4) (r : Fin 64) (s : State),
    exec (.fabricEventOutputFall p r) s = .next (modSrc s (regionSrc p.val r.val) (fun c => { c with active := false }))) ∧
  (∀ (p : Fin 4) (r : Fin 64) (s : State), regionClocked s p.val r.val = true →
    exec (.plotWatchdogKick p r) s = .next (modDbg s (fun d => { d with kicked := withElem d.kicked (64 * p.val + r.val) }))) ∧
  (∀ (p : Fin 4) (r : Fin 64) (s : State), regionClocked s p.val r.val = true →
    exec (.plotWatchdogExpiry p r) s = .next (
      let t := modDbg s (fun d => { d with kicked := without d.kicked (64 * p.val + r.val) })
      if (srcAt s (regionSrc p.val r.val)).active then t else raise t (regionSrc p.val r.val))) ∧
  (∀ (p : Fin 4) (r : Fin 64) (s : State), regionClocked s p.val r.val = false →
    exec (.plotWatchdogKick p r) s = .next s ∧ exec (.plotWatchdogExpiry p r) s = .next s)

/-- One access at a block RAM port (R272): a read gives the word held before; a write leaves its word in the memory, and gives the
old word, the new one or what the port gave before as the port's mode says. With the output register a port's data wait in it and come out
one access later. -/
def Obligations.BlockRamPort : Prop :=
  ∀ (key free : Nat) (b : Bram) (x : BramAcc) (near : Bool), b.shapeA < 6 → b.shapeB < 6 →
    let z := bramStep key free b (some x) none near
    let last := if b.regA then b.midA.1 else b.outA
    let got := if b.regA then z.midA.1 else z.outA
    (x.wr = none → got = BitVec.ofNat 72 (bramRead key b b.shapeA x.addr) ∧ z.words = b.words) ∧
    (∀ v, x.wr = some v →
      bramRead key z b.shapeA x.addr = v.toNat % 2 ^ shapeWidth b.shapeA ∧
      (b.modeA = 0 → got = BitVec.ofNat 72 (bramRead key b b.shapeA x.addr)) ∧
      (b.modeA = 1 → got = BitVec.ofNat 72 (v.toNat % 2 ^ shapeWidth b.shapeA)) ∧
      (b.modeA = 2 → got = last)) ∧
    (b.regA = true → z.outA = b.midA.1) ∧
    (b.regB = false → z.outB = b.outB ∧ z.busyB = false) ∧ (b.regB = true → z.outB = b.midB.1 ∧ z.busyB = b.midB.2)

/-- Registers of the Kaolin fronts and channels that clear or arm: KAO_CH_ERR_READ, KAO_CNT_CLR, KAO_PROT_CLR, KAO_INJ_CTRL_WRITE,
KAO_INJ_STATUS_READ (R245, R262). A reserved MODE of KAO_INJ_CTRL leaves the old one (R9). -/
def Obligations.KaolinRegisters : Prop :=
  (∀ (p : Fin 4) (c : Fin 17) (s : State), exec (.kaoChErrRead p c) s = .next (modChan s p.val c.val (fun x => { x with err := 0#8 }))) ∧
  (∀ (p : Fin 4) (c : Fin 17) (v : Word) (s : State), bitOf v 0 = true →
    exec (.kaoCntClr p c v) s = .next (modChan s p.val c.val
      (fun x => { x with cntRd := {}, cntWr := {}, cntAct := {}, cntNref := {}, cntPanic := {}, cntHaz := {} }))) ∧
  (∀ (p : Fin 4) (f : Fin 8) (v : Word) (s : State), bitOf v 0 = true →
    exec (.kaoProtClr p f v) s = .next (modFront s p.val f.val
      (fun x => { x with cntCorr := {}, cntUncorr := {}, cntTagf := {}, cntPois := {}, cntRoll := {}, cntCmiss := {} }))) ∧
  (∀ (p : Fin 4) (c : Fin 17) (f : Fin 8) (v : Word) (s : State), bitOf v 0 = false →
    exec (.kaoCntClr p c v) s = .next s ∧ exec (.kaoProtClr p f v) s = .next s) ∧
  (∀ (p : Fin 4) (f : Fin 8) (v : Word) (s : State), fld v 30 29 ≤ 2 → bitOf v 31 = true →
    exec (.kaoInjCtrlWrite p f v) s = .next (modFront s p.val f.val (fun x => { x with injCtrl := v, injStatus := 0#32, injRead := false }))) ∧
  (∀ (p : Fin 4) (f : Fin 8) (v : Word) (s : State), fld v 30 29 ≤ 2 → bitOf v 31 = false →
    exec (.kaoInjCtrlWrite p f v) s = .next (modFront s p.val f.val (fun x => { x with injCtrl := v }))) ∧
  (∀ (p : Fin 4) (f : Fin 8) (v : Word) (s : State), 2 < fld v 30 29 → ∃ t, exec (.kaoInjCtrlWrite p f v) s = .next t ∧
    fld (frontAt t p.val f.val).injCtrl 30 29 = fld (frontAt s p.val f.val).injCtrl 30 29) ∧
  (∀ (p : Fin 4) (f : Fin 8) (s : State), exec (.kaoInjStatusRead p f) s = .next (modFront s p.val f.val (fun x => { x with injStatus := 0#32 })))

/-- A Kaolin channel at work: KAO_SCHEDULE, LINE_READ_COMPLETE, REFRESH_DUE, ACTIVATION_TABLE_CLEAR, OPEN_PAGE_TIMEOUT, STACK_TEMP_HIGH,
KAOLIN_STACK_HOT (R234, R237, R238, R249). A read answers with what its line held when its burst was issued. A bank postpones at most eight
refreshes. A row closes when no hit has reached it for the OPEN_TO clocks in force for it. -/
def Obligations.KaolinChannels : Prop :=
  (∀ (p : Fin 4) (c : Fin 17) (s : State), stackUp s p.val = true → exec (.kaoSchedule p c) s = .next (schedule s p.val c.val)) ∧
  (∀ (p : Fin 4) (c : Fin 17) (b : Fin 32) (s : State), stackUp s p.val = false →
    exec (.kaoSchedule p c) s = .next s ∧ exec (.refreshDue p c b) s = .next s ∧ exec (.stackTempHigh p) s = .next s ∧
    exec (.kaolinStackHot p true) s = .next s) ∧
  (∀ (p : Fin 4) (c : Fin 17) (q : KReq) (s : State),
    (chanAt s p.val c.val).queue.find? (fun q => q.issued && !q.wr) = some q →
    exec (.lineReadComplete p c) s = .next (
      let r := q.got.getD (5, 0#512)
      hazSettle (serveWaiting (lineDone (dropReqK s p.val c.val q) q.pkt (reqAddr p.val q) r.1 r.2)) p.val (chanFront s p.val c.val))) ∧
  (∀ (p : Fin 4) (c : Fin 17) (s : State), (chanAt s p.val c.val).queue.find? (fun q => q.issued && !q.wr) = none →
    exec (.lineReadComplete p c) s = .next s) ∧
  (∀ (p : Fin 4) (c : Fin 17) (b : Fin 32) (s : State), stackUp s p.val = true → bankIdle s p.val (chanAt s p.val c.val) b.val = true →
    exec (.refreshDue p c b) s = .next s) ∧
  (∀ (p : Fin 4) (c : Fin 17) (b : Fin 32) (s : State), stackUp s p.val = true → bankIdle s p.val (chanAt s p.val c.val) b.val = false →
    tget 0 (chanAt s p.val c.val).postponed b.val < 8 →
    ∃ t, exec (.refreshDue p c b) s = .next t ∧
      tget 0 (chanAt t p.val c.val).postponed b.val = tget 0 (chanAt s p.val c.val).postponed b.val + 1 ∧
      (chanAt t p.val c.val).openRow = (chanAt s p.val c.val).openRow ∧ t.silt = s.silt ∧ t.plots = s.plots) ∧
  (∀ (p : Fin 4) (c : Fin 17) (b : Fin 32) (s : State), stackUp s p.val = true → bankIdle s p.val (chanAt s p.val c.val) b.val = false →
    8 ≤ tget 0 (chanAt s p.val c.val).postponed b.val →
    ∃ t, exec (.refreshDue p c b) s = .next t ∧ tget none (chanAt t p.val c.val).openRow b.val = none ∧
      (chanAt t p.val c.val).postponed = (chanAt s p.val c.val).postponed) ∧
  (∀ (p : Fin 4) (c : Fin 17) (s : State),
    exec (.activationTableClear p c) s = .next (modChan s p.val c.val (fun x => { x with act := [] }))) ∧
  (∀ (p : Fin 4) (c : Fin 17) (b : Fin 32) (s : State),
    let h := tget (0, 0) (chanAt s p.val c.val).hits b.val
    (h.2 = 0 ∨ 12 * (now s - h.1) < h.2 * clock12 (stackAt s p.val).op) → exec (.openPageTimeout p c b) s = .next s) ∧
  (∀ (p : Fin 4) (c : Fin 17) (b : Fin 32) (s : State),
    let h := tget (0, 0) (chanAt s p.val c.val).hits b.val
    h.2 ≠ 0 → h.2 * clock12 (stackAt s p.val).op ≤ 12 * (now s - h.1) → ∃ t, exec (.openPageTimeout p c b) s = .next t ∧
    tget none (chanAt t p.val c.val).openRow b.val = none ∧ (chanAt t p.val c.val).queue = (chanAt s p.val c.val).queue ∧
    (chanAt t p.val c.val).postponed = (chanAt s p.val c.val).postponed) ∧
  (∀ (p : Fin 4) (s : State), stackUp s p.val = true → exec (.stackTempHigh p) s = .next (raise
    (modStack ((List.range 17).foldl (fun s c => modChan s p.val c (fun x => { x with err := x.err ||| 1#8 })) s) p.val
      (fun k => { k with above95 := true, hot := true })) (160 * p.val + 122))) ∧
  (∀ (p : Fin 4) (hot : Bool) (s : State), stackUp s p.val = true →
    exec (.kaolinStackHot p hot) s = .next (modStack s p.val (fun k => { k with hot := hot, above95 := k.above95 && hot })))

/-- One choice of a channel whose queue holds one read that is not issued, where no bank has eight refreshes postponed (R234): with
another row open the bank is precharged; with the read's row open the line is read, and the read is issued with what it gave and counted; under the closed-page policy its
bank closes. -/
def Obligations.KaolinChoosesARead : Prop :=
  ∀ (p : Fin 4) (c : Fin 17) (q : KReq) (row : Nat) (s : State),
    let ch := chanAt s p.val c.val
    let pl := reqPlace s p.val q
    let so := bitOf (frontAt s p.val (chanFront s p.val c.val)).ctrl 31
    let r := readLine (modChan s p.val c.val (fun x => { countHeld so x with drain := false })) (reqAddr p.val q)
    let after := chanAt r.2.2 p.val c.val
    ch.queue = [q] → q.issued = false → q.wr = false → q.hazed = false →
    (∀ b, b < 32 → tget 0 ch.postponed b < 8) → tget none ch.openRow pl.bank = some row →
    (row ≠ pl.row → tget none (chanAt (schedule s p.val c.val) p.val c.val).openRow pl.bank = none ∧
      (chanAt (schedule s p.val c.val) p.val c.val).queue = [q]) ∧
    (row = pl.row →
      (chanAt (schedule s p.val c.val) p.val c.val).queue =
        after.queue.map (fun e => if e = q then { e with issued := true, got := some (r.1, r.2.1) } else e) ∧
      (chanAt (schedule s p.val c.val) p.val c.val).cntRd = ctrInc after.cntRd ∧
      tget none (chanAt (schedule s p.val c.val) p.val c.val).openRow pl.bank =
        (if bitOf q.ctrl 30 then tget none after.openRow pl.bank else none))

/-- DECODE (R83, R100 to R102, R144, R202). A unit of a link in L0 is decoded, and what waits at the link follows; a link that is not
in L0, or carries no unit of that protocol, and a port that is not up decode nothing. While the decoder is held, a unit that is no answer waits at the port. A unit that a
descriptor with an address matches, of an agent in the link's range, is sent to the home slice of its line as a message; one routed by
its tag goes to the tracker that the tag map names; in sink mode a new request is answered SINK. A unit that no descriptor matches
counts a decode miss, one whose agent lies outside the link's range an agent-range fault, one whose tag the map does not hold a stray,
and each raises the link's source. -/
def Obligations.Decoders : Prop :=
  (∀ (port : Fin 8) (u : MsgUnit) (d : BitVec 128) (s : State), let l := 2 * port.val + u.engine.val
    let h := unitHdr s port.val d u none
    let data := (descPayload d u).1
    let p := decodedPacket (portNode port.val) (targetSlice s (portDie port.val) (mLine h)) 0 h (decodedCls s h data.isSome) (data.getD [])
    portUp s port.val = true → (linkAt s l).state = .l0 → carriesClass (linkAt s l) u.cls = true → unitDesc s port.val u = some d → fld d 52 47 ≠ 0 →
    tget 0 s.pce.linkBase l ≤ descAgent s d l u.bits → descAgent s d l u.bits < tget 0 s.pce.linkBase l + tget 0 s.pce.linkCount l →
    decoderHeld s port.val = false → s.silt.sink = false → agentHeld s (mAgent h) = false →
    exec (.decode port u) s = .next (linkPump (inject s p) l)) ∧
  (∀ (port : Fin 8) (u : MsgUnit) (s : State), portUp s port.val = true → (linkAt s (2 * port.val + u.engine.val)).state = .l0 →
    carriesClass (linkAt s (2 * port.val + u.engine.val)) u.cls = true →
    (decoderHeld s port.val = false ∨ unitAnswers s port.val u = true) →
    exec (.decode port u) s = .next (linkPump (decodeUnit s port.val u) (2 * port.val + u.engine.val))) ∧
  (∀ (port : Fin 8) (u : MsgUnit) (s : State), portUp s port.val = true → (linkAt s (2 * port.val + u.engine.val)).state = .l0 →
    carriesClass (linkAt s (2 * port.val + u.engine.val)) u.cls = true → decoderHeld s port.val = true → unitAnswers s port.val u = false →
    exec (.decode port u) s = .next (linkPump (modPort s port.val (fun x => { x with heldUnits := x.heldUnits ++ [u] }))
      (2 * port.val + u.engine.val))) ∧
  (∀ (port : Fin 8) (u : MsgUnit) (s : State),
    (portUp s port.val = false ∨ (linkAt s (2 * port.val + u.engine.val)).state ≠ .l0 ∨
      carriesClass (linkAt s (2 * port.val + u.engine.val)) u.cls = false) →
    exec (.decode port u) s = .next s) ∧
  (∀ (port : Fin 8) (u : MsgUnit) (d : BitVec 128) (s : State), let l := 2 * port.val + u.engine.val
    let h := unitHdr s port.val d u none
    unitDesc s port.val u = some d → fld d 52 47 ≠ 0 →
    tget 0 s.pce.linkBase l ≤ descAgent s d l u.bits → descAgent s d l u.bits < tget 0 s.pce.linkBase l + tget 0 s.pce.linkCount l →
    s.silt.sink = true → newRequest s h = true →
    decodeUnit s port.val u = modLink s l (fun x => { x with sunk := x.sunk ++ [h] })) ∧
  (∀ (port : Fin 8) (u : MsgUnit) (s : State), let l := 2 * port.val + u.engine.val
    unitDesc s port.val u = none →
    decodeUnit s port.val u = raise (modLink s l (fun x => { x with miss := ctrInc x.miss })) (linkSrc l)) ∧
  (∀ (port : Fin 8) (u : MsgUnit) (d : BitVec 128) (s : State), let l := 2 * port.val + u.engine.val
    unitDesc s port.val u = some d →
    tget 0 s.pce.linkBase l + tget 0 s.pce.linkCount l ≤ descAgent s d l u.bits →
    decodeUnit s port.val u = raise (modLink s l (fun x => { x with agentFault := ctrInc x.agentFault })) (linkSrc l)) ∧
  (∀ (port : Fin 8) (u : MsgUnit) (d : BitVec 128) (s : State), let l := 2 * port.val + u.engine.val
    unitDesc s port.val u = some d →
    tget 0 s.pce.linkBase l ≤ descAgent s d l u.bits → descAgent s d l u.bits < tget 0 s.pce.linkBase l + tget 0 s.pce.linkCount l →
    fld d 52 47 = 0 → tget none (linkAt s l).tags (unitBits u.bits (fld d 43 35) (fld d 34 31 + 1)) = none →
    decodeUnit s port.val u = raise (modLink s l (fun x => { x with stray := ctrInc x.stray })) (linkSrc l)) ∧
  (∀ (port : Fin 8) (u : MsgUnit) (d : BitVec 128) (i t g : Nat) (s : State), let l := 2 * port.val + u.engine.val
    let tag := unitBits u.bits (fld d 43 35) (fld d 34 31 + 1)
    unitDesc s port.val u = some d →
    tget 0 s.pce.linkBase l ≤ descAgent s d l u.bits → descAgent s d l u.bits < tget 0 s.pce.linkBase l + tget 0 s.pce.linkCount l →
    fld d 52 47 = 0 → fld d 15 14 = 0 → tget none (linkAt s l).tags tag = some (i, t, g) →
    decodeUnit s port.val u = inject (modLink s l (fun x => { x with
        tags := tset none x.tags tag none, waiting := x.waiting.filter (fun w => decide (w.1 ≠ tag)) }))
      (decodedPacket (portNode port.val) i 0 (unitHdr s port.val d u (some (t, g))) .rsp [])) ∧
  (∀ (b : Bank) (cls : Nat) (u : BitVec 512) (d : BitVec 128), findDesc b cls u = some d →
    ∃ i, i < 64 ∧ bkDesc b i = d ∧ descMatches d cls u = true ∧ ∀ j, j < i → descMatches (bkDesc b j) cls u = false)

/-- Commands of the slices: EVALUATE, CONTINUE_CHAIN, DIRECTORY_FETCH_COMPLETE, LOCK_QUEUE_HEAD, DELIVERY_REPORT, PARKED_REQUEST_SERVE,
EMISSION, ESCALATION_TIMEOUT, DROP_NOTICE (R113 to R116, R121, R125, R134, R137, R171). The evaluator takes nothing while its slice is
absent, its emission queue full or a CONTINUE chain under way. -/
def Obligations.SliceCommands : Prop :=
  (∀ (i : Fin 16) (m : SliceMsg) (s : State), (sliceAt s i.val).intake.find? (fun m => !intakeWaits s i.val m) = some m →
    sliceReady s i.val = true → chainPending s i.val = false →
    exec (.evaluate i) s =
      .next (handleMsg (modSlice s i.val (fun x => { x with intake := dropFirst x.intake m })) i.val m false)) ∧
  (∀ (i : Fin 16) (s : State), ((sliceAt s i.val).intake = [] ∨ sliceReady s i.val = false ∨ chainPending s i.val = true) →
    exec (.evaluate i) s = .next s) ∧
  (∀ (i : Fin 16) (t : Fin 1024) (s : State), (trkAt s i.val t.val).state = .eval → (trkAt s i.val t.val).chain.isSome = true →
    sliceReady s i.val = true → exec (.continueChain i t) s = .next (continueOn s i.val t.val)) ∧
  (∀ (i : Fin 16) (t : Fin 1024) (s : State),
    ((trkAt s i.val t.val).state ≠ .eval ∨ (trkAt s i.val t.val).chain = none ∨ sliceReady s i.val = false) →
    exec (.continueChain i t) s = .next s) ∧
  (∀ (i : Fin 16) (t : Fin 1024) (st : Byte) (m : SliceMsg) (h : Nat × HomeEnt) (s s1 : State), (trkAt s i.val t.val).state = .waitMem →
    sliceReady s i.val = true → chainPending s i.val = false →
    (trkAt s i.val t.val).msg = some m → homeFor s (trkAt s i.val t.val).line = some h →
    makeRoom s i.val (trkAt s i.val t.val).line = .ready s1 → dirCached s1 i.val (trkAt s i.val t.val).line = none →
    exec (.directoryFetchComplete i t st) s = .next (
      let s2 := placeEntry s1 i.val (trkAt s i.val t.val).line st.toNat h.2
      evalHere (modTrk s2 i.val t.val (fun y => { y with state := .eval })) (waitedEv s2 i.val t.val m))) ∧
  (∀ (i : Fin 16) (t : Fin 1024) (st : Byte) (m : SliceMsg) (h : Nat × HomeEnt) (s s1 : State), (trkAt s i.val t.val).state = .waitMem →
    sliceReady s i.val = true → chainPending s i.val = false →
    (trkAt s i.val t.val).msg = some m → homeFor s (trkAt s i.val t.val).line = some h →
    makeRoom s i.val (trkAt s i.val t.val).line = .wait s1 →
    exec (.directoryFetchComplete i t st) s = .next (roomWait s1 (waitedEv s1 i.val t.val m))) ∧
  (∀ (i : Fin 16) (t : Fin 1024) (st : Byte) (s : State),
    ((trkAt s i.val t.val).state ≠ .waitMem ∨ sliceReady s i.val = false ∨ chainPending s i.val = true) →
    exec (.directoryFetchComplete i t st) s = .next s) ∧
  (∀ (i : Fin 16) (t : Fin 1024) (m : SliceMsg) (s : State), (trkAt s i.val t.val).msg = some m → (trkAt s i.val t.val).state = .waitLock →
    hasAhead s i.val t.val = false →
    (lockHolder s i.val (trkAt s i.val t.val).line = none ∨ lockHolder s i.val (trkAt s i.val t.val).line = some t.val) →
    sliceReady s i.val = true → chainPending s i.val = false →
    exec (.lockQueueHead i t) s =
      .next (evalNew (modTrk s i.val t.val (fun y => { y with state := .eval, head := true })) (waitedEv s i.val t.val m))) ∧
  (∀ (i : Fin 16) (t : Fin 1024) (s : State), ((trkAt s i.val t.val).state ≠ .waitLock ∨ hasAhead s i.val t.val = true ∨
    (∃ k, k ≠ t.val ∧ lockHolder s i.val (trkAt s i.val t.val).line = some k) ∨ sliceReady s i.val = false ∨ chainPending s i.val = true) →
    exec (.lockQueueHead i t) s = .next s) ∧
  (∀ (i : Fin 16) (t : Fin 1024) (st : Byte) (s : State), 0 < (trkAt s i.val t.val).deliver →
    let s1 := modTrk s i.val t.val (fun y => { y with deliver := y.deliver - 1, pois := y.pois || decide (4 ≤ st.toNat ∧ st.toNat ≤ 6) })
    let x := trkAt s i.val t.val
    let last := x.deliver = 1 ∧ x.state = .waitDeliver ∧ (x.chainWait = false ∨ x.deliverChain = 0)
    (¬ last → exec (.deliveryReport i t st) s = .next s1) ∧
    (last → exec (.deliveryReport i t st) s = .next (releaseTrk s1 i.val t.val))) ∧
  (∀ (i : Fin 16) (t : Fin 1024) (st : Byte) (s : State), (trkAt s i.val t.val).deliver = 0 → 0 < (trkAt s i.val t.val).deliverChain →
    let s1 := modTrk s i.val t.val (fun y => { y with
      deliverChain := y.deliverChain - 1, pois := y.pois || decide (4 ≤ st.toNat ∧ st.toNat ≤ 6) })
    let x := trkAt s i.val t.val
    let last := x.state = .waitDeliver ∧ (x.chainWait = false ∨ x.deliverChain = 1)
    (¬ last → exec (.deliveryReport i t st) s = .next s1) ∧
    (last → exec (.deliveryReport i t st) s = .next (releaseTrk s1 i.val t.val))) ∧
  (∀ (i : Fin 16) (t : Fin 1024) (st : Byte) (s : State), (trkAt s i.val t.val).deliver = 0 → (trkAt s i.val t.val).deliverChain = 0 →
    exec (.deliveryReport i t st) s = .next s) ∧
  (∀ (i : Fin 16) (s : State), sliceReady s i.val = true → chainPending s i.val = false →
    exec (.parkedRequestServe i) s = .next (match (sliceAt s i.val).parked.find? (fun m => mayTake s i.val (mAgent m.hdr)) with
      | some m => handleMsg (modSlice s i.val (fun x => { x with parked := dropFirst x.parked m })) i.val m true
      | none => s)) ∧
  (∀ (i : Fin 16) (s : State), (sliceReady s i.val = false ∨ chainPending s i.val = true) →
    exec (.parkedRequestServe i) s = .next s) ∧
  (∀ (i : Fin 16) (s : State), s.silt.sink = true → exec (.emission i) s = .next s) ∧
  (∀ (i : Fin 16) (e f : Emit) (rest : List Emit) (s : State), s.silt.sink = false → (sliceAt s i.val).emits = e :: f :: rest →
    exec (.emission i) s =
      .next (refillEmits (sendEmit (sendEmit (modSlice s i.val (fun x => { x with emits := x.emits.drop 2 })) i.val e) i.val f) i.val)) ∧
  (∀ (i : Fin 16) (e : Emit) (s : State), s.silt.sink = false → (sliceAt s i.val).emits = [e] →
    exec (.emission i) s = .next (refillEmits (sendEmit (modSlice s i.val (fun x => { x with emits := x.emits.drop 2 })) i.val e) i.val)) ∧
  (∀ (i : Fin 16) (t : Fin 1024) (s : State), (trkAt s i.val t.val).state = .waitGrain →
    aEscTo (agentAt s ((trkAt s i.val t.val).agent.getD 0)) ≠ 15 →
    exec (.escalationTimeout i t) s = .next (escalationEnds s i.val t.val 0)) ∧
  (∀ (i : Fin 16) (t : Fin 1024) (s : State),
    ((trkAt s i.val t.val).state ≠ .waitGrain ∨ aEscTo (agentAt s ((trkAt s i.val t.val).agent.getD 0)) = 15) →
    exec (.escalationTimeout i t) s = .next s) ∧
  (∀ (i : Fin 16) (t : Fin 1024) (g : Fin 16) (st : Byte) (s : State), (trkAt s i.val t.val).state = .waitGrain →
    (trkAt s i.val t.val).gen = g.val → exec (.dropNotice i t g st) s = .next (escalationEnds s i.val t.val st.toNat)) ∧
  (∀ (i : Fin 16) (t : Fin 1024) (g : Fin 16) (st : Byte) (s : State),
    ((trkAt s i.val t.val).state ≠ .waitGrain ∨ (trkAt s i.val t.val).gen ≠ g.val) →
    exec (.dropNotice i t g st) s = .next (raise (modSlice s i.val (fun x => { x with stray := ctrInc x.stray })) (sliceSrc i.val)))

/-- The ports of NAUs: NAU_REQUEST, ANSWER_TIMEOUT, COHERENT_OUT, PRODUCER_GRAIN, SLOT_OPEN, SLOT_CLOSE, ENTRY_TAKE, DIRECTIVE_WRITE,
COHERENT_IN_ACCEPT (R152, R160, R162, R166, R189 to R193, R290 to R293, R318). An NAU whose ports are shut takes nothing at them; while
its plot is quiesced its coherent answers and its directives pass. That a stray directive raises its quarter's source is the model's own
choice (entry 232). -/
def Obligations.NauPorts : Prop :=
  (∀ (n : Fin 1024) (r : NauReq) (s : State), nauUp s n.val = true →
    exec (.nauRequest n r) s = .next (nauServe (modNau s n.val (fun u => { u with panic := r.panicIn, held := u.held ++ [(r, false)] })) n.val)) ∧
  (∀ (n : Fin 1024) (r : NauReq) (s : State), nauUp s n.val = false → exec (.nauRequest n r) s = .next s) ∧
  (∀ (n : Fin 1024) (tag k : Nat) (s : State), attOf n.val = .nau k → exec (.answerTimeout n tag) s = .next (nauTimeout s n.val tag)) ∧
  (∀ (n : Fin 1024) (tag i : Nat) (s : State), attOf n.val = .slice i → exec (.answerTimeout n tag) s = .next (sliceTimeout s i tag)) ∧
  (∀ (n : Fin 1024) (tag i : Nat) (s : State), attOf n.val = .nau i →
    (∀ q, q ∈ (nauAt s n.val).out → q.tag = tag → now s < q.sent + nauWait (nauAt s n.val)) →
    exec (.answerTimeout n tag) s = .next s) ∧
  (∀ (n : Fin 1024) (tag i : Nat) (s : State), attOf n.val = .slice i →
    (∀ q, q ∈ (sliceAt s i).outs → q.tag = tag → now s < q.sent + 1000000) →
    exec (.answerTimeout n tag) s = .next s) ∧
  (∀ (n : Fin 1024) (tag i : Nat) (s : State), attOf n.val = .port i →
    (∀ l, (l = 2 * i ∨ l = 2 * i + 1) → (∀ q, q ∈ (linkAt s l).cfgReqs → q.1 ≠ tag) ∨ now s < tget 0 (linkAt s l).cfgSent tag + 1000000) →
    exec (.answerTimeout n tag) s = .next s) ∧
  (∀ (n : Fin 1024) (tag i l : Nat) (q : Nat × Nat) (s : State), attOf n.val = .port i → (l = 2 * i ∨ l = 2 * i + 1) →
    q ∈ (linkAt s l).cfgReqs → q.1 = tag → tget 0 (linkAt s l).cfgSent tag + 1000000 ≤ now s →
    exec (.answerTimeout n tag) s = .next (cfgDoneAt s i tag none)) ∧
  (∀ (n : Fin 1024) (tag p lx : Nat) (s : State), attOf n.val = .front p lx →
    exec (.answerTimeout n tag) s = .next (fwdTimeout s n.val p lx tag)) ∧
  (∀ (n : Fin 1024) (tag : Nat) (s : State), attOf n.val = .cfgMgr → exec (.answerTimeout n tag) s = .next (modCfg s
    (fun c => { c with passed := c.passed.filter (fun x => !decide (x.1 = tag ∧ x.2 + 1000000 ≤ now s)) }))) ∧
  (∀ (n : Fin 1024) (h : BitVec 128) (data : Bytes) (s : State), nauUp s n.val = true → portsShut s n.val = false →
    (plotQuiesced s n.val = false ∨ mTrkV h = true) →
    exec (.coherentOut n h data) s = .next ((cfgAnswer s n.val h data).getD (coherentOut s n.val h data))) ∧
  (∀ (n : Fin 1024) (f : Fin 8192) (user : DWord) (pay : Option Line) (s : State), nauUp s n.val = true → portsHeld s n.val = false →
    (plotBlank s (plotOfNau s n.val) = true → exec (.producerGrain n f user pay) s = .next (portStatusSet s n.val 0x10)) ∧
    (plotBlank s (plotOfNau s n.val) = false → s.silt.sink = true → exec (.producerGrain n f user pay) s = .next (portStatusSet s n.val 0x11)) ∧
    (plotBlank s (plotOfNau s n.val) = false → s.silt.sink = false → (plotOfFlow s f.val ≠ plotOfNau s n.val ∨ flowCount s ≤ f.val) →
      exec (.producerGrain n f user pay) s = .next (portStatusSet s n.val 0x08)) ∧
    (plotBlank s (plotOfNau s n.val) = false → s.silt.sink = false → plotOfFlow s f.val = plotOfNau s n.val → f.val < flowCount s →
      exec (.producerGrain n f user pay) s =
        .next (sendCreate s n.val 64 0 f.val (BitVec.ofNat 256 (f.val * 2 ^ 243 + user.toNat)) pay))) ∧
  (∀ (n : Fin 1024) (i : Fin 256) (mask : DWord) (s : State), nauUp s n.val = true → portsHeld s n.val = false →
    slotHolder s (nodeDie n.val) i.val = some n.val →
    exec (.slotOpen n i mask) s = .next (portStatusSet (modEslot s (nodeDie n.val) i.val
      (fun x => { x with isOpen := true, closing := false, mask := mask })) n.val 0) ∧
    exec (.slotClose n i) s = .next (portStatusSet (closeSlot s (nodeDie n.val) i.val) n.val 0)) ∧
  (∀ (n : Fin 1024) (i : Fin 256) (mask : DWord) (s : State), nauUp s n.val = true → portsHeld s n.val = false →
    slotHolder s (nodeDie n.val) i.val ≠ some n.val →
    exec (.slotOpen n i mask) s = .next (portStatusSet s n.val 0x12) ∧ exec (.slotClose n i) s = .next (portStatusSet s n.val 0x12)) ∧
  (∀ (n : Fin 1024) (i : Fin 256) (e : Fin 3) (x : Entry) (s : State), nauUp s n.val = true → portsHeld s n.val = false →
    slotHolder s (nodeDie n.val) i.val = some n.val → entryAt s (nodeDie n.val) i.val e.val = some x → x.arrived = true →
    x.taken = false → e.val < slotEntries s →
    exec (.entryTake n i e) s = .next (setEntry s (nodeDie n.val) i.val e.val (some { x with taken := true }))) ∧
  (∀ (n : Fin 1024) (d : BitVec 128) (data : Option Line) (s : State), nauUp s n.val = true → portsShut s n.val = false →
    let h := heldDir (nauAt s n.val) d data
    (s.silt.sink = true → exec (.directiveWrite n d data) s = .next (portStatusSet s n.val 0x11)) ∧
    (s.silt.sink = false → dirNames s n.val d = false → exec (.directiveWrite n d data) s =
      .next (portStatusSet (raise (modQuarter s (nodeDie n.val) (fun q => { q with stray := ctrInc q.stray }))
        (160 * nodeDie n.val + 104)) n.val 0x12)) ∧
    (s.silt.sink = false → dirNames s n.val d = true → dirFree (nauAt s n.val) h = true →
      exec (.directiveWrite n d data) s = .next (directiveGo s n.val d data)) ∧
    (s.silt.sink = false → dirNames s n.val d = true → dirFree (nauAt s n.val) h = false →
      exec (.directiveWrite n d data) s = .next (modNau s n.val (fun u => { u with directives := u.directives ++ [h] })))) ∧
  (∀ (n : Fin 1024) (h : BitVec 128) (data : Bytes) (s : State), (nauUp s n.val = false ∨ portsShut s n.val = true ∨
    (plotQuiesced s n.val = true ∧ mTrkV h = false)) → exec (.coherentOut n h data) s = .next s) ∧
  (∀ (n : Fin 1024) (d : BitVec 128) (pay : Option Line) (f : Fin 8192) (user : DWord) (i : Fin 256)
    (e : Fin 3) (mask : DWord) (s : State), (nauUp s n.val = false ∨ portsHeld s n.val = true) →
    exec (.producerGrain n f user pay) s = .next s ∧ exec (.slotOpen n i mask) s = .next s ∧
    exec (.slotClose n i) s = .next s ∧ exec (.entryTake n i e) s = .next s ∧
    ((nauUp s n.val = false ∨ portsShut s n.val = true) → exec (.directiveWrite n d pay) s = .next s)) ∧
  (∀ (n : Fin 1024) (s : State), exec (.coherentInAccept n true) s = .next (modNau s n.val (fun u => { u with cohAns := u.cohAns.drop 1 }))) ∧
  (∀ (n : Fin 1024) (s : State), (nauAt s n.val).cohSnp = [] → exec (.coherentInAccept n false) s = .next s) ∧
  (∀ (n : Fin 1024) (q : Packet) (rest : List Packet) (s : State), (nauAt s n.val).cohSnp = q :: rest →
    exec (.coherentInAccept n false) s = .next (freeBuffer (modNau s n.val (fun u => { u with cohSnp := rest })) n.val q.cls))

/-- The dispatcher's own steps and the registers of NAUs: GRAIN_REFILL, SLOT_FILL, NAU_ERR_READ, NAU_CNT_CLR, NAU_RATE_WRITE,
NAU_REGULATOR_REFILL (R163, R168, R191, R193). -/
def Obligations.GrainsAndNauRegisters : Prop :=
  (∀ (p : Fin 4) (f : Nat) (s : State), quarterUp s p.val = true → (quarterAt s p.val).spillHigh ≤ (freeOnChip s p.val).length →
    refillPick s p.val = some f →
    exec (.grainRefill p) s = .next (refillGrains (modQuarter s p.val
      (fun q => { q with nextRefill := tset 0 q.nextRefill (flowAt s f).prio (f + 1) })) f 32 [] (flowAt s f).q)) ∧
  (∀ (p : Fin 4) (s : State), (quarterUp s p.val = false ∨ (freeOnChip s p.val).length < (quarterAt s p.val).spillHigh ∨
    refillPick s p.val = none) → exec (.grainRefill p) s = .next s) ∧
  (∀ (p : Fin 4) (i : Fin 256) (s : State), (slotHolder s p.val i.val = none ∨ freeEntry s p.val i.val = none ∨
    (eslotAt s p.val i.val).isOpen = false ∨ (eslotAt s p.val i.val).closing = true ∨ quarterUp s p.val = false ∨
    nextFill s p.val ≠ some i.val) →
    exec (.slotFill p i) s = .next s) ∧
  (∀ (p : Fin 4) (i : Fin 256) (node e prio c f : Nat) (g : Grain) (s : State),
    slotWork s p.val i.val = some (node, e, prio, c, f, g) → nextFill s p.val = some i.val →
    let s1 := modEslot s p.val i.val (fun x => { x with lastClass := tset 0 x.lastClass prio c })
    let s2 := modFlow s1 f (fun fl => { fl with
      q := dropFirst fl.q g, inflight := decide (fl.kind = 2), delivered := ctrInc fl.delivered })
    let s3 := setEntry s2 p.val i.val e (some { grain := g, arrived := false, taken := false, reporting := false })
    let s4 := modQuarter s3 p.val (fun q => { q with
      ready := q.ready.filter (fun r => decide (r.2.2.2 ≠ f)), nextSlot := (i.val + 1) % 256 })
    exec (.slotFill p i) s = .next (inject (refreshReady s4 f) (pushPacket p.val node g))) ∧
  (∀ (n : Fin 1024) (s : State), exec (.nauErrRead n) s = .next (modNau s n.val (fun u => { u with err := 0#9 }))) ∧
  (∀ (n : Fin 1024) (v : Word) (s : State), bitOf v 0 = true → exec (.nauCntClr n v) s = .next (modNau s n.val nauCntClear)) ∧
  (∀ (n : Fin 1024) (c : Cls) (v : Word) (s : State), exec (.nauRateWrite n c v) s = .next (modNau s n.val
    (fun u => { u with rates := tmod {} u.rates (clsCode c) (fun g => { reg := v, tokens := min g.tokens (rateBurst v) }) }))) ∧
  (∀ (n : Fin 1024) (s : State), exec (.nauRegulatorRefill n) s = .next (nauServe (offerHeld (modNau s n.val
    (fun u => { u with rates := [0, 1, 2, 3].foldl (fun t c => tmod {} t c rateRefill) u.rates })) n.val) n.val)) ∧
  (∀ g : Regul, (rateRefill g).reg = g.reg ∧ g.tokens ≤ (rateRefill g).tokens ∧
    (g.tokens ≤ rateBurst g.reg → (rateRefill g).tokens = min (g.tokens + fld g.reg 23 8) (rateBurst g.reg)))

/-- Die-link groups: DLINK_MARGIN_SAMPLE, PLANNED_SWAP_AUTO, LANE_CHECK, DLINK_FORWARDED_CLOCK_LOSS, TILTH_DETOUR (R211 to R215, R219, R221). A link that has failed
goes into the repair record before Tilth detours it. -/
def Obligations.DieLinkRepair : Prop :=
  (∀ (g : Fin 128) (margins : List (Byte × Byte)) (s : State), groupUp s g.val = true → (groupAt s g.val).trained = true →
    exec (.dlinkMarginSample g margins) s = .next ((margins.zipIdx).foldl
      (fun s x => if x.2 < 33 then sampleLane s g.val x.2 x.1.1.toNat x.1.2.toNat else s) s)) ∧
  (∀ (g : Fin 128) (margins : List (Byte × Byte)) (l : Fin 33) (bad : BitVec 33) (s : State),
    (groupUp s g.val = false ∨ (groupAt s g.val).trained = false → exec (.dlinkMarginSample g margins) s = .next s) ∧
    (groupUp s g.val = false ∨ (groupAt s g.val).state = .failed →
    exec (.plannedSwapAuto g l) s = .next s ∧ exec (.laneCheck g bad) s = .next s ∧
    exec (.dlinkForwardedClockLoss g) s = .next s)) ∧
  (∀ (g : Fin 128) (l : Fin 33) (s : State), groupUp s g.val = true → (groupAt s g.val).state ≠ .failed →
    (groupAt s g.val).spareFor = 0x3F → l.val < 32 → 3 ≤ tget 0 (groupAt s g.val).low l.val → bitOf (groupAt s g.val).oos l.val = false →
    policyReport s 0 = false → held s (.group g.val) = false → ohmyxRuns s = true →
    recordFree s = true →
    exec (.plannedSwapAuto g l) s =
      .next (newJob s ownSender opSwap [BitVec.ofNat 8 g.val, BitVec.ofNat 8 l.val, 0#8, 0#8] [(.group g.val, false)] 0).2) ∧
  (∀ (g : Fin 128) (bad : BitVec 33) (s : State), groupUp s g.val = true → (groupAt s g.val).state ≠ .failed →
    bad &&& ~~~(groupAt s g.val).oos = 0#33 →
    exec (.laneCheck g bad) s = .next (noFault (restartCount (modGroup s g.val (fun x => { x with checks := ctrInc x.checks })) g.val) g.val)) ∧
  (∀ (g : Fin 128) (bad : BitVec 33) (s : State), groupUp s g.val = true → (groupAt s g.val).state ≠ .failed →
    bad &&& ~~~(groupAt s g.val).oos ≠ 0#33 →
    exec (.laneCheck g bad) s =
      .next (groupLose (overtake (restartCount (modGroup s g.val (fun x => { x with checks := ctrInc x.checks })) g.val) g.val) g.val bad)) ∧
  (∀ (g : Fin 128) (s : State), groupUp s g.val = true → (groupAt s g.val).state ≠ .failed →
    exec (.dlinkForwardedClockLoss g) s = .next (groupTake (overtake s g.val) g.val (groupAt s g.val).oos
      (.failed, false, if bitOf (groupAt s g.val).oos 32 then 0x3E else 0x3F))) ∧
  (∀ (node : Fin 1024) (c : Fin 7) (s : State), let n := node.val / 2 * 2
    ohmyxRuns s = true → routerUp s n = true → (linkTo n c.val).isSome = true →
    (bitOf (routerAt s n).linkDown c.val = true ∨ 100 < (tget (0, 0) (routerAt s n).window c.val).2) →
    let s1 := if bitOf (routerAt s n).linkDown c.val then saveRepair s 2 (unitLink n 0 c.val) else s
    exec (.tilthDetour node c) s = .next (if 2 ≤ failedCount s n then (if bypassable n then detourRouter s1 n else routerFails s1 n)
      else detourLink s1 n c.val)) ∧
  (∀ (node : Fin 1024) (c : Fin 7) (s : State), let n := node.val / 2 * 2
    (ohmyxRuns s = false ∨ routerUp s n = false ∨ linkTo n c.val = none ∨
      (bitOf (routerAt s n).linkDown c.val = false ∧ (tget (0, 0) (routerAt s n).window c.val).2 ≤ 100)) →
    exec (.tilthDetour node c) s = .next s)

/-- The state a group takes for its lanes out of service (R214). A failed group stays FAILED and a halved one never leads back to SPARED
or FULL; no data lane out is FULL, one with the spare in service SPARED on that lane; otherwise HALF where a half has no lane out, or one
with the spare in service, and FAILED where neither half has. -/
def Obligations.GroupStates : Prop :=
  (∀ oos, (groupNext .failed oos).1 = .failed) ∧
  (∀ oos, (groupNext .half oos).1 = .half ∨ (groupNext .half oos).1 = .failed) ∧
  (∀ cur oos, (cur = .full ∨ cur = .spared) → (∀ l, l < 32 → bitOf oos l = false) → (groupNext cur oos).1 = .full) ∧
  (∀ cur oos l, (cur = .full ∨ cur = .spared) → l < 32 → bitOf oos l = true → (∀ k, k < 32 → k ≠ l → bitOf oos k = false) →
    bitOf oos 32 = false → (groupNext cur oos).1 = .spared ∧ (groupNext cur oos).2.2 = l) ∧
  (∀ cur oos l k, cur ≠ .failed → l < 16 → 16 ≤ k → k < 32 → bitOf oos l = true → bitOf oos k = true → bitOf oos 32 = true →
    (groupNext cur oos).1 = .failed) ∧
  (∀ cur oos l k, (cur = .full ∨ cur = .spared) → l < k → k < 16 → bitOf oos l = true → bitOf oos k = true →
    (∀ j, 16 ≤ j → j < 32 → bitOf oos j = false) → (groupNext cur oos).1 = .half ∧ (groupNext cur oos).2.1 = true)

/-- Repair of Kaolin and of the Peat store: ROW_SPARE_AUTO, PERIODIC_CALIBRATION, PATROL_READ, PATROL_LAP_END, FORCED_SWEEP, FORCED_SWEEP_END,
CHANNEL_STOPS_ANSWERING, BLOCK_RETIRE (R219, R223, R224, R242, R251, R259, R260, R267). -/
def Obligations.MemoryRepair : Prop :=
  (∀ (p : Fin 4) (c : Fin 17) (s : State), ohmyxRuns s = true → stackUp s p.val = true → stackQuiet s p.val = false →
    exec (.periodicCalibration p c true) s = .next (modChan s p.val c.val (fun x => { x with calFails := 0 }))) ∧
  (∀ (p : Fin 4) (c : Fin 17) (s : State), ohmyxRuns s = true → stackUp s p.val = true → stackQuiet s p.val = false →
    (chanAt s p.val c.val).calFails = 0 →
    exec (.periodicCalibration p c false) s = .next (report
      (modChan s p.val c.val (fun x => { x with calFails := 1, err := x.err ||| 0x40#8 }))
      { src := chanSrc p.val c.val, sev := sevInfo, cause := 0x20, sub := c.val, node := chanNode p.val c.val, info := 1 })) ∧
  (∀ (p : Fin 4) (c : Fin 17) (ok : Bool) (bank : Fin 32) (row : Fin 16384) (s : State),
    (ohmyxRuns s = false ∨ stackUp s p.val = false) →
    exec (.periodicCalibration p c ok) s = .next s ∧ exec (.patrolRead p c) s = .next s ∧ exec (.patrolLapEnd p c) s = .next s ∧
    exec (.rowSpareAuto p c bank row) s = .next s) ∧
  (∀ (p : Fin 4) (c : Fin 17) (ok : Bool) (bank : Fin 32) (row : Fin 16384) (s : State),
    (stackQuiet s p.val = true → exec (.periodicCalibration p c ok) s = .next s) ∧
    ((chanFuncs p.val c.val).any (quiescing s) = true →
      exec (.patrolRead p c) s = .next s ∧ exec (.patrolLapEnd p c) s = .next s) ∧
    (anyHeld s (chanFuncs p.val c.val) = true → exec (.rowSpareAuto p c bank row) s = .next s)) ∧
  (∀ (p : Fin 4) (c : Fin 17) (s : State), patrolRuns s p.val c.val = true → (chanAt s p.val c.val).patrolAt < 2 ^ 23 →
    let a := lineAddr p.val (chanLine (stackAt s p.val).order (logicalChan s p.val c.val) (chanAt s p.val c.val).patrolAt)
    ((granAt s a).sweep = none → scrubbing s a = false → exec (.patrolRead p c) s =
      .next (modChan (patrolLine s a).2 p.val c.val (fun x => { x with patrolAt := (chanAt s p.val c.val).patrolAt + 1 }))) ∧
    (((granAt s a).sweep ≠ none ∨ scrubbing s a = true) → exec (.patrolRead p c) s = .next s)) ∧
  (∀ (p : Fin 4) (c : Fin 17) (s : State), patrolRuns s p.val c.val = true → (chanAt s p.val c.val).patrolAt = 2 ^ 23 →
    ∃ t, exec (.patrolLapEnd p c) s = .next t ∧ (chanAt t p.val c.val).patrolAt = 0 ∧ (chanAt t p.val c.val).tracker = [] ∧
      (chanAt t p.val c.val).lapStart = now s ∧ (stackAt t p.val).lines = (stackAt s p.val).lines) ∧
  (∀ (p : Fin 4) (c : Fin 17) (b : Fin 32) (r : Fin 16384) (s : State), ohmyxRuns s = true → stackUp s p.val = true →
    anyHeld s (chanFuncs p.val c.val) = false →
    (∃ e, e ∈ (chanAt s p.val c.val).tracker ∧ e.1 = b.val * 16384 + r.val ∧ fld (chanAt s p.val c.val).rowSpare 6 0 ≤ e.2.length) →
    (policyReport s 3 = true → exec (.rowSpareAuto p c b r) s = .next (report s
      { src := chanSrc p.val c.val, sev := sevInfo, cause := 0x20, sub := c.val, node := chanNode p.val c.val, info := b.val * 16384 + r.val })) ∧
    (∀ t, policyReport s 3 = false → spareRow s p.val c.val b.val r.val = some t → exec (.rowSpareAuto p c b r) s = .next t)) ∧
  (∀ (p : Fin 4) (g : Fin 4096) (s : State), let e := tget {} (stackAt s p.val).granules g.val
    stackUp s p.val = true → 16384 ≤ e.unswept → e.sweep = none →
    exec (.forcedSweep p g) s = .next (modGran s p.val g.val (fun e => { e with sweep := some 0 }))) ∧
  (∀ (p : Fin 4) (g : Fin 4096) (s : State), let e := tget {} (stackAt s p.val).granules g.val
    (stackUp s p.val = false ∨ e.unswept < 16384 ∨ e.sweep ≠ none) → exec (.forcedSweep p g) s = .next s) ∧
  (∀ (p : Fin 4) (g : Fin 4096) (n : Nat) (s : State), (tget {} (stackAt s p.val).granules g.val).sweep = some n →
    exec (.forcedSweepEnd p g) s = .next (modGran (sweepGranule s p.val g.val) p.val g.val (fun e => { e with unswept := n, sweep := none }))) ∧
  (∀ (p : Fin 4) (g : Fin 4096) (s : State), (tget {} (stackAt s p.val).granules g.val).sweep = none →
    exec (.forcedSweepEnd p g) s = .next s) ∧
  (∀ (p : Fin 4) (c id : Nat) (j : Job) (s : State), (stackAt s p.val).copying = some c → holderOf s (.chan p.val c) = some id →
    jobAt s id = some j → j.stage ≠ 0 →
    exec (.channelStopsAnswering p) s = .next (
      let late := fun (l : Nat) => decide ((place (stackAt s p.val).order l).ch = c ∧ 2 ^ 23 ≤ chanIndex (stackAt s p.val).order l)
      let kept := (stackAt s p.val).both.filter late
      let s1 := modStack (freeValue s).2 p.val (fun k => { k with
        lines := k.lines.filter (fun kv => !late kv.1 || hasElem kept kv.1), lost := k.lost ++ [(c, 2 ^ 23)] })
      copyMove (report s1 { src := chanSrc p.val c, sev := sevContained, cause := 0x05, sub := c, node := chanNode p.val c, info := 0 })
        id j.op p.val c)) ∧
  (∀ (p : Fin 4) (s : State), (stackAt s p.val).copying = none → exec (.channelStopsAnswering p) s = .next s) ∧
  (∀ (b : Fin 8192) (s : State), (ohmyxRuns s = false ∨ blockDue s b.val = false) → exec (.blockRetire b) s = .next s) ∧
  (∀ (b : Fin 8192) (s : State), ohmyxRuns s = true → blockDue s b.val = true → 0 < s.peat.spares →
    ∃ t, exec (.blockRetire b) s = .next t ∧ t.peat.spares = s.peat.spares - 1 ∧ hasElem t.peat.retired b.val = true ∧
    tget none t.peat.map b.val = (if 8438 - s.peat.spares = b.val then none else some (8438 - s.peat.spares))) ∧
  (∀ (b : Fin 8192) (s : State), ohmyxRuns s = true → blockDue s b.val = true → s.peat.spares = 0 → s.peat.readOnly = true →
    exec (.blockRetire b) s = .next (modPeat s (fun x => { x with due := withElem x.due b.val }))) ∧
  (∀ (b : Fin 8192) (s : State), ohmyxRuns s = true → blockDue s b.val = true → s.peat.spares = 0 → s.peat.readOnly = false →
    exec (.blockRetire b) s = .next (report (modPeat s (fun x => { x with due := withElem x.due b.val, readOnly := true }))
      { src := srcPeat, sev := sevInfo, cause := 0x2B, node := peatNode, info := b.val }))
end

