-- ==== Sys2Proof/Laws/Kept.lean ====
section
/-! SUPPORT. What no operation of the model touches outside DMA: `kept`. One lemma per shared operation, in the order of the
model's files. -/

namespace Sys2Proof
namespace Machine

@[simp] theorem kept_modVault_of (s : State) (f : Vault → Vault) (h1 : (f s.vault).vendorRootHash = s.vault.vendorRootHash)
    (h2 : (f s.vault).serial = s.vault.serial) : kept (modVault s f) = kept s := by simp [kept, fixedPart, modVault, h1, h2]
@[simp] theorem kept_modSys_of (s : State) (f : Sys → Sys) (h : (f s.sys).part = s.sys.part) : kept (modSys s f) = kept s := by
  simp [kept, fixedPart, modSys, h]
@[simp] theorem kept_modMgmt (s : State) (f : Mgmt → Mgmt) : kept (modMgmt s f) = kept s := rfl
@[simp] theorem kept_modEvt (s : State) (f : Evt → Evt) : kept (modEvt s f) = kept s := rfl
@[simp] theorem kept_modDumps (s : State) (f : Dumps → Dumps) : kept (modDumps s f) = kept s := rfl
@[simp] theorem kept_modPce (s : State) (f : Pce → Pce) : kept (modPce s f) = kept s := rfl
@[simp] theorem kept_modSilt (s : State) (f : Silt → Silt) : kept (modSilt s f) = kept s := rfl
@[simp] theorem kept_modTilth (s : State) (f : Tilth → Tilth) : kept (modTilth s f) = kept s := rfl
@[simp] theorem kept_modPeat (s : State) (f : Peat → Peat) : kept (modPeat s f) = kept s := rfl
@[simp] theorem kept_modCfg (s : State) (f : Cfg → Cfg) : kept (modCfg s f) = kept s := rfl
@[simp] theorem kept_modDbg (s : State) (f : Dbg → Dbg) : kept (modDbg s f) = kept s := rfl
@[simp] theorem kept_modIo (s : State) (f : Io → Io) : kept (modIo s f) = kept s := rfl
@[simp] theorem kept_modFab (s : State) (f : Fab → Fab) : kept (modFab s f) = kept s := rfl
@[simp] theorem kept_modTele (s : State) (f : Tele → Tele) : kept (modTele s f) = kept s := rfl
@[simp] theorem kept_modPlot (s : State) (n : Nat) (f : Plot → Plot) : kept (modPlot s n f) = kept s := rfl
@[simp] theorem kept_modMbx (s : State) (n : Nat) (f : Mbx → Mbx) : kept (modMbx s n f) = kept s := rfl
@[simp] theorem kept_modFn (s : State) (n : Nat) (f : Fn → Fn) : kept (modFn s n f) = kept s := rfl
@[simp] theorem kept_modFlow (s : State) (n : Nat) (f : Flow → Flow) : kept (modFlow s n f) = kept s := rfl
@[simp] theorem kept_modQuarter (s : State) (n : Nat) (f : Quarter → Quarter) : kept (modQuarter s n f) = kept s := rfl
@[simp] theorem kept_modStack (s : State) (n : Nat) (f : Stack → Stack) : kept (modStack s n f) = kept s := rfl
@[simp] theorem kept_setKstacks (s : State) (k : Tbl Stack) : kept { s with kstacks := k } = kept s := rfl
@[simp] theorem kept_setMgmt (s : State) (k : Mgmt) : kept { s with mgmt := k } = kept s := rfl
@[simp] theorem kept_setPlots (s : State) (k : Tbl Plot) : kept { s with plots := k } = kept s := rfl
@[simp] theorem kept_setMbxs (s : State) (k : Tbl Mbx) : kept { s with mbxs := k } = kept s := rfl
@[simp] theorem kept_setFns (s : State) (k : Tbl Fn) : kept { s with fns := k } = kept s := rfl
@[simp] theorem kept_setQuarters (s : State) (k : Tbl Quarter) : kept { s with quarters := k } = kept s := rfl
@[simp] theorem kept_setFlows (s : State) (k : Tbl Flow) : kept { s with flows := k } = kept s := rfl

/-- What a command answers keeps what `kept` names. -/
def keptOut (s : State) : Host.Outcome State Fault Refusal → Prop
  | .next t => kept t = kept s
  | _ => True

@[simp] theorem keptOut_next (s t : State) : keptOut s (.next t) ↔ kept t = kept s := Iff.rfl

theorem kept_foldl {α : Type} (f : State → α → State) (h : ∀ s x, kept (f s x) = kept s) :
    ∀ (l : List α) (s : State), kept (l.foldl f s) = kept s
  | [], _ => rfl
  | x :: l, s => by rw [List.foldl_cons, kept_foldl f h l (f s x), h]

theorem kept_foldl_snd {α β : Type} (f : β × State → α → β × State) (h : ∀ r x, kept (f r x).2 = kept r.2) :
    ∀ (l : List α) (r : β × State), kept (l.foldl f r).2 = kept r.2
  | [], _ => rfl
  | x :: l, r => by rw [List.foldl_cons, kept_foldl_snd f h l (f r x), h]

/-! ## The Peat store when power is lost -/

/-- Power loss leaves all but the Peat store as it is, free values drawn apart (R265). -/
theorem sysCut_sys (s : State) : (sysCut s).sys = s.sys := rfl

/-- A page that was being written changes nothing of the system's own part. -/
theorem pageCut_sys (s : State) (l : List Nat) : (pageCut s l).sys = s.sys := rfl

/-- What power loss does to the Peat store leaves rails, phase and pins to the reset that follows. -/
theorem peatCut_sys (s : State) : (peatCut s).sys = s.sys := by
  unfold peatCut
  rw [← sysCut_sys s]
  generalize sysCut s = t
  generalize openJobs s = l
  induction l generalizing t with
  | nil => rfl
  | cons a l ih =>
    rw [List.foldl_cons, ih]
    split
    · split
      · rfl
      · exact pageCut_sys _ _
    · rfl

end Machine
end Sys2Proof
end

