-- ==== Sys2Proof/Laws/Mbx.lean ====
section
/-! SUPPORT. What carrying a mailbox command does, said once: from a command's body to its statement. -/

namespace Sys2Proof
namespace Machine

/-- An admitted command runs its body, and its slot takes the answer. -/
theorem runCmd_of_mayRun {k : CmdSpec} {s : State} {m : Fin 24} {i : Fin 8} {p : Bytes} (h : mayRun k s m i p = true) :
    runCmd k m.val i.val p s =
      reply (k.body (asker s m i) p (running s m.val i.val)).2 m.val i.val k.op (k.body (asker s m i) p (running s m.val i.val)).1 := by
  simp only [mayRun, Bool.and_eq_true, decide_eq_true_eq, Option.isNone_iff_eq_none] at h
  obtain ⟨⟨⟨⟨⟨hs, hm⟩, hg⟩, h1⟩, h2⟩, h3⟩ := h
  have h1' : groupOk { gateWho s (whoOf s m.val i.val) with consume := hdrConsume s m.val i.val } k.op = true := h1
  have h2' : horizonOk k { gateWho s (whoOf s m.val i.val) with consume := hdrConsume s m.val i.val } = true := h2
  simp [runCmd, hs, Nat.not_lt.mpr hm, hg, runBody, h1', h2', h3, asker]

/-- A row whose meaning carries a command answers as its body does. -/
theorem answers_of {row : Fin 24 → Fin 8 → Bytes → Instr} {k : CmdSpec} {checks : Who → Bytes → State → Option Ans}
    {e : Who → Bytes → State → Ans × State}
    (hx : ∀ m i p s, exec (row m i p) s = .next (runCmd k m.val i.val p s))
    (hb : ∀ w p s, checks w p s = none → k.body w p s = e w p s) : Answers row k checks e := by
  intro s m i p h hc
  rw [hx, runCmd_of_mayRun h, hb _ _ _ hc]

/-- A row whose body refuses where its checks do changes nothing else. -/
theorem refuses_of {row : Fin 24 → Fin 8 → Bytes → Instr} {k : CmdSpec} {checks : Who → Bytes → State → Option Ans}
    (hx : ∀ m i p s, exec (row m i p) s = .next (runCmd k m.val i.val p s))
    (hb : ∀ w p s a, checks w p s = some a → k.body w p s = (a, s)) : Refuses row k checks := by
  intro s m i p a h hc
  rw [hx, runCmd_of_mayRun h, hb _ _ _ _ hc]

/-- Taking a slot leaves Ohmyx's tables as they are. -/
theorem running_mgmt (s : State) (m i : Nat) : (running s m i).mgmt = s.mgmt := by
  unfold running; split <;> rfl

/-- Where fewer than 32 jobs are open and a record is free, a job starts over whatever holds its functions. -/
theorem startJobOver_of_record {s : State} {w : Who} {op : Nat} {p : Bytes} {fs : List (Func × Bool)} (h : recordFree s = true) :
    startJobOver s w op p fs 0 = ({ status := stJob, job := s.mgmt.nextJob }, jobStarted s w op p fs) := by
  unfold startJobOver
  rw [if_neg (by simp [h])]
  simp only [recordFree, Bool.and_eq_true, Bool.or_eq_true, decide_eq_true_eq] at h
  by_cases h4 : s.mgmt.jobs.length < 256
  · simp [jobStarted, newJob, h4, Nat.not_le.mpr h4, modMgmt, nextId]
  · obtain ⟨o, ho⟩ := Option.isSome_iff_exists.mp (h.2.resolve_left h4)
    simp [jobStarted, newJob, recordToReuse, ho, h4, Nat.not_lt.mp h4, modMgmt, nextId]

/-- Where a job may start, it starts. -/
theorem startJob_of_room {s : State} {w : Who} {op : Nat} {p : Bytes} {fs : List (Func × Bool)} (h : jobRoom s fs = true) :
    startJob s w op p fs 0 = ({ status := stJob, job := s.mgmt.nextJob }, jobStarted s w op p fs) := by
  simp only [jobRoom, Bool.and_eq_true, Bool.not_eq_true'] at h
  unfold startJob
  rw [if_neg (by simp [h.1])]
  exact startJobOver_of_record h.2

/-- A row whose body starts a job. -/
theorem startsJob_of {row : Fin 24 → Fin 8 → Bytes → Instr} {k : CmdSpec} {checks : Who → Bytes → State → Option Ans}
    {fs : Who → Bytes → State → List (Func × Bool)}
    (hx : ∀ m i p s, exec (row m i p) s = .next (runCmd k m.val i.val p s))
    (hb : ∀ w p s, checks w p s = none → k.body w p s = startJob s w k.op p (fs w p s) 0) : StartsJob row k checks fs := by
  intro s m i p h hc hr
  rw [hx, runCmd_of_mayRun h, hb _ _ _ hc, startJob_of_room hr, running_mgmt]

end Machine
end Sys2Proof
end

