-- ==== Sys2Proof/Laws/State.lean ====
section
/-! SUPPORT. One lemma per field of State and per update: the field an update names takes the new value, every other field
stays. -/

namespace Sys2Proof
namespace Machine

/-! ## modSys -/

@[simp] theorem modSys_pending (s : State) (f : Sys → Sys) : (modSys s f).pending = s.pending := rfl
@[simp] theorem modSys_sys (s : State) (f : Sys → Sys) : (modSys s f).sys = f s.sys := rfl
@[simp] theorem modSys_vault (s : State) (f : Sys → Sys) : (modSys s f).vault = s.vault := rfl
@[simp] theorem modSys_plots (s : State) (f : Sys → Sys) : (modSys s f).plots = s.plots := rfl
@[simp] theorem modSys_mbxs (s : State) (f : Sys → Sys) : (modSys s f).mbxs = s.mbxs := rfl
@[simp] theorem modSys_fns (s : State) (f : Sys → Sys) : (modSys s f).fns = s.fns := rfl
@[simp] theorem modSys_mgmt (s : State) (f : Sys → Sys) : (modSys s f).mgmt = s.mgmt := rfl
@[simp] theorem modSys_evt (s : State) (f : Sys → Sys) : (modSys s f).evt = s.evt := rfl
@[simp] theorem modSys_dumps (s : State) (f : Sys → Sys) : (modSys s f).dumps = s.dumps := rfl
@[simp] theorem modSys_pce (s : State) (f : Sys → Sys) : (modSys s f).pce = s.pce := rfl
@[simp] theorem modSys_flows (s : State) (f : Sys → Sys) : (modSys s f).flows = s.flows := rfl
@[simp] theorem modSys_quarters (s : State) (f : Sys → Sys) : (modSys s f).quarters = s.quarters := rfl
@[simp] theorem modSys_silt (s : State) (f : Sys → Sys) : (modSys s f).silt = s.silt := rfl
@[simp] theorem modSys_tilth (s : State) (f : Sys → Sys) : (modSys s f).tilth = s.tilth := rfl
@[simp] theorem modSys_kstacks (s : State) (f : Sys → Sys) : (modSys s f).kstacks = s.kstacks := rfl
@[simp] theorem modSys_peat (s : State) (f : Sys → Sys) : (modSys s f).peat = s.peat := rfl
@[simp] theorem modSys_cfg (s : State) (f : Sys → Sys) : (modSys s f).cfg = s.cfg := rfl
@[simp] theorem modSys_dbg (s : State) (f : Sys → Sys) : (modSys s f).dbg = s.dbg := rfl
@[simp] theorem modSys_io (s : State) (f : Sys → Sys) : (modSys s f).io = s.io := rfl
@[simp] theorem modSys_fab (s : State) (f : Sys → Sys) : (modSys s f).fab = s.fab := rfl
@[simp] theorem modSys_tele (s : State) (f : Sys → Sys) : (modSys s f).tele = s.tele := rfl
@[simp] theorem modSys_host (s : State) (f : Sys → Sys) : (modSys s f).host = s.host := rfl

/-! ## modVault -/

@[simp] theorem modVault_pending (s : State) (f : Vault → Vault) : (modVault s f).pending = s.pending := rfl
@[simp] theorem modVault_sys (s : State) (f : Vault → Vault) : (modVault s f).sys = s.sys := rfl
@[simp] theorem modVault_vault (s : State) (f : Vault → Vault) : (modVault s f).vault = f s.vault := rfl
@[simp] theorem modVault_plots (s : State) (f : Vault → Vault) : (modVault s f).plots = s.plots := rfl
@[simp] theorem modVault_mbxs (s : State) (f : Vault → Vault) : (modVault s f).mbxs = s.mbxs := rfl
@[simp] theorem modVault_fns (s : State) (f : Vault → Vault) : (modVault s f).fns = s.fns := rfl
@[simp] theorem modVault_mgmt (s : State) (f : Vault → Vault) : (modVault s f).mgmt = s.mgmt := rfl
@[simp] theorem modVault_evt (s : State) (f : Vault → Vault) : (modVault s f).evt = s.evt := rfl
@[simp] theorem modVault_dumps (s : State) (f : Vault → Vault) : (modVault s f).dumps = s.dumps := rfl
@[simp] theorem modVault_pce (s : State) (f : Vault → Vault) : (modVault s f).pce = s.pce := rfl
@[simp] theorem modVault_flows (s : State) (f : Vault → Vault) : (modVault s f).flows = s.flows := rfl
@[simp] theorem modVault_quarters (s : State) (f : Vault → Vault) : (modVault s f).quarters = s.quarters := rfl
@[simp] theorem modVault_silt (s : State) (f : Vault → Vault) : (modVault s f).silt = s.silt := rfl
@[simp] theorem modVault_tilth (s : State) (f : Vault → Vault) : (modVault s f).tilth = s.tilth := rfl
@[simp] theorem modVault_kstacks (s : State) (f : Vault → Vault) : (modVault s f).kstacks = s.kstacks := rfl
@[simp] theorem modVault_peat (s : State) (f : Vault → Vault) : (modVault s f).peat = s.peat := rfl
@[simp] theorem modVault_cfg (s : State) (f : Vault → Vault) : (modVault s f).cfg = s.cfg := rfl
@[simp] theorem modVault_dbg (s : State) (f : Vault → Vault) : (modVault s f).dbg = s.dbg := rfl
@[simp] theorem modVault_io (s : State) (f : Vault → Vault) : (modVault s f).io = s.io := rfl
@[simp] theorem modVault_fab (s : State) (f : Vault → Vault) : (modVault s f).fab = s.fab := rfl
@[simp] theorem modVault_tele (s : State) (f : Vault → Vault) : (modVault s f).tele = s.tele := rfl
@[simp] theorem modVault_host (s : State) (f : Vault → Vault) : (modVault s f).host = s.host := rfl

/-! ## modMgmt -/

@[simp] theorem modMgmt_pending (s : State) (f : Mgmt → Mgmt) : (modMgmt s f).pending = s.pending := rfl
@[simp] theorem modMgmt_sys (s : State) (f : Mgmt → Mgmt) : (modMgmt s f).sys = s.sys := rfl
@[simp] theorem modMgmt_vault (s : State) (f : Mgmt → Mgmt) : (modMgmt s f).vault = s.vault := rfl
@[simp] theorem modMgmt_plots (s : State) (f : Mgmt → Mgmt) : (modMgmt s f).plots = s.plots := rfl
@[simp] theorem modMgmt_mbxs (s : State) (f : Mgmt → Mgmt) : (modMgmt s f).mbxs = s.mbxs := rfl
@[simp] theorem modMgmt_fns (s : State) (f : Mgmt → Mgmt) : (modMgmt s f).fns = s.fns := rfl
@[simp] theorem modMgmt_mgmt (s : State) (f : Mgmt → Mgmt) : (modMgmt s f).mgmt = f s.mgmt := rfl
@[simp] theorem modMgmt_evt (s : State) (f : Mgmt → Mgmt) : (modMgmt s f).evt = s.evt := rfl
@[simp] theorem modMgmt_dumps (s : State) (f : Mgmt → Mgmt) : (modMgmt s f).dumps = s.dumps := rfl
@[simp] theorem modMgmt_pce (s : State) (f : Mgmt → Mgmt) : (modMgmt s f).pce = s.pce := rfl
@[simp] theorem modMgmt_flows (s : State) (f : Mgmt → Mgmt) : (modMgmt s f).flows = s.flows := rfl
@[simp] theorem modMgmt_quarters (s : State) (f : Mgmt → Mgmt) : (modMgmt s f).quarters = s.quarters := rfl
@[simp] theorem modMgmt_silt (s : State) (f : Mgmt → Mgmt) : (modMgmt s f).silt = s.silt := rfl
@[simp] theorem modMgmt_tilth (s : State) (f : Mgmt → Mgmt) : (modMgmt s f).tilth = s.tilth := rfl
@[simp] theorem modMgmt_kstacks (s : State) (f : Mgmt → Mgmt) : (modMgmt s f).kstacks = s.kstacks := rfl
@[simp] theorem modMgmt_peat (s : State) (f : Mgmt → Mgmt) : (modMgmt s f).peat = s.peat := rfl
@[simp] theorem modMgmt_cfg (s : State) (f : Mgmt → Mgmt) : (modMgmt s f).cfg = s.cfg := rfl
@[simp] theorem modMgmt_dbg (s : State) (f : Mgmt → Mgmt) : (modMgmt s f).dbg = s.dbg := rfl
@[simp] theorem modMgmt_io (s : State) (f : Mgmt → Mgmt) : (modMgmt s f).io = s.io := rfl
@[simp] theorem modMgmt_fab (s : State) (f : Mgmt → Mgmt) : (modMgmt s f).fab = s.fab := rfl
@[simp] theorem modMgmt_tele (s : State) (f : Mgmt → Mgmt) : (modMgmt s f).tele = s.tele := rfl
@[simp] theorem modMgmt_host (s : State) (f : Mgmt → Mgmt) : (modMgmt s f).host = s.host := rfl

/-! ## modEvt -/

@[simp] theorem modEvt_pending (s : State) (f : Evt → Evt) : (modEvt s f).pending = s.pending := rfl
@[simp] theorem modEvt_sys (s : State) (f : Evt → Evt) : (modEvt s f).sys = s.sys := rfl
@[simp] theorem modEvt_vault (s : State) (f : Evt → Evt) : (modEvt s f).vault = s.vault := rfl
@[simp] theorem modEvt_plots (s : State) (f : Evt → Evt) : (modEvt s f).plots = s.plots := rfl
@[simp] theorem modEvt_mbxs (s : State) (f : Evt → Evt) : (modEvt s f).mbxs = s.mbxs := rfl
@[simp] theorem modEvt_fns (s : State) (f : Evt → Evt) : (modEvt s f).fns = s.fns := rfl
@[simp] theorem modEvt_mgmt (s : State) (f : Evt → Evt) : (modEvt s f).mgmt = s.mgmt := rfl
@[simp] theorem modEvt_evt (s : State) (f : Evt → Evt) : (modEvt s f).evt = f s.evt := rfl
@[simp] theorem modEvt_dumps (s : State) (f : Evt → Evt) : (modEvt s f).dumps = s.dumps := rfl
@[simp] theorem modEvt_pce (s : State) (f : Evt → Evt) : (modEvt s f).pce = s.pce := rfl
@[simp] theorem modEvt_flows (s : State) (f : Evt → Evt) : (modEvt s f).flows = s.flows := rfl
@[simp] theorem modEvt_quarters (s : State) (f : Evt → Evt) : (modEvt s f).quarters = s.quarters := rfl
@[simp] theorem modEvt_silt (s : State) (f : Evt → Evt) : (modEvt s f).silt = s.silt := rfl
@[simp] theorem modEvt_tilth (s : State) (f : Evt → Evt) : (modEvt s f).tilth = s.tilth := rfl
@[simp] theorem modEvt_kstacks (s : State) (f : Evt → Evt) : (modEvt s f).kstacks = s.kstacks := rfl
@[simp] theorem modEvt_peat (s : State) (f : Evt → Evt) : (modEvt s f).peat = s.peat := rfl
@[simp] theorem modEvt_cfg (s : State) (f : Evt → Evt) : (modEvt s f).cfg = s.cfg := rfl
@[simp] theorem modEvt_dbg (s : State) (f : Evt → Evt) : (modEvt s f).dbg = s.dbg := rfl
@[simp] theorem modEvt_io (s : State) (f : Evt → Evt) : (modEvt s f).io = s.io := rfl
@[simp] theorem modEvt_fab (s : State) (f : Evt → Evt) : (modEvt s f).fab = s.fab := rfl
@[simp] theorem modEvt_tele (s : State) (f : Evt → Evt) : (modEvt s f).tele = s.tele := rfl
@[simp] theorem modEvt_host (s : State) (f : Evt → Evt) : (modEvt s f).host = s.host := rfl

/-! ## modDumps -/

@[simp] theorem modDumps_pending (s : State) (f : Dumps → Dumps) : (modDumps s f).pending = s.pending := rfl
@[simp] theorem modDumps_sys (s : State) (f : Dumps → Dumps) : (modDumps s f).sys = s.sys := rfl
@[simp] theorem modDumps_vault (s : State) (f : Dumps → Dumps) : (modDumps s f).vault = s.vault := rfl
@[simp] theorem modDumps_plots (s : State) (f : Dumps → Dumps) : (modDumps s f).plots = s.plots := rfl
@[simp] theorem modDumps_mbxs (s : State) (f : Dumps → Dumps) : (modDumps s f).mbxs = s.mbxs := rfl
@[simp] theorem modDumps_fns (s : State) (f : Dumps → Dumps) : (modDumps s f).fns = s.fns := rfl
@[simp] theorem modDumps_mgmt (s : State) (f : Dumps → Dumps) : (modDumps s f).mgmt = s.mgmt := rfl
@[simp] theorem modDumps_evt (s : State) (f : Dumps → Dumps) : (modDumps s f).evt = s.evt := rfl
@[simp] theorem modDumps_dumps (s : State) (f : Dumps → Dumps) : (modDumps s f).dumps = f s.dumps := rfl
@[simp] theorem modDumps_pce (s : State) (f : Dumps → Dumps) : (modDumps s f).pce = s.pce := rfl
@[simp] theorem modDumps_flows (s : State) (f : Dumps → Dumps) : (modDumps s f).flows = s.flows := rfl
@[simp] theorem modDumps_quarters (s : State) (f : Dumps → Dumps) : (modDumps s f).quarters = s.quarters := rfl
@[simp] theorem modDumps_silt (s : State) (f : Dumps → Dumps) : (modDumps s f).silt = s.silt := rfl
@[simp] theorem modDumps_tilth (s : State) (f : Dumps → Dumps) : (modDumps s f).tilth = s.tilth := rfl
@[simp] theorem modDumps_kstacks (s : State) (f : Dumps → Dumps) : (modDumps s f).kstacks = s.kstacks := rfl
@[simp] theorem modDumps_peat (s : State) (f : Dumps → Dumps) : (modDumps s f).peat = s.peat := rfl
@[simp] theorem modDumps_cfg (s : State) (f : Dumps → Dumps) : (modDumps s f).cfg = s.cfg := rfl
@[simp] theorem modDumps_dbg (s : State) (f : Dumps → Dumps) : (modDumps s f).dbg = s.dbg := rfl
@[simp] theorem modDumps_io (s : State) (f : Dumps → Dumps) : (modDumps s f).io = s.io := rfl
@[simp] theorem modDumps_fab (s : State) (f : Dumps → Dumps) : (modDumps s f).fab = s.fab := rfl
@[simp] theorem modDumps_tele (s : State) (f : Dumps → Dumps) : (modDumps s f).tele = s.tele := rfl
@[simp] theorem modDumps_host (s : State) (f : Dumps → Dumps) : (modDumps s f).host = s.host := rfl

/-! ## modPce -/

@[simp] theorem modPce_pending (s : State) (f : Pce → Pce) : (modPce s f).pending = s.pending := rfl
@[simp] theorem modPce_sys (s : State) (f : Pce → Pce) : (modPce s f).sys = s.sys := rfl
@[simp] theorem modPce_vault (s : State) (f : Pce → Pce) : (modPce s f).vault = s.vault := rfl
@[simp] theorem modPce_plots (s : State) (f : Pce → Pce) : (modPce s f).plots = s.plots := rfl
@[simp] theorem modPce_mbxs (s : State) (f : Pce → Pce) : (modPce s f).mbxs = s.mbxs := rfl
@[simp] theorem modPce_fns (s : State) (f : Pce → Pce) : (modPce s f).fns = s.fns := rfl
@[simp] theorem modPce_mgmt (s : State) (f : Pce → Pce) : (modPce s f).mgmt = s.mgmt := rfl
@[simp] theorem modPce_evt (s : State) (f : Pce → Pce) : (modPce s f).evt = s.evt := rfl
@[simp] theorem modPce_dumps (s : State) (f : Pce → Pce) : (modPce s f).dumps = s.dumps := rfl
@[simp] theorem modPce_pce (s : State) (f : Pce → Pce) : (modPce s f).pce = f s.pce := rfl
@[simp] theorem modPce_flows (s : State) (f : Pce → Pce) : (modPce s f).flows = s.flows := rfl
@[simp] theorem modPce_quarters (s : State) (f : Pce → Pce) : (modPce s f).quarters = s.quarters := rfl
@[simp] theorem modPce_silt (s : State) (f : Pce → Pce) : (modPce s f).silt = s.silt := rfl
@[simp] theorem modPce_tilth (s : State) (f : Pce → Pce) : (modPce s f).tilth = s.tilth := rfl
@[simp] theorem modPce_kstacks (s : State) (f : Pce → Pce) : (modPce s f).kstacks = s.kstacks := rfl
@[simp] theorem modPce_peat (s : State) (f : Pce → Pce) : (modPce s f).peat = s.peat := rfl
@[simp] theorem modPce_cfg (s : State) (f : Pce → Pce) : (modPce s f).cfg = s.cfg := rfl
@[simp] theorem modPce_dbg (s : State) (f : Pce → Pce) : (modPce s f).dbg = s.dbg := rfl
@[simp] theorem modPce_io (s : State) (f : Pce → Pce) : (modPce s f).io = s.io := rfl
@[simp] theorem modPce_fab (s : State) (f : Pce → Pce) : (modPce s f).fab = s.fab := rfl
@[simp] theorem modPce_tele (s : State) (f : Pce → Pce) : (modPce s f).tele = s.tele := rfl
@[simp] theorem modPce_host (s : State) (f : Pce → Pce) : (modPce s f).host = s.host := rfl

/-! ## modSilt -/

@[simp] theorem modSilt_pending (s : State) (f : Silt → Silt) : (modSilt s f).pending = s.pending := rfl
@[simp] theorem modSilt_sys (s : State) (f : Silt → Silt) : (modSilt s f).sys = s.sys := rfl
@[simp] theorem modSilt_vault (s : State) (f : Silt → Silt) : (modSilt s f).vault = s.vault := rfl
@[simp] theorem modSilt_plots (s : State) (f : Silt → Silt) : (modSilt s f).plots = s.plots := rfl
@[simp] theorem modSilt_mbxs (s : State) (f : Silt → Silt) : (modSilt s f).mbxs = s.mbxs := rfl
@[simp] theorem modSilt_fns (s : State) (f : Silt → Silt) : (modSilt s f).fns = s.fns := rfl
@[simp] theorem modSilt_mgmt (s : State) (f : Silt → Silt) : (modSilt s f).mgmt = s.mgmt := rfl
@[simp] theorem modSilt_evt (s : State) (f : Silt → Silt) : (modSilt s f).evt = s.evt := rfl
@[simp] theorem modSilt_dumps (s : State) (f : Silt → Silt) : (modSilt s f).dumps = s.dumps := rfl
@[simp] theorem modSilt_pce (s : State) (f : Silt → Silt) : (modSilt s f).pce = s.pce := rfl
@[simp] theorem modSilt_flows (s : State) (f : Silt → Silt) : (modSilt s f).flows = s.flows := rfl
@[simp] theorem modSilt_quarters (s : State) (f : Silt → Silt) : (modSilt s f).quarters = s.quarters := rfl
@[simp] theorem modSilt_silt (s : State) (f : Silt → Silt) : (modSilt s f).silt = f s.silt := rfl
@[simp] theorem modSilt_tilth (s : State) (f : Silt → Silt) : (modSilt s f).tilth = s.tilth := rfl
@[simp] theorem modSilt_kstacks (s : State) (f : Silt → Silt) : (modSilt s f).kstacks = s.kstacks := rfl
@[simp] theorem modSilt_peat (s : State) (f : Silt → Silt) : (modSilt s f).peat = s.peat := rfl
@[simp] theorem modSilt_cfg (s : State) (f : Silt → Silt) : (modSilt s f).cfg = s.cfg := rfl
@[simp] theorem modSilt_dbg (s : State) (f : Silt → Silt) : (modSilt s f).dbg = s.dbg := rfl
@[simp] theorem modSilt_io (s : State) (f : Silt → Silt) : (modSilt s f).io = s.io := rfl
@[simp] theorem modSilt_fab (s : State) (f : Silt → Silt) : (modSilt s f).fab = s.fab := rfl
@[simp] theorem modSilt_tele (s : State) (f : Silt → Silt) : (modSilt s f).tele = s.tele := rfl
@[simp] theorem modSilt_host (s : State) (f : Silt → Silt) : (modSilt s f).host = s.host := rfl

/-! ## modTilth -/

@[simp] theorem modTilth_pending (s : State) (f : Tilth → Tilth) : (modTilth s f).pending = s.pending := rfl
@[simp] theorem modTilth_sys (s : State) (f : Tilth → Tilth) : (modTilth s f).sys = s.sys := rfl
@[simp] theorem modTilth_vault (s : State) (f : Tilth → Tilth) : (modTilth s f).vault = s.vault := rfl
@[simp] theorem modTilth_plots (s : State) (f : Tilth → Tilth) : (modTilth s f).plots = s.plots := rfl
@[simp] theorem modTilth_mbxs (s : State) (f : Tilth → Tilth) : (modTilth s f).mbxs = s.mbxs := rfl
@[simp] theorem modTilth_fns (s : State) (f : Tilth → Tilth) : (modTilth s f).fns = s.fns := rfl
@[simp] theorem modTilth_mgmt (s : State) (f : Tilth → Tilth) : (modTilth s f).mgmt = s.mgmt := rfl
@[simp] theorem modTilth_evt (s : State) (f : Tilth → Tilth) : (modTilth s f).evt = s.evt := rfl
@[simp] theorem modTilth_dumps (s : State) (f : Tilth → Tilth) : (modTilth s f).dumps = s.dumps := rfl
@[simp] theorem modTilth_pce (s : State) (f : Tilth → Tilth) : (modTilth s f).pce = s.pce := rfl
@[simp] theorem modTilth_flows (s : State) (f : Tilth → Tilth) : (modTilth s f).flows = s.flows := rfl
@[simp] theorem modTilth_quarters (s : State) (f : Tilth → Tilth) : (modTilth s f).quarters = s.quarters := rfl
@[simp] theorem modTilth_silt (s : State) (f : Tilth → Tilth) : (modTilth s f).silt = s.silt := rfl
@[simp] theorem modTilth_tilth (s : State) (f : Tilth → Tilth) : (modTilth s f).tilth = f s.tilth := rfl
@[simp] theorem modTilth_kstacks (s : State) (f : Tilth → Tilth) : (modTilth s f).kstacks = s.kstacks := rfl
@[simp] theorem modTilth_peat (s : State) (f : Tilth → Tilth) : (modTilth s f).peat = s.peat := rfl
@[simp] theorem modTilth_cfg (s : State) (f : Tilth → Tilth) : (modTilth s f).cfg = s.cfg := rfl
@[simp] theorem modTilth_dbg (s : State) (f : Tilth → Tilth) : (modTilth s f).dbg = s.dbg := rfl
@[simp] theorem modTilth_io (s : State) (f : Tilth → Tilth) : (modTilth s f).io = s.io := rfl
@[simp] theorem modTilth_fab (s : State) (f : Tilth → Tilth) : (modTilth s f).fab = s.fab := rfl
@[simp] theorem modTilth_tele (s : State) (f : Tilth → Tilth) : (modTilth s f).tele = s.tele := rfl
@[simp] theorem modTilth_host (s : State) (f : Tilth → Tilth) : (modTilth s f).host = s.host := rfl

/-! ## modPeat -/

@[simp] theorem modPeat_pending (s : State) (f : Peat → Peat) : (modPeat s f).pending = s.pending := rfl
@[simp] theorem modPeat_sys (s : State) (f : Peat → Peat) : (modPeat s f).sys = s.sys := rfl
@[simp] theorem modPeat_vault (s : State) (f : Peat → Peat) : (modPeat s f).vault = s.vault := rfl
@[simp] theorem modPeat_plots (s : State) (f : Peat → Peat) : (modPeat s f).plots = s.plots := rfl
@[simp] theorem modPeat_mbxs (s : State) (f : Peat → Peat) : (modPeat s f).mbxs = s.mbxs := rfl
@[simp] theorem modPeat_fns (s : State) (f : Peat → Peat) : (modPeat s f).fns = s.fns := rfl
@[simp] theorem modPeat_mgmt (s : State) (f : Peat → Peat) : (modPeat s f).mgmt = s.mgmt := rfl
@[simp] theorem modPeat_evt (s : State) (f : Peat → Peat) : (modPeat s f).evt = s.evt := rfl
@[simp] theorem modPeat_dumps (s : State) (f : Peat → Peat) : (modPeat s f).dumps = s.dumps := rfl
@[simp] theorem modPeat_pce (s : State) (f : Peat → Peat) : (modPeat s f).pce = s.pce := rfl
@[simp] theorem modPeat_flows (s : State) (f : Peat → Peat) : (modPeat s f).flows = s.flows := rfl
@[simp] theorem modPeat_quarters (s : State) (f : Peat → Peat) : (modPeat s f).quarters = s.quarters := rfl
@[simp] theorem modPeat_silt (s : State) (f : Peat → Peat) : (modPeat s f).silt = s.silt := rfl
@[simp] theorem modPeat_tilth (s : State) (f : Peat → Peat) : (modPeat s f).tilth = s.tilth := rfl
@[simp] theorem modPeat_kstacks (s : State) (f : Peat → Peat) : (modPeat s f).kstacks = s.kstacks := rfl
@[simp] theorem modPeat_peat (s : State) (f : Peat → Peat) : (modPeat s f).peat = f s.peat := rfl
@[simp] theorem modPeat_cfg (s : State) (f : Peat → Peat) : (modPeat s f).cfg = s.cfg := rfl
@[simp] theorem modPeat_dbg (s : State) (f : Peat → Peat) : (modPeat s f).dbg = s.dbg := rfl
@[simp] theorem modPeat_io (s : State) (f : Peat → Peat) : (modPeat s f).io = s.io := rfl
@[simp] theorem modPeat_fab (s : State) (f : Peat → Peat) : (modPeat s f).fab = s.fab := rfl
@[simp] theorem modPeat_tele (s : State) (f : Peat → Peat) : (modPeat s f).tele = s.tele := rfl
@[simp] theorem modPeat_host (s : State) (f : Peat → Peat) : (modPeat s f).host = s.host := rfl

/-! ## modCfg -/

@[simp] theorem modCfg_pending (s : State) (f : Cfg → Cfg) : (modCfg s f).pending = s.pending := rfl
@[simp] theorem modCfg_sys (s : State) (f : Cfg → Cfg) : (modCfg s f).sys = s.sys := rfl
@[simp] theorem modCfg_vault (s : State) (f : Cfg → Cfg) : (modCfg s f).vault = s.vault := rfl
@[simp] theorem modCfg_plots (s : State) (f : Cfg → Cfg) : (modCfg s f).plots = s.plots := rfl
@[simp] theorem modCfg_mbxs (s : State) (f : Cfg → Cfg) : (modCfg s f).mbxs = s.mbxs := rfl
@[simp] theorem modCfg_fns (s : State) (f : Cfg → Cfg) : (modCfg s f).fns = s.fns := rfl
@[simp] theorem modCfg_mgmt (s : State) (f : Cfg → Cfg) : (modCfg s f).mgmt = s.mgmt := rfl
@[simp] theorem modCfg_evt (s : State) (f : Cfg → Cfg) : (modCfg s f).evt = s.evt := rfl
@[simp] theorem modCfg_dumps (s : State) (f : Cfg → Cfg) : (modCfg s f).dumps = s.dumps := rfl
@[simp] theorem modCfg_pce (s : State) (f : Cfg → Cfg) : (modCfg s f).pce = s.pce := rfl
@[simp] theorem modCfg_flows (s : State) (f : Cfg → Cfg) : (modCfg s f).flows = s.flows := rfl
@[simp] theorem modCfg_quarters (s : State) (f : Cfg → Cfg) : (modCfg s f).quarters = s.quarters := rfl
@[simp] theorem modCfg_silt (s : State) (f : Cfg → Cfg) : (modCfg s f).silt = s.silt := rfl
@[simp] theorem modCfg_tilth (s : State) (f : Cfg → Cfg) : (modCfg s f).tilth = s.tilth := rfl
@[simp] theorem modCfg_kstacks (s : State) (f : Cfg → Cfg) : (modCfg s f).kstacks = s.kstacks := rfl
@[simp] theorem modCfg_peat (s : State) (f : Cfg → Cfg) : (modCfg s f).peat = s.peat := rfl
@[simp] theorem modCfg_cfg (s : State) (f : Cfg → Cfg) : (modCfg s f).cfg = f s.cfg := rfl
@[simp] theorem modCfg_dbg (s : State) (f : Cfg → Cfg) : (modCfg s f).dbg = s.dbg := rfl
@[simp] theorem modCfg_io (s : State) (f : Cfg → Cfg) : (modCfg s f).io = s.io := rfl
@[simp] theorem modCfg_fab (s : State) (f : Cfg → Cfg) : (modCfg s f).fab = s.fab := rfl
@[simp] theorem modCfg_tele (s : State) (f : Cfg → Cfg) : (modCfg s f).tele = s.tele := rfl
@[simp] theorem modCfg_host (s : State) (f : Cfg → Cfg) : (modCfg s f).host = s.host := rfl

/-! ## modDbg -/

@[simp] theorem modDbg_pending (s : State) (f : Dbg → Dbg) : (modDbg s f).pending = s.pending := rfl
@[simp] theorem modDbg_sys (s : State) (f : Dbg → Dbg) : (modDbg s f).sys = s.sys := rfl
@[simp] theorem modDbg_vault (s : State) (f : Dbg → Dbg) : (modDbg s f).vault = s.vault := rfl
@[simp] theorem modDbg_plots (s : State) (f : Dbg → Dbg) : (modDbg s f).plots = s.plots := rfl
@[simp] theorem modDbg_mbxs (s : State) (f : Dbg → Dbg) : (modDbg s f).mbxs = s.mbxs := rfl
@[simp] theorem modDbg_fns (s : State) (f : Dbg → Dbg) : (modDbg s f).fns = s.fns := rfl
@[simp] theorem modDbg_mgmt (s : State) (f : Dbg → Dbg) : (modDbg s f).mgmt = s.mgmt := rfl
@[simp] theorem modDbg_evt (s : State) (f : Dbg → Dbg) : (modDbg s f).evt = s.evt := rfl
@[simp] theorem modDbg_dumps (s : State) (f : Dbg → Dbg) : (modDbg s f).dumps = s.dumps := rfl
@[simp] theorem modDbg_pce (s : State) (f : Dbg → Dbg) : (modDbg s f).pce = s.pce := rfl
@[simp] theorem modDbg_flows (s : State) (f : Dbg → Dbg) : (modDbg s f).flows = s.flows := rfl
@[simp] theorem modDbg_quarters (s : State) (f : Dbg → Dbg) : (modDbg s f).quarters = s.quarters := rfl
@[simp] theorem modDbg_silt (s : State) (f : Dbg → Dbg) : (modDbg s f).silt = s.silt := rfl
@[simp] theorem modDbg_tilth (s : State) (f : Dbg → Dbg) : (modDbg s f).tilth = s.tilth := rfl
@[simp] theorem modDbg_kstacks (s : State) (f : Dbg → Dbg) : (modDbg s f).kstacks = s.kstacks := rfl
@[simp] theorem modDbg_peat (s : State) (f : Dbg → Dbg) : (modDbg s f).peat = s.peat := rfl
@[simp] theorem modDbg_cfg (s : State) (f : Dbg → Dbg) : (modDbg s f).cfg = s.cfg := rfl
@[simp] theorem modDbg_dbg (s : State) (f : Dbg → Dbg) : (modDbg s f).dbg = f s.dbg := rfl
@[simp] theorem modDbg_io (s : State) (f : Dbg → Dbg) : (modDbg s f).io = s.io := rfl
@[simp] theorem modDbg_fab (s : State) (f : Dbg → Dbg) : (modDbg s f).fab = s.fab := rfl
@[simp] theorem modDbg_tele (s : State) (f : Dbg → Dbg) : (modDbg s f).tele = s.tele := rfl
@[simp] theorem modDbg_host (s : State) (f : Dbg → Dbg) : (modDbg s f).host = s.host := rfl

/-! ## modIo -/

@[simp] theorem modIo_pending (s : State) (f : Io → Io) : (modIo s f).pending = s.pending := rfl
@[simp] theorem modIo_sys (s : State) (f : Io → Io) : (modIo s f).sys = s.sys := rfl
@[simp] theorem modIo_vault (s : State) (f : Io → Io) : (modIo s f).vault = s.vault := rfl
@[simp] theorem modIo_plots (s : State) (f : Io → Io) : (modIo s f).plots = s.plots := rfl
@[simp] theorem modIo_mbxs (s : State) (f : Io → Io) : (modIo s f).mbxs = s.mbxs := rfl
@[simp] theorem modIo_fns (s : State) (f : Io → Io) : (modIo s f).fns = s.fns := rfl
@[simp] theorem modIo_mgmt (s : State) (f : Io → Io) : (modIo s f).mgmt = s.mgmt := rfl
@[simp] theorem modIo_evt (s : State) (f : Io → Io) : (modIo s f).evt = s.evt := rfl
@[simp] theorem modIo_dumps (s : State) (f : Io → Io) : (modIo s f).dumps = s.dumps := rfl
@[simp] theorem modIo_pce (s : State) (f : Io → Io) : (modIo s f).pce = s.pce := rfl
@[simp] theorem modIo_flows (s : State) (f : Io → Io) : (modIo s f).flows = s.flows := rfl
@[simp] theorem modIo_quarters (s : State) (f : Io → Io) : (modIo s f).quarters = s.quarters := rfl
@[simp] theorem modIo_silt (s : State) (f : Io → Io) : (modIo s f).silt = s.silt := rfl
@[simp] theorem modIo_tilth (s : State) (f : Io → Io) : (modIo s f).tilth = s.tilth := rfl
@[simp] theorem modIo_kstacks (s : State) (f : Io → Io) : (modIo s f).kstacks = s.kstacks := rfl
@[simp] theorem modIo_peat (s : State) (f : Io → Io) : (modIo s f).peat = s.peat := rfl
@[simp] theorem modIo_cfg (s : State) (f : Io → Io) : (modIo s f).cfg = s.cfg := rfl
@[simp] theorem modIo_dbg (s : State) (f : Io → Io) : (modIo s f).dbg = s.dbg := rfl
@[simp] theorem modIo_io (s : State) (f : Io → Io) : (modIo s f).io = f s.io := rfl
@[simp] theorem modIo_fab (s : State) (f : Io → Io) : (modIo s f).fab = s.fab := rfl
@[simp] theorem modIo_tele (s : State) (f : Io → Io) : (modIo s f).tele = s.tele := rfl
@[simp] theorem modIo_host (s : State) (f : Io → Io) : (modIo s f).host = s.host := rfl

/-! ## modFab -/

@[simp] theorem modFab_pending (s : State) (f : Fab → Fab) : (modFab s f).pending = s.pending := rfl
@[simp] theorem modFab_sys (s : State) (f : Fab → Fab) : (modFab s f).sys = s.sys := rfl
@[simp] theorem modFab_vault (s : State) (f : Fab → Fab) : (modFab s f).vault = s.vault := rfl
@[simp] theorem modFab_plots (s : State) (f : Fab → Fab) : (modFab s f).plots = s.plots := rfl
@[simp] theorem modFab_mbxs (s : State) (f : Fab → Fab) : (modFab s f).mbxs = s.mbxs := rfl
@[simp] theorem modFab_fns (s : State) (f : Fab → Fab) : (modFab s f).fns = s.fns := rfl
@[simp] theorem modFab_mgmt (s : State) (f : Fab → Fab) : (modFab s f).mgmt = s.mgmt := rfl
@[simp] theorem modFab_evt (s : State) (f : Fab → Fab) : (modFab s f).evt = s.evt := rfl
@[simp] theorem modFab_dumps (s : State) (f : Fab → Fab) : (modFab s f).dumps = s.dumps := rfl
@[simp] theorem modFab_pce (s : State) (f : Fab → Fab) : (modFab s f).pce = s.pce := rfl
@[simp] theorem modFab_flows (s : State) (f : Fab → Fab) : (modFab s f).flows = s.flows := rfl
@[simp] theorem modFab_quarters (s : State) (f : Fab → Fab) : (modFab s f).quarters = s.quarters := rfl
@[simp] theorem modFab_silt (s : State) (f : Fab → Fab) : (modFab s f).silt = s.silt := rfl
@[simp] theorem modFab_tilth (s : State) (f : Fab → Fab) : (modFab s f).tilth = s.tilth := rfl
@[simp] theorem modFab_kstacks (s : State) (f : Fab → Fab) : (modFab s f).kstacks = s.kstacks := rfl
@[simp] theorem modFab_peat (s : State) (f : Fab → Fab) : (modFab s f).peat = s.peat := rfl
@[simp] theorem modFab_cfg (s : State) (f : Fab → Fab) : (modFab s f).cfg = s.cfg := rfl
@[simp] theorem modFab_dbg (s : State) (f : Fab → Fab) : (modFab s f).dbg = s.dbg := rfl
@[simp] theorem modFab_io (s : State) (f : Fab → Fab) : (modFab s f).io = s.io := rfl
@[simp] theorem modFab_fab (s : State) (f : Fab → Fab) : (modFab s f).fab = f s.fab := rfl
@[simp] theorem modFab_tele (s : State) (f : Fab → Fab) : (modFab s f).tele = s.tele := rfl
@[simp] theorem modFab_host (s : State) (f : Fab → Fab) : (modFab s f).host = s.host := rfl

/-! ## modTele -/

@[simp] theorem modTele_pending (s : State) (f : Tele → Tele) : (modTele s f).pending = s.pending := rfl
@[simp] theorem modTele_sys (s : State) (f : Tele → Tele) : (modTele s f).sys = s.sys := rfl
@[simp] theorem modTele_vault (s : State) (f : Tele → Tele) : (modTele s f).vault = s.vault := rfl
@[simp] theorem modTele_plots (s : State) (f : Tele → Tele) : (modTele s f).plots = s.plots := rfl
@[simp] theorem modTele_mbxs (s : State) (f : Tele → Tele) : (modTele s f).mbxs = s.mbxs := rfl
@[simp] theorem modTele_fns (s : State) (f : Tele → Tele) : (modTele s f).fns = s.fns := rfl
@[simp] theorem modTele_mgmt (s : State) (f : Tele → Tele) : (modTele s f).mgmt = s.mgmt := rfl
@[simp] theorem modTele_evt (s : State) (f : Tele → Tele) : (modTele s f).evt = s.evt := rfl
@[simp] theorem modTele_dumps (s : State) (f : Tele → Tele) : (modTele s f).dumps = s.dumps := rfl
@[simp] theorem modTele_pce (s : State) (f : Tele → Tele) : (modTele s f).pce = s.pce := rfl
@[simp] theorem modTele_flows (s : State) (f : Tele → Tele) : (modTele s f).flows = s.flows := rfl
@[simp] theorem modTele_quarters (s : State) (f : Tele → Tele) : (modTele s f).quarters = s.quarters := rfl
@[simp] theorem modTele_silt (s : State) (f : Tele → Tele) : (modTele s f).silt = s.silt := rfl
@[simp] theorem modTele_tilth (s : State) (f : Tele → Tele) : (modTele s f).tilth = s.tilth := rfl
@[simp] theorem modTele_kstacks (s : State) (f : Tele → Tele) : (modTele s f).kstacks = s.kstacks := rfl
@[simp] theorem modTele_peat (s : State) (f : Tele → Tele) : (modTele s f).peat = s.peat := rfl
@[simp] theorem modTele_cfg (s : State) (f : Tele → Tele) : (modTele s f).cfg = s.cfg := rfl
@[simp] theorem modTele_dbg (s : State) (f : Tele → Tele) : (modTele s f).dbg = s.dbg := rfl
@[simp] theorem modTele_io (s : State) (f : Tele → Tele) : (modTele s f).io = s.io := rfl
@[simp] theorem modTele_fab (s : State) (f : Tele → Tele) : (modTele s f).fab = s.fab := rfl
@[simp] theorem modTele_tele (s : State) (f : Tele → Tele) : (modTele s f).tele = f s.tele := rfl
@[simp] theorem modTele_host (s : State) (f : Tele → Tele) : (modTele s f).host = s.host := rfl

/-! ## modPlot -/

@[simp] theorem modPlot_pending (s : State) (n : Nat) (f : Plot → Plot) : (modPlot s n f).pending = s.pending := rfl
@[simp] theorem modPlot_sys (s : State) (n : Nat) (f : Plot → Plot) : (modPlot s n f).sys = s.sys := rfl
@[simp] theorem modPlot_vault (s : State) (n : Nat) (f : Plot → Plot) : (modPlot s n f).vault = s.vault := rfl
@[simp] theorem modPlot_plots (s : State) (n : Nat) (f : Plot → Plot) : (modPlot s n f).plots = tmod {} s.plots n f := rfl
@[simp] theorem modPlot_mbxs (s : State) (n : Nat) (f : Plot → Plot) : (modPlot s n f).mbxs = s.mbxs := rfl
@[simp] theorem modPlot_fns (s : State) (n : Nat) (f : Plot → Plot) : (modPlot s n f).fns = s.fns := rfl
@[simp] theorem modPlot_mgmt (s : State) (n : Nat) (f : Plot → Plot) : (modPlot s n f).mgmt = s.mgmt := rfl
@[simp] theorem modPlot_evt (s : State) (n : Nat) (f : Plot → Plot) : (modPlot s n f).evt = s.evt := rfl
@[simp] theorem modPlot_dumps (s : State) (n : Nat) (f : Plot → Plot) : (modPlot s n f).dumps = s.dumps := rfl
@[simp] theorem modPlot_pce (s : State) (n : Nat) (f : Plot → Plot) : (modPlot s n f).pce = s.pce := rfl
@[simp] theorem modPlot_flows (s : State) (n : Nat) (f : Plot → Plot) : (modPlot s n f).flows = s.flows := rfl
@[simp] theorem modPlot_quarters (s : State) (n : Nat) (f : Plot → Plot) : (modPlot s n f).quarters = s.quarters := rfl
@[simp] theorem modPlot_silt (s : State) (n : Nat) (f : Plot → Plot) : (modPlot s n f).silt = s.silt := rfl
@[simp] theorem modPlot_tilth (s : State) (n : Nat) (f : Plot → Plot) : (modPlot s n f).tilth = s.tilth := rfl
@[simp] theorem modPlot_kstacks (s : State) (n : Nat) (f : Plot → Plot) : (modPlot s n f).kstacks = s.kstacks := rfl
@[simp] theorem modPlot_peat (s : State) (n : Nat) (f : Plot → Plot) : (modPlot s n f).peat = s.peat := rfl
@[simp] theorem modPlot_cfg (s : State) (n : Nat) (f : Plot → Plot) : (modPlot s n f).cfg = s.cfg := rfl
@[simp] theorem modPlot_dbg (s : State) (n : Nat) (f : Plot → Plot) : (modPlot s n f).dbg = s.dbg := rfl
@[simp] theorem modPlot_io (s : State) (n : Nat) (f : Plot → Plot) : (modPlot s n f).io = s.io := rfl
@[simp] theorem modPlot_fab (s : State) (n : Nat) (f : Plot → Plot) : (modPlot s n f).fab = s.fab := rfl
@[simp] theorem modPlot_tele (s : State) (n : Nat) (f : Plot → Plot) : (modPlot s n f).tele = s.tele := rfl
@[simp] theorem modPlot_host (s : State) (n : Nat) (f : Plot → Plot) : (modPlot s n f).host = s.host := rfl

/-! ## modMbx -/

@[simp] theorem modMbx_pending (s : State) (n : Nat) (f : Mbx → Mbx) : (modMbx s n f).pending = s.pending := rfl
@[simp] theorem modMbx_sys (s : State) (n : Nat) (f : Mbx → Mbx) : (modMbx s n f).sys = s.sys := rfl
@[simp] theorem modMbx_vault (s : State) (n : Nat) (f : Mbx → Mbx) : (modMbx s n f).vault = s.vault := rfl
@[simp] theorem modMbx_plots (s : State) (n : Nat) (f : Mbx → Mbx) : (modMbx s n f).plots = s.plots := rfl
@[simp] theorem modMbx_mbxs (s : State) (n : Nat) (f : Mbx → Mbx) : (modMbx s n f).mbxs = tmod {} s.mbxs n f := rfl
@[simp] theorem modMbx_fns (s : State) (n : Nat) (f : Mbx → Mbx) : (modMbx s n f).fns = s.fns := rfl
@[simp] theorem modMbx_mgmt (s : State) (n : Nat) (f : Mbx → Mbx) : (modMbx s n f).mgmt = s.mgmt := rfl
@[simp] theorem modMbx_evt (s : State) (n : Nat) (f : Mbx → Mbx) : (modMbx s n f).evt = s.evt := rfl
@[simp] theorem modMbx_dumps (s : State) (n : Nat) (f : Mbx → Mbx) : (modMbx s n f).dumps = s.dumps := rfl
@[simp] theorem modMbx_pce (s : State) (n : Nat) (f : Mbx → Mbx) : (modMbx s n f).pce = s.pce := rfl
@[simp] theorem modMbx_flows (s : State) (n : Nat) (f : Mbx → Mbx) : (modMbx s n f).flows = s.flows := rfl
@[simp] theorem modMbx_quarters (s : State) (n : Nat) (f : Mbx → Mbx) : (modMbx s n f).quarters = s.quarters := rfl
@[simp] theorem modMbx_silt (s : State) (n : Nat) (f : Mbx → Mbx) : (modMbx s n f).silt = s.silt := rfl
@[simp] theorem modMbx_tilth (s : State) (n : Nat) (f : Mbx → Mbx) : (modMbx s n f).tilth = s.tilth := rfl
@[simp] theorem modMbx_kstacks (s : State) (n : Nat) (f : Mbx → Mbx) : (modMbx s n f).kstacks = s.kstacks := rfl
@[simp] theorem modMbx_peat (s : State) (n : Nat) (f : Mbx → Mbx) : (modMbx s n f).peat = s.peat := rfl
@[simp] theorem modMbx_cfg (s : State) (n : Nat) (f : Mbx → Mbx) : (modMbx s n f).cfg = s.cfg := rfl
@[simp] theorem modMbx_dbg (s : State) (n : Nat) (f : Mbx → Mbx) : (modMbx s n f).dbg = s.dbg := rfl
@[simp] theorem modMbx_io (s : State) (n : Nat) (f : Mbx → Mbx) : (modMbx s n f).io = s.io := rfl
@[simp] theorem modMbx_fab (s : State) (n : Nat) (f : Mbx → Mbx) : (modMbx s n f).fab = s.fab := rfl
@[simp] theorem modMbx_tele (s : State) (n : Nat) (f : Mbx → Mbx) : (modMbx s n f).tele = s.tele := rfl
@[simp] theorem modMbx_host (s : State) (n : Nat) (f : Mbx → Mbx) : (modMbx s n f).host = s.host := rfl

/-! ## modFn -/

@[simp] theorem modFn_pending (s : State) (n : Nat) (f : Fn → Fn) : (modFn s n f).pending = s.pending := rfl
@[simp] theorem modFn_sys (s : State) (n : Nat) (f : Fn → Fn) : (modFn s n f).sys = s.sys := rfl
@[simp] theorem modFn_vault (s : State) (n : Nat) (f : Fn → Fn) : (modFn s n f).vault = s.vault := rfl
@[simp] theorem modFn_plots (s : State) (n : Nat) (f : Fn → Fn) : (modFn s n f).plots = s.plots := rfl
@[simp] theorem modFn_mbxs (s : State) (n : Nat) (f : Fn → Fn) : (modFn s n f).mbxs = s.mbxs := rfl
@[simp] theorem modFn_fns (s : State) (n : Nat) (f : Fn → Fn) : (modFn s n f).fns = tmod {} s.fns n f := rfl
@[simp] theorem modFn_mgmt (s : State) (n : Nat) (f : Fn → Fn) : (modFn s n f).mgmt = s.mgmt := rfl
@[simp] theorem modFn_evt (s : State) (n : Nat) (f : Fn → Fn) : (modFn s n f).evt = s.evt := rfl
@[simp] theorem modFn_dumps (s : State) (n : Nat) (f : Fn → Fn) : (modFn s n f).dumps = s.dumps := rfl
@[simp] theorem modFn_pce (s : State) (n : Nat) (f : Fn → Fn) : (modFn s n f).pce = s.pce := rfl
@[simp] theorem modFn_flows (s : State) (n : Nat) (f : Fn → Fn) : (modFn s n f).flows = s.flows := rfl
@[simp] theorem modFn_quarters (s : State) (n : Nat) (f : Fn → Fn) : (modFn s n f).quarters = s.quarters := rfl
@[simp] theorem modFn_silt (s : State) (n : Nat) (f : Fn → Fn) : (modFn s n f).silt = s.silt := rfl
@[simp] theorem modFn_tilth (s : State) (n : Nat) (f : Fn → Fn) : (modFn s n f).tilth = s.tilth := rfl
@[simp] theorem modFn_kstacks (s : State) (n : Nat) (f : Fn → Fn) : (modFn s n f).kstacks = s.kstacks := rfl
@[simp] theorem modFn_peat (s : State) (n : Nat) (f : Fn → Fn) : (modFn s n f).peat = s.peat := rfl
@[simp] theorem modFn_cfg (s : State) (n : Nat) (f : Fn → Fn) : (modFn s n f).cfg = s.cfg := rfl
@[simp] theorem modFn_dbg (s : State) (n : Nat) (f : Fn → Fn) : (modFn s n f).dbg = s.dbg := rfl
@[simp] theorem modFn_io (s : State) (n : Nat) (f : Fn → Fn) : (modFn s n f).io = s.io := rfl
@[simp] theorem modFn_fab (s : State) (n : Nat) (f : Fn → Fn) : (modFn s n f).fab = s.fab := rfl
@[simp] theorem modFn_tele (s : State) (n : Nat) (f : Fn → Fn) : (modFn s n f).tele = s.tele := rfl
@[simp] theorem modFn_host (s : State) (n : Nat) (f : Fn → Fn) : (modFn s n f).host = s.host := rfl

/-! ## modFlow -/

@[simp] theorem modFlow_pending (s : State) (n : Nat) (f : Flow → Flow) : (modFlow s n f).pending = s.pending := rfl
@[simp] theorem modFlow_sys (s : State) (n : Nat) (f : Flow → Flow) : (modFlow s n f).sys = s.sys := rfl
@[simp] theorem modFlow_vault (s : State) (n : Nat) (f : Flow → Flow) : (modFlow s n f).vault = s.vault := rfl
@[simp] theorem modFlow_plots (s : State) (n : Nat) (f : Flow → Flow) : (modFlow s n f).plots = s.plots := rfl
@[simp] theorem modFlow_mbxs (s : State) (n : Nat) (f : Flow → Flow) : (modFlow s n f).mbxs = s.mbxs := rfl
@[simp] theorem modFlow_fns (s : State) (n : Nat) (f : Flow → Flow) : (modFlow s n f).fns = s.fns := rfl
@[simp] theorem modFlow_mgmt (s : State) (n : Nat) (f : Flow → Flow) : (modFlow s n f).mgmt = s.mgmt := rfl
@[simp] theorem modFlow_evt (s : State) (n : Nat) (f : Flow → Flow) : (modFlow s n f).evt = s.evt := rfl
@[simp] theorem modFlow_dumps (s : State) (n : Nat) (f : Flow → Flow) : (modFlow s n f).dumps = s.dumps := rfl
@[simp] theorem modFlow_pce (s : State) (n : Nat) (f : Flow → Flow) : (modFlow s n f).pce = s.pce := rfl
@[simp] theorem modFlow_flows (s : State) (n : Nat) (f : Flow → Flow) : (modFlow s n f).flows = tmod {} s.flows n f := rfl
@[simp] theorem modFlow_quarters (s : State) (n : Nat) (f : Flow → Flow) : (modFlow s n f).quarters = s.quarters := rfl
@[simp] theorem modFlow_silt (s : State) (n : Nat) (f : Flow → Flow) : (modFlow s n f).silt = s.silt := rfl
@[simp] theorem modFlow_tilth (s : State) (n : Nat) (f : Flow → Flow) : (modFlow s n f).tilth = s.tilth := rfl
@[simp] theorem modFlow_kstacks (s : State) (n : Nat) (f : Flow → Flow) : (modFlow s n f).kstacks = s.kstacks := rfl
@[simp] theorem modFlow_peat (s : State) (n : Nat) (f : Flow → Flow) : (modFlow s n f).peat = s.peat := rfl
@[simp] theorem modFlow_cfg (s : State) (n : Nat) (f : Flow → Flow) : (modFlow s n f).cfg = s.cfg := rfl
@[simp] theorem modFlow_dbg (s : State) (n : Nat) (f : Flow → Flow) : (modFlow s n f).dbg = s.dbg := rfl
@[simp] theorem modFlow_io (s : State) (n : Nat) (f : Flow → Flow) : (modFlow s n f).io = s.io := rfl
@[simp] theorem modFlow_fab (s : State) (n : Nat) (f : Flow → Flow) : (modFlow s n f).fab = s.fab := rfl
@[simp] theorem modFlow_tele (s : State) (n : Nat) (f : Flow → Flow) : (modFlow s n f).tele = s.tele := rfl
@[simp] theorem modFlow_host (s : State) (n : Nat) (f : Flow → Flow) : (modFlow s n f).host = s.host := rfl

/-! ## modQuarter -/

@[simp] theorem modQuarter_pending (s : State) (n : Nat) (f : Quarter → Quarter) : (modQuarter s n f).pending = s.pending := rfl
@[simp] theorem modQuarter_sys (s : State) (n : Nat) (f : Quarter → Quarter) : (modQuarter s n f).sys = s.sys := rfl
@[simp] theorem modQuarter_vault (s : State) (n : Nat) (f : Quarter → Quarter) : (modQuarter s n f).vault = s.vault := rfl
@[simp] theorem modQuarter_plots (s : State) (n : Nat) (f : Quarter → Quarter) : (modQuarter s n f).plots = s.plots := rfl
@[simp] theorem modQuarter_mbxs (s : State) (n : Nat) (f : Quarter → Quarter) : (modQuarter s n f).mbxs = s.mbxs := rfl
@[simp] theorem modQuarter_fns (s : State) (n : Nat) (f : Quarter → Quarter) : (modQuarter s n f).fns = s.fns := rfl
@[simp] theorem modQuarter_mgmt (s : State) (n : Nat) (f : Quarter → Quarter) : (modQuarter s n f).mgmt = s.mgmt := rfl
@[simp] theorem modQuarter_evt (s : State) (n : Nat) (f : Quarter → Quarter) : (modQuarter s n f).evt = s.evt := rfl
@[simp] theorem modQuarter_dumps (s : State) (n : Nat) (f : Quarter → Quarter) : (modQuarter s n f).dumps = s.dumps := rfl
@[simp] theorem modQuarter_pce (s : State) (n : Nat) (f : Quarter → Quarter) : (modQuarter s n f).pce = s.pce := rfl
@[simp] theorem modQuarter_flows (s : State) (n : Nat) (f : Quarter → Quarter) : (modQuarter s n f).flows = s.flows := rfl
@[simp] theorem modQuarter_quarters (s : State) (n : Nat) (f : Quarter → Quarter) : (modQuarter s n f).quarters = tmod {} s.quarters n f := rfl
@[simp] theorem modQuarter_silt (s : State) (n : Nat) (f : Quarter → Quarter) : (modQuarter s n f).silt = s.silt := rfl
@[simp] theorem modQuarter_tilth (s : State) (n : Nat) (f : Quarter → Quarter) : (modQuarter s n f).tilth = s.tilth := rfl
@[simp] theorem modQuarter_kstacks (s : State) (n : Nat) (f : Quarter → Quarter) : (modQuarter s n f).kstacks = s.kstacks := rfl
@[simp] theorem modQuarter_peat (s : State) (n : Nat) (f : Quarter → Quarter) : (modQuarter s n f).peat = s.peat := rfl
@[simp] theorem modQuarter_cfg (s : State) (n : Nat) (f : Quarter → Quarter) : (modQuarter s n f).cfg = s.cfg := rfl
@[simp] theorem modQuarter_dbg (s : State) (n : Nat) (f : Quarter → Quarter) : (modQuarter s n f).dbg = s.dbg := rfl
@[simp] theorem modQuarter_io (s : State) (n : Nat) (f : Quarter → Quarter) : (modQuarter s n f).io = s.io := rfl
@[simp] theorem modQuarter_fab (s : State) (n : Nat) (f : Quarter → Quarter) : (modQuarter s n f).fab = s.fab := rfl
@[simp] theorem modQuarter_tele (s : State) (n : Nat) (f : Quarter → Quarter) : (modQuarter s n f).tele = s.tele := rfl
@[simp] theorem modQuarter_host (s : State) (n : Nat) (f : Quarter → Quarter) : (modQuarter s n f).host = s.host := rfl

/-! ## modStack -/

@[simp] theorem modStack_pending (s : State) (n : Nat) (f : Stack → Stack) : (modStack s n f).pending = s.pending := rfl
@[simp] theorem modStack_sys (s : State) (n : Nat) (f : Stack → Stack) : (modStack s n f).sys = s.sys := rfl
@[simp] theorem modStack_vault (s : State) (n : Nat) (f : Stack → Stack) : (modStack s n f).vault = s.vault := rfl
@[simp] theorem modStack_plots (s : State) (n : Nat) (f : Stack → Stack) : (modStack s n f).plots = s.plots := rfl
@[simp] theorem modStack_mbxs (s : State) (n : Nat) (f : Stack → Stack) : (modStack s n f).mbxs = s.mbxs := rfl
@[simp] theorem modStack_fns (s : State) (n : Nat) (f : Stack → Stack) : (modStack s n f).fns = s.fns := rfl
@[simp] theorem modStack_mgmt (s : State) (n : Nat) (f : Stack → Stack) : (modStack s n f).mgmt = s.mgmt := rfl
@[simp] theorem modStack_evt (s : State) (n : Nat) (f : Stack → Stack) : (modStack s n f).evt = s.evt := rfl
@[simp] theorem modStack_dumps (s : State) (n : Nat) (f : Stack → Stack) : (modStack s n f).dumps = s.dumps := rfl
@[simp] theorem modStack_pce (s : State) (n : Nat) (f : Stack → Stack) : (modStack s n f).pce = s.pce := rfl
@[simp] theorem modStack_flows (s : State) (n : Nat) (f : Stack → Stack) : (modStack s n f).flows = s.flows := rfl
@[simp] theorem modStack_quarters (s : State) (n : Nat) (f : Stack → Stack) : (modStack s n f).quarters = s.quarters := rfl
@[simp] theorem modStack_silt (s : State) (n : Nat) (f : Stack → Stack) : (modStack s n f).silt = s.silt := rfl
@[simp] theorem modStack_tilth (s : State) (n : Nat) (f : Stack → Stack) : (modStack s n f).tilth = s.tilth := rfl
@[simp] theorem modStack_kstacks (s : State) (n : Nat) (f : Stack → Stack) : (modStack s n f).kstacks = tmod {} s.kstacks n f := rfl
@[simp] theorem modStack_peat (s : State) (n : Nat) (f : Stack → Stack) : (modStack s n f).peat = s.peat := rfl
@[simp] theorem modStack_cfg (s : State) (n : Nat) (f : Stack → Stack) : (modStack s n f).cfg = s.cfg := rfl
@[simp] theorem modStack_dbg (s : State) (n : Nat) (f : Stack → Stack) : (modStack s n f).dbg = s.dbg := rfl
@[simp] theorem modStack_io (s : State) (n : Nat) (f : Stack → Stack) : (modStack s n f).io = s.io := rfl
@[simp] theorem modStack_fab (s : State) (n : Nat) (f : Stack → Stack) : (modStack s n f).fab = s.fab := rfl
@[simp] theorem modStack_tele (s : State) (n : Nat) (f : Stack → Stack) : (modStack s n f).tele = s.tele := rfl
@[simp] theorem modStack_host (s : State) (n : Nat) (f : Stack → Stack) : (modStack s n f).host = s.host := rfl

/-! ## modDie -/

@[simp] theorem modDie_pending (s : State) (n : Nat) (f : Die → Die) : (modDie s n f).pending = s.pending := rfl
@[simp] theorem modDie_vault (s : State) (n : Nat) (f : Die → Die) : (modDie s n f).vault = s.vault := rfl
@[simp] theorem modDie_plots (s : State) (n : Nat) (f : Die → Die) : (modDie s n f).plots = s.plots := rfl
@[simp] theorem modDie_mbxs (s : State) (n : Nat) (f : Die → Die) : (modDie s n f).mbxs = s.mbxs := rfl
@[simp] theorem modDie_fns (s : State) (n : Nat) (f : Die → Die) : (modDie s n f).fns = s.fns := rfl
@[simp] theorem modDie_mgmt (s : State) (n : Nat) (f : Die → Die) : (modDie s n f).mgmt = s.mgmt := rfl
@[simp] theorem modDie_evt (s : State) (n : Nat) (f : Die → Die) : (modDie s n f).evt = s.evt := rfl
@[simp] theorem modDie_dumps (s : State) (n : Nat) (f : Die → Die) : (modDie s n f).dumps = s.dumps := rfl
@[simp] theorem modDie_pce (s : State) (n : Nat) (f : Die → Die) : (modDie s n f).pce = s.pce := rfl
@[simp] theorem modDie_flows (s : State) (n : Nat) (f : Die → Die) : (modDie s n f).flows = s.flows := rfl
@[simp] theorem modDie_quarters (s : State) (n : Nat) (f : Die → Die) : (modDie s n f).quarters = s.quarters := rfl
@[simp] theorem modDie_silt (s : State) (n : Nat) (f : Die → Die) : (modDie s n f).silt = s.silt := rfl
@[simp] theorem modDie_tilth (s : State) (n : Nat) (f : Die → Die) : (modDie s n f).tilth = s.tilth := rfl
@[simp] theorem modDie_kstacks (s : State) (n : Nat) (f : Die → Die) : (modDie s n f).kstacks = s.kstacks := rfl
@[simp] theorem modDie_peat (s : State) (n : Nat) (f : Die → Die) : (modDie s n f).peat = s.peat := rfl
@[simp] theorem modDie_cfg (s : State) (n : Nat) (f : Die → Die) : (modDie s n f).cfg = s.cfg := rfl
@[simp] theorem modDie_dbg (s : State) (n : Nat) (f : Die → Die) : (modDie s n f).dbg = s.dbg := rfl
@[simp] theorem modDie_io (s : State) (n : Nat) (f : Die → Die) : (modDie s n f).io = s.io := rfl
@[simp] theorem modDie_fab (s : State) (n : Nat) (f : Die → Die) : (modDie s n f).fab = s.fab := rfl
@[simp] theorem modDie_tele (s : State) (n : Nat) (f : Die → Die) : (modDie s n f).tele = s.tele := rfl
@[simp] theorem modDie_host (s : State) (n : Nat) (f : Die → Die) : (modDie s n f).host = s.host := rfl

/-! ## modSrc -/

@[simp] theorem modSrc_pending (s : State) (n : Nat) (f : Src → Src) : (modSrc s n f).pending = s.pending := rfl
@[simp] theorem modSrc_sys (s : State) (n : Nat) (f : Src → Src) : (modSrc s n f).sys = s.sys := rfl
@[simp] theorem modSrc_vault (s : State) (n : Nat) (f : Src → Src) : (modSrc s n f).vault = s.vault := rfl
@[simp] theorem modSrc_plots (s : State) (n : Nat) (f : Src → Src) : (modSrc s n f).plots = s.plots := rfl
@[simp] theorem modSrc_mbxs (s : State) (n : Nat) (f : Src → Src) : (modSrc s n f).mbxs = s.mbxs := rfl
@[simp] theorem modSrc_fns (s : State) (n : Nat) (f : Src → Src) : (modSrc s n f).fns = s.fns := rfl
@[simp] theorem modSrc_mgmt (s : State) (n : Nat) (f : Src → Src) : (modSrc s n f).mgmt = s.mgmt := rfl
@[simp] theorem modSrc_dumps (s : State) (n : Nat) (f : Src → Src) : (modSrc s n f).dumps = s.dumps := rfl
@[simp] theorem modSrc_pce (s : State) (n : Nat) (f : Src → Src) : (modSrc s n f).pce = s.pce := rfl
@[simp] theorem modSrc_flows (s : State) (n : Nat) (f : Src → Src) : (modSrc s n f).flows = s.flows := rfl
@[simp] theorem modSrc_quarters (s : State) (n : Nat) (f : Src → Src) : (modSrc s n f).quarters = s.quarters := rfl
@[simp] theorem modSrc_silt (s : State) (n : Nat) (f : Src → Src) : (modSrc s n f).silt = s.silt := rfl
@[simp] theorem modSrc_tilth (s : State) (n : Nat) (f : Src → Src) : (modSrc s n f).tilth = s.tilth := rfl
@[simp] theorem modSrc_kstacks (s : State) (n : Nat) (f : Src → Src) : (modSrc s n f).kstacks = s.kstacks := rfl
@[simp] theorem modSrc_peat (s : State) (n : Nat) (f : Src → Src) : (modSrc s n f).peat = s.peat := rfl
@[simp] theorem modSrc_cfg (s : State) (n : Nat) (f : Src → Src) : (modSrc s n f).cfg = s.cfg := rfl
@[simp] theorem modSrc_dbg (s : State) (n : Nat) (f : Src → Src) : (modSrc s n f).dbg = s.dbg := rfl
@[simp] theorem modSrc_io (s : State) (n : Nat) (f : Src → Src) : (modSrc s n f).io = s.io := rfl
@[simp] theorem modSrc_fab (s : State) (n : Nat) (f : Src → Src) : (modSrc s n f).fab = s.fab := rfl
@[simp] theorem modSrc_tele (s : State) (n : Nat) (f : Src → Src) : (modSrc s n f).tele = s.tele := rfl
@[simp] theorem modSrc_host (s : State) (n : Nat) (f : Src → Src) : (modSrc s n f).host = s.host := rfl

/-! ## modNau -/

@[simp] theorem modNau_pending (s : State) (n : Nat) (f : Nau → Nau) : (modNau s n f).pending = s.pending := rfl
@[simp] theorem modNau_sys (s : State) (n : Nat) (f : Nau → Nau) : (modNau s n f).sys = s.sys := rfl
@[simp] theorem modNau_vault (s : State) (n : Nat) (f : Nau → Nau) : (modNau s n f).vault = s.vault := rfl
@[simp] theorem modNau_plots (s : State) (n : Nat) (f : Nau → Nau) : (modNau s n f).plots = s.plots := rfl
@[simp] theorem modNau_mbxs (s : State) (n : Nat) (f : Nau → Nau) : (modNau s n f).mbxs = s.mbxs := rfl
@[simp] theorem modNau_fns (s : State) (n : Nat) (f : Nau → Nau) : (modNau s n f).fns = s.fns := rfl
@[simp] theorem modNau_mgmt (s : State) (n : Nat) (f : Nau → Nau) : (modNau s n f).mgmt = s.mgmt := rfl
@[simp] theorem modNau_evt (s : State) (n : Nat) (f : Nau → Nau) : (modNau s n f).evt = s.evt := rfl
@[simp] theorem modNau_dumps (s : State) (n : Nat) (f : Nau → Nau) : (modNau s n f).dumps = s.dumps := rfl
@[simp] theorem modNau_pce (s : State) (n : Nat) (f : Nau → Nau) : (modNau s n f).pce = s.pce := rfl
@[simp] theorem modNau_flows (s : State) (n : Nat) (f : Nau → Nau) : (modNau s n f).flows = s.flows := rfl
@[simp] theorem modNau_quarters (s : State) (n : Nat) (f : Nau → Nau) : (modNau s n f).quarters = s.quarters := rfl
@[simp] theorem modNau_tilth (s : State) (n : Nat) (f : Nau → Nau) : (modNau s n f).tilth = s.tilth := rfl
@[simp] theorem modNau_kstacks (s : State) (n : Nat) (f : Nau → Nau) : (modNau s n f).kstacks = s.kstacks := rfl
@[simp] theorem modNau_peat (s : State) (n : Nat) (f : Nau → Nau) : (modNau s n f).peat = s.peat := rfl
@[simp] theorem modNau_cfg (s : State) (n : Nat) (f : Nau → Nau) : (modNau s n f).cfg = s.cfg := rfl
@[simp] theorem modNau_dbg (s : State) (n : Nat) (f : Nau → Nau) : (modNau s n f).dbg = s.dbg := rfl
@[simp] theorem modNau_io (s : State) (n : Nat) (f : Nau → Nau) : (modNau s n f).io = s.io := rfl
@[simp] theorem modNau_fab (s : State) (n : Nat) (f : Nau → Nau) : (modNau s n f).fab = s.fab := rfl
@[simp] theorem modNau_tele (s : State) (n : Nat) (f : Nau → Nau) : (modNau s n f).tele = s.tele := rfl
@[simp] theorem modNau_host (s : State) (n : Nat) (f : Nau → Nau) : (modNau s n f).host = s.host := rfl

/-! ## modSlice -/

@[simp] theorem modSlice_pending (s : State) (n : Nat) (f : Slice → Slice) : (modSlice s n f).pending = s.pending := rfl
@[simp] theorem modSlice_sys (s : State) (n : Nat) (f : Slice → Slice) : (modSlice s n f).sys = s.sys := rfl
@[simp] theorem modSlice_vault (s : State) (n : Nat) (f : Slice → Slice) : (modSlice s n f).vault = s.vault := rfl
@[simp] theorem modSlice_plots (s : State) (n : Nat) (f : Slice → Slice) : (modSlice s n f).plots = s.plots := rfl
@[simp] theorem modSlice_mbxs (s : State) (n : Nat) (f : Slice → Slice) : (modSlice s n f).mbxs = s.mbxs := rfl
@[simp] theorem modSlice_fns (s : State) (n : Nat) (f : Slice → Slice) : (modSlice s n f).fns = s.fns := rfl
@[simp] theorem modSlice_mgmt (s : State) (n : Nat) (f : Slice → Slice) : (modSlice s n f).mgmt = s.mgmt := rfl
@[simp] theorem modSlice_evt (s : State) (n : Nat) (f : Slice → Slice) : (modSlice s n f).evt = s.evt := rfl
@[simp] theorem modSlice_dumps (s : State) (n : Nat) (f : Slice → Slice) : (modSlice s n f).dumps = s.dumps := rfl
@[simp] theorem modSlice_flows (s : State) (n : Nat) (f : Slice → Slice) : (modSlice s n f).flows = s.flows := rfl
@[simp] theorem modSlice_quarters (s : State) (n : Nat) (f : Slice → Slice) : (modSlice s n f).quarters = s.quarters := rfl
@[simp] theorem modSlice_silt (s : State) (n : Nat) (f : Slice → Slice) : (modSlice s n f).silt = s.silt := rfl
@[simp] theorem modSlice_tilth (s : State) (n : Nat) (f : Slice → Slice) : (modSlice s n f).tilth = s.tilth := rfl
@[simp] theorem modSlice_kstacks (s : State) (n : Nat) (f : Slice → Slice) : (modSlice s n f).kstacks = s.kstacks := rfl
@[simp] theorem modSlice_peat (s : State) (n : Nat) (f : Slice → Slice) : (modSlice s n f).peat = s.peat := rfl
@[simp] theorem modSlice_cfg (s : State) (n : Nat) (f : Slice → Slice) : (modSlice s n f).cfg = s.cfg := rfl
@[simp] theorem modSlice_dbg (s : State) (n : Nat) (f : Slice → Slice) : (modSlice s n f).dbg = s.dbg := rfl
@[simp] theorem modSlice_io (s : State) (n : Nat) (f : Slice → Slice) : (modSlice s n f).io = s.io := rfl
@[simp] theorem modSlice_fab (s : State) (n : Nat) (f : Slice → Slice) : (modSlice s n f).fab = s.fab := rfl
@[simp] theorem modSlice_tele (s : State) (n : Nat) (f : Slice → Slice) : (modSlice s n f).tele = s.tele := rfl
@[simp] theorem modSlice_host (s : State) (n : Nat) (f : Slice → Slice) : (modSlice s n f).host = s.host := rfl

/-! ## modProfile -/

@[simp] theorem modProfile_pending (s : State) (n : Nat) (f : Profile → Profile) : (modProfile s n f).pending = s.pending := rfl
@[simp] theorem modProfile_sys (s : State) (n : Nat) (f : Profile → Profile) : (modProfile s n f).sys = s.sys := rfl
@[simp] theorem modProfile_vault (s : State) (n : Nat) (f : Profile → Profile) : (modProfile s n f).vault = s.vault := rfl
@[simp] theorem modProfile_plots (s : State) (n : Nat) (f : Profile → Profile) : (modProfile s n f).plots = s.plots := rfl
@[simp] theorem modProfile_mbxs (s : State) (n : Nat) (f : Profile → Profile) : (modProfile s n f).mbxs = s.mbxs := rfl
@[simp] theorem modProfile_fns (s : State) (n : Nat) (f : Profile → Profile) : (modProfile s n f).fns = s.fns := rfl
@[simp] theorem modProfile_mgmt (s : State) (n : Nat) (f : Profile → Profile) : (modProfile s n f).mgmt = s.mgmt := rfl
@[simp] theorem modProfile_evt (s : State) (n : Nat) (f : Profile → Profile) : (modProfile s n f).evt = s.evt := rfl
@[simp] theorem modProfile_dumps (s : State) (n : Nat) (f : Profile → Profile) : (modProfile s n f).dumps = s.dumps := rfl
@[simp] theorem modProfile_flows (s : State) (n : Nat) (f : Profile → Profile) : (modProfile s n f).flows = s.flows := rfl
@[simp] theorem modProfile_quarters (s : State) (n : Nat) (f : Profile → Profile) : (modProfile s n f).quarters = s.quarters := rfl
@[simp] theorem modProfile_silt (s : State) (n : Nat) (f : Profile → Profile) : (modProfile s n f).silt = s.silt := rfl
@[simp] theorem modProfile_tilth (s : State) (n : Nat) (f : Profile → Profile) : (modProfile s n f).tilth = s.tilth := rfl
@[simp] theorem modProfile_kstacks (s : State) (n : Nat) (f : Profile → Profile) : (modProfile s n f).kstacks = s.kstacks := rfl
@[simp] theorem modProfile_peat (s : State) (n : Nat) (f : Profile → Profile) : (modProfile s n f).peat = s.peat := rfl
@[simp] theorem modProfile_cfg (s : State) (n : Nat) (f : Profile → Profile) : (modProfile s n f).cfg = s.cfg := rfl
@[simp] theorem modProfile_dbg (s : State) (n : Nat) (f : Profile → Profile) : (modProfile s n f).dbg = s.dbg := rfl
@[simp] theorem modProfile_io (s : State) (n : Nat) (f : Profile → Profile) : (modProfile s n f).io = s.io := rfl
@[simp] theorem modProfile_fab (s : State) (n : Nat) (f : Profile → Profile) : (modProfile s n f).fab = s.fab := rfl
@[simp] theorem modProfile_tele (s : State) (n : Nat) (f : Profile → Profile) : (modProfile s n f).tele = s.tele := rfl
@[simp] theorem modProfile_host (s : State) (n : Nat) (f : Profile → Profile) : (modProfile s n f).host = s.host := rfl

/-! ## modLink -/

@[simp] theorem modLink_pending (s : State) (n : Nat) (f : Link → Link) : (modLink s n f).pending = s.pending := rfl
@[simp] theorem modLink_sys (s : State) (n : Nat) (f : Link → Link) : (modLink s n f).sys = s.sys := rfl
@[simp] theorem modLink_vault (s : State) (n : Nat) (f : Link → Link) : (modLink s n f).vault = s.vault := rfl
@[simp] theorem modLink_plots (s : State) (n : Nat) (f : Link → Link) : (modLink s n f).plots = s.plots := rfl
@[simp] theorem modLink_mbxs (s : State) (n : Nat) (f : Link → Link) : (modLink s n f).mbxs = s.mbxs := rfl
@[simp] theorem modLink_fns (s : State) (n : Nat) (f : Link → Link) : (modLink s n f).fns = s.fns := rfl
@[simp] theorem modLink_mgmt (s : State) (n : Nat) (f : Link → Link) : (modLink s n f).mgmt = s.mgmt := rfl
@[simp] theorem modLink_evt (s : State) (n : Nat) (f : Link → Link) : (modLink s n f).evt = s.evt := rfl
@[simp] theorem modLink_dumps (s : State) (n : Nat) (f : Link → Link) : (modLink s n f).dumps = s.dumps := rfl
@[simp] theorem modLink_pce (s : State) (n : Nat) (f : Link → Link) : (modLink s n f).pce = s.pce := rfl
@[simp] theorem modLink_flows (s : State) (n : Nat) (f : Link → Link) : (modLink s n f).flows = s.flows := rfl
@[simp] theorem modLink_quarters (s : State) (n : Nat) (f : Link → Link) : (modLink s n f).quarters = s.quarters := rfl
@[simp] theorem modLink_silt (s : State) (n : Nat) (f : Link → Link) : (modLink s n f).silt = s.silt := rfl
@[simp] theorem modLink_tilth (s : State) (n : Nat) (f : Link → Link) : (modLink s n f).tilth = s.tilth := rfl
@[simp] theorem modLink_kstacks (s : State) (n : Nat) (f : Link → Link) : (modLink s n f).kstacks = s.kstacks := rfl
@[simp] theorem modLink_peat (s : State) (n : Nat) (f : Link → Link) : (modLink s n f).peat = s.peat := rfl
@[simp] theorem modLink_cfg (s : State) (n : Nat) (f : Link → Link) : (modLink s n f).cfg = s.cfg := rfl
@[simp] theorem modLink_dbg (s : State) (n : Nat) (f : Link → Link) : (modLink s n f).dbg = s.dbg := rfl
@[simp] theorem modLink_fab (s : State) (n : Nat) (f : Link → Link) : (modLink s n f).fab = s.fab := rfl
@[simp] theorem modLink_tele (s : State) (n : Nat) (f : Link → Link) : (modLink s n f).tele = s.tele := rfl
@[simp] theorem modLink_host (s : State) (n : Nat) (f : Link → Link) : (modLink s n f).host = s.host := rfl

/-! ## modPort -/

@[simp] theorem modPort_pending (s : State) (n : Nat) (f : Port → Port) : (modPort s n f).pending = s.pending := rfl
@[simp] theorem modPort_sys (s : State) (n : Nat) (f : Port → Port) : (modPort s n f).sys = s.sys := rfl
@[simp] theorem modPort_vault (s : State) (n : Nat) (f : Port → Port) : (modPort s n f).vault = s.vault := rfl
@[simp] theorem modPort_plots (s : State) (n : Nat) (f : Port → Port) : (modPort s n f).plots = s.plots := rfl
@[simp] theorem modPort_mbxs (s : State) (n : Nat) (f : Port → Port) : (modPort s n f).mbxs = s.mbxs := rfl
@[simp] theorem modPort_fns (s : State) (n : Nat) (f : Port → Port) : (modPort s n f).fns = s.fns := rfl
@[simp] theorem modPort_mgmt (s : State) (n : Nat) (f : Port → Port) : (modPort s n f).mgmt = s.mgmt := rfl
@[simp] theorem modPort_evt (s : State) (n : Nat) (f : Port → Port) : (modPort s n f).evt = s.evt := rfl
@[simp] theorem modPort_dumps (s : State) (n : Nat) (f : Port → Port) : (modPort s n f).dumps = s.dumps := rfl
@[simp] theorem modPort_pce (s : State) (n : Nat) (f : Port → Port) : (modPort s n f).pce = s.pce := rfl
@[simp] theorem modPort_flows (s : State) (n : Nat) (f : Port → Port) : (modPort s n f).flows = s.flows := rfl
@[simp] theorem modPort_quarters (s : State) (n : Nat) (f : Port → Port) : (modPort s n f).quarters = s.quarters := rfl
@[simp] theorem modPort_silt (s : State) (n : Nat) (f : Port → Port) : (modPort s n f).silt = s.silt := rfl
@[simp] theorem modPort_tilth (s : State) (n : Nat) (f : Port → Port) : (modPort s n f).tilth = s.tilth := rfl
@[simp] theorem modPort_kstacks (s : State) (n : Nat) (f : Port → Port) : (modPort s n f).kstacks = s.kstacks := rfl
@[simp] theorem modPort_peat (s : State) (n : Nat) (f : Port → Port) : (modPort s n f).peat = s.peat := rfl
@[simp] theorem modPort_cfg (s : State) (n : Nat) (f : Port → Port) : (modPort s n f).cfg = s.cfg := rfl
@[simp] theorem modPort_dbg (s : State) (n : Nat) (f : Port → Port) : (modPort s n f).dbg = s.dbg := rfl
@[simp] theorem modPort_fab (s : State) (n : Nat) (f : Port → Port) : (modPort s n f).fab = s.fab := rfl
@[simp] theorem modPort_tele (s : State) (n : Nat) (f : Port → Port) : (modPort s n f).tele = s.tele := rfl
@[simp] theorem modPort_host (s : State) (n : Nat) (f : Port → Port) : (modPort s n f).host = s.host := rfl

/-! ## modLane -/

@[simp] theorem modLane_pending (s : State) (n : Nat) (f : Lane → Lane) : (modLane s n f).pending = s.pending := rfl
@[simp] theorem modLane_sys (s : State) (n : Nat) (f : Lane → Lane) : (modLane s n f).sys = s.sys := rfl
@[simp] theorem modLane_vault (s : State) (n : Nat) (f : Lane → Lane) : (modLane s n f).vault = s.vault := rfl
@[simp] theorem modLane_plots (s : State) (n : Nat) (f : Lane → Lane) : (modLane s n f).plots = s.plots := rfl
@[simp] theorem modLane_mbxs (s : State) (n : Nat) (f : Lane → Lane) : (modLane s n f).mbxs = s.mbxs := rfl
@[simp] theorem modLane_fns (s : State) (n : Nat) (f : Lane → Lane) : (modLane s n f).fns = s.fns := rfl
@[simp] theorem modLane_mgmt (s : State) (n : Nat) (f : Lane → Lane) : (modLane s n f).mgmt = s.mgmt := rfl
@[simp] theorem modLane_evt (s : State) (n : Nat) (f : Lane → Lane) : (modLane s n f).evt = s.evt := rfl
@[simp] theorem modLane_dumps (s : State) (n : Nat) (f : Lane → Lane) : (modLane s n f).dumps = s.dumps := rfl
@[simp] theorem modLane_pce (s : State) (n : Nat) (f : Lane → Lane) : (modLane s n f).pce = s.pce := rfl
@[simp] theorem modLane_flows (s : State) (n : Nat) (f : Lane → Lane) : (modLane s n f).flows = s.flows := rfl
@[simp] theorem modLane_quarters (s : State) (n : Nat) (f : Lane → Lane) : (modLane s n f).quarters = s.quarters := rfl
@[simp] theorem modLane_silt (s : State) (n : Nat) (f : Lane → Lane) : (modLane s n f).silt = s.silt := rfl
@[simp] theorem modLane_tilth (s : State) (n : Nat) (f : Lane → Lane) : (modLane s n f).tilth = s.tilth := rfl
@[simp] theorem modLane_kstacks (s : State) (n : Nat) (f : Lane → Lane) : (modLane s n f).kstacks = s.kstacks := rfl
@[simp] theorem modLane_peat (s : State) (n : Nat) (f : Lane → Lane) : (modLane s n f).peat = s.peat := rfl
@[simp] theorem modLane_cfg (s : State) (n : Nat) (f : Lane → Lane) : (modLane s n f).cfg = s.cfg := rfl
@[simp] theorem modLane_dbg (s : State) (n : Nat) (f : Lane → Lane) : (modLane s n f).dbg = s.dbg := rfl
@[simp] theorem modLane_fab (s : State) (n : Nat) (f : Lane → Lane) : (modLane s n f).fab = s.fab := rfl
@[simp] theorem modLane_tele (s : State) (n : Nat) (f : Lane → Lane) : (modLane s n f).tele = s.tele := rfl
@[simp] theorem modLane_host (s : State) (n : Nat) (f : Lane → Lane) : (modLane s n f).host = s.host := rfl

/-! ## modReach -/

@[simp] theorem modReach_pending (s : State) (n : Nat) (f : Reach → Reach) : (modReach s n f).pending = s.pending := rfl
@[simp] theorem modReach_sys (s : State) (n : Nat) (f : Reach → Reach) : (modReach s n f).sys = s.sys := rfl
@[simp] theorem modReach_vault (s : State) (n : Nat) (f : Reach → Reach) : (modReach s n f).vault = s.vault := rfl
@[simp] theorem modReach_plots (s : State) (n : Nat) (f : Reach → Reach) : (modReach s n f).plots = s.plots := rfl
@[simp] theorem modReach_mbxs (s : State) (n : Nat) (f : Reach → Reach) : (modReach s n f).mbxs = s.mbxs := rfl
@[simp] theorem modReach_fns (s : State) (n : Nat) (f : Reach → Reach) : (modReach s n f).fns = s.fns := rfl
@[simp] theorem modReach_mgmt (s : State) (n : Nat) (f : Reach → Reach) : (modReach s n f).mgmt = s.mgmt := rfl
@[simp] theorem modReach_evt (s : State) (n : Nat) (f : Reach → Reach) : (modReach s n f).evt = s.evt := rfl
@[simp] theorem modReach_dumps (s : State) (n : Nat) (f : Reach → Reach) : (modReach s n f).dumps = s.dumps := rfl
@[simp] theorem modReach_pce (s : State) (n : Nat) (f : Reach → Reach) : (modReach s n f).pce = s.pce := rfl
@[simp] theorem modReach_flows (s : State) (n : Nat) (f : Reach → Reach) : (modReach s n f).flows = s.flows := rfl
@[simp] theorem modReach_quarters (s : State) (n : Nat) (f : Reach → Reach) : (modReach s n f).quarters = s.quarters := rfl
@[simp] theorem modReach_silt (s : State) (n : Nat) (f : Reach → Reach) : (modReach s n f).silt = s.silt := rfl
@[simp] theorem modReach_tilth (s : State) (n : Nat) (f : Reach → Reach) : (modReach s n f).tilth = s.tilth := rfl
@[simp] theorem modReach_kstacks (s : State) (n : Nat) (f : Reach → Reach) : (modReach s n f).kstacks = s.kstacks := rfl
@[simp] theorem modReach_peat (s : State) (n : Nat) (f : Reach → Reach) : (modReach s n f).peat = s.peat := rfl
@[simp] theorem modReach_cfg (s : State) (n : Nat) (f : Reach → Reach) : (modReach s n f).cfg = s.cfg := rfl
@[simp] theorem modReach_dbg (s : State) (n : Nat) (f : Reach → Reach) : (modReach s n f).dbg = s.dbg := rfl
@[simp] theorem modReach_fab (s : State) (n : Nat) (f : Reach → Reach) : (modReach s n f).fab = s.fab := rfl
@[simp] theorem modReach_tele (s : State) (n : Nat) (f : Reach → Reach) : (modReach s n f).tele = s.tele := rfl
@[simp] theorem modReach_host (s : State) (n : Nat) (f : Reach → Reach) : (modReach s n f).host = s.host := rfl

/-! ## modGroup -/

@[simp] theorem modGroup_pending (s : State) (n : Nat) (f : Group → Group) : (modGroup s n f).pending = s.pending := rfl
@[simp] theorem modGroup_sys (s : State) (n : Nat) (f : Group → Group) : (modGroup s n f).sys = s.sys := rfl
@[simp] theorem modGroup_vault (s : State) (n : Nat) (f : Group → Group) : (modGroup s n f).vault = s.vault := rfl
@[simp] theorem modGroup_plots (s : State) (n : Nat) (f : Group → Group) : (modGroup s n f).plots = s.plots := rfl
@[simp] theorem modGroup_mbxs (s : State) (n : Nat) (f : Group → Group) : (modGroup s n f).mbxs = s.mbxs := rfl
@[simp] theorem modGroup_fns (s : State) (n : Nat) (f : Group → Group) : (modGroup s n f).fns = s.fns := rfl
@[simp] theorem modGroup_mgmt (s : State) (n : Nat) (f : Group → Group) : (modGroup s n f).mgmt = s.mgmt := rfl
@[simp] theorem modGroup_evt (s : State) (n : Nat) (f : Group → Group) : (modGroup s n f).evt = s.evt := rfl
@[simp] theorem modGroup_dumps (s : State) (n : Nat) (f : Group → Group) : (modGroup s n f).dumps = s.dumps := rfl
@[simp] theorem modGroup_pce (s : State) (n : Nat) (f : Group → Group) : (modGroup s n f).pce = s.pce := rfl
@[simp] theorem modGroup_flows (s : State) (n : Nat) (f : Group → Group) : (modGroup s n f).flows = s.flows := rfl
@[simp] theorem modGroup_quarters (s : State) (n : Nat) (f : Group → Group) : (modGroup s n f).quarters = s.quarters := rfl
@[simp] theorem modGroup_silt (s : State) (n : Nat) (f : Group → Group) : (modGroup s n f).silt = s.silt := rfl
@[simp] theorem modGroup_kstacks (s : State) (n : Nat) (f : Group → Group) : (modGroup s n f).kstacks = s.kstacks := rfl
@[simp] theorem modGroup_peat (s : State) (n : Nat) (f : Group → Group) : (modGroup s n f).peat = s.peat := rfl
@[simp] theorem modGroup_cfg (s : State) (n : Nat) (f : Group → Group) : (modGroup s n f).cfg = s.cfg := rfl
@[simp] theorem modGroup_dbg (s : State) (n : Nat) (f : Group → Group) : (modGroup s n f).dbg = s.dbg := rfl
@[simp] theorem modGroup_io (s : State) (n : Nat) (f : Group → Group) : (modGroup s n f).io = s.io := rfl
@[simp] theorem modGroup_fab (s : State) (n : Nat) (f : Group → Group) : (modGroup s n f).fab = s.fab := rfl
@[simp] theorem modGroup_tele (s : State) (n : Nat) (f : Group → Group) : (modGroup s n f).tele = s.tele := rfl
@[simp] theorem modGroup_host (s : State) (n : Nat) (f : Group → Group) : (modGroup s n f).host = s.host := rfl

/-! ## modCrc -/

@[simp] theorem modCrc_pending (s : State) (n : Nat) (f : Crc → Crc) : (modCrc s n f).pending = s.pending := rfl
@[simp] theorem modCrc_sys (s : State) (n : Nat) (f : Crc → Crc) : (modCrc s n f).sys = s.sys := rfl
@[simp] theorem modCrc_vault (s : State) (n : Nat) (f : Crc → Crc) : (modCrc s n f).vault = s.vault := rfl
@[simp] theorem modCrc_plots (s : State) (n : Nat) (f : Crc → Crc) : (modCrc s n f).plots = s.plots := rfl
@[simp] theorem modCrc_mbxs (s : State) (n : Nat) (f : Crc → Crc) : (modCrc s n f).mbxs = s.mbxs := rfl
@[simp] theorem modCrc_fns (s : State) (n : Nat) (f : Crc → Crc) : (modCrc s n f).fns = s.fns := rfl
@[simp] theorem modCrc_mgmt (s : State) (n : Nat) (f : Crc → Crc) : (modCrc s n f).mgmt = s.mgmt := rfl
@[simp] theorem modCrc_evt (s : State) (n : Nat) (f : Crc → Crc) : (modCrc s n f).evt = s.evt := rfl
@[simp] theorem modCrc_dumps (s : State) (n : Nat) (f : Crc → Crc) : (modCrc s n f).dumps = s.dumps := rfl
@[simp] theorem modCrc_pce (s : State) (n : Nat) (f : Crc → Crc) : (modCrc s n f).pce = s.pce := rfl
@[simp] theorem modCrc_flows (s : State) (n : Nat) (f : Crc → Crc) : (modCrc s n f).flows = s.flows := rfl
@[simp] theorem modCrc_quarters (s : State) (n : Nat) (f : Crc → Crc) : (modCrc s n f).quarters = s.quarters := rfl
@[simp] theorem modCrc_silt (s : State) (n : Nat) (f : Crc → Crc) : (modCrc s n f).silt = s.silt := rfl
@[simp] theorem modCrc_tilth (s : State) (n : Nat) (f : Crc → Crc) : (modCrc s n f).tilth = s.tilth := rfl
@[simp] theorem modCrc_kstacks (s : State) (n : Nat) (f : Crc → Crc) : (modCrc s n f).kstacks = s.kstacks := rfl
@[simp] theorem modCrc_peat (s : State) (n : Nat) (f : Crc → Crc) : (modCrc s n f).peat = s.peat := rfl
@[simp] theorem modCrc_cfg (s : State) (n : Nat) (f : Crc → Crc) : (modCrc s n f).cfg = s.cfg := rfl
@[simp] theorem modCrc_dbg (s : State) (n : Nat) (f : Crc → Crc) : (modCrc s n f).dbg = s.dbg := rfl
@[simp] theorem modCrc_io (s : State) (n : Nat) (f : Crc → Crc) : (modCrc s n f).io = s.io := rfl
@[simp] theorem modCrc_tele (s : State) (n : Nat) (f : Crc → Crc) : (modCrc s n f).tele = s.tele := rfl
@[simp] theorem modCrc_host (s : State) (n : Nat) (f : Crc → Crc) : (modCrc s n f).host = s.host := rfl

/-! ## modGrit -/

@[simp] theorem modGrit_pending (s : State) (n : Nat) (f : Grit → Grit) : (modGrit s n f).pending = s.pending := rfl
@[simp] theorem modGrit_sys (s : State) (n : Nat) (f : Grit → Grit) : (modGrit s n f).sys = s.sys := rfl
@[simp] theorem modGrit_vault (s : State) (n : Nat) (f : Grit → Grit) : (modGrit s n f).vault = s.vault := rfl
@[simp] theorem modGrit_plots (s : State) (n : Nat) (f : Grit → Grit) : (modGrit s n f).plots = s.plots := rfl
@[simp] theorem modGrit_mbxs (s : State) (n : Nat) (f : Grit → Grit) : (modGrit s n f).mbxs = s.mbxs := rfl
@[simp] theorem modGrit_fns (s : State) (n : Nat) (f : Grit → Grit) : (modGrit s n f).fns = s.fns := rfl
@[simp] theorem modGrit_mgmt (s : State) (n : Nat) (f : Grit → Grit) : (modGrit s n f).mgmt = s.mgmt := rfl
@[simp] theorem modGrit_evt (s : State) (n : Nat) (f : Grit → Grit) : (modGrit s n f).evt = s.evt := rfl
@[simp] theorem modGrit_dumps (s : State) (n : Nat) (f : Grit → Grit) : (modGrit s n f).dumps = s.dumps := rfl
@[simp] theorem modGrit_pce (s : State) (n : Nat) (f : Grit → Grit) : (modGrit s n f).pce = s.pce := rfl
@[simp] theorem modGrit_flows (s : State) (n : Nat) (f : Grit → Grit) : (modGrit s n f).flows = s.flows := rfl
@[simp] theorem modGrit_quarters (s : State) (n : Nat) (f : Grit → Grit) : (modGrit s n f).quarters = s.quarters := rfl
@[simp] theorem modGrit_silt (s : State) (n : Nat) (f : Grit → Grit) : (modGrit s n f).silt = s.silt := rfl
@[simp] theorem modGrit_tilth (s : State) (n : Nat) (f : Grit → Grit) : (modGrit s n f).tilth = s.tilth := rfl
@[simp] theorem modGrit_kstacks (s : State) (n : Nat) (f : Grit → Grit) : (modGrit s n f).kstacks = s.kstacks := rfl
@[simp] theorem modGrit_peat (s : State) (n : Nat) (f : Grit → Grit) : (modGrit s n f).peat = s.peat := rfl
@[simp] theorem modGrit_cfg (s : State) (n : Nat) (f : Grit → Grit) : (modGrit s n f).cfg = s.cfg := rfl
@[simp] theorem modGrit_dbg (s : State) (n : Nat) (f : Grit → Grit) : (modGrit s n f).dbg = s.dbg := rfl
@[simp] theorem modGrit_io (s : State) (n : Nat) (f : Grit → Grit) : (modGrit s n f).io = s.io := rfl
@[simp] theorem modGrit_tele (s : State) (n : Nat) (f : Grit → Grit) : (modGrit s n f).tele = s.tele := rfl
@[simp] theorem modGrit_host (s : State) (n : Nat) (f : Grit → Grit) : (modGrit s n f).host = s.host := rfl

/-! ## modRouter -/

@[simp] theorem modRouter_pending (s : State) (n : Nat) (f : Router → Router) : (modRouter s n f).pending = s.pending := rfl
@[simp] theorem modRouter_sys (s : State) (n : Nat) (f : Router → Router) : (modRouter s n f).sys = s.sys := rfl
@[simp] theorem modRouter_vault (s : State) (n : Nat) (f : Router → Router) : (modRouter s n f).vault = s.vault := rfl
@[simp] theorem modRouter_plots (s : State) (n : Nat) (f : Router → Router) : (modRouter s n f).plots = s.plots := rfl
@[simp] theorem modRouter_mbxs (s : State) (n : Nat) (f : Router → Router) : (modRouter s n f).mbxs = s.mbxs := rfl
@[simp] theorem modRouter_fns (s : State) (n : Nat) (f : Router → Router) : (modRouter s n f).fns = s.fns := rfl
@[simp] theorem modRouter_mgmt (s : State) (n : Nat) (f : Router → Router) : (modRouter s n f).mgmt = s.mgmt := rfl
@[simp] theorem modRouter_evt (s : State) (n : Nat) (f : Router → Router) : (modRouter s n f).evt = s.evt := rfl
@[simp] theorem modRouter_dumps (s : State) (n : Nat) (f : Router → Router) : (modRouter s n f).dumps = s.dumps := rfl
@[simp] theorem modRouter_pce (s : State) (n : Nat) (f : Router → Router) : (modRouter s n f).pce = s.pce := rfl
@[simp] theorem modRouter_flows (s : State) (n : Nat) (f : Router → Router) : (modRouter s n f).flows = s.flows := rfl
@[simp] theorem modRouter_quarters (s : State) (n : Nat) (f : Router → Router) : (modRouter s n f).quarters = s.quarters := rfl
@[simp] theorem modRouter_tilth (s : State) (n : Nat) (f : Router → Router) : (modRouter s n f).tilth = s.tilth := rfl
@[simp] theorem modRouter_kstacks (s : State) (n : Nat) (f : Router → Router) : (modRouter s n f).kstacks = s.kstacks := rfl
@[simp] theorem modRouter_peat (s : State) (n : Nat) (f : Router → Router) : (modRouter s n f).peat = s.peat := rfl
@[simp] theorem modRouter_cfg (s : State) (n : Nat) (f : Router → Router) : (modRouter s n f).cfg = s.cfg := rfl
@[simp] theorem modRouter_dbg (s : State) (n : Nat) (f : Router → Router) : (modRouter s n f).dbg = s.dbg := rfl
@[simp] theorem modRouter_io (s : State) (n : Nat) (f : Router → Router) : (modRouter s n f).io = s.io := rfl
@[simp] theorem modRouter_fab (s : State) (n : Nat) (f : Router → Router) : (modRouter s n f).fab = s.fab := rfl
@[simp] theorem modRouter_tele (s : State) (n : Nat) (f : Router → Router) : (modRouter s n f).tele = s.tele := rfl
@[simp] theorem modRouter_host (s : State) (n : Nat) (f : Router → Router) : (modRouter s n f).host = s.host := rfl

/-! ## modSlot -/

@[simp] theorem modSlot_pending (s : State) (m n : Nat) (f : Slot → Slot) : (modSlot s m n f).pending = s.pending := rfl
@[simp] theorem modSlot_sys (s : State) (m n : Nat) (f : Slot → Slot) : (modSlot s m n f).sys = s.sys := rfl
@[simp] theorem modSlot_vault (s : State) (m n : Nat) (f : Slot → Slot) : (modSlot s m n f).vault = s.vault := rfl
@[simp] theorem modSlot_plots (s : State) (m n : Nat) (f : Slot → Slot) : (modSlot s m n f).plots = s.plots := rfl
@[simp] theorem modSlot_fns (s : State) (m n : Nat) (f : Slot → Slot) : (modSlot s m n f).fns = s.fns := rfl
@[simp] theorem modSlot_mgmt (s : State) (m n : Nat) (f : Slot → Slot) : (modSlot s m n f).mgmt = s.mgmt := rfl
@[simp] theorem modSlot_evt (s : State) (m n : Nat) (f : Slot → Slot) : (modSlot s m n f).evt = s.evt := rfl
@[simp] theorem modSlot_dumps (s : State) (m n : Nat) (f : Slot → Slot) : (modSlot s m n f).dumps = s.dumps := rfl
@[simp] theorem modSlot_pce (s : State) (m n : Nat) (f : Slot → Slot) : (modSlot s m n f).pce = s.pce := rfl
@[simp] theorem modSlot_flows (s : State) (m n : Nat) (f : Slot → Slot) : (modSlot s m n f).flows = s.flows := rfl
@[simp] theorem modSlot_quarters (s : State) (m n : Nat) (f : Slot → Slot) : (modSlot s m n f).quarters = s.quarters := rfl
@[simp] theorem modSlot_silt (s : State) (m n : Nat) (f : Slot → Slot) : (modSlot s m n f).silt = s.silt := rfl
@[simp] theorem modSlot_tilth (s : State) (m n : Nat) (f : Slot → Slot) : (modSlot s m n f).tilth = s.tilth := rfl
@[simp] theorem modSlot_kstacks (s : State) (m n : Nat) (f : Slot → Slot) : (modSlot s m n f).kstacks = s.kstacks := rfl
@[simp] theorem modSlot_peat (s : State) (m n : Nat) (f : Slot → Slot) : (modSlot s m n f).peat = s.peat := rfl
@[simp] theorem modSlot_cfg (s : State) (m n : Nat) (f : Slot → Slot) : (modSlot s m n f).cfg = s.cfg := rfl
@[simp] theorem modSlot_dbg (s : State) (m n : Nat) (f : Slot → Slot) : (modSlot s m n f).dbg = s.dbg := rfl
@[simp] theorem modSlot_io (s : State) (m n : Nat) (f : Slot → Slot) : (modSlot s m n f).io = s.io := rfl
@[simp] theorem modSlot_fab (s : State) (m n : Nat) (f : Slot → Slot) : (modSlot s m n f).fab = s.fab := rfl
@[simp] theorem modSlot_tele (s : State) (m n : Nat) (f : Slot → Slot) : (modSlot s m n f).tele = s.tele := rfl
@[simp] theorem modSlot_host (s : State) (m n : Nat) (f : Slot → Slot) : (modSlot s m n f).host = s.host := rfl

/-! ## modTrk -/

@[simp] theorem modTrk_pending (s : State) (m n : Nat) (f : Trk → Trk) : (modTrk s m n f).pending = s.pending := rfl
@[simp] theorem modTrk_sys (s : State) (m n : Nat) (f : Trk → Trk) : (modTrk s m n f).sys = s.sys := rfl
@[simp] theorem modTrk_vault (s : State) (m n : Nat) (f : Trk → Trk) : (modTrk s m n f).vault = s.vault := rfl
@[simp] theorem modTrk_plots (s : State) (m n : Nat) (f : Trk → Trk) : (modTrk s m n f).plots = s.plots := rfl
@[simp] theorem modTrk_mbxs (s : State) (m n : Nat) (f : Trk → Trk) : (modTrk s m n f).mbxs = s.mbxs := rfl
@[simp] theorem modTrk_fns (s : State) (m n : Nat) (f : Trk → Trk) : (modTrk s m n f).fns = s.fns := rfl
@[simp] theorem modTrk_mgmt (s : State) (m n : Nat) (f : Trk → Trk) : (modTrk s m n f).mgmt = s.mgmt := rfl
@[simp] theorem modTrk_evt (s : State) (m n : Nat) (f : Trk → Trk) : (modTrk s m n f).evt = s.evt := rfl
@[simp] theorem modTrk_dumps (s : State) (m n : Nat) (f : Trk → Trk) : (modTrk s m n f).dumps = s.dumps := rfl
@[simp] theorem modTrk_flows (s : State) (m n : Nat) (f : Trk → Trk) : (modTrk s m n f).flows = s.flows := rfl
@[simp] theorem modTrk_quarters (s : State) (m n : Nat) (f : Trk → Trk) : (modTrk s m n f).quarters = s.quarters := rfl
@[simp] theorem modTrk_silt (s : State) (m n : Nat) (f : Trk → Trk) : (modTrk s m n f).silt = s.silt := rfl
@[simp] theorem modTrk_tilth (s : State) (m n : Nat) (f : Trk → Trk) : (modTrk s m n f).tilth = s.tilth := rfl
@[simp] theorem modTrk_kstacks (s : State) (m n : Nat) (f : Trk → Trk) : (modTrk s m n f).kstacks = s.kstacks := rfl
@[simp] theorem modTrk_peat (s : State) (m n : Nat) (f : Trk → Trk) : (modTrk s m n f).peat = s.peat := rfl
@[simp] theorem modTrk_cfg (s : State) (m n : Nat) (f : Trk → Trk) : (modTrk s m n f).cfg = s.cfg := rfl
@[simp] theorem modTrk_dbg (s : State) (m n : Nat) (f : Trk → Trk) : (modTrk s m n f).dbg = s.dbg := rfl
@[simp] theorem modTrk_io (s : State) (m n : Nat) (f : Trk → Trk) : (modTrk s m n f).io = s.io := rfl
@[simp] theorem modTrk_fab (s : State) (m n : Nat) (f : Trk → Trk) : (modTrk s m n f).fab = s.fab := rfl
@[simp] theorem modTrk_tele (s : State) (m n : Nat) (f : Trk → Trk) : (modTrk s m n f).tele = s.tele := rfl
@[simp] theorem modTrk_host (s : State) (m n : Nat) (f : Trk → Trk) : (modTrk s m n f).host = s.host := rfl

/-! ## modChan -/

@[simp] theorem modChan_pending (s : State) (m n : Nat) (f : Chan → Chan) : (modChan s m n f).pending = s.pending := rfl
@[simp] theorem modChan_sys (s : State) (m n : Nat) (f : Chan → Chan) : (modChan s m n f).sys = s.sys := rfl
@[simp] theorem modChan_vault (s : State) (m n : Nat) (f : Chan → Chan) : (modChan s m n f).vault = s.vault := rfl
@[simp] theorem modChan_plots (s : State) (m n : Nat) (f : Chan → Chan) : (modChan s m n f).plots = s.plots := rfl
@[simp] theorem modChan_mbxs (s : State) (m n : Nat) (f : Chan → Chan) : (modChan s m n f).mbxs = s.mbxs := rfl
@[simp] theorem modChan_fns (s : State) (m n : Nat) (f : Chan → Chan) : (modChan s m n f).fns = s.fns := rfl
@[simp] theorem modChan_mgmt (s : State) (m n : Nat) (f : Chan → Chan) : (modChan s m n f).mgmt = s.mgmt := rfl
@[simp] theorem modChan_evt (s : State) (m n : Nat) (f : Chan → Chan) : (modChan s m n f).evt = s.evt := rfl
@[simp] theorem modChan_dumps (s : State) (m n : Nat) (f : Chan → Chan) : (modChan s m n f).dumps = s.dumps := rfl
@[simp] theorem modChan_pce (s : State) (m n : Nat) (f : Chan → Chan) : (modChan s m n f).pce = s.pce := rfl
@[simp] theorem modChan_flows (s : State) (m n : Nat) (f : Chan → Chan) : (modChan s m n f).flows = s.flows := rfl
@[simp] theorem modChan_quarters (s : State) (m n : Nat) (f : Chan → Chan) : (modChan s m n f).quarters = s.quarters := rfl
@[simp] theorem modChan_silt (s : State) (m n : Nat) (f : Chan → Chan) : (modChan s m n f).silt = s.silt := rfl
@[simp] theorem modChan_tilth (s : State) (m n : Nat) (f : Chan → Chan) : (modChan s m n f).tilth = s.tilth := rfl
@[simp] theorem modChan_peat (s : State) (m n : Nat) (f : Chan → Chan) : (modChan s m n f).peat = s.peat := rfl
@[simp] theorem modChan_cfg (s : State) (m n : Nat) (f : Chan → Chan) : (modChan s m n f).cfg = s.cfg := rfl
@[simp] theorem modChan_dbg (s : State) (m n : Nat) (f : Chan → Chan) : (modChan s m n f).dbg = s.dbg := rfl
@[simp] theorem modChan_io (s : State) (m n : Nat) (f : Chan → Chan) : (modChan s m n f).io = s.io := rfl
@[simp] theorem modChan_fab (s : State) (m n : Nat) (f : Chan → Chan) : (modChan s m n f).fab = s.fab := rfl
@[simp] theorem modChan_tele (s : State) (m n : Nat) (f : Chan → Chan) : (modChan s m n f).tele = s.tele := rfl
@[simp] theorem modChan_host (s : State) (m n : Nat) (f : Chan → Chan) : (modChan s m n f).host = s.host := rfl

/-! ## modFront -/

@[simp] theorem modFront_pending (s : State) (m n : Nat) (f : Front → Front) : (modFront s m n f).pending = s.pending := rfl
@[simp] theorem modFront_sys (s : State) (m n : Nat) (f : Front → Front) : (modFront s m n f).sys = s.sys := rfl
@[simp] theorem modFront_vault (s : State) (m n : Nat) (f : Front → Front) : (modFront s m n f).vault = s.vault := rfl
@[simp] theorem modFront_plots (s : State) (m n : Nat) (f : Front → Front) : (modFront s m n f).plots = s.plots := rfl
@[simp] theorem modFront_mbxs (s : State) (m n : Nat) (f : Front → Front) : (modFront s m n f).mbxs = s.mbxs := rfl
@[simp] theorem modFront_fns (s : State) (m n : Nat) (f : Front → Front) : (modFront s m n f).fns = s.fns := rfl
@[simp] theorem modFront_mgmt (s : State) (m n : Nat) (f : Front → Front) : (modFront s m n f).mgmt = s.mgmt := rfl
@[simp] theorem modFront_evt (s : State) (m n : Nat) (f : Front → Front) : (modFront s m n f).evt = s.evt := rfl
@[simp] theorem modFront_dumps (s : State) (m n : Nat) (f : Front → Front) : (modFront s m n f).dumps = s.dumps := rfl
@[simp] theorem modFront_pce (s : State) (m n : Nat) (f : Front → Front) : (modFront s m n f).pce = s.pce := rfl
@[simp] theorem modFront_flows (s : State) (m n : Nat) (f : Front → Front) : (modFront s m n f).flows = s.flows := rfl
@[simp] theorem modFront_quarters (s : State) (m n : Nat) (f : Front → Front) : (modFront s m n f).quarters = s.quarters := rfl
@[simp] theorem modFront_silt (s : State) (m n : Nat) (f : Front → Front) : (modFront s m n f).silt = s.silt := rfl
@[simp] theorem modFront_tilth (s : State) (m n : Nat) (f : Front → Front) : (modFront s m n f).tilth = s.tilth := rfl
@[simp] theorem modFront_peat (s : State) (m n : Nat) (f : Front → Front) : (modFront s m n f).peat = s.peat := rfl
@[simp] theorem modFront_cfg (s : State) (m n : Nat) (f : Front → Front) : (modFront s m n f).cfg = s.cfg := rfl
@[simp] theorem modFront_dbg (s : State) (m n : Nat) (f : Front → Front) : (modFront s m n f).dbg = s.dbg := rfl
@[simp] theorem modFront_io (s : State) (m n : Nat) (f : Front → Front) : (modFront s m n f).io = s.io := rfl
@[simp] theorem modFront_fab (s : State) (m n : Nat) (f : Front → Front) : (modFront s m n f).fab = s.fab := rfl
@[simp] theorem modFront_tele (s : State) (m n : Nat) (f : Front → Front) : (modFront s m n f).tele = s.tele := rfl
@[simp] theorem modFront_host (s : State) (m n : Nat) (f : Front → Front) : (modFront s m n f).host = s.host := rfl

/-! ## modGran -/

@[simp] theorem modGran_pending (s : State) (m n : Nat) (f : Granule → Granule) : (modGran s m n f).pending = s.pending := rfl
@[simp] theorem modGran_sys (s : State) (m n : Nat) (f : Granule → Granule) : (modGran s m n f).sys = s.sys := rfl
@[simp] theorem modGran_vault (s : State) (m n : Nat) (f : Granule → Granule) : (modGran s m n f).vault = s.vault := rfl
@[simp] theorem modGran_plots (s : State) (m n : Nat) (f : Granule → Granule) : (modGran s m n f).plots = s.plots := rfl
@[simp] theorem modGran_mbxs (s : State) (m n : Nat) (f : Granule → Granule) : (modGran s m n f).mbxs = s.mbxs := rfl
@[simp] theorem modGran_fns (s : State) (m n : Nat) (f : Granule → Granule) : (modGran s m n f).fns = s.fns := rfl
@[simp] theorem modGran_mgmt (s : State) (m n : Nat) (f : Granule → Granule) : (modGran s m n f).mgmt = s.mgmt := rfl
@[simp] theorem modGran_evt (s : State) (m n : Nat) (f : Granule → Granule) : (modGran s m n f).evt = s.evt := rfl
@[simp] theorem modGran_dumps (s : State) (m n : Nat) (f : Granule → Granule) : (modGran s m n f).dumps = s.dumps := rfl
@[simp] theorem modGran_pce (s : State) (m n : Nat) (f : Granule → Granule) : (modGran s m n f).pce = s.pce := rfl
@[simp] theorem modGran_flows (s : State) (m n : Nat) (f : Granule → Granule) : (modGran s m n f).flows = s.flows := rfl
@[simp] theorem modGran_quarters (s : State) (m n : Nat) (f : Granule → Granule) : (modGran s m n f).quarters = s.quarters := rfl
@[simp] theorem modGran_silt (s : State) (m n : Nat) (f : Granule → Granule) : (modGran s m n f).silt = s.silt := rfl
@[simp] theorem modGran_tilth (s : State) (m n : Nat) (f : Granule → Granule) : (modGran s m n f).tilth = s.tilth := rfl
@[simp] theorem modGran_peat (s : State) (m n : Nat) (f : Granule → Granule) : (modGran s m n f).peat = s.peat := rfl
@[simp] theorem modGran_cfg (s : State) (m n : Nat) (f : Granule → Granule) : (modGran s m n f).cfg = s.cfg := rfl
@[simp] theorem modGran_dbg (s : State) (m n : Nat) (f : Granule → Granule) : (modGran s m n f).dbg = s.dbg := rfl
@[simp] theorem modGran_io (s : State) (m n : Nat) (f : Granule → Granule) : (modGran s m n f).io = s.io := rfl
@[simp] theorem modGran_fab (s : State) (m n : Nat) (f : Granule → Granule) : (modGran s m n f).fab = s.fab := rfl
@[simp] theorem modGran_tele (s : State) (m n : Nat) (f : Granule → Granule) : (modGran s m n f).tele = s.tele := rfl
@[simp] theorem modGran_host (s : State) (m n : Nat) (f : Granule → Granule) : (modGran s m n f).host = s.host := rfl

/-! ## modEslot -/

@[simp] theorem modEslot_pending (s : State) (m n : Nat) (f : ESlot → ESlot) : (modEslot s m n f).pending = s.pending := rfl
@[simp] theorem modEslot_sys (s : State) (m n : Nat) (f : ESlot → ESlot) : (modEslot s m n f).sys = s.sys := rfl
@[simp] theorem modEslot_vault (s : State) (m n : Nat) (f : ESlot → ESlot) : (modEslot s m n f).vault = s.vault := rfl
@[simp] theorem modEslot_plots (s : State) (m n : Nat) (f : ESlot → ESlot) : (modEslot s m n f).plots = s.plots := rfl
@[simp] theorem modEslot_mbxs (s : State) (m n : Nat) (f : ESlot → ESlot) : (modEslot s m n f).mbxs = s.mbxs := rfl
@[simp] theorem modEslot_fns (s : State) (m n : Nat) (f : ESlot → ESlot) : (modEslot s m n f).fns = s.fns := rfl
@[simp] theorem modEslot_mgmt (s : State) (m n : Nat) (f : ESlot → ESlot) : (modEslot s m n f).mgmt = s.mgmt := rfl
@[simp] theorem modEslot_evt (s : State) (m n : Nat) (f : ESlot → ESlot) : (modEslot s m n f).evt = s.evt := rfl
@[simp] theorem modEslot_dumps (s : State) (m n : Nat) (f : ESlot → ESlot) : (modEslot s m n f).dumps = s.dumps := rfl
@[simp] theorem modEslot_pce (s : State) (m n : Nat) (f : ESlot → ESlot) : (modEslot s m n f).pce = s.pce := rfl
@[simp] theorem modEslot_flows (s : State) (m n : Nat) (f : ESlot → ESlot) : (modEslot s m n f).flows = s.flows := rfl
@[simp] theorem modEslot_silt (s : State) (m n : Nat) (f : ESlot → ESlot) : (modEslot s m n f).silt = s.silt := rfl
@[simp] theorem modEslot_tilth (s : State) (m n : Nat) (f : ESlot → ESlot) : (modEslot s m n f).tilth = s.tilth := rfl
@[simp] theorem modEslot_kstacks (s : State) (m n : Nat) (f : ESlot → ESlot) : (modEslot s m n f).kstacks = s.kstacks := rfl
@[simp] theorem modEslot_peat (s : State) (m n : Nat) (f : ESlot → ESlot) : (modEslot s m n f).peat = s.peat := rfl
@[simp] theorem modEslot_cfg (s : State) (m n : Nat) (f : ESlot → ESlot) : (modEslot s m n f).cfg = s.cfg := rfl
@[simp] theorem modEslot_dbg (s : State) (m n : Nat) (f : ESlot → ESlot) : (modEslot s m n f).dbg = s.dbg := rfl
@[simp] theorem modEslot_io (s : State) (m n : Nat) (f : ESlot → ESlot) : (modEslot s m n f).io = s.io := rfl
@[simp] theorem modEslot_fab (s : State) (m n : Nat) (f : ESlot → ESlot) : (modEslot s m n f).fab = s.fab := rfl
@[simp] theorem modEslot_tele (s : State) (m n : Nat) (f : ESlot → ESlot) : (modEslot s m n f).tele = s.tele := rfl
@[simp] theorem modEslot_host (s : State) (m n : Nat) (f : ESlot → ESlot) : (modEslot s m n f).host = s.host := rfl

end Machine
end Sys2Proof
end

