-- ==== Sys2Proof/Laws/Table.lean ====
section
/-! SUPPORT. What the operations of sparse tables do: reading after writing, and the canonical form. -/

namespace Sys2Proof

variable {α : Type} [DecidableEq α]

/-- What is put at a key is read there. -/
@[simp] theorem tget_tset_self (d : α) (t : Tbl α) (k : Nat) (v : α) : tget d (tset d t k v) k = v := by
  induction t with
  | nil =>
    unfold tset
    split
    · next h => simp [tget, h]
    · simp [tget]
  | cons a t ih =>
    obtain ⟨j, w⟩ := a
    unfold tset
    split
    · split
      · exact ih
      · simp [tget]
    · next hj =>
      split
      · next hk =>
        split
        · next h => simp [tget, hj, hk, h]
        · simp [tget]
      · next hk => simp [tget, hj, hk, ih]

/-- Changing the entry at a key changes what is read there. -/
@[simp] theorem tget_tmod_self (d : α) (t : Tbl α) (k : Nat) (f : α → α) : tget d (tmod d t k f) k = f (tget d t k) :=
  tget_tset_self d t k _

/-- Below the lowest listed key a canonical table holds the default. -/
theorem tget_below (d : α) (t : Tbl α) (lo k : Nat) (h : tblWfFrom d lo t = true) (hk : k < lo) : tget d t k = d := by
  cases t with
  | nil => rfl
  | cons a t =>
    obtain ⟨j, v⟩ := a
    simp only [tblWfFrom, Bool.and_eq_true, decide_eq_true_eq] at h
    have h1 : j ≠ k := by omega
    have h2 : k < j := by omega
    simp [tget, h1, h2]

/-- The canonical form above a bound holds above a lower one. -/
theorem tblWfFrom_mono (d : α) (t : Tbl α) (lo lo' : Nat) (h : tblWfFrom d lo t = true) (hl : lo' ≤ lo) : tblWfFrom d lo' t = true := by
  cases t with
  | nil => rfl
  | cons a t =>
    obtain ⟨j, v⟩ := a
    simp only [tblWfFrom, Bool.and_eq_true, decide_eq_true_eq] at h ⊢
    exact ⟨⟨by omega, h.1.2⟩, h.2⟩

/-- A write below a canonical table's lowest key removes nothing. -/
theorem tset_default_below (d : α) (t : Tbl α) (lo k : Nat) (h : tblWfFrom d lo t = true) (hk : k < lo) : tset d t k d = t := by
  cases t with
  | nil => simp [tset]
  | cons a t =>
    obtain ⟨j, v⟩ := a
    simp only [tblWfFrom, Bool.and_eq_true, decide_eq_true_eq] at h
    have h1 : j ≠ k := by omega
    have h2 : k < j := by omega
    simp [tset, h1, h2]

/-- A write keeps the canonical form. -/
theorem tblWfFrom_tset (d : α) (t : Tbl α) (lo k : Nat) (v : α) (h : tblWfFrom d lo t = true) (hk : lo ≤ k) :
    tblWfFrom d lo (tset d t k v) = true := by
  induction t generalizing lo with
  | nil =>
    unfold tset
    split
    · rfl
    · next hv => simp [tblWfFrom, hk, hv]
  | cons a t ih =>
    obtain ⟨j, w⟩ := a
    have h0 := h
    simp only [tblWfFrom, Bool.and_eq_true, decide_eq_true_eq] at h
    unfold tset
    split
    · next hj =>
      subst hj
      split
      · next hv =>
        subst hv
        rw [tset_default_below v t (j + 1) j h.2 (by omega)]
        exact tblWfFrom_mono v t (j + 1) lo h.2 (by omega)
      · next hv => simp [tblWfFrom, hk, hv, h.2]
    · next hj =>
      split
      · next hkj =>
        split
        · exact h0
        · next hv =>
          simp only [tblWfFrom, Bool.and_eq_true, decide_eq_true_eq]
          exact ⟨⟨hk, hv⟩, ⟨⟨by omega, h.1.2⟩, h.2⟩⟩
      · next hkj =>
        simp only [tblWfFrom, Bool.and_eq_true, decide_eq_true_eq]
        exact ⟨h.1, ih (j + 1) h.2 (by omega)⟩

/-- A write keeps the canonical form. -/
theorem tblWf_tset (d : α) (t : Tbl α) (k : Nat) (v : α) (h : tblWf d t = true) : tblWf d (tset d t k v) = true :=
  tblWfFrom_tset d t 0 k v h (Nat.zero_le k)

/-- In a canonical table a write leaves every other key as it was. -/
theorem tget_tset_ne (d : α) (t : Tbl α) (lo k : Nat) (v : α) (h : tblWfFrom d lo t = true) (k' : Nat) (hk : k' ≠ k) :
    tget d (tset d t k v) k' = tget d t k' := by
  induction t generalizing lo with
  | nil =>
    unfold tset
    split
    · rfl
    · simp [tget, Ne.symm hk]
  | cons a t ih =>
    obtain ⟨j, w⟩ := a
    simp only [tblWfFrom, Bool.and_eq_true, decide_eq_true_eq] at h
    unfold tset
    split
    · next hj =>
      subst hj
      split
      · next hv =>
        subst hv
        rw [tset_default_below v t (j + 1) j h.2 (by omega)]
        by_cases h1 : k' < j
        · rw [tget_below v t (j + 1) k' h.2 (by omega)]
          simp [tget, Ne.symm hk, h1]
        · simp [tget, Ne.symm hk, h1]
      · simp [tget, Ne.symm hk]
    · next hj =>
      split
      · next hkj =>
        split
        · rfl
        · simp only [tget, if_neg (Ne.symm hk)]
          split
          · next h1 =>
            have h2 : j ≠ k' := by omega
            have h3 : k' < j := by omega
            simp [h2, h3]
          · rfl
      · next hkj =>
        simp only [tget]
        split
        · rfl
        · split
          · rfl
          · exact ih (j + 1) h.2

end Sys2Proof
end

