-- ==== Sys2Proof/WellFormed.lean ====
section
/-! DEFINITION. Which commands are well formed: the bounds the manual puts on operands that the types of Syntax do not. -/

namespace Sys2Proof

/-- R341: a request payload is at most 2,032 bytes. -/
def payloadOk (p : Bytes) : Bool := decide (p.length ≤ 2032)

/-- R181: each field of a packet fits its field of the routing header, and at most four data flits follow. -/
def packetFits (p : Packet) : Bool :=
  decide (p.dst < 1024 ∧ p.src < 1024 ∧ p.plot < 32 ∧ p.key < 64 ∧ p.op < 32 ∧ p.status < 256) &&
    decide (p.tag < 2 ^ 14 ∧ p.ctx < 256 ∧ p.addr < 2 ^ 52 ∧ p.data.length ≤ 4)

/-- R183: a packet of the row of operation `op` is of that operation. -/
def packetOk (op : Nat) (p : Packet) : Bool := decide (p.op = op) && packetFits p

/-- R204: the input a packet came in by is one of a router's output codes, 15 the attachment's own. -/
def flightOk (f : Flight) : Bool := packetFits f.pkt && decide (f.node < 1024 ∧ f.inCode < 16)

/-- R290: the request port takes the operations READ to REG_WRITE, a 6-bit tag and an address of 52 bits. -/
def nauReqOk (r : NauReq) : Bool := decide (r.op ≤ 7 ∧ r.tag < 64 ∧ r.addr < 2 ^ 52 ∧ r.data.length ≤ 4)

/-- R271: the deepest shape of a block RAM port has 32,768 words. -/
def bramAccOk : Option BramAcc → Bool
  | none => true
  | some a => decide (a.addr < 32768)

/-- R181: a message brings at most four lines of data. -/
def attachedOk : Option (List Line) → Bool
  | none => true
  | some l => decide (l.length ≤ 4)

/-- The command is well formed. -/
def wellFormed : Instr → Bool
  | .caps _ _ p | .idCert _ _ p | .jobStatus _ _ p | .jobCancel _ _ p | .jobList _ _ p | .cfgLoad _ _ p | .cfgClear _ _ p
  | .cfgStatus _ _ p | .cfgStore _ _ p | .cfgErase _ _ p | .cfgBootSet _ _ p | .cfgDir _ _ p | .cfgReadback _ _ p
  | .cfgScanStatus _ _ p | .fwUpdate _ _ p | .fwActivate _ _ p | .profileLoad _ _ p | .profileSwap _ _ p | .profileUnload _ _ p
  | .profileRead _ _ p | .profileStats _ _ p | .homeMapSet _ _ p | .homeMapRead _ _ p | .agentBind _ _ p | .agentRead _ _ p
  | .pceSfAssign _ _ p | .pceRemap _ _ p | .pceStatus _ _ p | .plotCreate _ _ p | .plotChange _ _ p | .plotDestroy _ _ p
  | .plotReset _ _ p | .plotBlankZeroingDone _ _ p | .plotLoad _ _ p | .plotStatus _ _ p | .flowConfig _ _ p
  | .flowStatus _ _ p | .slotLend _ _ p | .slotReclaim _ _ p | .grnConfig _ _ p | .grnStatus _ _ p | .keyImport _ _ p
  | .keyDrop _ _ p | .attest _ _ p | .vaultStatus _ _ p | .fuseProg _ _ p | .bbramKeyWrite _ _ p | .bbramClear _ _ p
  | .tamperClear _ _ p | .memRead _ _ p | .memWrite _ _ p | .kaoConfig _ _ p | .kaoStatus _ _ p | .kaoMapSet _ _ p
  | .kaoOpSet _ _ p | .kaoChanOffline _ _ p | .kaoChanOnline _ _ p | .kaoBist _ _ p | .kaoScrub _ _ p | .kaoInject _ _ p
  | .kaoPatrolSet _ _ p | .peatConfig _ _ p | .peatScrub _ _ p | .peatStatus _ _ p | .siltRouteLoad _ _ p
  | .siltRouteRead _ _ p | .siltBypass _ _ p | .siltStatus _ _ p | .siltTargetRevive _ _ p | .siltProbeSet _ _ p
  | .siltTraceRead _ _ p | .siltLeaseSet _ _ p | .nauRateSet _ _ p | .nauConfig _ _ p | .nauStatus _ _ p | .portConfig _ _ p
  | .portReset _ _ p | .portLoopback _ _ p | .portStatus _ _ p | .ideKeySet _ _ p | .laneStatus _ _ p | .laneMargin _ _ p
  | .laneSleep _ _ p | .reachConfig _ _ p | .dlinkStatus _ _ p | .dlinkSwap _ _ p | .dlinkHalve _ _ p | .dlinkMargin _ _ p
  | .dieIsolate _ _ p | .kaoChanReplace _ _ p | .rowSpare _ _ p | .tilthPolicy _ _ p | .tilthStatus _ _ p | .tilthClear _ _ p
  | .crcSelftest _ _ p | .peatRetire _ _ p | .evtRoute _ _ p | .evtRearm _ _ p | .evtStatus _ _ p | .errRead _ _ p
  | .dumpList _ _ p | .dumpRead _ _ p | .dumpPolicy _ _ p | .dumpErase _ _ p | .dbgOpen _ _ p | .dbgClose _ _ p
  | .dbgFreeze _ _ p | .dbgResume _ _ p | .dbgRead _ _ p | .dbgWrite _ _ p | .dbgUnitSet _ _ p | .dbgStatus _ _ p
  | .dbgCall _ _ p | .vdbgOpen _ _ p | .telRead _ _ p | .vidSet _ _ p | .telThresh _ _ p => payloadOk p
  | .read p => packetOk 0 p
  | .write p => packetOk 1 p
  | .writePart p => packetOk 2 p
  | .lockRead p => packetOk 3 p
  | .unlockWrite p => packetOk 4 p
  | .unlock p => packetOk 5 p
  | .regRead p => packetOk 6 p
  | .regWrite p => packetOk 7 p
  | .msg p => packetOk 8 p
  | .grainCreate p => packetOk 9 p
  | .grainPush p => packetOk 10 p
  | .directive p => packetOk 11 p
  | .dirReport p => packetOk 12 p
  | .stream p => packetOk 13 p
  | .event p => packetOk 14 p
  | .frame p => packetOk 15 p
  | .completion p => packetOk 16 p
  | .data p => packetOk 17 p
  | .delivered p => packetOk 18 p
  | .mctpRequest _ _ b => payloadOk b
  | .monitorFrame _ b => payloadOk b
  | .slotRequestWrite _ _ o b => decide (o.val + b.length ≤ 2048)
  | .siltPacketForward f => flightOk f
  | .nauRequest _ r => nauReqOk r
  | .answerTimeout _ t => decide (t < 16384)
  | .bramAccess _ _ a b _ => bramAccOk a && bramAccOk b
  | .decode _ u => decide (u.cls < 16) && attachedOk u.attached
  | .breakMatch _ _ _ p => packetOk p.op p
  | .leaseExpiry l => decide (l < 2 ^ 46)
  | .coherentOut _ _ b => decide (b.length = 0 ∨ b.length = 64)
  | .porNAssert _ | .porNRelease _ | .loamResetRelease _ _ | .ohmyxStart _ | .mailboxReady | .brownOut _ | .loamRailLow _
  | .vbattLow | .railOutOfLimits _ _ | .refclkLoss _ | .thermalWarning _ _ | .thermalClamp _ | .clampEnd _ | .thermalTrip _
  | .vidRampStep _ | .voltageDrift _ | .tamper | .synthLockLoss _ | .tapInstruction _ | .tapReset | .brdEvtInput _
  | .mbxDoorbell _ _ | .mbxAck _ _ | .slotZeroized _ _ | .setEndpointId _ | .getEndpointId | .getMctpVersionSupport _
  | .getMessageTypeSupport | .uartFrame _ | .turn _ | .pkOpComplete | .saturation | .mgmtWatchdogExpiry | .lockstepMismatch
  | .scratchpadUncorrectable _ _ | .managementRestartDone | .flr _ | .vfDisable _ | .endpointHotReset | .fwPieceTimeout
  | .spdBankOwnerWrite _ _ | .spdSetAliasWrite _ _ _ | .spdClearAliasWrite _ _ _ | .spdErrRead | .spdCntClr _ | .mbxErrRead _
  | .mbxCntClr _ _ | .registerWrite _ _ | .telemetryUpdate | .nauErrRead _ | .nauCntClr _ _ | .nauRateWrite _ _ _
  | .kaoChErrRead _ _ | .kaoCntClr _ _ _ | .kaoProtClr _ _ _ | .kaoInjCtrlWrite _ _ _ | .kaoInjStatusRead _ _ | .grtErrRead _ _
  | .grtSeqRun _ _ _ | .grtSeqStop _ _ _ | .grtProgWrite _ _ _ _ | .crcCtrlWrite _ _ | .crcAliveWrite _ _ | .crcValWrite _ _ _
  | .crcStatusRead _ | .crcCntClr _ _ | .crcFeedB _ _ | .crcFeedH _ _ | .crcFeedW _ _ | .crcEnd _ _ | .siltBrkHitRead _
  | .siltDbgCoreWrite _ _ | .coreHaltExpiry | .producerGrain _ _ _ _ | .slotOpen _ _ _ | .slotClose _ _ | .entryTake _ _ _
  | .directiveWrite _ _ _ | .crcPortFeed _ _ _ | .crcPortEnd _ _ _ _ | .gritIssue _ _ | .gritEvent _ _ | .gritGo _ _
  | .gritOutAccept _ _ | .operandLoad _ _ _ _ _ | .fabricEventOutput _ _ | .plotWatchdogKick _ _ | .plotWatchdogExpiry _ _
  | .reservationTokenRequest _ _ _ _ | .tokenReturn _ _ _ | .linkCrcFail _ _ _ | .deadTargetStall _ | .shadowBankAck _
  | .routerAckTimeout _ | .attachmentEpochSwitch _ _ | .routeChangeEnd | .lockBrokenNotice _ | .kaoSchedule _ _
  | .lineReadComplete _ _ | .refreshDue _ _ _ | .activationTableClear _ _ | .openPageTimeout _ _ _ | .stackTempHigh _
  | .periodicCalibration _ _ _ | .patrolRead _ _ | .patrolLapEnd _ _ | .forcedSweep _ _ | .rowSpareAuto _ _ _ _
  | .channelStopsAnswering _ | .blockRetire _ | .frameWriterBlock _ _ | .chainSegment _ | .chainLockLoss _ | .frameScanRead _ _
  | .drainComplete _ | .drainTimeout _ | .evaluate _ | .continueChain _ _ | .directoryFetchComplete _ _ _ | .lockQueueHead _ _
  | .deliveryReport _ _ _ | .parkedRequestServe _ | .emission _ | .escalationTimeout _ _ | .dropNotice _ _ _ _ | .grainRefill _
  | .slotFill _ _ | .linkTraining _ _ _ _ _ | .linkUp _ | .trainingTimeout _ | .trainingRetry _ | .lossOfSignal _ _
  | .lossOfLock _ _ _ | .linkDown _ | .viralReceived _ | .ideIntegrityFail _ | .flitReplay _ | .dfeAdaptationUpdate _ _
  | .partnerPresetRequest _ _ | .partnerMarginRequest _ _ | .configSpaceForward _ _ _ _ | .reachReceive _ _ _
  | .reachUnderflow _ | .dlinkMarginSample _ _ | .plannedSwapAuto _ _ | .laneCheck _ _ | .tilthDetour _ _ | .dieIsolation _
  | .sourceRaise _ | .coalesceDelivery _ | .coalescingEnd _ | .autoMasked _ | .handlingWindowClose _ | .dumpWrite
  | .softHaltComplete _ | .haltLeaseBound _ | .railRecovery _ | .refclkReturn _ | .thermalWarningEnd _ _ | .kaolinStackHot _ _
  | .laneReturn _ | .dlinkForwardedClockLoss _ | .randomSourceHealthFailure | .numvfsWrite _ | .msixVectorUnmask _ _
  | .forcedSweepEnd _ _ | .nauRegulatorRefill _ | .brdEvtRelease _ | .fabricEventOutputFall _ _ | .linkPowerStateChange _ _ _
  | .pcieTlpReceive _ _ | .coherentInAccept _ _ | .transportResponseSent _ _ => true

end Sys2Proof
end

