-- ==== Sys2Proof/Tests/Slice0.lean ====
section
/-! SUPPORT. Tests: for every obligation with hypotheses a state and operands that meet them, clause by clause; an ill-formed
command for every check of WellFormed; and small checks of single steps against the manual's own words. -/

namespace Sys2Proof.Tests

open Sys2Proof.Machine

/-! ## States the tests use -/

def die : Die := { state := .inService, heldInReset := false, synthLocked := true }
/-- A device in service: four dies, every feature, Ohmyx ready, configured, all VFs there. -/
def up : State :=
  { State.reset with
    sys := { State.reset.sys with
      phase := .ready, porLow := false, trained := true, cfgDone := true, endpointUp := true, dies := [(0, die), (1, die), (2, die), (3, die)]
      eff := { dfe16 := true, slot3 := true, grn := true, gseq := true, ime := true } }
    mgmt := { State.reset.mgmt with numVfs := 16 } }
def pkt (dst op : Nat) : Packet :=
  { dst := dst, src := 16, cls := .req, epoch := false, plot := 0, key := 0, op := op, status := 0, tag := 0, panic := false
    poison := false, locked := false, ctx := 0, track := false, addr := 0, hdr := 0#384, data := [] }
def msg : SliceMsg :=
  { hdr := 0#128, data := none, status := 0, homeLost := false, stamp := 0, responder := none, timeout := false, mem := false
    src := 2, tag := 0 }
def unit0 : MsgUnit := { engine := 0, cls := 0, bits := 0#512, len := 16, poison := false, attached := none }
def emit : Emit := { tmpl := 0#128, agent := none, trk := none, tgen := 0, line := 0, tag := 0, data := none, pois := false, track := false, plen := 0, chain := false }
def sess : Session :=
  { hz := .o, plot := 0, key := 0#256, seq := 0, units := [], ctrl := 0#32, hit := 0#32, capSrc := 0#32, cap := 0#128, lstat := 0#128 }
def sys (f : Sys → Sys) : State := modSys up f
def mg (f : Mgmt → Mgmt) : State := modMgmt up f
/-- Job 1 runs and waits for the drain of lane 0. -/
def job (op : Nat) : Job := { op := op, mbx := 0, hz := .a, state := .running, stage := 1 }
def jobbed (op : Nat) : State := mg (fun g => { g with jobs := [(1, some (job op))], nextJob := 2, holds := [{ fn := .lane 0, job := 1, quiesce := true }] })
def slotSt (m i : Nat) (st : SlotState) : State := modSlot up m i (fun x => { x with state := st })
def src (i : Nat) (f : Src → Src) : State := modSrc up i f
def lnk (f : Link → Link) : State := modLink up 0 f
def lane (f : Nat) (g : Lane → Lane) : State := modLane up f g
def trk (f : Trk → Trk) : State := modTrk up 0 0 f
def nau (f : Nau → Nau) : State := modNau up 16 (fun u => f { u with ctrl := 0x80003F00#32 })
def kreq (iss wr : Bool) : KReq := { pkt := pkt 112 0, line := 0, wr := wr, at_ := 0, issued := iss, hazed := false }
def grain (h : Nat) : Grain := { desc := BitVec.ofNat 256 (h * 2 ^ 93), pay := none, spilled := true }
def entry (h : Nat) : Entry := { grain := grain h, arrived := true, taken := false, reporting := false }
def bank (d : BitVec 128) : Bank := { image := zeros 0x40 ++ leBytes 16 d.toNat ++ zeros 1008, base := 0, meas := 0#384 }
def prof (d : BitVec 128) (f : Pce → Pce) : State :=
  modPce (modProfile (modIo up (fun e => { e with ports := [(0, { profile := some 0 })] })) 0 (fun p => { p with active := some (bank d) })) f
/-- Profile 0 runs on port 0, its image empty: no descriptor is valid. -/
def emptyBank : Bank := { image := [], base := 0, meas := 0#384 }
def emptyProf : State :=
  modProfile (modIo up (fun e => { e with ports := [(0, { profile := some 0 })] })) 0 (fun p => { p with active := some emptyBank })
/-- 65 sources coalesce. -/
def storm : State := modEvt up (fun e => { e with srcs := (List.range 65).map (fun i => (i + 200, { ({} : Src) with state := .coalescing })) })
def slotHeld : State := mg (fun g => { g with holds := [{ fn := .fw, job := 1, quiesce := false }] })
def goodFrame : Bytes := let b : Bytes := 1#8 :: zeros 16; b ++ leBytes 4 (crc32 b).toNat
def pkWaits : State := modVault up (fun v => { v with pkQueue := [{ mbx := 0, slot := 0, op := 0x0302, payload := zeros 52 }] })
def frozenable : State :=
  modPlot (modDbg up (fun d => { d with sessions := [(1, some { sess with plot := 1 })] })) 1 (fun x => { x with live := true, state := .running })
def vdbgAsked : State := modVault up (fun v => { v with ownerCtrl := 0x40#64, vdbgNonce := some (0#384, 0) })
def held0 : State := modEslot up 0 0 (fun x => { x with entries := [(0, some (entry 0))] })
def load1 : Load := { job := 1, plot := 0, image := zeros 0x3C ++ [1#8] ++ zeros 3, key := none, next := [], hash := [], ended := [], wrote := [] }
def loading : State := modCfg up (fun c => { c with loads := [load1] })
def armed (id : Option Nat) : State := modCfg (match id with | some _ => jobbed 0x0101 | none => up) (fun c => { c with armed := true, armedBy := id })
def devImage : Bytes := zeros 10 ++ [1#8] ++ zeros 53
def lockedPlot (b : Bool) : State :=
  modSilt (modPlot up 0 (fun x => { x with halting := some b })) (fun n => { n with locks := [{ line := 5, node := 16, until_ := 1 }] })
def homed : State := modPce (trk (fun x => { x with state := .waitMem, msg := some msg })) (fun e => { e with home := [(0, { valid := true, sizeLog2 := 21 })] })
def nreq : NauReq := { op := 0, addr := 0, lines := 1, mask := 0#64, locked := false, tag := 0, value := 0#32, data := [], panicIn := false }
/-- Plot 0 holds a window of 2^n bytes at address 0. -/
def windowed (n : Nat) : State := modPlot up 0 (fun x => { x with res := { x.res with windows := [{ base := 0, sizeLog2 := n, slot := 0 }] } })
def stopped : State := sys (fun y => { y with fatal := true })
def inRom : State := sys (fun y => { y with phase := .romMode })
def live : State := modPlot up 1 (fun x => { x with live := true, state := .running })
/-- Plot 1 runs, and virtual function 1 is its own. -/
def tenant (k : Option Nat) : State :=
  modPlot up 1 (fun x => { x with live := true, state := .running, tenantKey := k.map (fun _ => 0#256), res := { x.res with vf := 1 } })
def shadowed : State := modProfile up 0 (fun p => { p with shadow := some (bank 0#128) })
def dumped : State :=
  modDumps up (fun d => { d with peat := [{ id := 0, time := 0, causeSeq := 0, src := 0, cause := 0, flags := 0, sects := [(1, 0, false, 0, [])] }] })
def busyShell : State := mg (fun g => { g with holds := [{ fn := .shell, job := 1, quiesce := false }] })
def sessioned : State := modDbg up (fun d => { d with sessions := [(1, some sess)] })
/-- A packet is on the network, and the routers' tables send destination d out of node n by one code. -/
def routed (n d code : Nat) (f : Flight) : State :=
  modSilt up (fun x => { x with flights := [f], bank0 := .loaded [(n / 2, [(d / 2, code)])] })
def flight (p : Packet) (n c : Nat) : Flight := { pkt := p, node := n, inCode := c }
def fullFront : State := modChan up 0 0 (fun c => { c with queue := List.replicate 64 (kreq false false) })
def breaker : Session := { sess with units := [(0, { action := 2, armed := true })], capSrc := 0x80000000#32 }
def frame2 : Bytes := let b : Bytes := 2#8 :: zeros 16; b ++ leBytes 4 (crc32 b).toNat
/-- Only the Marl die's routers are present, and all but that of node 512 have acknowledged. -/
def acked : State :=
  let s := modSilt (sys (fun y => { y with dies := [] })) (fun n => { n with change := some (1, false) })
  (List.range 15).foldl (fun s k => modRouter s (nodeXY 4 ((k + 1) % 4) ((k + 1) / 4) 0) (fun r => { r with shadowOk := true })) s
def linked (st : LState) : State := modLane (modPort (lnk (fun x => { x with state := st, width := 1 })) 0 (fun x => { x with bifRow := 0 })) 0 (fun x => { x with rxSleep := false })
def tracked (b : Bool) : State :=
  modTilth (modChan up 0 0 (fun c => { c with tracker := [(0, [1, 2, 3, 4])] })) (fun t => { t with report := if b then [(3, true)] else [] })
def ofPlot1 : State := modPlot (nau id) 1 (fun x => { x with live := true, res := { x.res with flowBase := 0, flowCount := 1 } })
/-- A packet stands at its destination, the only one on the network. -/
def there (p : Packet) : State := modSilt up (fun n => { n with flights := [flight p p.dst 15] })
def dumping : DumpPlan := { id := 0, draw := 0, direct := false, bodies := [(0, 0, [])] }
def planned : State := modDumps up (fun x => { x with plan := some dumping })
def fataled : State := modDumps (sys (fun y => { y with fatal := true })) (fun d => { d with wanted := true })
/-- A descriptor of every unit of class 0, with an address; port 0's link 0 carries units of one agent under it. -/
def addrDesc : BitVec 128 := BitVec.ofNat 128 (2 ^ 127 + 2 ^ 47)
def decoding (d : BitVec 128) : State := modLink (prof d (fun x => { x with linkCount := [(0, 1)] })) 0 (fun x => { x with state := .l0, cxl := true, proto := 12 })
def portQuiet (s : State) : State := modMgmt s (fun g => { g with holds := [{ fn := .port 0, job := 1, quiesce := true }] })
def step0 : TrainStep :=
  { rate := 1, lanes := 1#16, reversed := false, inverted := 0#16, phases := [], eyes := [], partnerRate := 1, partnerFlit := false
    partnerCxl := false }
def tlp : Tlp := { toLink := none, words := [], readLen := 0, hdm := none }
/-- A window granule of plot 0 at address 0. -/
def granuled : State := modGran (windowed 21) 0 0 (fun g => { g with kind := .window })
def slotReady : State :=
  modEslot (modQuarter (modFlow up 0 (fun f => { f with enable := true, q := [{ grain 0 with spilled := false }] })) 0
    (fun q => { q with ready := [(0, 0, 0, 0)] })) 0 0 (fun x => { x with isOpen := true, mask := 1#64 })
/-- The set of line 0 is full in slice 0's directory cache, and an eviction of the set waits on a reserved tracker. -/
def fullSet : State :=
  modSlice homed 0 (fun x => { x with
    dir := (List.range 16).map (fun k => (16384 * (k + 1), some {}))
    trks := x.trks ++ [(1, { ({} : Trk) with state := .eval, reserved := true, line := 16384 })] })
def recordDue : State :=
  modPeat up (fun x => { x with sysDue := [1], sysA := [(1, some { seq := 1, ok := true, body := .settings [] 0xFF 0xFF false })] })
/-- NAU 16 has taken the grain of its entry 0. -/
def dirHeld : State := modEslot (nau id) 0 0 (fun x => { x with entries := [(0, some { entry 0 with taken := true })] })
/-- The body of a load: one block sent, and none ended. -/
def bodied : State := modCfg (jobbed 0x0101) (fun c => { c with loads := [load1] })
/-- Plot 0 holds the lock of line 0, as NAU 16. -/
def line0Locked : State := modSilt granuled (fun n => { n with locks := [{ line := 0, node := 16, until_ := 1 }] })
/-- Block 0 has reached its write count. -/
def blockWorn (f : Peat → Peat) : State := modPeat up (fun x => f { x with toRetire := [0] })
/-- A load whose image lies in sectors that cannot be read. -/
def lossy : State :=
  modPeat bodied (fun x => { x with images := [(0, some { bytes := [], blocks := [0] })], bits := [(0, 100)] })
theorem lossy_source : sourceFails lossy (job 0x0101) load1 = some 1 := by
  have h : stretchLost lossy.peat { bytes := [], blocks := [0] } (nextOff load1) 65536 = true := by
    refine List.any_eq_true.mpr ⟨0, by decide, decide_eq_true ?_⟩
    show peatT lossy.peat 0 < 100
    unfold peatT
    split <;> decide
  show (if stretchLost lossy.peat { bytes := [], blocks := [0] } (nextOff load1) 65536 = true then some 1 else none) = some 1
  rw [h]
  rfl

/-- Some command is admitted that the checks pass. -/
def Admits (k : CmdSpec) (c : Who → Bytes → State → Option Ans) : Prop :=
  ∃ (s : State) (m : Fin 24) (i : Fin 8) (p : Bytes), mayRun k s m i p = true ∧ c (asker s m i) p (running s m.val i.val) = none
/-- Some command is admitted that the checks pass and whose job has room. -/
def Starts (k : CmdSpec) (c : Who → Bytes → State → Option Ans) (f : Who → Bytes → State → List (Func × Bool)) : Prop :=
  ∃ (s : State) (m : Fin 24) (i : Fin 8) (p : Bytes), mayRun k s m i p = true ∧ c (asker s m i) p (running s m.val i.val) = none ∧
    jobRoom (running s m.val i.val) (f (asker s m i) p (running s m.val i.val)) = true
/-- Some command is admitted to the queue of the public-key engine. -/
def Queued (k : CmdSpec) (c : Who → Bytes → State → Option Ans) : Prop :=
  ∃ (s : State) (m : Fin 24) (i : Fin 8) (p : Bytes), mayRun k s m i p = true ∧ c (whoOf s m.val i.val) p (running s m.val i.val) = none
/-- Some session takes a request of the row. -/
def Asked (k : CmdSpec) : Prop :=
  ∃ (s : State) (m : Fin 24) (i : Fin 8) (p : Bytes) (x : Session), mayRun k s m i p = true ∧ sessionAt s (u16 p 0) = some x ∧ x.seq ≤ u32 p 4
/-- Some command is admitted that the checks refuse. -/
def Turned (k : CmdSpec) (c : Who → Bytes → State → Option Ans) : Prop :=
  ∃ (s : State) (m : Fin 24) (i : Fin 8) (p : Bytes) (a : Ans), mayRun k s m i p = true ∧ c (asker s m i) p (running s m.val i.val) = some a

/-! ## Hypotheses are met -/

/-- The hypotheses of RefusedCommands. -/
theorem witness_RefusedCommands :
    Turned specCfgLoad cfgLoadChecks ∧
    Turned specCfgClear cfgClearChecks ∧
    Turned specCfgStore cfgStoreChecks ∧
    Turned specCfgErase cfgEraseChecks ∧
    Turned specCfgBootSet cfgBootSetChecks ∧
    Turned specCfgReadback cfgReadbackChecks ∧
    Turned specCfgScanStatus cfgScanStatusChecks ∧
    Turned specFwUpdate fwUpdateChecks ∧
    Turned specProfileLoad profileLoadChecks ∧
    Turned specProfileSwap profileSwapChecks ∧
    Turned specProfileUnload profileUnloadChecks ∧
    Turned specProfileRead profileReadChecks ∧
    Turned specProfileStats profileStatsChecks ∧
    Turned specHomeMapSet homeMapSetChecks ∧
    Turned specAgentBind agentBindChecks ∧
    Turned specAgentRead agentReadChecks ∧
    Turned specPceRemap pceRemapChecks ∧
    Turned specPceStatus pceStatusChecks ∧
    Turned specPlotCreate plotCreateChecks ∧
    Turned specPlotChange plotChangeChecks ∧
    Turned specPlotDestroy plotDestroyChecks ∧
    Turned specPlotReset plotResetChecks ∧
    Turned specPlotLoad plotLoadChecks ∧
    Turned specPlotStatus plotStatusChecks ∧
    Turned specFlowConfig flowConfigChecks ∧
    Turned specFlowStatus flowStatusChecks ∧
    Turned specSlotLend slotLendChecks ∧
    Turned specSlotReclaim slotReclaimChecks ∧
    Turned specGrnConfig grnConfigChecks ∧
    Turned specGrnStatus grnStatusChecks ∧
    Turned specKeyDrop keyDropChecks ∧
    Turned specFuseProg fuseProgChecks ∧
    Turned specKaoConfig kaoConfigChecks ∧
    Turned specKaoStatus kaoStatusChecks ∧
    Turned specKaoMapSet kaoMapSetChecks ∧
    Turned specKaoOpSet kaoOpSetChecks ∧
    Turned specKaoChanOffline kaoOfflineChecks ∧
    Turned specKaoChanOnline kaoOnlineChecks ∧
    Turned specKaoBist kaoBistChecks ∧
    Turned specKaoScrub kaoScrubChecks ∧
    Turned specKaoInject kaoInjectChecks ∧
    Turned specKaoPatrolSet kaoPatrolSetChecks ∧
    Turned specPeatConfig peatConfigChecks ∧
    Turned specPeatScrub peatScrubChecks ∧
    Turned specSiltRouteLoad routeLoadChecks ∧
    Turned specSiltRouteRead routeReadChecks ∧
    Turned specSiltBypass bypassChecks ∧
    Turned specSiltStatus siltStatusChecks ∧
    Turned specSiltTargetRevive reviveChecks ∧
    Turned specSiltProbeSet probeSetChecks ∧
    Turned specSiltTraceRead traceReadChecks ∧
    Turned specSiltLeaseSet leaseSetChecks ∧
    Turned specNauRateSet nauRateSetChecks ∧
    Turned specNauConfig nauConfigChecks ∧
    Turned specNauStatus nauStatusChecks ∧
    Turned specPortConfig portConfigChecks ∧
    Turned specPortReset portResetChecks ∧
    Turned specPortLoopback portLoopbackChecks ∧
    Turned specPortStatus portStatusChecks ∧
    Turned specIdeKeySet ideKeySetChecks ∧
    Turned specLaneStatus laneStatusChecks ∧
    Turned specLaneMargin laneMarginChecks ∧
    Turned specLaneSleep laneSleepChecks ∧
    Turned specReachConfig reachConfigChecks ∧
    Turned specDlinkStatus dlinkStatusChecks ∧
    Turned specDlinkSwap dlinkSwapChecks ∧
    Turned specDlinkHalve dlinkHalveChecks ∧
    Turned specDlinkMargin dlinkMarginChecks ∧
    Turned specDieIsolate dieIsolateChecks ∧
    Turned specKaoChanReplace chanReplaceChecks ∧
    Turned specRowSpare rowSpareChecks ∧
    Turned specTilthPolicy tilthPolicyChecks ∧
    Turned specTilthClear tilthClearChecks ∧
    Turned specCrcSelftest crcSelftestChecks ∧
    Turned specPeatRetire peatRetireChecks ∧
    Turned specEvtRoute evtRouteChecks ∧
    Turned specEvtRearm evtRearmChecks ∧
    Turned specEvtStatus evtStatusChecks ∧
    Turned specDumpRead dumpReadChecks ∧
    Turned specDumpPolicy dumpPolicyChecks ∧
    Turned specDumpErase dumpEraseChecks ∧
    Turned specVdbgOpen vdbgOpenChecks ∧
    Turned specTelRead telReadChecks ∧
    Turned specVidSet vidSetChecks ∧
    Turned specTelThresh telThreshChecks ∧
    Turned specJobStatus (fun w p s => jobRefusal s w (u16 p 0)) ∧
    Turned specJobCancel (fun w p s => jobRefusal s w (u16 p 0)) ∧
    Turned specMemRead memRefusal ∧
    Turned specMemWrite memRefusal ∧
    (∃ (s : State) (m : Fin 24) (i : Fin 8) (p : Bytes) (a : Ans), s.mgmt.restartFw = false ∧ mayRun specFwActivate s m i p = true ∧
      fwActivateChecks (asker s m i) p (running s m.val i.val) = some a) :=
  ⟨⟨up, 0, 0, zeros 16, _, by decide, rfl⟩,
    ⟨busyShell, 0, 0, [], _, by decide, rfl⟩,
    ⟨up, 0, 0, [255#8] ++ zeros 15, _, by decide, rfl⟩,
    ⟨up, 0, 0, [255#8] ++ zeros 3, _, by decide, rfl⟩,
    ⟨up, 0, 0, zeros 4, _, by decide, rfl⟩,
    ⟨up, 0, 0, [255#8] ++ zeros 31, _, by decide +kernel, rfl⟩,
    ⟨up, 0, 0, [255#8] ++ zeros 3, _, by decide, rfl⟩,
    ⟨up, 0, 0, zeros 17, _, by decide, rfl⟩,
    ⟨up, 0, 0, [255#8] ++ zeros 15, _, by decide, rfl⟩,
    ⟨up, 0, 0, zeros 8, _, by decide, rfl⟩,
    ⟨up, 0, 0, [255#8] ++ zeros 3, _, by decide, rfl⟩,
    ⟨up, 0, 0, zeros 16, _, by decide +kernel, rfl⟩,
    ⟨up, 0, 0, [255#8] ++ zeros 15, _, by decide +kernel, rfl⟩,
    ⟨up, 0, 0, [255#8] ++ zeros 31, _, by decide, rfl⟩,
    ⟨up, 0, 0, zeros 28, _, by decide, rfl⟩,
    ⟨up, 0, 0, zeros 1 ++ [255#8] ++ zeros 2, _, by decide, rfl⟩,
    ⟨up, 0, 0, List.replicate 24 255#8, _, by decide, rfl⟩,
    ⟨up, 0, 0, [255#8] ++ zeros 3, _, by decide, rfl⟩,
    ⟨up, 0, 0, zeros 32, _, by decide, rfl⟩,
    ⟨up, 0, 0, [255#8] ++ zeros 31, _, by decide, rfl⟩,
    ⟨up, 0, 0, zeros 4, _, by decide, rfl⟩,
    ⟨up, 0, 0, zeros 4, _, by decide, rfl⟩,
    ⟨up, 0, 0, zeros 24, _, by decide, rfl⟩,
    ⟨up, 0, 0, zeros 4, _, by decide, rfl⟩,
    ⟨up, 0, 0, zeros 24, _, by decide, rfl⟩,
    ⟨up, 0, 0, zeros 1 ++ [255#8] ++ zeros 2, _, by decide, rfl⟩,
    ⟨up, 0, 0, [255#8] ++ zeros 3, _, by decide, rfl⟩,
    ⟨up, 0, 0, zeros 8, _, by decide, rfl⟩,
    ⟨up, 0, 0, zeros 8, _, by decide, rfl⟩,
    ⟨up, 0, 0, [255#8] ++ zeros 3, _, by decide, rfl⟩,
    ⟨{ tenant (some 0) with mgmt := { (tenant (some 0)).mgmt with holds := [{ fn := .plot 1, job := 1, quiesce := false }] } }, 1,
      0, [], _, by decide, rfl⟩,
    ⟨up, 0, 0, [255#8] ++ zeros 51, _, by decide, rfl⟩,
    ⟨up, 0, 0, zeros 12, _, by decide, rfl⟩,
    ⟨up, 0, 0, [255#8] ++ zeros 3, _, by decide, rfl⟩,
    ⟨up, 0, 0, [255#8] ++ zeros 3, _, by decide, rfl⟩,
    ⟨up, 0, 0, [255#8] ++ zeros 3, _, by decide, rfl⟩,
    ⟨up, 0, 0, [255#8] ++ zeros 3, _, by decide, rfl⟩,
    ⟨up, 0, 0, zeros 4, _, by decide, rfl⟩,
    ⟨up, 0, 0, [255#8] ++ zeros 3, _, by decide, rfl⟩,
    ⟨up, 0, 0, zeros 24, _, by decide, rfl⟩,
    ⟨up, 0, 0, zeros 28, _, by decide, rfl⟩,
    ⟨up, 0, 0, zeros 4, _, by decide, rfl⟩,
    ⟨up, 0, 0, zeros 4, _, by decide, rfl⟩,
    ⟨up, 0, 0, zeros 4, _, by decide, rfl⟩,
    ⟨up, 0, 0, zeros 16, badArg 0, by decide +kernel, by decide +kernel⟩,
    ⟨up, 0, 0, zeros 1 ++ [255#8] ++ zeros 2, badArg 0, by decide +kernel, by decide +kernel⟩,
    ⟨up, 0, 0, zeros 4, _, by decide, rfl⟩,
    ⟨up, 0, 0, zeros 1 ++ [255#8] ++ zeros 6, badArg 0, by decide +kernel, by decide +kernel⟩,
    ⟨up, 0, 0, zeros 1 ++ [255#8] ++ zeros 2, badArg 0, by decide +kernel, by decide +kernel⟩,
    ⟨up, 0, 0, [255#8] ++ zeros 35, _, by decide, rfl⟩,
    ⟨up, 0, 0, zeros 1 ++ [255#8] ++ zeros 14, _, by decide, rfl⟩,
    ⟨up, 0, 0, zeros 4, _, by decide, rfl⟩,
    ⟨up, 0, 0, zeros 8, _, by decide, rfl⟩,
    ⟨up, 0, 0, zeros 12, _, by decide, rfl⟩,
    ⟨up, 0, 0, zeros 4, _, by decide, rfl⟩,
    ⟨up, 0, 0, [255#8] ++ zeros 31, _, by decide, rfl⟩,
    ⟨up, 0, 0, [255#8] ++ zeros 7, _, by decide, rfl⟩,
    ⟨up, 0, 0, [255#8] ++ zeros 11, _, by decide, rfl⟩,
    ⟨up, 0, 0, [255#8] ++ zeros 3, _, by decide, rfl⟩,
    ⟨up, 0, 0, [255#8] ++ zeros 167, _, by decide +kernel, rfl⟩,
    ⟨up, 0, 0, [255#8] ++ zeros 3, _, by decide, rfl⟩,
    ⟨up, 0, 0, [255#8] ++ zeros 3, _, by decide, rfl⟩,
    ⟨up, 0, 0, [255#8] ++ zeros 3, _, by decide, rfl⟩,
    ⟨up, 0, 0, zeros 28, _, by decide, rfl⟩,
    ⟨up, 0, 0, [255#8] ++ zeros 3, _, by decide, rfl⟩,
    ⟨up, 0, 0, [255#8] ++ zeros 3, _, by decide, rfl⟩,
    ⟨up, 0, 0, [255#8] ++ zeros 3, _, by decide, rfl⟩,
    ⟨up, 0, 0, [200#8, 0#8, 0#8, 0#8], _, by decide, rfl⟩,
    ⟨up, 0, 0, zeros 4, _, by decide, rfl⟩,
    ⟨up, 0, 0, [255#8] ++ zeros 3, _, by decide, rfl⟩,
    ⟨up, 0, 0, [255#8] ++ zeros 7, _, by decide, rfl⟩,
    ⟨up, 0, 0, [255#8] ++ zeros 7, _, by decide, rfl⟩,
    ⟨up, 0, 0, zeros 16, _, by decide, rfl⟩,
    ⟨up, 0, 0, [255#8] ++ zeros 3, _, by decide, rfl⟩,
    ⟨up, 0, 0, zeros 1 ++ [255#8] ++ zeros 2, _, by decide, rfl⟩,
    ⟨up, 0, 0, zeros 16, _, by decide, rfl⟩,
    ⟨up, 0, 0, zeros 1 ++ [255#8] ++ zeros 2, _, by decide, rfl⟩,
    ⟨up, 0, 0, zeros 1 ++ [255#8] ++ zeros 2, _, by decide, rfl⟩,
    ⟨up, 0, 0, zeros 24, _, by decide +kernel, rfl⟩,
    ⟨up, 0, 0, [255#8] ++ zeros 3, _, by decide, rfl⟩,
    ⟨up, 0, 0, zeros 8, _, by decide, rfl⟩,
    ⟨up, 0, 0, zeros 240, _, by decide +kernel, rfl⟩,
    ⟨up, 0, 0, zeros 2 ++ [255#8] ++ zeros 5, _, by decide, rfl⟩,
    ⟨up, 0, 0, zeros 4, _, by decide, rfl⟩,
    ⟨up, 0, 0, [255#8] ++ zeros 7, _, by decide, rfl⟩,
    ⟨up, 0, 0, zeros 4, _, by decide, rfl⟩,
    ⟨up, 0, 0, zeros 4, _, by decide, rfl⟩,
    ⟨up, 0, 0, zeros 24, _, by decide, rfl⟩,
    ⟨up, 0, 0, zeros 24, _, by decide, rfl⟩,
    ⟨slotHeld, 0, 0, [], badArg 0, by decide, by decide, by decide⟩⟩

/-- The hypotheses of StepRunsTheFront. -/
theorem witness_StepRunsTheFront :
    (∃ (c : Instr) (rest : List Instr) (s : State), s.pending = c :: rest) ∧
    (∃ (s : State), s.pending = []) :=
  ⟨⟨.mailboxReady, [], { up with pending := [.mailboxReady] }, by decide⟩,
    ⟨up, by decide⟩⟩

/-- The hypotheses of StepKeepsManufacture. -/
theorem witness_StepKeepsManufacture :
    (∃ (p : Part) (root : BitVec 384) (serial : DWord) (s : State) (t : State), madeAs p root serial s ∧ step s = .next t) :=
  ⟨.gk4800, 0#384, 0#64, up, idleTick up, ⟨rfl, rfl, rfl, rfl⟩, rfl⟩

/-- The hypotheses of MailboxGates. -/
theorem witness_MailboxGates :
    (∃ (c : Instr) (m : Fin 24) (i : Fin 8) (p : Bytes) (k : CmdSpec) (s : State), mailboxRow c = some (m, i, p, k) ∧
      ((k.op = 0x010A ∨ k.op = 0x0908) → s.mgmt.restartFw = false) ∧ (serving s = false ∨ 18 < m.val)) ∧
    (∃ (c : Instr) (m : Fin 24) (i : Fin 8) (p : Bytes) (k : CmdSpec) (s : State), mailboxRow c = some (m, i, p, k) ∧
      ((k.op = 0x010A ∨ k.op = 0x0908) → s.mgmt.restartFw = false) ∧ serving s = true ∧ m.val ≤ 18 ∧ s.sys.phase = .romMode ∧
      ¬ ((m.val = 0 ∨ m.val = 18) ∧ (k.op = 0x0000 ∨ k.op = 0x0109 ∨ k.op = 0x0B00))) ∧
    (∃ (c : Instr) (m : Fin 24) (i : Fin 8) (p : Bytes) (k : CmdSpec) (s : State), mailboxRow c = some (m, i, p, k) ∧
      ((k.op = 0x010A ∨ k.op = 0x0908) → s.mgmt.restartFw = false) ∧ serving s = true ∧ m.val ≤ 18 ∧ s.sys.phase = .ready ∧
      s.sys.fatal = true ∧ k.op / 256 ≠ 0x00 ∧ k.op / 256 ≠ 0x08 ∧ k.op / 256 ≠ 0x0A ∧ k.op / 256 ≠ 0x0B) ∧
    (∃ (c : Instr) (m : Fin 24) (i : Fin 8) (p : Bytes) (k : CmdSpec) (s : State), mailboxRow c = some (m, i, p, k) ∧
      ((k.op = 0x010A ∨ k.op = 0x0908) → s.mgmt.restartFw = false) ∧ serving s = true ∧ m.val ≤ 18 ∧ s.sys.phase = .ready ∧
      s.sys.fatal = false ∧ (groupOk (asker s m i) k.op = false ∨ horizonOk k (asker s m i) = false)) ∧
    (∃ (c : Instr) (m : Fin 24) (i : Fin 8) (p : Bytes) (k : CmdSpec) (s : State), mailboxRow c = some (m, i, p, k) ∧
      ((k.op = 0x010A ∨ k.op = 0x0908) → s.mgmt.restartFw = false) ∧ serving s = true ∧ m.val ≤ 18 ∧ s.sys.phase = .ready ∧
      s.sys.fatal = false ∧ groupOk (asker s m i) k.op = true ∧ horizonOk k (asker s m i) = true ∧ k.len p = false) :=
  ⟨⟨.caps 0 0 [], 0, 0, [], specCaps, State.reset, rfl, by decide, by decide⟩,
    ⟨.idCert 0 0 [], 0, 0, [], specIdCert, inRom, rfl, by decide, by decide, by decide, by decide, by decide⟩,
    ⟨.cfgStatus 0 0 [], 0, 0, [], specCfgStatus, stopped, rfl, by decide, by decide, by decide, by decide, by decide, by decide,
      by decide, by decide, by decide⟩,
    ⟨.cfgClear 3 0 [], 3, 0, [], specCfgClear, up, rfl, by decide, by decide, by decide, by decide, by decide, by decide⟩,
    ⟨.caps 18 0 [0#8], 18, 0, [0#8], specCaps, up, rfl, by decide, by decide, by decide, by decide, by decide, by decide, by decide,
      by decide⟩⟩

/-- The hypotheses of Responses. -/
theorem witness_Responses :
    (∃ (a : Ans), a.status ≠ stBusy) ∧
    (∃ (s : State) (m : Nat) (i : Fin 8) (a : Ans), a.status ≠ stBusy ∧ (slotAt s m i.val).discard = false) ∧
    (∃ (s : State) (m : Nat) (i : Fin 8) (a : Ans), a.status ≠ stBusy ∧ (slotAt s m i.val).discard = true) ∧
    (∃ (s : State) (m : Nat) (i : Fin 8) (a : Ans), a.status ≠ stBusy ∧ (slotAt s m i.val).discard = false ∧
      (((mbxAt s m).doneEn = false ∨ 16 < m))) ∧
    (∃ (s : State) (m : Nat) (i : Fin 8) (a : Ans), a.status ≠ stBusy ∧ (slotAt s m i.val).discard = false ∧
      (mbxAt s m).doneEn = true ∧ m ≤ 16) :=
  ⟨⟨ansOk [], by decide⟩,
    ⟨up, 0, 0, ansOk [], by decide, by decide⟩,
    ⟨modSlot up 0 0 (fun x => { x with discard := true }), 0, 0, ansOk [], by decide, by decide⟩,
    ⟨up, 0, 0, ansOk [], by decide, by decide, by decide⟩,
    ⟨modMbx up 16 (fun b => { b with doneEn := true }), 16, 0, ansOk [], by decide, by decide, by decide, by decide⟩⟩

/-- The hypotheses of HostMemory. -/
theorem witness_HostMemory :
    (∃ (s : State), hostOk s = true) ∧
    (∃ (s : State) (a : Nat) (b : Bytes) (x : Nat) (n : Nat), hostOk s = true ∧ ((x + n ≤ a ∨ a + b.length ≤ x))) :=
  ⟨⟨up, by decide⟩,
    ⟨up, 5, [1#8, 2#8], 7, 3, by decide, by decide⟩⟩

/-- The hypotheses of LoamCoordinates. -/
theorem witness_LoamCoordinates :
    (∃ (lx : Nat) (ly : Nat), lx < 8 ∧ ly < 8) ∧
    (∃ (p : Nat) (lx : Nat) (ly : Nat), p < 4 ∧ lx < 8 ∧ ly < 8) ∧
    (∃ (g : Nat), g < 128 ∧ groupEdge g = 0) ∧
    (∃ (g : Nat), g < 128 ∧ groupEdge g = 1 ∧ groupPair g < 4) ∧
    (∃ (p : Nat) (lx : Nat), p < 4 ∧ lx < 8) ∧
    (∃ (n : Nat), n < 8) :=
  ⟨⟨0, 0, by decide, by decide⟩,
    ⟨0, 0, 0, by decide, by decide, by decide⟩,
    ⟨0, by decide, by decide⟩,
    ⟨16, by decide, by decide, by decide⟩,
    ⟨0, 0, by decide, by decide⟩,
    ⟨0, by decide⟩⟩

/-- The hypotheses of Storms. -/
theorem witness_Storms :
    (∃ (s : State) (i : Nat), 64 < coalescingCount (raiseBase s i) ∧ (raiseBase s i).evt.storm = false) ∧
    (∃ (s : State) (i : Nat), 64 < coalescingCount (raiseBase s i) ∧ (raiseBase s i).evt.storm = true) ∧
    (∃ (s : State) (i : Nat), coalescingCount (raiseBase s i) ≤ 64) :=
  ⟨⟨storm, 0, by decide, by decide⟩,
    ⟨{ storm with evt := { storm.evt with storm := true } }, 0, by decide, by decide⟩,
    ⟨up, 0, by decide⟩⟩

/-- The hypotheses of JobCommands. -/
theorem witness_JobCommands :
    Admits specCaps (fun _ _ _ => none) ∧
    Admits specIdCert (fun _ _ _ => none) ∧
    Admits specJobStatus (fun w p s => jobRefusal s w (u16 p 0)) ∧
    Admits specJobCancel (fun w p s => jobRefusal s w (u16 p 0)) ∧
    Admits specJobList (fun _ _ _ => none) :=
  ⟨⟨up, 0, 0, [], by decide, by decide⟩,
    ⟨up, 0, 0, [], by decide, by decide⟩,
    ⟨jobbed 0x0202, 0, 0, [1#8] ++ zeros 3, by decide, by decide⟩,
    ⟨jobbed 0x0202, 0, 0, [1#8] ++ zeros 3, by decide, by decide⟩,
    ⟨up, 0, 0, [], by decide, by decide⟩⟩

/-- The hypotheses of ConfigurationCommands. -/
theorem witness_ConfigurationCommands :
    Admits specCfgStatus (fun _ _ _ => none) ∧
    Admits specCfgDir (fun _ _ _ => none) ∧
    Admits specCfgScanStatus cfgScanStatusChecks ∧
    (∃ (s : State) (m : Fin 24) (i : Fin 8) (p : Bytes), mayRun specCfgLoad s m i p = true ∧
      cfgLoadChecks (asker s m i) p (running s m.val i.val) = none ∧ jobRoom s [(.shell, false)] = true) ∧
    Starts specCfgClear cfgClearChecks (fun _ _ _ => [(.shell, false)]) ∧
    Starts specCfgStore cfgStoreChecks (fun _ _ _ => [(.peatImages, false)]) ∧
    Starts specCfgErase cfgEraseChecks (fun _ _ _ => [(.peatImages, false)]) ∧
    Starts specCfgBootSet cfgBootSetChecks (fun _ _ _ => [(.peatImages, false)]) ∧
    Starts specCfgReadback cfgReadbackChecks (fun _ p _ => [(if u8 p 0 = 0 then .shell else .plot (u8 p 0), false)]) ∧
    (∃ (s : State) (m : Fin 24) (i : Fin 8) (p : Bytes), mayRun specFwUpdate s m i p = true ∧
      fwUpdateChecks (asker s m i) p (running s m.val i.val) = none) ∧
    (∃ (s : State) (m : Fin 24) (i : Fin 8) (p : Bytes), mayRun specFwUpdate s m i p = true ∧
      fwUpdateChecks (asker s m i) p (running s m.val i.val) = none ∧ u64 p 8 ≠ 0 ∧ jobRoom s [(.fw, false)] = true) ∧
    (∃ (s : State) (m : Fin 24) (i : Fin 8) (p : Bytes), mayRun specFwUpdate s m i p = true ∧
      fwUpdateChecks (asker s m i) p (running s m.val i.val) = none ∧ u64 p 8 = 0 ∧ u32 p 4 = (piecesOf s).2.length ∧
      (((piecesOf s).2 = [] ∨ (piecesOf s).1 = u32 p 0)) ∧ (piecesOf s).2.length + (p.length - 16) < u32 p 0) ∧
    (∃ (s : State) (m : Fin 24) (i : Fin 8) (p : Bytes), mayRun specFwUpdate s m i p = true ∧
      fwUpdateChecks (asker s m i) p (running s m.val i.val) = none ∧ u64 p 8 = 0 ∧ u32 p 4 ≠ (piecesOf s).2.length ∧
      (piecesOf s).2.length + (p.length - 16) ≤ u32 p 0) ∧
    (∃ (s : State) (m : Fin 24) (i : Fin 8) (p : Bytes), mayRun specFwUpdate s m i p = true ∧
      fwUpdateChecks (asker s m i) p (running s m.val i.val) = none ∧ u64 p 8 = 0 ∧ u32 p 4 = (piecesOf s).2.length ∧
      (((piecesOf s).2 = [] ∨ (piecesOf s).1 = u32 p 0)) ∧ (piecesOf s).2.length + (p.length - 16) = u32 p 0 ∧
      jobRoom s [(.fw, false)] = true) ∧
    (∃ (s : State) (m : Fin 24) (i : Fin 8) (p : Bytes), mayRun specFwActivate s m i p = true ∧ s.mgmt.restartFw = false ∧
      jobSure s = false ∧ anyHeld s [.fw] = false) :=
  ⟨⟨up, 0, 0, [], by decide, by decide⟩,
    ⟨up, 0, 0, [], by decide, by decide⟩,
    ⟨up, 0, 0, zeros 4, by decide, by decide⟩,
    ⟨up, 0, 0, [2#8, 0#8] ++ zeros 14, by decide, by decide, by decide⟩,
    ⟨up, 0, 0, [], by decide, by decide, by decide⟩,
    ⟨up, 0, 0, zeros 16, by decide, by decide, by decide⟩,
    ⟨up, 0, 0, zeros 4, by decide, by decide, by decide⟩,
    ⟨up, 0, 0, [255#8, 255#8, 0#8, 0#8], by decide, by decide, by decide⟩,
    ⟨live, 0, 0, [1#8] ++ zeros 31, by decide +kernel, by decide +kernel, by decide +kernel⟩,
    ⟨up, 0, 0, 1#8 :: zeros 16, by decide, by decide⟩,
    ⟨up, 0, 0, [1#8] ++ zeros 7 ++ [64#8] ++ zeros 7, by decide, by decide, by decide, by decide⟩,
    ⟨up, 0, 0, [2#8] ++ zeros 16, by decide, by decide, by decide, by decide, by decide, by decide⟩,
    ⟨up, 0, 0, [9#8, 0#8, 0#8, 0#8, 1#8] ++ zeros 12, by decide, by decide, by decide, by decide, by decide⟩,
    ⟨up, 0, 0, [1#8] ++ zeros 16, by decide, by decide, by decide, by decide, by decide, by decide, by decide⟩,
    ⟨up, 0, 0, [], by decide, by decide, by decide, by decide⟩⟩

/-- The hypotheses of ProfileCommands. -/
theorem witness_ProfileCommands :
    Starts specProfileLoad profileLoadChecks (fun _ p _ => [(.profile (u8 p 0), false)]) ∧
    Starts specProfileSwap profileSwapChecks (fun _ p _ =>
    let n := u8 p 0
    [(.profile n, false), (.agents n, false)]) ∧
    Admits specProfileUnload profileUnloadChecks ∧
    Starts specProfileRead profileReadChecks (fun _ p _ => [(.profile (u8 p 0), false)]) ∧
    Admits specProfileStats (fun _ p s =>
    let rules := match (profileAt s (u8 p 0)).active with | some b => bkRules b | none => 0
    firstRefusal [profileNum p, flag01 p 1, chk (decide (4 * rules ≤ u32 p 4)) (badArg 4), aligned p 8]) ∧
    Starts specHomeMapSet homeMapSetChecks (fun _ p s =>
    let i := u8 p 0
    let e := homeOf p
    let ps := homeProfiles s i e
    ((.homeEntry i, false) :: ps.map (fun n => (.agents n, false)))) ∧
    Admits specHomeMapRead (fun _ p _ => if u8 p 0 < 64 then none else some (badArg 0)) ∧
    Starts specAgentBind agentBindChecks (fun _ p s => if u8 p 0 = 0 then
    (.agentSet (u16 p 2) (u16 p 4), false) ::
      ((bindAgents p).filter (bindQuiesces s (contextOf p))).map (fun a => (Func.agentRange a 1, false)) else [(.linkRange (u8 p 1), false)]) ∧
    Admits specAgentRead agentReadChecks ∧
    Admits specPceSfAssign (fun _ p s => firstRefusal [kaoAbsent s (u64 p 0) (sfSize s),
      chk (s.pce.sfBase.isNone && decide (u64 p 0 % 0x200000 = 0) &&
        (plotAt s 0).res.windows.any (fun x => decide (x.base ≤ u64 p 0 ∧ u64 p 0 + sfSize s ≤ x.base + 2 ^ x.sizeLog2))) (badArg 0)]) ∧
    Starts specPceRemap pceRemapChecks (fun _ _ _ => [(.allAgents, false)]) ∧
    Admits specPceStatus pceStatusChecks :=
  ⟨⟨up, 0, 0, zeros 16, by decide, by decide, by decide⟩,
    ⟨shadowed, 0, 0, zeros 8, by decide, by decide, by decide⟩,
    ⟨up, 0, 0, zeros 4, by decide, by decide⟩,
    ⟨prof 0#128 id, 0, 0, zeros 4 ++ [64#8, 4#8] ++ zeros 10, by decide +kernel, by decide +kernel, by decide +kernel⟩,
    ⟨up, 0, 0, zeros 16, by decide +kernel, by decide +kernel⟩,
    ⟨up, 0, 0, zeros 32, by decide, by decide, by decide⟩,
    ⟨up, 0, 0, zeros 4, by decide, by decide⟩,
    ⟨up, 0, 0, [1#8] ++ zeros 27, by decide, by decide, by decide⟩,
    ⟨up, 0, 0, zeros 4, by decide, by decide⟩,
    ⟨windowed 33, 0, 0, zeros 8, by decide, by decide⟩,
    ⟨up, 0, 0, zeros 24, by decide, by decide, by decide⟩,
    ⟨up, 0, 0, zeros 4, by decide, by decide⟩⟩

/-- The hypotheses of PlotCommands. -/
theorem witness_PlotCommands :
    Admits specPlotCreate plotCreateChecks ∧
    Admits specPlotChange plotChangeChecks ∧
    (∃ (s : State) (m : Fin 24) (i : Fin 8) (p : Bytes), mayRun specPlotDestroy s m i p = true ∧
      plotDestroyChecks (asker s m i) p (running s m.val i.val) = none ∧ jobRoom s [] = true) ∧
    Admits specPlotReset plotResetChecks ∧
    (∃ (s : State) (m : Fin 24) (p : Bytes), m.val ≤ 18 ∧ (plotAt s (u8 p 0)).zeroing = true) ∧
    Starts specPlotLoad plotLoadChecks (fun _ p s =>
    let q := u8 p 0
    let r := (plotAt s q).res
    ((.plot q, false) :: (if r.agentCount = 0 then [] else [(.agentRange r.agentBase r.agentCount, false)]))) ∧
    Admits specPlotStatus plotStatusChecks :=
  ⟨⟨up, 0, 0, [1#8, 1#8, 1#8, 0#8, 1#8] ++ zeros 27 ++ [16#8, 0#8, 16#8, 0#8], by decide, by decide⟩,
    ⟨up, 0, 0, zeros 32, by decide, by decide⟩,
    ⟨live, 0, 0, [1#8] ++ zeros 3, by decide, by decide, by decide⟩,
    ⟨live, 0, 0, [1#8] ++ zeros 3, by decide, by decide⟩,
    ⟨modPlot up 0 (fun x => { x with zeroing := true }), 0, [], by decide, by decide⟩,
    ⟨live, 0, 0, [1#8, 1#8] ++ zeros 22, by decide, by decide, by decide⟩,
    ⟨live, 0, 0, [1#8] ++ zeros 3, by decide, by decide⟩⟩

/-- The hypotheses of FlowCommands. -/
theorem witness_FlowCommands :
    Starts specFlowConfig flowConfigChecks (fun _ p _ =>
    let fs := cfgFlows p
    (fs.map (fun f => (.flow f, false)))) ∧
    Admits specFlowStatus flowStatusChecks ∧
    Admits specSlotLend slotLendChecks ∧
    Starts specSlotReclaim slotReclaimChecks (fun _ p _ =>
    let q := u8 p 0
    [(.slot q (u16 p 2), false)]) ∧
    Admits specGrnConfig grnConfigChecks ∧
    Admits specGrnStatus grnStatusChecks :=
  ⟨⟨up, 0, 0, zeros 2 ++ [1#8] ++ zeros 21, by decide, by decide, by decide⟩,
    ⟨up, 0, 0, zeros 4, by decide, by decide⟩,
    ⟨up, 0, 0, zeros 4, by decide, by decide⟩,
    ⟨modEslot up 0 0 (fun x => { x with lentTo := some 1 }), 0, 0, zeros 8, by decide, by decide, by decide⟩,
    ⟨up, 0, 0, [0#8, 0#8, 64#8, 0#8, 65#8, 0#8, 0#8, 0#8], by decide, by decide⟩,
    ⟨up, 0, 0, zeros 4, by decide, by decide⟩⟩

/-- The hypotheses of VaultCommands. -/
theorem witness_VaultCommands :
    Queued specKeyImport keyImportPre ∧
    Admits specKeyDrop keyDropChecks ∧
    Queued specAttest attestPre ∧
    Admits specVaultStatus (fun w _ s => if w.mbx = 0 ∧ w.hz = .a ∧ s.vault.randomOk = false then some (ansBad stFault 6) else none) ∧
    Starts specFuseProg fuseProgChecks (fun _ _ _ => [(.fuses, false)]) ∧
    Admits specBbramKeyWrite (fun _ _ s => bbramRight s) ∧
    Admits specBbramClear (fun _ _ s => bbramRight s) ∧
    Admits specTamperClear (fun _ _ _ => none) :=
  ⟨⟨tenant none, 1, 0, zeros 192, by decide +kernel, by decide +kernel⟩,
    ⟨tenant (some 0), 1, 0, [], by decide, by decide⟩,
    ⟨up, 0, 0, zeros 52, by decide, by decide⟩,
    ⟨up, 0, 0, [], by decide, by decide⟩,
    ⟨up, 0, 0, zeros 52, by decide, by decide, by decide⟩,
    ⟨up, 0, 0, zeros 32, by decide, by decide⟩,
    ⟨up, 0, 0, [], by decide, by decide⟩,
    ⟨up, 0, 0, [], by decide, by decide⟩⟩

/-- The hypotheses of MemoryCommands. -/
theorem witness_MemoryCommands :
    (∃ (s : State) (m : Fin 24) (i : Fin 8) (p : Bytes), mayRun specMemRead s m i p = true ∧
      memRefusal (asker s m i) p (running s m.val i.val) = none) ∧
    (∃ (s : State) (m : Fin 24) (i : Fin 8) (p : Bytes), mayRun specMemRead s m i p = true ∧
      memRefusal (asker s m i) p (running s m.val i.val) = none ∧ memHost p ≠ 0 ∧ jobRoom s [] = true) ∧
    (∃ (s : State) (m : Fin 24) (i : Fin 8) (p : Bytes), mayRun specMemRead s m i p = true ∧
      memRefusal (asker s m i) p (running s m.val i.val) = none ∧ memHost p = 0 ∧ memIdle s p = true) ∧
    (∃ (s : State) (m : Fin 24) (i : Fin 8) (p : Bytes), mayRun specMemRead s m i p = true ∧
      memRefusal (asker s m i) p (running s m.val i.val) = none ∧ memHost p = 0 ∧ memIdle s p = false) ∧
    (∃ (s : State) (m : Fin 24) (i : Fin 8) (p : Bytes), mayRun specMemWrite s m i p = true ∧
      memRefusal (asker s m i) p (running s m.val i.val) = none) ∧
    (∃ (s : State) (m : Fin 24) (i : Fin 8) (p : Bytes), mayRun specMemWrite s m i p = true ∧
      memRefusal (asker s m i) p (running s m.val i.val) = none ∧ memHost p ≠ 0 ∧ jobRoom s [] = true) ∧
    (∃ (s : State) (m : Fin 24) (i : Fin 8) (p : Bytes), mayRun specMemWrite s m i p = true ∧
      memRefusal (asker s m i) p (running s m.val i.val) = none ∧ memHost p = 0 ∧ memIdle s p = true) ∧
    (∃ (s : State) (m : Fin 24) (i : Fin 8) (p : Bytes), mayRun specMemWrite s m i p = true ∧
      memRefusal (asker s m i) p (running s m.val i.val) = none ∧ memHost p = 0 ∧ memIdle s p = false) ∧
    Admits specKaoConfig kaoConfigChecks ∧
    Admits specKaoStatus kaoStatusChecks ∧
    Starts specKaoMapSet kaoMapSetChecks (fun _ p _ =>
    let q := u8 p 0
    [(.stack q, false)]) ∧
    Starts specKaoOpSet kaoOpSetChecks (fun _ p _ =>
    let q := u8 p 0
    [(.stack q, false)]) ∧
    Admits specKaoChanOffline kaoOfflineChecks ∧
    Admits specKaoChanOnline kaoOnlineChecks ∧
    Starts specKaoBist kaoBistChecks (fun _ p _ =>
    let q := u8 p 0
    [(.chan q (u8 p 1), false)]) ∧
    Starts specKaoScrub kaoScrubChecks (fun _ p _ =>
    ((granulesOf (scrubRange p).1 (scrubRange p).2).map addrStack).dedup.map (fun k => (.scrub k, false))) ∧
    Admits specKaoInject kaoInjectChecks ∧
    Admits specKaoPatrolSet kaoPatrolSetChecks ∧
    Starts specPeatConfig peatConfigChecks (fun _ _ _ => [(.peatImages, false), (.peatScrub, false)]) ∧
    Starts specPeatScrub peatScrubChecks (fun _ _ _ => [(.peatScrub, false)]) ∧
    Admits specPeatStatus (fun _ p _ => if u8 p 0 ≤ 1 then none else some (badArg 0)) :=
  ⟨⟨windowed 21, 0, 0, zeros 4 ++ [64#8] ++ zeros 19, by decide, by decide⟩,
    ⟨windowed 21, 0, 0, zeros 4 ++ [64#8] ++ zeros 11 ++ [64#8] ++ zeros 7, by decide, by decide, by decide, by decide⟩,
    ⟨windowed 21, 0, 0, zeros 4 ++ [64#8] ++ zeros 19, by decide, by decide, by decide, by decide⟩,
    ⟨modSilt (windowed 21) (fun n => { n with locks := [{ line := 0, node := 16, until_ := 1 }] }), 0, 0,
      zeros 4 ++ [64#8] ++ zeros 19, by decide, by decide, by decide, by decide⟩,
    ⟨windowed 21, 0, 0, zeros 4 ++ [64#8] ++ zeros 83, by decide, by decide⟩,
    ⟨windowed 21, 0, 0, zeros 4 ++ [64#8] ++ zeros 11 ++ [64#8] ++ zeros 7, by decide, by decide, by decide, by decide⟩,
    ⟨windowed 21, 0, 0, zeros 4 ++ [64#8] ++ zeros 83, by decide, by decide, by decide, by decide⟩,
    ⟨modSilt (windowed 21) (fun n => { n with locks := [{ line := 0, node := 16, until_ := 1 }] }), 0, 0,
      zeros 4 ++ [64#8] ++ zeros 83, by decide, by decide, by decide, by decide⟩,
    ⟨up, 0, 0, zeros 4 ++ [4#8] ++ zeros 7, by decide, by decide⟩,
    ⟨up, 0, 0, zeros 4, by decide, by decide⟩,
    ⟨up, 0, 0, zeros 4, by decide, by decide, by decide⟩,
    ⟨up, 0, 0, zeros 4, by decide, by decide, by decide⟩,
    ⟨up, 0, 0, zeros 4, by decide, by decide⟩,
    ⟨modChan up 0 0 (fun c => { c with state := .offline }), 0, 0, zeros 4, by decide, by decide⟩,
    ⟨up, 0, 0, [0#8, 16#8, 0#8, 0#8], by decide, by decide, by decide⟩,
    ⟨windowed 21, 0, 0, zeros 18 ++ [32#8] ++ zeros 5, by decide, by decide, by decide⟩,
    ⟨windowed 21, 0, 0, zeros 28, by decide, by decide⟩,
    ⟨up, 0, 0, zeros 3 ++ [1#8], by decide, by decide⟩,
    ⟨up, 0, 0, [8#8] ++ zeros 3, by decide, by decide, by decide⟩,
    ⟨up, 0, 0, zeros 2 ++ [1#8] ++ zeros 1, by decide, by decide, by decide⟩,
    ⟨up, 0, 0, zeros 4, by decide, by decide⟩⟩

/-- The hypotheses of SiltCommands. -/
theorem witness_SiltCommands :
    Starts specSiltRouteLoad routeLoadChecks (fun _ _ _ => [(.routes, false)]) ∧
    Admits specSiltRouteRead routeReadChecks ∧
    Starts specSiltBypass bypassChecks (fun _ _ _ => [(.routes, false)]) ∧
    Admits specSiltStatus siltStatusChecks ∧
    Admits specSiltTargetRevive reviveChecks ∧
    Admits specSiltProbeSet probeSetChecks ∧
    Starts specSiltTraceRead traceReadChecks (fun _ _ _ => [(.trace, false)]) ∧
    Admits specSiltLeaseSet leaseSetChecks ∧
    Admits specNauRateSet nauRateSetChecks ∧
    Admits specNauConfig nauConfigChecks ∧
    Admits specNauStatus nauStatusChecks :=
  ⟨⟨up, 0, 0, [0#8, 32#8, 2#8] ++ zeros 13, by decide +kernel, by decide +kernel, by decide +kernel⟩,
    ⟨up, 0, 0, zeros 4, by decide +kernel, by decide +kernel⟩,
    ⟨up, 0, 0, [16#8] ++ zeros 3, by decide, by decide, by decide⟩,
    ⟨up, 0, 0, zeros 8, by decide +kernel, by decide +kernel⟩,
    ⟨up, 0, 0, zeros 4, by decide +kernel, by decide +kernel⟩,
    ⟨up, 0, 0, zeros 36, by decide, by decide⟩,
    ⟨up, 0, 0, zeros 16, by decide, by decide, by decide⟩,
    ⟨up, 0, 0, zeros 2 ++ [1#8] ++ zeros 1, by decide, by decide⟩,
    ⟨up, 0, 0, [16#8] ++ zeros 7, by decide, by decide⟩,
    ⟨up, 0, 0, [16#8] ++ zeros 11, by decide, by decide⟩,
    ⟨up, 0, 0, [16#8] ++ zeros 3, by decide, by decide⟩⟩

/-- The hypotheses of PortCommands. -/
theorem witness_PortCommands :
    Starts specPortConfig portConfigChecks (fun _ p _ => [(.port (u8 p 0), false)]) ∧
    Starts specPortReset portResetChecks (fun _ p _ => [(.port (u8 p 0), false)]) ∧
    Starts specPortLoopback portLoopbackChecks (fun _ p _ => [(.port (u8 p 0), false)]) ∧
    Admits specPortStatus portStatusChecks ∧
    Starts specIdeKeySet ideKeySetChecks (fun _ p _ => [(.port (u8 p 0), false)]) ∧
    Admits specLaneStatus laneStatusChecks ∧
    Starts specLaneMargin laneMarginChecks (fun _ p _ =>
    let f := u8 p 0
    [(.lane f, false)]) ∧
    Admits specLaneSleep laneSleepChecks ∧
    Starts specReachConfig reachConfigChecks (fun _ p _ =>
    let f := u8 p 0
    [(.lane f, false)]) :=
  ⟨⟨up, 0, 0, zeros 32, by decide, by decide, by decide⟩,
    ⟨up, 0, 0, zeros 8, by decide, by decide, by decide⟩,
    ⟨up, 0, 0, zeros 12, by decide, by decide, by decide⟩,
    ⟨up, 0, 0, zeros 4, by decide, by decide⟩,
    ⟨up, 0, 0, zeros 168, by decide +kernel, by decide +kernel, by decide +kernel⟩,
    ⟨up, 0, 0, zeros 4, by decide, by decide⟩,
    ⟨up, 0, 0, zeros 4, by decide, by decide, by decide⟩,
    ⟨up, 0, 0, zeros 4, by decide, by decide⟩,
    ⟨up, 0, 0, [128#8] ++ zeros 27, by decide, by decide, by decide⟩⟩

/-- The hypotheses of TilthCommands. -/
theorem witness_TilthCommands :
    Admits specDlinkStatus dlinkStatusChecks ∧
    Starts specDlinkSwap dlinkSwapChecks (fun _ p _ =>
    let g := u8 p 0
    [(.group g, false)]) ∧
    Starts specDlinkHalve dlinkHalveChecks (fun _ p _ =>
    let g := u8 p 0
    [(.group g, false)]) ∧
    Admits specDlinkMargin dlinkMarginChecks ∧
    Starts specDieIsolate dieIsolateChecks (fun _ p _ => [(.die (u8 p 0), false)]) ∧
    Admits specKaoChanReplace chanReplaceChecks ∧
    Admits specRowSpare rowSpareChecks ∧
    Admits specTilthPolicy tilthPolicyChecks ∧
    Admits specTilthStatus (fun _ _ _ => none) ∧
    Starts specTilthClear tilthClearChecks (fun _ _ _ => [(.tilth, false)]) ∧
    Admits specCrcSelftest crcSelftestChecks ∧
    Starts specPeatRetire peatRetireChecks (fun _ p _ => [(.peatBlock (u16 p 0), false), (.peatScrub, false)]) :=
  ⟨⟨up, 0, 0, zeros 4, by decide, by decide⟩,
    ⟨up, 0, 0, zeros 4, by decide, by decide, by decide⟩,
    ⟨up, 0, 0, zeros 4, by decide, by decide, by decide⟩,
    ⟨up, 0, 0, zeros 4, by decide, by decide⟩,
    ⟨up, 0, 0, [1#8] ++ zeros 3, by decide, by decide, by decide⟩,
    ⟨up, 0, 0, zeros 4, by decide, by decide⟩,
    ⟨up, 0, 0, zeros 8, by decide, by decide⟩,
    ⟨up, 0, 0, zeros 8, by decide, by decide⟩,
    ⟨up, 0, 0, [], by decide, by decide⟩,
    ⟨modTilth up (fun t => { t with recorded := [(0, 0)] }), 0, 0, zeros 16, by decide, by decide, by decide⟩,
    ⟨up, 0, 0, zeros 4, by decide, by decide⟩,
    ⟨up, 0, 0, zeros 4, by decide, by decide, by decide⟩⟩

/-- The hypotheses of EventCommands. -/
theorem witness_EventCommands :
    Admits specEvtRoute evtRouteChecks ∧
    Admits specEvtRearm evtRearmChecks ∧
    Admits specEvtStatus evtStatusChecks ∧
    Admits specErrRead (fun _ p _ => if u8 p 4 ≤ 60 then none else some (badArg 4)) ∧
    Admits specDumpList (fun _ _ _ => none) ∧
    Starts specDumpRead dumpReadChecks (fun _ _ _ => [(.dump, false)]) ∧
    Admits specDumpPolicy dumpPolicyChecks ∧
    Starts specDumpErase dumpEraseChecks (fun _ _ _ => [(.dump, false)]) ∧
    Admits specTelRead telReadChecks ∧
    Admits specVidSet vidSetChecks ∧
    Admits specTelThresh telThreshChecks :=
  ⟨⟨up, 0, 0, zeros 3 ++ [2#8] ++ zeros 12, by decide, by decide⟩,
    ⟨up, 0, 0, zeros 4, by decide, by decide⟩,
    ⟨up, 0, 0, zeros 4, by decide, by decide⟩,
    ⟨up, 0, 0, zeros 8, by decide, by decide⟩,
    ⟨up, 0, 0, [], by decide, by decide⟩,
    ⟨dumped, 0, 0, zeros 8 ++ [1#8] ++ zeros 15, by decide +kernel, by decide +kernel, by decide +kernel⟩,
    ⟨up, 0, 0, zeros 4, by decide, by decide⟩,
    ⟨dumped, 0, 0, zeros 8, by decide, by decide, by decide⟩,
    ⟨up, 0, 0, zeros 8, by decide, by decide⟩,
    ⟨up, 0, 0, [0#8, 0#8, 188#8, 2#8], by decide, by decide⟩,
    ⟨up, 0, 0, zeros 8, by decide, by decide⟩⟩

/-- The hypotheses of DebugCommands. -/
theorem witness_DebugCommands :
    Queued specDbgOpen dbgOpenPre ∧
    Asked specDbgClose ∧
    (∃ (s : State) (m : Fin 24) (i : Fin 8) (p : Bytes) (x : Session), mayRun specDbgFreeze s m i p = true ∧
      sessionAt s (u16 p 0) = some x ∧ x.seq ≤ u32 p 4 ∧ (plotAt s x.plot).state = .running ∧ (plotAt s x.plot).haltBy = none ∧
      s.sys.phase = .ready) ∧
    Asked specDbgResume ∧
    Asked specDbgRead ∧
    Asked specDbgWrite ∧
    Asked specDbgUnitSet ∧
    Asked specDbgStatus ∧
    Asked specDbgCall ∧
    (∃ (s : State) (m : Fin 24) (i : Fin 8) (p : Bytes), mayRun specVdbgOpen s m i p = true ∧ m.val = 0 ∧ vdbgConsent s = true ∧
      s.vault.randomOk = true ∧ jobRoom s [(.vendor, false)] = true ∧ vdbgNonceNow s = some (BitVec.ofNat 384 (beN p 192 48))) :=
  ⟨⟨up, 0, 0, zeros 196, by decide +kernel, by decide +kernel⟩,
    ⟨sessioned, 0, 0, [1#8] ++ zeros 39, sess, by decide, by decide, by decide⟩,
    ⟨frozenable, 0, 0, [1#8] ++ zeros 23, { sess with plot := 1 }, by decide, by decide, by decide, by decide, by decide, by decide⟩,
    ⟨sessioned, 0, 0, [1#8] ++ zeros 39, sess, by decide, by decide, by decide⟩,
    ⟨sessioned, 0, 0, [1#8] ++ zeros 39, sess, by decide, by decide, by decide⟩,
    ⟨sessioned, 0, 0, [1#8] ++ zeros 39, sess, by decide, by decide, by decide⟩,
    ⟨sessioned, 0, 0, [1#8] ++ zeros 39, sess, by decide, by decide, by decide⟩,
    ⟨sessioned, 0, 0, [1#8] ++ zeros 39, sess, by decide, by decide, by decide⟩,
    ⟨sessioned, 0, 0, [1#8] ++ zeros 39, sess, by decide, by decide, by decide⟩,
    ⟨vdbgAsked, 0, 0, zeros 240, by decide +kernel, by decide +kernel, by decide +kernel, by decide +kernel, by decide +kernel,
      by decide +kernel⟩⟩

/-- The hypotheses of DeviceReset. -/
theorem witness_DeviceReset :
    (∃ (us : Nat), us < 10) ∧
    (∃ (us : Nat), 10 ≤ us) :=
  ⟨⟨9, by decide⟩,
    ⟨10, by decide⟩⟩

/-- The hypotheses of StartUp. -/
theorem witness_StartUp :
    (∃ (s : State), s.sys.phase = .held ∧ s.sys.porLow = true ∧ s.sys.marlLow = false ∧ s.sys.auxLow = false) ∧
    (∃ (s : State), s.sys.phase = .held ∧ s.sys.porLow = true ∧ ((s.sys.marlLow = true ∨ s.sys.auxLow = true))) ∧
    (∃ (s : State), ((s.sys.marlLow = true ∨ s.sys.auxLow = true)) ∧ s.sys.porLow = false) ∧
    (∃ (s : State), ((s.sys.marlLow = true ∨ s.sys.auxLow = true)) ∧ s.sys.porLow = true) ∧
    (∃ (s : State), s.sys.phase = .booting ∧ s.sys.tampered = false) ∧
    (∃ (s : State) (bad : List (Fin 4)) (gs : List GroupTest),
      let t1 := (partDies s.sys.part).foldl (placeDie bad) ((List.range 128).foldl (trainGroup gs) s);
      let t2 := modSys t1 (fun y => { y with eff := effective t1 }); let t := if dieMismatch t2 then raise t2 133 else t2;
      s.sys.phase = .booting ∧ s.sys.tampered = false ∧ dieUp t 0 = true) ∧
    (∃ (s : State) (bad : List (Fin 4)) (gs : List GroupTest),
      let t1 := (partDies s.sys.part).foldl (placeDie bad) ((List.range 128).foldl (trainGroup gs) s);
      let t2 := modSys t1 (fun y => { y with eff := effective t1 }); let t := if dieMismatch t2 then raise t2 133 else t2;
      s.sys.phase = .booting ∧ s.sys.tampered = false ∧ dieUp t 0 = false) ∧
    (∃ (s : State), s.sys.phase = .trained ∧ s.sys.tampered = false) ∧
    (∃ (s : State), s.sys.phase = .filling ∧ s.sys.tampered = false ∧ s.sys.bootSrc.toNat ≠ 0) ∧
    (∃ (s : State), s.sys.phase = .filling ∧ s.sys.tampered = false ∧ s.sys.bootSrc.toNat = 0 ∧ s.peat.primary = 0xFF ∧
      s.peat.fallback = 0xFF) ∧
    (∃ (s : State), s.sys.tampered = true) :=
  ⟨⟨State.reset, by decide, by decide, by decide, by decide⟩,
    ⟨{ State.reset with sys := { State.reset.sys with marlLow := true } }, by decide, by decide, by decide⟩,
    ⟨sys (fun y => { y with marlLow := true, porLow := false }), by decide, by decide⟩,
    ⟨{ State.reset with sys := { State.reset.sys with marlLow := true } }, by decide, by decide⟩,
    ⟨sys (fun y => { y with phase := .booting }), by decide, by decide⟩,
    ⟨sys (fun y => { y with phase := .booting }), [], [], by decide +kernel, by decide +kernel, by decide +kernel⟩,
    ⟨sys (fun y => { y with phase := .booting }), [0], [], by decide +kernel, by decide +kernel, by decide +kernel⟩,
    ⟨sys (fun y => { y with phase := .trained }), by decide, by decide⟩,
    ⟨sys (fun y => { y with phase := .filling, bootSrc := 1#2 }), by decide, by decide, by decide⟩,
    ⟨sys (fun y => { y with phase := .filling }), by decide, by decide, by decide, by decide, by decide⟩,
    ⟨sys (fun y => { y with tampered := true }), by decide⟩⟩

/-- The hypotheses of PowerEvents. -/
theorem witness_PowerEvents :
    (∃ (s : State), powered s = true) ∧
    (∃ (s : State) (i : Fin 32) (mv : Nat), powered s = true ∧
      ((mv < tget 0 s.sys.voltLow i.val ∨ (tget 0 s.sys.voltHigh i.val ≠ 0 ∧ tget 0 s.sys.voltHigh i.val < mv)))) ∧
    (∃ (s : State) (i : Fin 32) (mv : Nat), powered s = true ∧ tget 0 s.sys.voltLow i.val ≤ mv ∧
      ((tget 0 s.sys.voltHigh i.val = 0 ∨ mv ≤ tget 0 s.sys.voltHigh i.val))) ∧
    (∃ (s : State), powered s = true) ∧
    (∃ (s : State), s.sys.xlrefLost = true) ∧
    (∃ (s : State) (j : Nat), tblWf {} s.io.lanes = true ∧ j < partReach s.sys.part) ∧
    (∃ (s : State) (pos : Fin 4), dieUp s pos.val = true) ∧
    (∃ (s : State) (pos : Fin 4) (c : Nat), dieUp s pos.val = true ∧ (dieAt s pos.val).ramping = true ∧
      (dieAt s pos.val).clamp = false ∧
      c = (if (dieAt s pos.val).vidCode < ((dieAt s pos.val).vidTarget - 700) / 5 then (dieAt s pos.val).vidCode + 1 else if ((dieAt s pos.val).vidTarget - 700) / 5 < (dieAt s pos.val).vidCode then (dieAt s pos.val).vidCode - 1 else (dieAt s pos.val).vidCode)) ∧
    (∃ (s : State) (pos : Fin 4), dieUp s pos.val = true ∧ (dieAt s pos.val).ramping = false) :=
  ⟨⟨up, by decide⟩,
    ⟨sys (fun y => { y with voltLow := [(0, 700)] }), 0, 699, by decide, by decide⟩,
    ⟨sys (fun y => { y with voltLow := [(0, 700)], voltHigh := [(0, 800)] }), 0, 800, by decide, by decide, by decide⟩,
    ⟨up, by decide⟩,
    ⟨sys (fun y => { y with xlrefLost := true }), by decide⟩,
    ⟨up, 0, by decide, by decide⟩,
    ⟨up, 0, by decide⟩,
    ⟨sys (fun y => { y with dies := tset {} y.dies 0 { die with ramping := true } }), 0, 10, by decide, by decide, by decide,
      by decide⟩,
    ⟨up, 0, by decide, by decide⟩⟩

/-- The hypotheses of ThermalAndTamper. -/
theorem witness_ThermalAndTamper :
    (∃ (s : State), powered s = true) ∧
    (∃ (s : State) (i : Fin 64) (mc : Int), powered s = true ∧ tget 95000 s.sys.tempThresh i.val ≤ mc ∧
      hasElem s.sys.warned i.val = false) ∧
    (∃ (s : State) (i : Fin 64) (mc : Int), powered s = true ∧
      ((mc < tget 95000 s.sys.tempThresh i.val ∨ hasElem s.sys.warned i.val = true))) ∧
    (∃ (s : State) (i : Fin 64) (mc : Int), mc ≤ tget 95000 s.sys.tempThresh i.val - 2000) ∧
    (∃ (s : State) (i : Fin 64) (mc : Int), tget 95000 s.sys.tempThresh i.val - 2000 < mc) ∧
    (∃ (s : State) (i : Fin 56), dieUp s (i.val / 14) = true ∧ (dieAt s (i.val / 14)).clamp = false) ∧
    (∃ (s : State) (pos : Fin 4), dieUp s pos.val = true ∧ (dieAt s pos.val).clamp = true) ∧
    (∃ (s : State), powered s = true) ∧
    (∃ (s : State) (src : TripSrc), powered s = true ∧ tripOnMarl src = true) ∧
    (∃ (s : State), powered s = true) ∧
    (∃ (s : State), powered s = false) ∧
    (∃ (s : State), powered s = true) :=
  ⟨⟨up, by decide⟩,
    ⟨up, 0, 95000, by decide, by decide, by decide⟩,
    ⟨up, 0, 94999, by decide, by decide⟩,
    ⟨up, 0, 93000, by decide⟩,
    ⟨up, 0, 93001, by decide⟩,
    ⟨up, 0, by decide, by decide⟩,
    ⟨sys (fun y => { y with dies := tset {} y.dies 0 { die with clamp := true } }), 0, by decide, by decide⟩,
    ⟨up, by decide⟩,
    ⟨up, .sensor 56, by decide, by decide⟩,
    ⟨up, by decide⟩,
    ⟨State.reset, by decide⟩,
    ⟨up, by decide⟩⟩

/-- The hypotheses of PinsAndTap. -/
theorem witness_PinsAndTap :
    (∃ (s : State) (i : Fin 2), powered s = true ∧ hasElem s.sys.brdLow i.val = false) ∧
    (∃ (s : State) (i : Fin 2), powered s = true ∧ hasElem s.sys.brdLow i.val = true) ∧
    (∃ (s : State), s.sys.phase = .held) ∧
    (∃ (s : State), s.sys.phase ≠ .held) ∧
    (∃ (s : State), s.sys.phase ≠ .held ∧ s.sys.phase ≠ .tripHeld) :=
  ⟨⟨up, 0, by decide, by decide⟩,
    ⟨sys (fun y => { y with brdLow := [0] }), 0, by decide, by decide⟩,
    ⟨State.reset, by decide⟩,
    ⟨up, by decide⟩,
    ⟨up, by decide, by decide⟩⟩

/-- The hypotheses of ManagementRestart. -/
theorem witness_ManagementRestart :
    (∃ (s : State), ((s.sys.phase = .filling ∨ s.sys.phase = .ready)) ∧ s.mgmt.restarting = false ∧ s.mgmt.halted = none) ∧
    (∃ (s : State) (h : Nat), s.mgmt.halted = some h) ∧
    (∃ (s : State), ((s.sys.phase = .filling ∨ s.sys.phase = .ready ∨ s.sys.phase = .romMode)) ∧ s.mgmt.restarting = false) ∧
    (∃ (s : State) (word : Fin 524288), word.val < 262144 ∧
      ((s.sys.phase = .filling ∨ s.sys.phase = .ready ∨ s.sys.phase = .romMode)) ∧ s.mgmt.restarting = false) ∧
    (∃ (s : State), s.sys.fatal = false ∧ s.mgmt.lastRestart = none) ∧
    (∃ (s : State) (word : Fin 524288) (m : Fin 24) (i : Fin 8), 262144 ≤ word.val ∧ (slotAt s m.val i.val).state = .executing) ∧
    (∃ (s : State), s.mgmt.restarting = true ∧ s.mgmt.restartFw = false) ∧
    (∃ (s : State), s.mgmt.restarting = true ∧ s.mgmt.restartFw = true) ∧
    (∃ (s : State) (id : Fin 65536) (x : Session), sessionAt s id.val = some x ∧ x.hz = .o) ∧
    (∃ (s : State) (id : Fin 65536) (x : Session), sessionAt s id.val = some x ∧ x.hz ≠ .o) ∧
    (∃ (s : State), overdue s = true ∧ s.mgmt.saturated = false ∧ s.mgmt.busyAt.1 = none) ∧
    (∃ (s : State), overdue s = false ∧ s.mgmt.saturated = true ∧ s.mgmt.busyAt.2 = none) ∧
    (∃ (s : State), overdue s = s.mgmt.saturated) :=
  ⟨⟨up, by decide, by decide, by decide⟩,
    ⟨mg (fun g => { g with halted := some 1 }), 1, by decide⟩,
    ⟨up, by decide, by decide⟩,
    ⟨up, 262143, by decide, by decide, by decide⟩,
    ⟨up, by decide, by decide⟩,
    ⟨slotSt 0 0 .executing, 262144, 0, 0, by decide, by decide⟩,
    ⟨mg (fun g => { g with restarting := true }), by decide, by decide⟩,
    ⟨mg (fun g => { g with restarting := true, restartFw := true }), by decide, by decide⟩,
    ⟨modDbg up (fun d => { d with sessions := [(1, some sess)] }), 1, sess, by decide, by decide⟩,
    ⟨modDbg up (fun d => { d with sessions := [(1, some { sess with hz := .a })] }), 1, { sess with hz := .a }, by decide,
      by decide⟩,
    ⟨{ slotSt 0 0 .queued with sys := { up.sys with timeNs := 1000001 } }, by decide, by decide, by decide⟩,
    ⟨mg (fun g => { g with saturated := true }), by decide, by decide, by decide⟩,
    ⟨up, by decide⟩⟩

/-- The hypotheses of Scratchpad. -/
theorem witness_Scratchpad :
    (∃ (s : State) (a : SpdMaster) (word : Fin 524288), a ≠ .endpoint ∧
      ((bankOwner s (word.val / 65536) = 3 ∨ bankOwner s (word.val / 65536) = masterCode a)) ∧
      ((word.val < 262144 ∨ 458752 ≤ word.val))) ∧
    (∃ (s : State) (a : SpdMaster) (word : Fin 524288), let m := (word.val - 262144) / 8192;
      let i := (word.val - 262144) % 8192 / 1024; let off := 4 * ((word.val - 262144) % 1024); a ≠ .endpoint ∧
      ((bankOwner s (word.val / 65536) = 3 ∨ bankOwner s (word.val / 65536) = masterCode a)) ∧ 262144 ≤ word.val ∧
      word.val < 458752 ∧ off < 2048) ∧
    (∃ (s : State) (a : SpdMaster) (word : Fin 524288), a ≠ .endpoint ∧ bankOwner s (word.val / 65536) ≠ 3 ∧
      bankOwner s (word.val / 65536) ≠ masterCode a) ∧
    (∃ (v : Word), bitOf v 0 = true) ∧
    (∃ (v : Word), bitOf v 0 = false) :=
  ⟨⟨up, .core, 0, by decide, by decide, by decide⟩,
    ⟨up, .core, 262144, by decide, by decide, by decide, by decide, by decide⟩,
    ⟨up, .silt, 0, by decide, by decide, by decide⟩,
    ⟨1#32, by decide⟩,
    ⟨0#32, by decide⟩⟩

/-- The hypotheses of MailboxPages. -/
theorem witness_MailboxPages :
    (∃ (s : State) (m : Fin 17) (v : Word), mbxReached s m.val = true ∧ serving s = true ∧
      (slotAt s m.val (fld v 2 0)).state = .idle) ∧
    (∃ (s : State) (m : Fin 17) (v : Word), mbxReached s m.val = true ∧ serving s = true ∧
      (slotAt s m.val (fld v 2 0)).state ≠ .idle ∧ ((∃ k < 8, (slotAt s m.val k).state = .idle))) ∧
    (∃ (s : State) (m : Fin 17), mbxReached s m.val = true ∧ serving s = true ∧ ((∀ k < 8, (slotAt s m.val k).state ≠ .idle))) ∧
    (∃ (s : State) (m : Fin 17), mbxReached s m.val = true ∧ serving s = false) ∧
    (∃ (s : State) (m : Nat), ((∀ k < 8, (slotAt s m k).state = .done))) ∧
    (∃ (s : State) (m : Fin 17), mbxReached s m.val = true) ∧
    (∃ (s : State) (m : Fin 17) (i : Fin 8), (slotAt s m.val i.val).zeroizing = true) ∧
    (∃ (s : State) (m : Fin 17) (i : Fin 8), (slotAt s m.val i.val).zeroizing = false) ∧
    (∃ (s : State) (m : Fin 17) (i : Fin 8), mbxReached s m.val = true ∧ (slotAt s m.val i.val).state = .idle ∧
      ((bankOwner s (4 + m.val / 8) = 3 ∨ bankOwner s (4 + m.val / 8) = 1))) ∧
    (∃ (s : State) (m : Fin 17) (i : Fin 8), mbxReached s m.val = true ∧ (slotAt s m.val i.val).state = .idle ∧
      bankOwner s (4 + m.val / 8) ≠ 3 ∧ bankOwner s (4 + m.val / 8) ≠ 1) ∧
    (∃ (s : State) (m : Fin 17) (i : Fin 8), mbxReached s m.val = true ∧ (slotAt s m.val i.val).state ≠ .idle) ∧
    (∃ (s : State) (m : Fin 17), mbxReached s m.val = true) ∧
    (∃ (s : State) (m : Fin 17) (v : Word), mbxReached s m.val = true ∧ bitOf v 0 = true) ∧
    (∃ (s : State) (m : Fin 17) (v : Word), mbxReached s m.val = true ∧ bitOf v 0 = false) ∧
    (∃ (s : State) (m : Fin 17), mbxReached s m.val = false) :=
  ⟨⟨up, 0, 0#32, by decide, by decide, by decide⟩,
    ⟨slotSt 0 0 .done, 0, 0#32, by decide, by decide, by decide, by decide⟩,
    ⟨[0, 1, 2, 3, 4, 5, 6, 7].foldl (fun s i => modSlot s 0 i (fun x => { x with state := .done })) up, 0, by decide, by decide,
      by decide⟩,
    ⟨mg (fun g => { g with restarting := true }), 0, by decide, by decide⟩,
    ⟨[0, 1, 2, 3, 4, 5, 6, 7].foldl (fun s i => modSlot s 0 i (fun x => { x with state := .done })) up, 0, by decide⟩,
    ⟨up, 0, by decide⟩,
    ⟨modSlot up 0 0 (fun x => { x with zeroizing := true }), 0, 0, by decide⟩,
    ⟨up, 0, 0, by decide⟩,
    ⟨up, 0, 0, by decide, by decide, by decide⟩,
    ⟨mg (fun g => { g with owners := [] }), 0, 0, by decide, by decide, by decide, by decide⟩,
    ⟨slotSt 0 0 .done, 0, 0, by decide, by decide⟩,
    ⟨up, 0, by decide⟩,
    ⟨up, 0, 1#32, by decide, by decide⟩,
    ⟨up, 0, 0#32, by decide, by decide⟩,
    ⟨sys (fun y => { y with endpointUp := false }), 0, by decide⟩⟩

/-- The hypotheses of Transports. -/
theorem witness_Transports :
    (∃ (f : Bytes), frameOk (unescape f) = false) ∧
    (∃ (f : Bytes), frameOk (unescape f) = true ∧ 16 ≤ (subBytes (unescape f) 1 ((unescape f).length - 5)).length) ∧
    (∃ (f : Bytes), frameOk (unescape f) = true ∧ 16 ≤ (subBytes (unescape f) 1 ((unescape f).length - 5)).length ∧
      u8 (unescape f) 0 = 1) ∧
    (∃ (f : Bytes), frameOk (unescape f) = true ∧ 16 ≤ (subBytes (unescape f) 1 ((unescape f).length - 5)).length ∧
      u8 (unescape f) 0 = 2) ∧
    (∃ (s : State), s.sys.phase = .ready ∧ s.mgmt.restarting = false ∧ s.mgmt.halted = none ∧ (mbxAt s 18).monitor.length < 4) ∧
    (∃ (s : State), s.sys.phase = .ready ∧ s.mgmt.restarting = true) ∧
    (∃ (s : State) (u : Bool) (i : Fin 8), (slotAt s (if u then 18 else 17) i.val).state = .done) ∧
    (∃ (s : State), smbusUp s = true) ∧
    (∃ (s : State), smbusUp s = true) ∧
    (∃ (s : State) (t : Byte), smbusUp s = true ∧ ((t = 0xFF#8 ∨ t = 0#8 ∨ t = 0x7F#8))) ∧
    (∃ (s : State) (t : Byte), smbusUp s = true ∧ t ≠ 0xFF#8 ∧ t ≠ 0#8 ∧ t ≠ 0x7F#8) ∧
    (∃ (s : State), smbusUp s = true) :=
  ⟨⟨[], by decide⟩,
    ⟨goodFrame, by decide +kernel, by decide +kernel⟩,
    ⟨goodFrame, by decide +kernel, by decide +kernel, by decide⟩,
    ⟨frame2, by decide +kernel, by decide +kernel, by decide +kernel⟩,
    ⟨up, by decide, by decide, by decide, by decide⟩,
    ⟨mg (fun g => { g with restarting := true }), by decide, by decide⟩,
    ⟨slotSt 17 0 .done, false, 0, by decide⟩,
    ⟨up, by decide⟩,
    ⟨up, by decide⟩,
    ⟨up, 0#8, by decide, by decide⟩,
    ⟨up, 1#8, by decide, by decide, by decide, by decide⟩,
    ⟨up, by decide⟩⟩

/-- The hypotheses of Functions. -/
theorem witness_Functions :
    (∃ (s : State) (f : Fin 17), f.val ≠ 0 ∧ fnEnabled s f.val = true) ∧
    (∃ (s : State) (n : Fin 17), n.val < s.mgmt.numVfs) ∧
    (∃ (s : State) (n : Fin 17), s.mgmt.numVfs ≤ n.val) ∧
    (∃ (s : State) (f : Fin 17) (v : Fin 64), fnEnabled s f.val = true ∧ ((f.val = 0 ∨ v.val < 8))) ∧
    (∃ (s : State) (f : Fin 17) (v : Fin 64), ((fnEnabled s f.val = false ∨ (f.val ≠ 0 ∧ 8 ≤ v.val)))) ∧
    (∃ (s : State) (f : Nat) (v : Nat), fnEnabled s f = true ∧ s.sys.endpointUp = true ∧ hasElem (fnAt s f).unmasked v = true) ∧
    (∃ (s : State) (f : Nat) (v : Nat), fnEnabled s f = true ∧ s.sys.endpointUp = true ∧ hasElem (fnAt s f).unmasked v = true ∧
      (fnAt s f).pending = [v]) ∧
    (∃ (s : State) (f : Nat) (v : Nat),
      ((fnEnabled s f = false ∨ s.sys.endpointUp = false ∨ hasElem (fnAt s f).unmasked v = false))) ∧
    (∃ (s : State) (f : Nat) (v : Nat),
      ((fnEnabled s f = false ∨ s.sys.endpointUp = false ∨ hasElem (fnAt s f).unmasked v = false)) ∧ (fnAt s f).pending = [v]) ∧
    (∃ (s : State) (f : Fin 17), mbxReached s f.val = true) :=
  ⟨⟨up, 1, by decide, by decide⟩,
    ⟨up, 15, by decide⟩,
    ⟨up, 16, by decide⟩,
    ⟨up, 0, 63, by decide, by decide⟩,
    ⟨up, 1, 63, by decide⟩,
    ⟨modFn up 0 (fun n => { n with unmasked := [0] }), 0, 0, by decide, by decide, by decide⟩,
    ⟨modFn up 0 (fun n => { n with unmasked := [0], pending := [0] }), 0, 0, by decide, by decide, by decide, by decide⟩,
    ⟨up, 0, 0, by decide⟩,
    ⟨modFn up 0 (fun n => { n with pending := [0] }), 0, 0, by decide, by decide⟩,
    ⟨up, 16, by decide⟩⟩

/-- The hypotheses of Turns. -/
theorem witness_Turns :
    (∃ (s : State), serving s = false) ∧
    (∃ (s : State), s.sys.phase = .ready) ∧
    (∃ (s : State) (k : Nat), s.peat.sysDue = [k] ∧ copySeq (tget none s.peat.sysB k) < copySeq (tget none s.peat.sysA k)) ∧
    (∃ (s : State), serving s = true ∧ (turnFirst s).sys.phase = .ready) ∧
    (∃ (s : State) (id : Nat), serving s = true ∧ (turnFirst s).sys.phase = .ready ∧ belowFloor (turnFirst s) = none ∧
      1000 ≤ (turnFirst s).mgmt.cmdUs ∧ nextOpenJob (turnFirst s) = some id) ∧
    (∃ (s : State) (m : Nat), serving s = true ∧ (turnFirst s).sys.phase = .ready ∧ belowFloor (turnFirst s) = none ∧
      (((turnFirst s).mgmt.cmdUs < 1000 ∨ nextOpenJob (turnFirst s) = none)) ∧ nextMbx (turnFirst s) = some m) ∧
    (∃ (s : State) (id : Nat), serving s = true ∧ (turnFirst s).sys.phase = .ready ∧ belowFloor (turnFirst s) = none ∧
      (turnFirst s).mgmt.cmdUs < 1000 ∧ nextMbx (turnFirst s) = none ∧ nextOpenJob (turnFirst s) = some id) ∧
    (∃ (s : State) (m : Nat), serving s = true ∧ (turnFirst s).sys.phase = .romMode ∧
      (((turnFirst s).mgmt.cmdUs < 1000 ∨ nextOpenJob (turnFirst s) = none)) ∧ nextMbx (turnFirst s) = some m) :=
  ⟨⟨State.reset, by decide⟩,
    ⟨up, by decide⟩,
    ⟨recordDue, 1, by decide, by decide⟩,
    ⟨up, by decide, by decide⟩,
    ⟨modMgmt (jobbed 0x0202) (fun g => { g with cmdUs := 1000 }), 1, by decide, by decide, by decide, by decide, by decide⟩,
    ⟨slotSt 0 0 .queued, 0, by decide, by decide, by decide, by decide, by decide⟩,
    ⟨jobbed 0x0202, 1, by decide, by decide, by decide, by decide, by decide, by decide⟩,
    ⟨{ slotSt 0 0 .queued with sys := { up.sys with phase := .romMode } }, 0, by decide, by decide, by decide, by decide⟩⟩

/-- The hypotheses of Completions. -/
theorem witness_Completions :
    (∃ (s : State) (o : PkOp) (l : List PkOp), serving s = true ∧ s.vault.pkQueue = o :: l ∧ s.sys.fatal = true) ∧
    (∃ (s : State) (o : PkOp) (l : List PkOp) (k : CmdSpec), serving s = true ∧ s.vault.pkQueue = o :: l ∧ s.sys.fatal = false ∧
      pkSpec o.op = some k) ∧
    (∃ (s : State), s.vault.pkQueue = []) ∧
    (∃ (s : State) (id : Fin 65536) (j : Job), jobAt s id.val = some j ∧ drains s id.val = true ∧ allDrained s id.val = true ∧
      j.op ≠ 0x0204) ∧
    (∃ (s : State) (id : Fin 65536) (j : Job), jobAt s id.val = some j ∧ drains s id.val = true ∧ allDrained s id.val = true ∧
      j.op = 0x0204) ∧
    (∃ (s : State) (id : Fin 65536), ((drains s id.val = false ∨ allDrained s id.val = false))) ∧
    (∃ (s : State) (id : Fin 65536) (j : Job), jobAt s id.val = some j ∧ drains s id.val = true ∧ j.op ≠ 0x0204) ∧
    (∃ (j : Job), ((j.op = 0x0705 ∨ j.op = 0x0406 ∨ j.op = 0x0407))) ∧
    (∃ (s : State) (id : Fin 65536) (j : Job), jobAt s id.val = some j ∧ drains s id.val = true ∧ j.op = 0x0204) :=
  ⟨⟨modSys pkWaits (fun y => { y with fatal := true }), { mbx := 0, slot := 0, op := 0x0302, payload := zeros 52 }, [], by decide,
      by decide, by decide⟩,
    ⟨pkWaits, { mbx := 0, slot := 0, op := 0x0302, payload := zeros 52 }, [], specAttest, by decide, by decide, by decide, rfl⟩,
    ⟨up, by decide⟩,
    ⟨jobbed 0x0202, 1, job 0x0202, by decide, by decide, by decide, by decide⟩,
    ⟨jobbed 0x0204, 1, job 0x0204, by decide, by decide, by decide, by decide⟩,
    ⟨up, 0, by decide⟩,
    ⟨jobbed 0x0202, 1, job 0x0202, by decide, by decide, by decide⟩,
    ⟨job 0x0705, by decide⟩,
    ⟨jobbed 0x0204, 1, job 0x0204, by decide, by decide, by decide⟩⟩

/-- The hypotheses of MemoryPackets. -/
theorem witness_MemoryPackets :
    (∃ (s : State) (p : Packet) (st : Nat) (lx : Nat), arrives s p 0x00 = true ∧ attOf p.dst = .front st lx ∧ frontRoom s p = true ∧
      heldByQuiesce s p = false) ∧
    (∃ (s : State) (p : Packet) (st : Nat) (lx : Nat), arrives s p 0x01 = true ∧ attOf p.dst = .front st lx ∧ frontRoom s p = true ∧
      heldByQuiesce s p = false) ∧
    (∃ (s : State) (p : Packet) (st : Nat) (lx : Nat), arrives s p 0x02 = true ∧ attOf p.dst = .front st lx ∧ frontRoom s p = true ∧
      heldByQuiesce s p = false) ∧
    (∃ (s : State) (p : Packet) (st : Nat) (lx : Nat), arrives s p 0x03 = true ∧ attOf p.dst = .front st lx ∧ frontRoom s p = true ∧
      heldByQuiesce s p = false) ∧
    (∃ (s : State) (p : Packet) (st : Nat) (lx : Nat), arrives s p 0x04 = true ∧ attOf p.dst = .front st lx ∧ frontRoom s p = true ∧
      heldByQuiesce s p = false) ∧
    (∃ (s : State) (p : Packet) (st : Nat) (lx : Nat), arrives s p 0x05 = true ∧ attOf p.dst = .front st lx ∧ frontRoom s p = true ∧
      heldByQuiesce s p = false) ∧
    (∃ (row : Packet → Instr) (op : Nat),
      (row, op) ∈ [(Instr.read, 0x00), (Instr.write, 0x01), (Instr.writePart, 0x02), (Instr.lockRead, 0x03), (Instr.unlockWrite, 0x04), (Instr.unlock, 0x05)]) ∧
    (∃ (s : State) (p : Packet) (row : Packet → Instr) (op : Nat) (st : Nat) (lx : Nat),
      (row, op) ∈ [(Instr.read, 0x00), (Instr.write, 0x01), (Instr.writePart, 0x02), (Instr.lockRead, 0x03), (Instr.unlockWrite, 0x04), (Instr.unlock, 0x05)] ∧
      arrives s p op = true ∧ attOf p.dst = .front st lx ∧ ((frontRoom s p = false ∨ heldByQuiesce s p = true))) ∧
    (∃ (s : State) (p : Packet) (row : Packet → Instr) (op : Nat) (i : Nat),
      (row, op) ∈ [(Instr.read, 0x00), (Instr.write, 0x01), (Instr.writePart, 0x02), (Instr.lockRead, 0x03), (Instr.unlockWrite, 0x04), (Instr.unlock, 0x05)] ∧
      arrives s p op = true ∧ attOf p.dst = .slice i ∧ planeOf p.cls = 0) ∧
    (∃ (s : State) (p : Packet), p.op ≤ 2 ∧ servedForm s p = true ∧ waitsOnLock s p = false ∧ frontRoom s p = true) ∧
    (∃ (s : State) (p : Packet), p.op ≤ 3 ∧ servedForm s p = false) ∧
    (∃ (s : State) (p : Packet), p.op ≤ 3 ∧ servedForm s p = true ∧ ((waitsOnLock s p = true ∨ frontRoom s p = false))) ∧
    (∃ (s : State) (p : Packet), p.op = 0x03 ∧ servedForm s p = true ∧ waitsOnLock s p = false ∧ frontRoom s p = true ∧
      lockOf s p.addr = none ∧ (accessStatus s p.src p.plot p.key p.addr).1 = 0) ∧
    (∃ (s : State) (p : Packet), p.op = 0x04 ∧ servedForm s p = true ∧ waitsOnLock s p = false ∧ frontRoom s p = true ∧
      lockOf s p.addr = none ∧ (accessStatus s p.src p.plot p.key p.addr).1 = 0) ∧
    (∃ (s : State) (p : Packet), p.op = 0x05 ∧ servedForm s p = true ∧ waitsOnLock s p = false ∧ frontRoom s p = true ∧
      admitted s p.src p.plot p.key p.addr = true) ∧
    (∃ (s : State) (p : Packet) (l : LineLock), packetLines s p = [p.addr] ∧ lockOf s p.addr = some l) ∧
    (∃ (s : State) (p : Packet) (l : LineLock), packetLines s p = [p.addr] ∧ lockOf s p.addr = some l ∧ l.node = p.src) ∧
    (∃ (s : State) (p : Packet) (l : LineLock), packetLines s p = [p.addr] ∧ lockOf s p.addr = some l ∧ l.node ≠ p.src) ∧
    (∃ (s : State) (p : Packet) (a : Nat), (accessStatus s p.src p.plot p.key a).1 ≠ 0) ∧
    (∃ (s : State) (p : Packet) (a : Nat) (q : KReq), (accessStatus s p.src p.plot p.key a).1 = 0 ∧
      q = { pkt := p, line := addrLine a, wr := !isReadOp p.op, at_ := now s, issued := false, hazed := false, early := earlyWrite s p a, rmw := lineRmw s p a, ctrl := (frontFor s a).ctrl, sched := (frontFor s a).sched }) ∧
    (∃ (s : State) (p : Packet) (a : Nat) (q : KReq), (accessStatus s p.src p.plot p.key a).1 = 0 ∧
      q = { pkt := p, line := addrLine a, wr := !isReadOp p.op, at_ := now s, issued := false, hazed := false, early := earlyWrite s p a, rmw := lineRmw s p a, ctrl := (frontFor s a).ctrl, sched := (frontFor s a).sched } ∧
      q.early = true) ∧
    (∃ (s : State) (p : Packet) (a : Nat) (q : KReq), (accessStatus s p.src p.plot p.key a).1 = 0 ∧
      q = { pkt := p, line := addrLine a, wr := !isReadOp p.op, at_ := now s, issued := false, hazed := false, early := earlyWrite s p a, rmw := lineRmw s p a, ctrl := (frontFor s a).ctrl, sched := (frontFor s a).sched } ∧
      q.early = false) ∧
    (∃ (s : State) (p : Packet) (a : Nat), ((isReadOp p.op = true ∨ sourceOrder s a = true))) ∧
    (∃ (s : State) (p : Packet) (a : Nat), isReadOp p.op = false ∧ sourceOrder s a = false ∧ fullWrite s p a = true) ∧
    (∃ (s : State) (p : Packet) (k : Nat), attOf p.dst = .nau k ∧ arrives s p 0x10 = true) ∧
    (∃ (s : State) (p : Packet) (k : Nat), attOf p.dst = .nau k ∧ arrives s p 0x11 = true) ∧
    (∃ (s : State) (p : Packet) (i : Nat), attOf p.dst = .slice i ∧ arrives s p 0x10 = true ∧ bitOf p.hdr 64 = true) ∧
    (∃ (s : State) (p : Packet) (i : Nat), attOf p.dst = .slice i ∧ arrives s p 0x10 = true ∧ bitOf p.hdr 64 = false) ∧
    (∃ (s : State) (p : Packet) (i : Nat), attOf p.dst = .slice i ∧ arrives s p 0x11 = true) ∧
    (∃ (s : State) (p : Packet) (i : Nat), attOf p.dst = .slice i ∧ arrives s p 0x12 = true) ∧
    (∃ (s : State) (p : Packet) (n : Nat), attOf p.dst = .port n ∧ arrives s p 0x10 = true ∧
      ((∀ l, (l = 2 * n ∨ l = 2 * n + 1) → (linkAt (arrive s p) l).cfgReqs.any (fun q => decide (q.1 = p.tag)) = false))) :=
  ⟨⟨there (pkt 112 0), pkt 112 0, 0, 0, by decide, by decide, by decide, by decide⟩,
    ⟨there (pkt 112 1), pkt 112 1, 0, 0, by decide, by decide, by decide, by decide⟩,
    ⟨there (pkt 112 2), pkt 112 2, 0, 0, by decide, by decide, by decide, by decide⟩,
    ⟨there (pkt 112 3), pkt 112 3, 0, 0, by decide, by decide, by decide, by decide⟩,
    ⟨there (pkt 112 4), pkt 112 4, 0, 0, by decide, by decide, by decide, by decide⟩,
    ⟨there (pkt 112 5), pkt 112 5, 0, 0, by decide, by decide, by decide, by decide⟩,
    ⟨.read, 0, List.mem_cons_self⟩,
    ⟨modSilt (modChan granuled 0 0 (fun c => { c with queue := List.replicate 64 (kreq false false) })) (fun n => { n with flights := [flight (pkt 112 0) 112 15] }),
      pkt 112 0, .read, 0, 0, 0, List.mem_cons_self, by decide, by decide, by decide⟩,
    ⟨there (pkt 2 0), pkt 2 0, .read, 0, 0, List.mem_cons_self, by decide, by decide, by decide⟩,
    ⟨up, (pkt 112 0), by decide, by decide, by decide, by decide⟩,
    ⟨up, pkt 112 1, by decide, by decide⟩,
    ⟨modSilt up (fun n => { n with locks := [{ line := 0, node := 17, until_ := 1 }] }), pkt 112 0, by decide, by decide, by decide⟩,
    ⟨granuled, pkt 112 3, by decide, by decide, by decide, by decide, by decide, by decide⟩,
    ⟨granuled, { pkt 112 4 with data := [0#512] }, by decide, by decide, by decide, by decide, by decide, by decide⟩,
    ⟨granuled, pkt 112 5, by decide, by decide, by decide, by decide, by decide⟩,
    ⟨line0Locked, pkt 112 5, { line := 0, node := 16, until_ := 1 }, by decide, by decide⟩,
    ⟨line0Locked, pkt 112 5, { line := 0, node := 16, until_ := 1 }, by decide, by decide, by decide⟩,
    ⟨modSilt granuled (fun n => { n with locks := [{ line := 0, node := 17, until_ := 1 }] }), pkt 112 5,
      { line := 0, node := 17, until_ := 1 }, by decide, by decide, by decide⟩,
    ⟨up, (pkt 112 0), 0, by decide⟩,
    ⟨granuled, pkt 112 0, 0, kreq false false, by decide, by decide⟩,
    ⟨granuled, { pkt 112 1 with data := [0#512] }, 0,
      { kreq false true with pkt := { pkt 112 1 with data := [0#512] }, early := true }, by decide, by decide, by decide⟩,
    ⟨granuled, pkt 112 0, 0, kreq false false, by decide, by decide, by decide⟩,
    ⟨up, (pkt 112 0), 0, by decide⟩,
    ⟨modChan (windowed 21) 0 0 id, { pkt 112 1 with data := [0#512] }, 0, by decide, by decide, by decide⟩,
    ⟨there ({ pkt 16 0x10 with cls := .rsp }), { pkt 16 0x10 with cls := .rsp }, 0, by decide, by decide⟩,
    ⟨there ({ pkt 16 0x11 with cls := .dat }), { pkt 16 0x11 with cls := .dat }, 0, by decide, by decide⟩,
    ⟨there ({ pkt 2 0x10 with cls := .rsp, hdr := 1#384 <<< 64 }), { pkt 2 0x10 with cls := .rsp, hdr := 1#384 <<< 64 }, 0,
      by decide, by decide, by decide⟩,
    ⟨there ({ pkt 2 0x10 with cls := .rsp }), { pkt 2 0x10 with cls := .rsp }, 0, by decide, by decide, by decide⟩,
    ⟨there ({ pkt 2 0x11 with cls := .dat }), { pkt 2 0x11 with cls := .dat }, 0, by decide, by decide⟩,
    ⟨there ({ pkt 2 0x12 with cls := .rsp }), { pkt 2 0x12 with cls := .rsp }, 0, by decide, by decide⟩,
    ⟨there ({ pkt 115 0x10 with cls := .rsp }), { pkt 115 0x10 with cls := .rsp }, 0, by decide, by decide,
      fun l hl => by rcases hl with rfl | rfl <;> decide⟩⟩

/-- The hypotheses of ServicePackets. -/
theorem witness_ServicePackets :
    (∃ (s : State) (p : Packet), arrives s p 0x06 = true ∧ attOf p.dst = .mgmt) ∧
    (∃ (s : State) (p : Packet) (i : Nat), arrives s p 0x06 = true ∧ attOf p.dst = .slice i ∧ planeOf p.cls = 0 ∧
      nauNumber p.dst = none) ∧
    (∃ (s : State) (p : Packet), arrives s p 0x07 = true ∧ attOf p.dst = .mgmt ∧ nauNumber p.dst = none) ∧
    (∃ (s : State) (p : Packet) (i : Nat), arrives s p 0x08 = true ∧ attOf p.dst = .slice i) ∧
    (∃ (s : State) (p : Packet) (q : Nat), arrives s p 0x09 = true ∧ attOf p.dst = .quarter q) ∧
    (∃ (s : State) (p : Packet) (q : Nat), arrives s p 0x09 = true ∧ attOf p.dst = .quarter q ∧
      flowHome (gFlow (BitVec.ofNat 256 p.hdr.toNat)) = q) ∧
    (∃ (s : State) (p : Packet) (q : Nat), arrives s p 0x09 = true ∧ attOf p.dst = .quarter q ∧
      flowHome (gFlow (BitVec.ofNat 256 p.hdr.toNat)) ≠ q) ∧
    (∃ (s : State) (p : Packet) (i : Nat) (e : Nat) (x : Entry), arrives s p 0x0A = true ∧
      entryOfHandle (arrive s p) p.dst (gHandle (BitVec.ofNat 256 p.hdr.toNat)) = some (i, e, x)) ∧
    (∃ (s : State) (p : Packet) (i : Nat), arrives s p 0x0B = true ∧ attOf p.dst = .slice i) ∧
    (∃ (s : State) (p : Packet) (k : Nat), arrives s p 0x0C = true ∧ attOf p.dst = .nau k) ∧
    (∃ (s : State) (p : Packet) (k : Nat), arrives s p 0x0D = true ∧ attOf p.dst = .nau k) ∧
    (∃ (s : State) (p : Packet), arrives s p 0x0E = true ∧ attOf p.dst = .evtCtl ∧ srcUp (arrive s p) (fld p.hdr 15 0) = true ∧
      srcReserved (fld p.hdr 15 0) = false) ∧
    (∃ (s : State) (p : Packet), arrives s p 0x0E = true ∧ attOf p.dst ≠ .evtCtl) ∧
    (∃ (s : State) (p : Packet), arrives s p 0x0F = true ∧ attOf p.dst = .cfgMgr) ∧
    (∃ (s : State) (p : Packet) (d : Nat), arrives s p 0x0F = true ∧ attOf p.dst = .frameWriter d) :=
  ⟨⟨there (pkt 513 6), pkt 513 6, by decide, by decide⟩,
    ⟨there (pkt 2 6), pkt 2 6, 0, by decide, by decide, by decide, by decide⟩,
    ⟨there (pkt 513 7), pkt 513 7, by decide, by decide, by decide⟩,
    ⟨there (pkt 2 8), pkt 2 8, 0, by decide, by decide⟩,
    ⟨there (pkt 4 9), pkt 4 9, 0, by decide, by decide⟩,
    ⟨there (pkt 4 9), pkt 4 9, 0, by decide, by decide, by decide⟩,
    ⟨there ({ pkt 4 9 with hdr := 1#384 <<< 254 }), { pkt 4 9 with hdr := 1#384 <<< 254 }, 0, by decide, by decide, by decide⟩,
    ⟨modEslot (there { pkt 16 0x0A with cls := .dat }) 0 0 (fun x => { x with entries := [(0, some (entry 0))] }),
      { pkt 16 0x0A with cls := .dat }, 0, 0, entry 0, by decide, by decide⟩,
    ⟨there (pkt 2 0x0B), pkt 2 0x0B, 0, by decide, by decide⟩,
    ⟨there ({ pkt 16 0x0C with cls := .rsp }), { pkt 16 0x0C with cls := .rsp }, 0, by decide, by decide⟩,
    ⟨there ({ pkt 16 0x0D with cls := .dat }), { pkt 16 0x0D with cls := .dat }, 0, by decide, by decide⟩,
    ⟨there ({ pkt evtNode 0x0E with cls := .rsp }), { pkt evtNode 0x0E with cls := .rsp }, by decide, by decide, by decide,
      by decide⟩,
    ⟨there ({ pkt 2 0x0E with cls := .rsp }), { pkt 2 0x0E with cls := .rsp }, by decide, by decide⟩,
    ⟨there ({ pkt cfgNode 0x0F with data := [0#512, 0#512, 0#512, 0#512] }),
      { pkt cfgNode 0x0F with data := [0#512, 0#512, 0#512, 0#512] }, by decide, by decide⟩,
    ⟨there (pkt 0 0x0F), pkt 0 0x0F, 0, by decide, by decide⟩⟩

/-- The hypotheses of SiltForwarding. -/
theorem witness_SiltForwarding :
    (∃ (c : Cls), planeOf c = 0) ∧
    (∃ (src : Fin 1024) (c : Cls), planeOf c = 0 ∧ nauNumber src.val = none) ∧
    (∃ (src : Fin 1024) (c : Cls) (a : Nat), planeOf c = 0 ∧ attOf src.val = .nau a) ∧
    (∃ (s : State) (src : Nat) (dst : Nat) (c : Cls), ((∀ a ∈ s.silt.asks, ¬(a.1 = acKey dst c ∧ a.2.1 = src)))) ∧
    (∃ (s : State) (src : Nat) (dst : Nat) (c : Cls), ((∃ a ∈ s.silt.asks, a.1 = acKey dst c ∧ a.2.1 = src))) ∧
    (∃ (s : State) (src : Nat) (dst : Nat) (n : Nat) (c : Cls),
      (s.silt.asks.find? (fun a => decide (a.1 = acKey dst c)) = some (acKey dst c, src, n + 1))) ∧
    (∃ (s : State) (src : Nat) (dst : Nat) (n : Nat) (c : Cls),
      (s.silt.asks.find? (fun a => decide (a.1 = acKey dst c)) = some (acKey dst c, src, n + 1)) ∧ tokensGranted s src dst c 1 = 0) ∧
    (∃ (s : State) (src : Nat) (dst : Nat) (n : Nat) (c : Cls),
      (s.silt.asks.find? (fun a => decide (a.1 = acKey dst c)) = some (acKey dst c, src, n + 1)) ∧ tokensGranted s src dst c 1 = 1) ∧
    (∃ (s : State) (src : Nat) (dst : Nat) (c : Cls), ((attUp s dst = false ∨ routeDead s src dst c = true))) ∧
    (∃ (s : State) (src : Nat) (dst : Nat), attUp s dst = true ∧ routeDead s src dst .req = false ∧ withholds s dst = true) ∧
    (∃ (s : State) (src : Nat) (dst : Nat) (p : Packet), attUp s dst = true ∧ routeDead s src dst .snp = false ∧
      p ∈ (nauAt s dst).cohSnp ∧ p.cls = .snp) ∧
    (∃ (c : Cls), planeOf c ≠ 0) ∧
    (∃ (s : State) (p : Packet), regulatorOk s p = true ∧ ((mayLeave s p = false ∨ behindHeld s p = true))) ∧
    (∃ (s : State) (p : Packet), fromNau p = false ∧ planeOf p.cls = 0 ∧ mayLeave s p = true ∧ behindHeld s p = false) ∧
    (∃ (s : State) (p : Packet), planeOf p.cls = 0 ∧ tokensHeld s p.src p.dst p.cls = 0) ∧
    (∃ (s : State) (p : Packet), ((lagging s p.src p.cls = true ∨ sinkStops s p = true ∨ regulatorOk s p = false))) ∧
    (∃ (s : State) (f : Flight), hasElem s.silt.flights f = true ∧ f.inCode ≠ 15 ∧ atHead s f = true ∧ servedNext s f = true) ∧
    (∃ (s : State) (f : Flight), hasElem s.silt.flights f = true ∧ f.inCode ≠ 15 ∧ atHead s f = true ∧ servedNext s f = true ∧
      f.inCode = 14 ∧ badPacket f.pkt = true) ∧
    (∃ (s : State) (f : Flight), hasElem s.silt.flights f = true ∧ f.inCode ≠ 15 ∧ atHead s f = true ∧ servedNext s f = true ∧
      ((f.inCode ≠ 14 ∨ badPacket f.pkt = false)) ∧ routeCode s f.node f.pkt = 14 ∧ attUp s (f.node / 2 * 2 + f.pkt.dst % 2) = true) ∧
    (∃ (s : State) (f : Flight), hasElem s.silt.flights f = true ∧ f.inCode ≠ 15 ∧ atHead s f = true ∧ servedNext s f = true ∧
      ((f.inCode ≠ 14 ∨ badPacket f.pkt = false)) ∧ routeCode s f.node f.pkt = 14 ∧
      attUp s (f.node / 2 * 2 + f.pkt.dst % 2) = false) ∧
    (∃ (s : State) (f : Flight) (m : Nat), hasElem s.silt.flights f = true ∧ f.inCode ≠ 15 ∧ atHead s f = true ∧
      servedNext s f = true ∧ ((f.inCode ≠ 14 ∨ badPacket f.pkt = false)) ∧ routeCode s f.node f.pkt ≠ 14 ∧
      linkOk s f.node (routeCode s f.node f.pkt) = true ∧ linkTo f.node (routeCode s f.node f.pkt) = some m) ∧
    (∃ (s : State) (f : Flight), hasElem s.silt.flights f = true ∧ f.inCode ≠ 15 ∧ atHead s f = true ∧ servedNext s f = true ∧
      ((f.inCode ≠ 14 ∨ badPacket f.pkt = false)) ∧ routeCode s f.node f.pkt ≠ 14 ∧
      linkOk s f.node (routeCode s f.node f.pkt) = false) ∧
    (∃ (s : State) (f : Flight), hasElem s.silt.flights f = true ∧ atHead s f = true ∧ contenders s f = [f] ∧ f.inCode ≤ 14) ∧
    (∃ (s : State) (f : Flight), ((hasElem s.silt.flights f = false ∨ f.inCode = 15 ∨ atHead s f = false ∨ servedNext s f = false))) :=
  ⟨⟨.req, by decide⟩,
    ⟨0, .req, by decide, by decide⟩,
    ⟨16, .req, 0, by decide, by decide⟩,
    ⟨up, 0, 0, .req, by decide⟩,
    ⟨modSilt up (fun n => { n with asks := [(acKey 112 .req, 16, 1)] }), 16, 112, .req, ⟨_, List.mem_cons_self, rfl, rfl⟩⟩,
    ⟨modSilt up (fun n => { n with asks := [(acKey 112 .req, 16, 1)] }), 16, 112, 0, .req, by decide⟩,
    ⟨modSilt (mg (fun g => { g with holds := [{ fn := .front 0 0, job := 1, quiesce := true }] })) (fun n => { n with asks := [(acKey 112 .req, 113, 1)], bank0 := .loaded [(56, [(56, 14)])] }),
      113, 112, 0, .req, by decide, by decide⟩,
    ⟨modSilt up (fun n => { n with asks := [(acKey 112 .req, 16, 1)] }), 16, 112, 0, .req, by decide, by decide⟩,
    ⟨up, 0, 0, .req, by decide⟩,
    ⟨modSilt (mg (fun g => { g with holds := [{ fn := .front 0 0, job := 1, quiesce := true }] })) (fun n => { n with bank0 := .loaded [(56, [(56, 14)])] }),
      113, 112, by decide, by decide, by decide⟩,
    ⟨modSilt (modNau up 16 (fun u => { u with cohSnp := [{ pkt 16 8 with cls := .snp }] })) (fun n => { n with bank0 := .loaded [(8, [(8, 14)])] }),
      17, 16, { pkt 16 8 with cls := .snp }, by decide, by decide, by decide, by decide⟩,
    ⟨.rsp, by decide⟩,
    ⟨up, (pkt 112 0), by decide, by decide⟩,
    ⟨modSilt up (fun n => { n with tokens := [(tokKey 2 112 .req, 1)] }), { pkt 112 0 with src := 2 }, by decide, by decide,
      by decide, by decide⟩,
    ⟨up, (pkt 112 0), by decide, by decide⟩,
    ⟨modSilt up (fun n => { n with lagging := [(64, true)] }), pkt 112 0, by decide⟩,
    ⟨routed 16 112 0 (flight (pkt 112 0) 16 1), flight (pkt 112 0) 16 1, by decide +kernel, by decide +kernel, by decide +kernel,
      by decide +kernel⟩,
    ⟨routed 16 112 0 (flight (pkt 112 0x13) 16 14), flight (pkt 112 0x13) 16 14, by decide +kernel, by decide +kernel,
      by decide +kernel, by decide +kernel, by decide +kernel, by decide +kernel⟩,
    ⟨routed 16 16 14 (flight (pkt 16 0) 16 1), flight (pkt 16 0) 16 1, by decide +kernel, by decide +kernel, by decide +kernel,
      by decide +kernel, by decide +kernel, by decide +kernel, by decide +kernel⟩,
    ⟨routed 544 545 14 (flight (pkt 545 0) 544 1), flight (pkt 545 0) 544 1, by decide +kernel, by decide +kernel,
      by decide +kernel, by decide +kernel, by decide +kernel, by decide +kernel, by decide +kernel⟩,
    ⟨routed 16 112 0 (flight (pkt 112 0) 16 1), flight (pkt 112 0) 16 1, (linkTo 16 0).getD 0, by decide +kernel, by decide +kernel,
      by decide +kernel, by decide +kernel, by decide +kernel, by decide +kernel, by decide +kernel, by decide +kernel⟩,
    ⟨routed 16 112 15 (flight (pkt 112 0) 16 1), flight (pkt 112 0) 16 1, by decide +kernel, by decide +kernel, by decide +kernel,
      by decide +kernel, by decide +kernel, by decide +kernel, by decide +kernel⟩,
    ⟨routed 16 112 0 (flight (pkt 112 0) 16 1), flight (pkt 112 0) 16 1, by decide +kernel, by decide +kernel, by decide +kernel,
      by decide +kernel⟩,
    ⟨up, { pkt := pkt 112 0, node := 16, inCode := 1 }, by decide⟩⟩

/-- The hypotheses of SiltChanges. -/
theorem witness_SiltChanges :
    (∃ (s : State) (node : Fin 1024) (c : Fin 7), linkOk s (node.val / 2 * 2) c.val = true) ∧
    (∃ (s : State) (node : Fin 1024) (c : Fin 7) (d : Bool), linkOk s (node.val / 2 * 2) c.val = true ∧
      (let n := node.val / 2 * 2; let w := if now s - (tget (0, 0) (routerAt s n).window c.val).1 < 1000000000 then ((tget (0, 0) (routerAt s n).window c.val).1, (tget (0, 0) (routerAt s n).window c.val).2 + 1) else (now s, 1); let t := modRouter s n (fun r => { r with resends := tmod {} r.resends c.val ctrInc, window := tset (0, 0) r.window c.val w, fails := tmod 0 r.fails (8 * b2n d + c.val) (failRun n c.val) }); tget 0 (routerAt (if w.2 = 101 then raise t (routerSrc n) else t) n).fails (8 * b2n d + c.val) < 4)) ∧
    (∃ (s : State) (node : Fin 1024) (c : Fin 7) (d : Bool), linkOk s (node.val / 2 * 2) c.val = true ∧
      (let n := node.val / 2 * 2; let w := if now s - (tget (0, 0) (routerAt s n).window c.val).1 < 1000000000 then ((tget (0, 0) (routerAt s n).window c.val).1, (tget (0, 0) (routerAt s n).window c.val).2 + 1) else (now s, 1); let t := modRouter s n (fun r => { r with resends := tmod {} r.resends c.val ctrInc, window := tset (0, 0) r.window c.val w, fails := tmod 0 r.fails (8 * b2n d + c.val) (failRun n c.val) }); 4 ≤ tget 0 (routerAt (if w.2 = 101 then raise t (routerSrc n) else t) n).fails (8 * b2n d + c.val))) ∧
    (∃ (n : Nat) (c : Nat), dieLink n c = true) ∧
    (∃ (n : Nat) (c : Nat) (k : Nat), ((dieLink n c = false ∨ k ≠ 1))) ∧
    (∃ (s : State) (node : Fin 1024), attUp s node.val = true ∧ boundPassed s node.val = true ∧
      ((nauNumber node.val = none ∨ (plotAt s (plotOfNau s node.val)).state ≠ .frozen))) ∧
    (∃ (s : State) (node : Fin 1024), boundPassed s node.val = false) ∧
    (∃ (s : State) (n : Nat) (t : Nat) (c : Cls), tget none s.silt.fullSince (acKey n c) = some t ∧
      t + 1000 * s.silt.deadBound ≤ now s) ∧
    (∃ (s : State) (node : Fin 1024) (k : Nat), nauNumber node.val = some k ∧ (plotAt s (plotOfNau s node.val)).state = .frozen) ∧
    (∃ (s : State) (node : Fin 1024) (job : Nat), s.silt.change = some (job, false) ∧
      hasElem (presentRouters s) (node.val / 2 * 2) = true) ∧
    (∃ (s : State) (node : Fin 1024) (job : Nat), let t := modRouter s node.val (fun r => { r with shadowOk := true });
      s.silt.change = some (job, false) ∧ hasElem (presentRouters s) (node.val / 2 * 2) = true ∧
      ((∃ n ∈ presentRouters t, (routerAt t n).shadowOk = false))) ∧
    (∃ (s : State) (node : Fin 1024) (job : Nat), let t := modRouter s node.val (fun r => { r with shadowOk := true });
      s.silt.change = some (job, false) ∧ hasElem (presentRouters s) (node.val / 2 * 2) = true ∧
      ((∀ n ∈ presentRouters t, (routerAt t n).shadowOk = true))) ∧
    (∃ (s : State) (node : Fin 1024) (job : Nat), s.silt.change = some (job, false) ∧
      hasElem (presentRouters s) (node.val / 2 * 2) = true ∧ (routerAt s node.val).shadowOk = false) ∧
    (∃ (s : State) (node : Fin 1024) (c : Cls), lagging s node.val c = true ∧ inFlight s node.val c = 0) ∧
    (∃ (s : State) (node : Fin 1024) (c : Cls), lagging s node.val c = true ∧ inFlight s node.val c = 0 ∧ nauNumber node.val = none) ∧
    (∃ (s : State) (node : Fin 1024) (c : Cls) (a : Nat), lagging s node.val c = true ∧ inFlight s node.val c = 0 ∧
      attOf node.val = .nau a) ∧
    (∃ (s : State) (job : Nat), s.silt.change = some (job, true) ∧ oldAnywhere s = true) ∧
    (∃ (s : State) (job : Nat), s.silt.change = some (job, true) ∧ oldAnywhere s = false) ∧
    (∃ (s : State) (pos : Fin 4), dieUp s pos.val = false) ∧
    (∃ (s : State) (pos : Fin 4), dieUp s pos.val = true) ∧
    (∃ (s : State) (pos : Fin 4), dieUp s pos.val = true ∧ pos.val = 0) ∧
    (∃ (s : State) (pos : Fin 4), dieUp s pos.val = true ∧ pos.val ≠ 0) ∧
    (∃ (s : State) (pos : Fin 4), let t := endDieJobs (isolateHw s pos.val (160 * pos.val + 131)) pos.val; dieUp s pos.val = true ∧
      pos.val ≠ 0 ∧ recordFree t = true) ∧
    (∃ (s : State) (pos : Fin 4), let t := endDieJobs (isolateHw s pos.val (160 * pos.val + 131)) pos.val; dieUp s pos.val = true ∧
      pos.val ≠ 0 ∧ recordFree t = false) ∧
    (∃ (s : State) (line : Nat) (l : LineLock), (s.silt.locks.find? (fun l => decide (l.line = line)) = some l) ∧ l.until_ ≤ now s) ∧
    (∃ (s : State) (line : Nat) (l : LineLock), (s.silt.locks.find? (fun l => decide (l.line = line)) = some l) ∧ now s < l.until_) ∧
    (∃ (s : State) (node : Fin 1024), hasElem s.silt.lockNotices node.val = false) ∧
    (∃ (s : State) (node : Fin 1024), hasElem s.silt.lockNotices node.val = true) :=
  ⟨⟨up, 16, 1, by decide⟩,
    ⟨modRouter up 16 (fun r => { r with fails := [(1, 2)] }), 16, 1, false, by decide, by decide⟩,
    ⟨modRouter up 16 (fun r => { r with fails := [(1, 3)] }), 16, 1, false, by decide, by decide⟩,
    ⟨0, 5, by decide⟩,
    ⟨0, 0, 0, by decide⟩,
    ⟨modSilt (sys (fun y => { y with timeNs := 10 ^ 12 })) (fun n => { n with fullSince := [(8, some 0)] }), 2, by decide,
      by decide, by decide⟩,
    ⟨up, 0, by decide⟩,
    ⟨modSilt (sys (fun y => { y with timeNs := 10 ^ 12 })) (fun n => { n with fullSince := [(8, some 0)] }), 2, 0, .req, by decide,
      by decide⟩,
    ⟨modPlot up 0 (fun x => { x with state := .frozen }), 16, 0, by decide, by decide⟩,
    ⟨modSilt up (fun n => { n with change := some (1, false) }), 16, 1, by decide, by decide⟩,
    ⟨modSilt up (fun n => { n with change := some (1, false) }), 16, 1, by decide, by decide, by decide⟩,
    ⟨acked, 512, 1, by decide +kernel, by decide +kernel, by decide +kernel⟩,
    ⟨modSilt up (fun n => { n with change := some (1, false) }), 16, 1, by decide, by decide, by decide⟩,
    ⟨modSilt up (fun n => { n with lagging := [(64, true)] }), 16, .req, by decide, by decide⟩,
    ⟨modSilt up (fun n => { n with lagging := [(8, true)] }), 2, .req, by decide, by decide, by decide⟩,
    ⟨modSilt up (fun n => { n with lagging := [(64, true)] }), 16, .req, 0, by decide, by decide, by decide⟩,
    ⟨modSilt up (fun n => { n with change := some (1, true), epoch := true, flights := [{ pkt := pkt 112 0, node := 16, inCode := 1 }] }),
      1, by decide, by decide⟩,
    ⟨modSilt up (fun n => { n with change := some (1, true) }), 1, by decide, by decide⟩,
    ⟨State.reset, 0, by decide⟩,
    ⟨up, 0, by decide⟩,
    ⟨up, 0, by decide, by decide⟩,
    ⟨up, 1, by decide, by decide⟩,
    ⟨up, 1, by decide, by decide, by decide⟩,
    ⟨mg (fun g => { g with jobs := (List.range 32).map (fun i => (i + 1, some (job 0x0202))), nextJob := 33 }), 1,
      by decide +kernel, by decide +kernel, by decide +kernel⟩,
    ⟨modSilt up (fun n => { n with locks := [{ line := 5, node := 16, until_ := 0 }] }), 5, { line := 5, node := 16, until_ := 0 },
      by decide, by decide⟩,
    ⟨modSilt up (fun n => { n with locks := [{ line := 5, node := 16, until_ := 1 }] }), 5, { line := 5, node := 16, until_ := 1 },
      by decide, by decide⟩,
    ⟨up, 0, by decide⟩,
    ⟨modSilt up (fun n => { n with lockNotices := [16] }), 16, by decide⟩⟩

/-- The hypotheses of Links. -/
theorem witness_Links :
    (∃ (s : State) (l : Fin 16), portUp s (l.val / 2) = true ∧ (linkAt s l.val).state = .training ∧ (linkAt s l.val).rate = 0) ∧
    (∃ (s : State) (l : Fin 16) (t : TrainStep) (w : Nat), portUp s (l.val / 2) = true ∧ (linkAt s l.val).state = .training ∧
      (linkAt s l.val).rate = 0 ∧ t.rate.val = 1 ∧ widest s l.val t.reversed (stepGood s l.val t) = some w) ∧
    (∃ (s : State) (l : Fin 16) (t : TrainStep), portUp s (l.val / 2) = true ∧ (linkAt s l.val).state = .training ∧
      (linkAt s l.val).rate = 0 ∧ ((t.rate.val ≠ 1 ∨ widest s l.val t.reversed (stepGood s l.val t) = none))) ∧
    (∃ (s : State) (l : Fin 16) (t : TrainStep), portUp s (l.val / 2) = true ∧ (linkAt s l.val).state = .training ∧
      (linkAt s l.val).rate ≠ 0 ∧ (linkAt s l.val).settled = false ∧
      t.rate.val = nextRate (linkAt s l.val).rate (linkAt s l.val).topRate) ∧
    (∃ (s : State) (l : Fin 16) (t : TrainStep), portUp s (l.val / 2) = true ∧ (linkAt s l.val).state = .training ∧
      (linkAt s l.val).rate ≠ 0 ∧ (linkAt s l.val).settled = false ∧
      t.rate.val = nextRate (linkAt s l.val).rate (linkAt s l.val).topRate ∧ ((t.rate.val < 3 ∨ stepEqualized s l.val t = true))) ∧
    (∃ (s : State) (l : Fin 16) (t : TrainStep), portUp s (l.val / 2) = true ∧ (linkAt s l.val).state = .training ∧
      (linkAt s l.val).rate ≠ 0 ∧ (linkAt s l.val).settled = false ∧
      t.rate.val = nextRate (linkAt s l.val).rate (linkAt s l.val).topRate ∧ 3 ≤ t.rate.val ∧ stepEqualized s l.val t = false) ∧
    (∃ (s : State) (l : Fin 16), portUp s (l.val / 2) = true ∧ (linkAt s l.val).state = .recovery) ∧
    (∃ (s : State) (l : Fin 16) (t : TrainStep) (w : Nat), portUp s (l.val / 2) = true ∧ (linkAt s l.val).state = .recovery ∧
      widest s l.val (linkAt s l.val).reversed (stepGood s l.val t) = some w) ∧
    (∃ (s : State) (l : Fin 16) (t : TrainStep), portUp s (l.val / 2) = true ∧ (linkAt s l.val).state = .recovery ∧
      widest s l.val (linkAt s l.val).reversed (stepGood s l.val t) = none) ∧
    (∃ (s : State) (l : Nat) (w : Nat) (rev : Bool) (good : Nat → Bool), widest s l rev good = some w) ∧
    (∃ (s : State) (l : Nat) (f : Nat), (linkAt s l).state = .recovery ∧ (laneAt s f).los = true) ∧
    (∃ (fl : Bool), fl = false) ∧
    (∃ (x : Link) (cxl : Bool), cxl = true ∧ x.flits / 2 % 4 = 0) ∧
    (∃ (s : State) (l : Fin 16), (linkAt s l.val).state = .training ∧ (linkAt s l.val).settled = true) ∧
    (∃ (s : State) (l : Fin 16), (linkAt s l.val).state = .training) ∧
    (∃ (s : State) (l : Fin 16), (linkAt s l.val).state = .down) ∧
    (∃ (s : State) (l : Fin 16),
      (((linkAt s l.val).state = .l0 ∨ (linkAt s l.val).state = .insecure ∨ (linkAt s l.val).state = .recovery))) ∧
    (∃ (s : State) (l : Fin 16), (linkAt s l.val).state = .l0 ∧ (linkAt s l.val).proto % 2 = 1) ∧
    (∃ (s : State) (l : Fin 16), (linkAt s l.val).state = .l0 ∧ (linkAt s l.val).ide = true) ∧
    (∃ (s : State) (l : Fin 16), (((linkAt s l.val).state = .l0 ∨ (linkAt s l.val).state = .insecure))) ∧
    (∃ (s : State) (l : Fin 16), (linkAt s l.val).state = .l0) ∧
    (∃ (s : State) (l : Fin 16) (pw : LinkPower), (linkAt s l.val).state = .l0 ∧ pw ≠ .active) ∧
    (∃ (s : State) (l : Fin 16) (pw : LinkPower), (linkAt s l.val).state = .l0 ∧ pw = .active) ∧
    (∃ (s : State) (l : Fin 16) (req : CfgReq) (off : Fin 4096), (linkAt s l.val).state = .l0 ∧
      (((linkAt s l.val).role = 2 ∨ (linkAt s l.val).role = 3)) ∧ ((req = .doe ∨ (req = .config ∧ 0x400 ≤ off.val)))) ∧
    (∃ (s : State) (l : Fin 16) (req : CfgReq) (off : Fin 4096), (linkAt s l.val).state = .l0 ∧
      (((linkAt s l.val).role = 2 ∨ (linkAt s l.val).role = 3)) ∧ ((req = .doe ∨ (req = .config ∧ 0x400 ≤ off.val))) ∧
      configured s = false) ∧
    (∃ (s : State) (l : Fin 16) (req : CfgReq) (off : Fin 4096), (linkAt s l.val).state = .l0 ∧
      (((linkAt s l.val).role = 2 ∨ (linkAt s l.val).role = 3)) ∧ ((req = .doe ∨ (req = .config ∧ 0x400 ≤ off.val))) ∧
      configured s = true) ∧
    (∃ (s : State) (l : Fin 16) (off : Fin 4096), (linkAt s l.val).state = .l0 ∧
      (((linkAt s l.val).role = 2 ∨ (linkAt s l.val).role = 3)) ∧ off.val < 0x400) ∧
    (∃ (s : State) (l : Fin 16), (linkAt s l.val).state = .l0 ∧ (((linkAt s l.val).role = 2 ∨ (linkAt s l.val).role = 3))) ∧
    (∃ (s : State) (l : Fin 16), (linkAt s l.val).state = .insecure) ∧
    (∃ (s : State) (l : Fin 16) (q : Tlp), (linkAt s l.val).state = .l0 ∧ ((512 < 4 * q.words.length ∨ 4096 < q.readLen))) ∧
    (∃ (s : State) (l : Fin 16) (q : Tlp), (linkAt s l.val).state = .l0 ∧ tlpOk q = true) ∧
    (∃ (s : State) (l : Fin 16) (q : Tlp) (k : Fin 8) (d : HdmRange), (linkAt s l.val).state = .l0 ∧ tlpOk q = true ∧
      q.hdm = some (k, d) ∧ (((linkAt s l.val).role = 2 ∨ (linkAt s l.val).role = 3))) ∧
    (∃ (s : State) (l : Fin 16) (q : Tlp), (linkAt s l.val).state = .l0 ∧ tlpOk q = true ∧ q.hdm = none ∧ q.toLink = none) ∧
    (∃ (s : State) (l : Fin 16) (d : Fin 16) (q : Tlp), (linkAt s l.val).state = .l0 ∧ tlpOk q = true ∧ q.hdm = none ∧
      q.toLink = some d ∧ 3 ≤ (linkAt s l.val).role ∧ 3 ≤ (linkAt s d.val).role ∧ (linkAt s l.val).group = (linkAt s d.val).group ∧
      (((linkAt s d.val).state = .l0 ∨ (linkAt s d.val).state = .insecure ∨ (linkAt s d.val).state = .recovery))) :=
  ⟨⟨lnk (fun x => { x with state := .training }), 0, by decide, by decide, by decide⟩,
    ⟨modPort (lnk (fun x => { x with state := .training })) 0 (fun x => { x with bifRow := 0 }), 0, step0, 1, by decide, by decide,
      by decide, by decide, by decide⟩,
    ⟨lnk (fun x => { x with state := .training }), 0, step0, by decide, by decide, by decide, by decide⟩,
    ⟨lnk (fun x => { x with state := .training, rate := 1, topRate := 3 }), 0, { step0 with rate := 3 }, by decide, by decide,
      by decide, by decide, by decide⟩,
    ⟨lnk (fun x => { x with state := .training, rate := 1, topRate := 3 }), 0, { step0 with rate := 3, phases := [4] }, by decide,
      by decide, by decide, by decide, by decide, by decide⟩,
    ⟨modPort (lnk (fun x => { x with state := .training, rate := 1, topRate := 3, width := 1 })) 0 (fun x => { x with bifRow := 0 }),
      0, { step0 with rate := 3 }, by decide, by decide, by decide, by decide, by decide, by decide, by decide⟩,
    ⟨lnk (fun x => { x with state := .recovery }), 0, by decide, by decide⟩,
    ⟨modPort (lnk (fun x => { x with state := .recovery })) 0 (fun x => { x with bifRow := 0 }), 0, step0, 1, by decide, by decide,
      by decide⟩,
    ⟨lnk (fun x => { x with state := .recovery }), 0, step0, by decide, by decide, by decide⟩,
    ⟨modPort up 0 (fun x => { x with bifRow := 0 }), 0, 16, false, (fun _ => true), by decide⟩,
    ⟨modLane (lnk (fun x => { x with state := .recovery })) 0 (fun x => { x with los := true }), 0, 0, by decide, by decide⟩,
    ⟨false, by decide⟩,
    ⟨{ ({} : Link) with flits := 1 }, true, by decide, by decide⟩,
    ⟨lnk (fun x => { x with state := .training, settled := true }), 0, by decide, by decide⟩,
    ⟨lnk (fun x => { x with state := .training }), 0, by decide⟩,
    ⟨lnk (fun x => { x with state := .down }), 0, by decide⟩,
    ⟨lnk (fun x => { x with state := .recovery }), 0, by decide⟩,
    ⟨lnk (fun x => { x with state := .l0, proto := 1 }), 0, by decide, by decide⟩,
    ⟨lnk (fun x => { x with state := .l0, ide := true }), 0, by decide, by decide⟩,
    ⟨lnk (fun x => { x with state := .l0 }), 0, by decide⟩,
    ⟨lnk (fun x => { x with state := .l0 }), 0, by decide⟩,
    ⟨lnk (fun x => { x with state := .l0 }), 0, .l1, by decide, by decide⟩,
    ⟨lnk (fun x => { x with state := .l0 }), 0, .active, by decide, by decide⟩,
    ⟨lnk (fun x => { x with state := .l0, role := 3 }), 0, .doe, 0x400, by decide, by decide, by decide⟩,
    ⟨modSys (lnk (fun x => { x with state := .l0, role := 3 })) (fun y => { y with cfgDone := false }), 0, .doe, 0x400, by decide,
      by decide, by decide, by decide⟩,
    ⟨lnk (fun x => { x with state := .l0, role := 3 }), 0, .doe, 0x400, by decide, by decide, by decide, by decide⟩,
    ⟨lnk (fun x => { x with state := .l0, role := 3 }), 0, 0x3FF, by decide, by decide, by decide⟩,
    ⟨lnk (fun x => { x with state := .l0, role := 3 }), 0, by decide, by decide⟩,
    ⟨lnk (fun x => { x with state := .insecure }), 0, by decide⟩,
    ⟨lnk (fun x => { x with state := .l0 }), 0, { tlp with readLen := 4097 }, by decide, by decide⟩,
    ⟨lnk (fun x => { x with state := .l0 }), 0, { tlp with readLen := 4096 }, by decide, by decide⟩,
    ⟨lnk (fun x => { x with state := .l0, role := 3 }), 0,
      { tlp with hdm := some (7, { on := true, base := 0, size := 1, target := 0 }) }, 7,
      { on := true, base := 0, size := 1, target := 0 }, by decide, by decide, by decide, by decide⟩,
    ⟨lnk (fun x => { x with state := .l0 }), 0, { tlp with readLen := 4096 }, by decide, by decide, by decide, by decide⟩,
    ⟨modLink (lnk (fun x => { x with state := .l0, role := 3 })) 2 (fun x => { x with state := .l0, role := 4 }), 0, 2,
      { toLink := some 2, words := [], readLen := 0, hdm := none }, by decide, by decide, by decide, by decide, by decide,
      by decide, by decide, by decide⟩⟩

/-- The hypotheses of Lanes. -/
theorem witness_Lanes :
    (∃ (s : State) (f : Fin 160) (ns : Nat), laneUp s f.val = true ∧ (laneAt s f.val).rxSleep = false ∧ 2000 ≤ ns) ∧
    (∃ (s : State) (f : Fin 160) (ns : Nat), laneUp s f.val = true ∧ (laneAt s f.val).rxSleep = false ∧ ns < 2000 ∧ f.val < 128) ∧
    (∃ (s : State) (f : Fin 160) (ns : Nat), laneUp s f.val = true ∧ (laneAt s f.val).rxSleep = false ∧ 1000 ≤ ns ∧ f.val < 128) ∧
    (∃ (s : State) (f : Fin 160) (ns : Nat), laneUp s f.val = true ∧ (laneAt s f.val).rxSleep = false ∧ ns < 1000) ∧
    (∃ (s : State) (f : Fin 160), laneUp s f.val = true) ∧
    (∃ (s : State) (f : Fin 160), laneUp s f.val = true ∧ (laneAt s f.val).rxSleep = false) ∧
    (∃ (s : State) (f : Fin 160), let t := modLane s f.val (fun x => { x with los := false, lol := false, locked := true });
      laneUp s f.val = true ∧ (laneAt s f.val).rxSleep = false ∧ linkOfLane t f.val = none) ∧
    (∃ (s : State) (f : Fin 160) (l : Nat),
      let t := modLane s f.val (fun x => { x with los := false, lol := false, locked := true }); laneUp s f.val = true ∧
      (laneAt s f.val).rxSleep = false ∧ linkOfLane t f.val = some l ∧ (linkAt t l).state ≠ .recovery) ∧
    (∃ (s : State) (f : Fin 160) (l : Nat),
      let t := modLane s f.val (fun x => { x with los := false, lol := false, locked := true }); laneUp s f.val = true ∧
      (laneAt s f.val).rxSleep = false ∧ linkOfLane t f.val = some l ∧ (linkAt t l).state = .recovery ∧
      ((usedLanes t l (linkAt t l).width (linkAt t l).reversed).all (fun g => !(laneAt t g).los && !(laneAt t g).lol) = true)) ∧
    (∃ (s : State) (f : Fin 160), (laneAt s f.val).adapt = true ∧ (laneAt s f.val).rxSleep = false ∧
      (laneAt s f.val).frozen = false) ∧
    (∃ (s : State) (f : Fin 160),
      (((laneAt s f.val).adapt = false ∨ (laneAt s f.val).rxSleep = true ∨ (laneAt s f.val).frozen = true))) ∧
    (∃ (s : State) (f : Fin 128), laneUp s f.val = true ∧ (laneAt s f.val).txSleep = false) ∧
    (∃ (s : State) (f : Fin 128) (a : Nat) (b : Nat) (c : Nat), laneUp s f.val = true ∧ (laneAt s f.val).txSleep = false ∧ a ≤ 12 ∧
      a + b + c = 48 ∧ a + c + 12 ≤ b) ∧
    (∃ (s : State) (f : Fin 128) (a : Nat) (b : Nat) (c : Nat), laneUp s f.val = true ∧ (laneAt s f.val).txSleep = false ∧
      ((12 < a ∨ a + b + c ≠ 48 ∨ b < a + c + 12))) ∧
    (∃ (s : State) (f : Fin 128) (l : Nat), linkOfLane s f.val = some l ∧ (linkAt s l).state = .l0) ∧
    (∃ (s0 : State) (j : Fin 32) (c : Nat) (u : Nat), let s := countFec s0 j.val c u; laneUp s (128 + j.val) = true ∧
      (laneAt s (128 + j.val)).rxSleep = false ∧ (reachAt s j.val).mode ≠ 0 ∧ s.sys.xlrefLost = false) ∧
    (∃ (s0 : State) (j : Fin 32) (c : Nat) (u : Nat), let s := countFec s0 j.val c u; laneUp s (128 + j.val) = true ∧
      (laneAt s (128 + j.val)).rxSleep = false ∧ (reachAt s j.val).mode ≠ 0 ∧ s.sys.xlrefLost = false ∧
      (reachAt s j.val).buf.length < 256) ∧
    (∃ (s0 : State) (j : Fin 32) (c : Nat) (u : Nat), let s := countFec s0 j.val c u; laneUp s (128 + j.val) = true ∧
      (laneAt s (128 + j.val)).rxSleep = false ∧ (reachAt s j.val).mode ≠ 0 ∧ s.sys.xlrefLost = false ∧
      256 ≤ (reachAt s j.val).buf.length) ∧
    (∃ (s : State) (j : Nat), (reachAt s j).mode ≠ 3) ∧
    (∃ (s : State) (j : Nat), (reachAt s j).mode = 3) ∧
    (∃ (s : State) (j : Fin 32), laneUp s (128 + j.val) = true ∧ (laneAt s (128 + j.val)).txSleep = false ∧
      (reachAt s j.val).mode ≠ 0 ∧ s.sys.xlrefLost = false) ∧
    (∃ (s : State), s.sys.xlrefLost = true) :=
  ⟨⟨lane 159 (fun x => { x with rxSleep := false }), 159, 2000, by decide, by decide, by decide⟩,
    ⟨lane 127 (fun x => { x with rxSleep := false }), 127, 1999, by decide, by decide, by decide, by decide⟩,
    ⟨lane 127 (fun x => { x with rxSleep := false }), 127, 1000, by decide, by decide, by decide, by decide⟩,
    ⟨lane 0 (fun x => { x with rxSleep := false }), 0, 999, by decide, by decide, by decide⟩,
    ⟨up, 0, by decide⟩,
    ⟨lane 0 (fun x => { x with rxSleep := false }), 0, by decide, by decide⟩,
    ⟨lane 128 (fun x => { x with rxSleep := false }), 128, by decide, by decide, by decide⟩,
    ⟨linked .l0, 0, 0, by decide, by decide, by decide, by decide⟩,
    ⟨linked .recovery, 0, 0, by decide, by decide, by decide, by decide, by decide⟩,
    ⟨lane 0 (fun x => { x with rxSleep := false, adapt := true }), 0, by decide, by decide, by decide⟩,
    ⟨up, 0, by decide⟩,
    ⟨lane 127 (fun x => { x with txSleep := false }), 127, by decide, by decide⟩,
    ⟨lane 127 (fun x => { x with txSleep := false }), 127, 12, 36, 0, by decide, by decide, by decide, by decide, by decide⟩,
    ⟨lane 127 (fun x => { x with txSleep := false }), 127, 13, 35, 0, by decide, by decide, by decide⟩,
    ⟨modPort (lnk (fun x => { x with state := .l0 })) 0 (fun x => { x with bifRow := 0 }), 0, 0, by decide, by decide⟩,
    ⟨modReach (lane 128 (fun x => { x with rxSleep := false })) 0 (fun x => { x with mode := 1 }), 0, 0, 0, by decide, by decide,
      by decide, by decide⟩,
    ⟨modReach (lane 128 (fun x => { x with rxSleep := false })) 0 (fun x => { x with mode := 1 }), 0, 0, 0, by decide, by decide,
      by decide, by decide, by decide⟩,
    ⟨modReach (lane 128 (fun x => { x with rxSleep := false })) 0 (fun x => { x with mode := 1, buf := List.replicate 256 ([], 0#32, 0) }),
      0, 0, 0, by decide +kernel, by decide +kernel, by decide +kernel, by decide +kernel, by decide +kernel⟩,
    ⟨up, 0, by decide⟩,
    ⟨modReach up 0 (fun x => { x with mode := 3 }), 0, by decide⟩,
    ⟨modReach (lane 159 (fun x => { x with txSleep := false })) 31 (fun x => { x with mode := 3 }), 31, by decide, by decide,
      by decide, by decide⟩,
    ⟨sys (fun y => { y with xlrefLost := true }), by decide⟩⟩

/-- The hypotheses of EventSources. -/
theorem witness_EventSources :
    (∃ (s : State) (i : Fin 768), srcUp s i.val = true ∧ (srcAt s i.val).state = .masked) ∧
    (∃ (s : State) (i : Fin 768), srcUp s i.val = true ∧ (srcAt s i.val).state ≠ .masked ∧
      srcHasToken (srcAt s i.val) (now s) = true) ∧
    (∃ (s : State) (i : Fin 768), srcUp s i.val = true ∧ (srcAt s i.val).state ≠ .masked ∧
      srcHasToken (srcAt s i.val) (now s) = false) ∧
    (∃ (s : State) (i : Fin 768), i.val < 640 ∧ (srcAt s i.val).state = .coalescing ∧ 0 < (srcAt s i.val).owed) ∧
    (∃ (s : State) (i : Fin 768), 640 ≤ i.val ∧ (srcAt s i.val).state = .coalescing ∧ 0 < (srcAt s i.val).owed) ∧
    (∃ (s : State) (i : Fin 768), (srcAt s i.val).state = .coalescing ∧ (srcAt s i.val).owed = 0) ∧
    (∃ (s : State) (i : Fin 768), (((srcAt s i.val).active = true ∨ (srcAt s i.val).state = .coalescing)) ∧
      (srcAt s i.val).stuckMs ≠ 0xFFFF ∧ (srcAt s i.val).state ≠ .masked) :=
  ⟨⟨src 0 (fun c => { c with state := .masked }), 0, by decide, by decide⟩,
    ⟨up, 0, by decide, by decide, by decide⟩,
    ⟨src 0 (fun c => { c with used := 64000000 }), 0, by decide, by decide, by decide⟩,
    ⟨src 639 (fun c => { c with state := .coalescing, owed := 1 }), 639, by decide, by decide, by decide⟩,
    ⟨src 640 (fun c => { c with state := .coalescing, owed := 1 }), 640, by decide, by decide, by decide⟩,
    ⟨src 767 (fun c => { c with state := .coalescing }), 767, by decide, by decide⟩,
    ⟨src 0 (fun c => { c with active := true }), 0, by decide, by decide, by decide⟩⟩

/-- The hypotheses of DumpAndTelemetry. -/
theorem witness_DumpAndTelemetry :
    (∃ (s : State), s.sys.phase = .ready ∧ s.mgmt.restarting = false ∧ s.mgmt.halted = none ∧ s.sys.fatal = true ∧
      s.dumps.wanted = true ∧ s.dumps.complete = false ∧ s.dumps.plan = none) ∧
    (∃ (s : State), ((s.sys.fatal = false ∨ s.dumps.wanted = false ∨ s.dumps.complete = true ∨ s.dumps.plan ≠ none))) ∧
    (∃ (s : State) (j : Job) (p : DumpPlan), j.op = 0 ∧ s.dumps.plan = some p ∧ j.steps < p.bodies.length) ∧
    (∃ (s : State) (j : Job) (p : DumpPlan), j.op = 0 ∧ s.dumps.plan = some p ∧ j.steps = p.bodies.length ∧ p.direct = false) ∧
    (∃ (s : State) (j : Job) (p : DumpPlan), j.op = 0 ∧ s.dumps.plan = some p ∧ p.bodies.length < j.steps) ∧
    (∃ (s : State), s.sys.phase = .ready ∧ s.mgmt.restarting = false ∧ s.mgmt.halted = none) ∧
    (∃ (s : State), ((s.sys.phase ≠ .ready ∨ s.mgmt.restarting = true ∨ s.mgmt.halted ≠ none))) :=
  ⟨⟨fataled, by decide, by decide, by decide, by decide, by decide, by decide, by decide⟩,
    ⟨up, by decide⟩,
    ⟨planned, job 0, dumping, by decide, by decide, by decide⟩,
    ⟨planned, { job 0 with steps := 1 }, dumping, by decide, by decide, by decide, by decide⟩,
    ⟨planned, { job 0 with steps := 2 }, dumping, by decide, by decide, by decide⟩,
    ⟨up, by decide, by decide, by decide⟩,
    ⟨State.reset, by decide⟩⟩

/-- The hypotheses of LoadsAndScan. -/
theorem witness_LoadsAndScan :
    (∃ (s : State) (id : Fin 65536) (ld : Load) (j : Job), loadOf s id.val = some ld ∧ jobAt s id.val = some j ∧
      bodyDone ld = false) ∧
    (∃ (s : State) (id : Fin 65536) (ld : Load) (j : Job) (d : Nat), loadOf s id.val = some ld ∧ jobAt s id.val = some j ∧
      bodyDone ld = false ∧ sourceFails s j ld = some d) ∧
    (∃ (s : State) (id : Fin 65536) (ld : Load) (j : Job) (b : Bytes), loadOf s id.val = some ld ∧ jobAt s id.val = some j ∧
      bodyDone ld = false ∧ sourceFails s j ld = none ∧ b ≠ nextBlock s j ld) ∧
    (∃ (s : State) (id : Fin 65536) (ld : Load) (j : Job), loadOf s id.val = some ld ∧ jobAt s id.val = some j ∧
      bodyDone ld = false ∧ sourceFails s j ld = none) ∧
    (∃ (ld : Load), leN ld.image 0x24 4 ≤ ld.sent) ∧
    (∃ (s : State) (id : Fin 65536), loadOf s id.val = none) ∧
    (∃ (s : State), s.sys.phase ≠ .held ∧ s.sys.phase ≠ .tripHeld ∧ s.sys.thermtrip = false ∧ s.cfg.armed = false) ∧
    (∃ (s : State) (b : Bytes) (id : Nat) (j : Job), s.sys.phase ≠ .held ∧ s.sys.phase ≠ .tripHeld ∧ s.sys.thermtrip = false ∧
      s.cfg.armed = true ∧ imgForDevice s b = true ∧ s.cfg.armedBy = some id ∧ jobAt s id = some j ∧ j.state = .running) ∧
    (∃ (s : State) (b : Bytes), s.sys.phase ≠ .held ∧ s.sys.phase ≠ .tripHeld ∧ s.sys.thermtrip = false ∧ s.cfg.armed = true ∧
      imgForDevice s b = true ∧ s.cfg.armedBy = none ∧ jobRoom s [(.shell, false)] = true) ∧
    (∃ (s : State) (id : Nat) (j : Job), s.cfg.taking = some id ∧ jobAt s id = some j ∧ j.state = .running) ∧
    (∃ (s : State), s.cfg.taking = none ∧ s.sys.phase ≠ .held ∧ s.sys.phase ≠ .tripHeld) ∧
    (∃ (s : State) (a : Word), dieUp s (a.toNat / 2 ^ 24) = true ∧ s.sys.phase = .ready ∧ s.mgmt.restarting = false ∧
      s.mgmt.halted = none) ∧
    (∃ (s : State) (a : Word), dieUp s (a.toNat / 2 ^ 24) = true ∧ s.sys.phase = .ready ∧ s.mgmt.restarting = false ∧
      s.mgmt.halted = none ∧
      (((tget {} s.cfg.frames a.toNat).dynamic = true ∨ (plotAt s (plotOfFrame s a.toNat)).state = .loading ∨ s.cfg.loading = true))) ∧
    (∃ (s : State) (a : Word), dieUp s (a.toNat / 2 ^ 24) = true ∧ s.sys.phase = .ready ∧ s.mgmt.restarting = false ∧
      s.mgmt.halted = none ∧ (tget {} s.cfg.frames a.toNat).dynamic = false ∧ (plotAt s (plotOfFrame s a.toNat)).state ≠ .loading ∧
      s.cfg.loading = false) :=
  ⟨⟨bodied, 1, load1, job 0x0101, by decide, by decide, by decide⟩,
    ⟨lossy, 1, load1, job 0x0101, 1, by decide, by decide, by decide, lossy_source⟩,
    ⟨bodied, 1, load1, job 0x0101, [1#8], by decide, by decide, by decide, by decide, by decide⟩,
    ⟨bodied, 1, load1, job 0x0101, by decide, by decide, by decide, by decide⟩,
    ⟨load1, by decide⟩,
    ⟨up, 0, by decide⟩,
    ⟨up, by decide, by decide, by decide, by decide⟩,
    ⟨armed (some 1), devImage, 1, job 0x0101, by decide, by decide, by decide, by decide, by decide, by decide, by decide,
      by decide⟩,
    ⟨armed none, devImage, by decide, by decide, by decide, by decide, by decide, by decide, by decide⟩,
    ⟨modCfg (jobbed 0x0101) (fun c => { c with taking := some 1 }), 1, job 0x0101, by decide, by decide, by decide⟩,
    ⟨up, by decide, by decide, by decide⟩,
    ⟨up, 0#32, by decide, by decide, by decide, by decide⟩,
    ⟨modCfg up (fun c => { c with loading := true }), 0#32, by decide, by decide, by decide, by decide, by decide⟩,
    ⟨up, 0#32, by decide, by decide, by decide, by decide, by decide, by decide, by decide⟩⟩

/-- The hypotheses of DebugEvents. -/
theorem witness_DebugEvents :
    (∃ (s : State) (id : Fin 65536) (x : Session) (pt : Fin 3) (node : Fin 1024) (p : Packet), sessionAt s id.val = some x ∧
      observes s x pt.val node.val p = true) ∧
    (∃ (s : State) (id : Fin 65536) (x : Session) (pt : Fin 3) (node : Fin 1024) (p : Packet),
      let ms := (List.range 16).filter (fun u => unitMatches (tget {} x.units u) p); sessionAt s id.val = some x ∧
      observes s x pt.val node.val p = true ∧ ((∀ u ∈ ms, (tget {} x.units u).action ≠ 2))) ∧
    (∃ (s : State) (id : Fin 65536) (x : Session) (pt : Fin 3) (node : Fin 1024) (p : Packet),
      let ms := (List.range 16).filter (fun u => unitMatches (tget {} x.units u) p); sessionAt s id.val = some x ∧
      observes s x pt.val node.val p = true ∧ ((∃ u ∈ ms, (tget {} x.units u).action = 2)) ∧ (plotAt s x.plot).state = .running ∧
      (plotAt s x.plot).halting = none ∧ bitOf x.capSrc 31 = true ∧ pt.val ≠ 0) ∧
    (∃ (s : State) (id : Fin 65536) (x : Session) (pt : Fin 3) (node : Fin 1024) (p : Packet), sessionAt s id.val = some x ∧
      observes s x pt.val node.val p = true ∧ (plotAt s x.plot).halting ≠ none ∧ bitOf x.capSrc 31 = true) ∧
    (∃ (s : State) (id : Fin 65536), sessionAt s id.val = none) ∧
    (∃ (s : State) (q : Fin 17), (plotAt s q.val).halting ≠ none ∧ lockSetEmpty s q.val = true) ∧
    (∃ (s : State) (q : Fin 17), (((plotAt s q.val).halting = none ∨ lockSetEmpty s q.val = false))) ∧
    (∃ (s : State) (q : Fin 17), (plotAt s q.val).halting = some true ∧ lockSetEmpty s q.val = false) ∧
    (∃ (s : State) (q : Fin 17), (plotAt s q.val).halting = some false ∧ lockSetEmpty s q.val = false) ∧
    (∃ (s : State) (q : Fin 17), (plotAt s q.val).halting = none) :=
  ⟨⟨modDbg up (fun d => { d with sessions := [(1, some sess)] }), 1, sess, 0, 16, pkt 112 0, by decide, by decide⟩,
    ⟨modDbg up (fun d => { d with sessions := [(1, some sess)] }), 1, sess, 0, 16, pkt 112 0, by decide, by decide, by decide⟩,
    ⟨modPlot (modDbg up (fun d => { d with sessions := [(1, some breaker)] })) 0 (fun x => { x with state := .running }), 1,
      breaker, 1, 16, pkt 16 0, by decide, by decide, by decide, by decide, by decide, by decide, by decide⟩,
    ⟨modPlot (modDbg up (fun d => { d with sessions := [(1, some breaker)] })) 0 (fun x => { x with state := .running, halting := some true }),
      1, breaker, 1, 16, pkt 16 0, by decide, by decide, by decide, by decide⟩,
    ⟨up, 0, by decide⟩,
    ⟨modPlot up 16 (fun x => { x with halting := some true }), 16, by decide, by decide⟩,
    ⟨up, 0, by decide⟩,
    ⟨lockedPlot true, 0, by decide, by decide⟩,
    ⟨lockedPlot false, 0, by decide, by decide⟩,
    ⟨up, 0, by decide⟩⟩

/-- The hypotheses of CheckValueUnits. -/
theorem witness_CheckValueUnits :
    (∃ (u : CrcUnitId) (s : State), crcUp s u = true) ∧
    (∃ (u : CrcUnitId) (v : Word) (s : State), crcUp s u = true ∧ bitOf v 0 = true) ∧
    (∃ (u : CrcUnitId) (v : Word) (s : State), crcUp s u = true ∧ bitOf v 0 = false) ∧
    (∃ (u : CrcUnitId) (s : State), crcUp s u = true) ∧
    (∃ (u : CrcUnitId) (s : State), crcUp s u = false) ∧
    (∃ (p : Fin 4) (u : Fin 64) (s : State), regionRuns s p.val (u.val % 8) (u.val / 8) = true) ∧
    (∃ (p : Fin 4) (u : Fin 64) (s : State), regionRuns s p.val (u.val % 8) (u.val / 8) = false) :=
  ⟨⟨.marl 0, up, by decide⟩,
    ⟨.marl 0, 1#32, up, by decide, by decide⟩,
    ⟨.marl 0, 0#32, up, by decide, by decide⟩,
    ⟨.loam 3 63, up, by decide⟩,
    ⟨.loam 0 0, State.reset, by decide⟩,
    ⟨0, 0, up, by decide⟩,
    ⟨0, 0, State.reset, by decide⟩⟩

/-- The hypotheses of CheckValueEnd. -/
theorem witness_CheckValueEnd :
    (∃ (c : Crc), bitOf c.ctrl 9 = false) ∧
    (∃ (c : Crc) (a : Nat) (check : Nat), bitOf c.ctrl 9 = true ∧ a < 256 ∧
      crcFinal c (crcByte c c.val.toNat a) ≠ check % 2 ^ crcWidth c) ∧
    (∃ (c : Crc) (a : Nat) (check : Nat), bitOf c.ctrl 9 = true ∧ a < 256 ∧
      crcFinal c (crcByte c c.val.toNat a) ≠ check % 2 ^ crcWidth c ∧ crcFirst c = false) ∧
    (∃ (c : Crc) (a : Nat) (check : Nat), bitOf c.ctrl 9 = true ∧ a < 256 ∧
      crcFinal c (crcByte c c.val.toNat a) = check % 2 ^ crcWidth c ∧ crcFirst c = true) ∧
    (∃ (c : Crc) (a : Nat) (check : Nat), bitOf c.ctrl 9 = true ∧ a < 256 ∧
      crcFinal c (crcByte c c.val.toNat a) = check % 2 ^ crcWidth c ∧ crcFirst c = false) :=
  ⟨⟨{}, by decide⟩,
    ⟨{ ctrl := 0x200#32 }, 0, 1, by decide, by decide, by decide⟩,
    ⟨{ ctrl := 0x200#32, alive := 0#9 }, 0, 1, by decide, by decide, by decide, by decide⟩,
    ⟨{ ctrl := 0x200#32, alive := 0x100#9 }, 255, 0, by decide, by decide, by decide, by decide⟩,
    ⟨{ ctrl := 0x200#32, alive := 0#9 }, 0, 0, by decide, by decide, by decide, by decide⟩⟩

/-- The hypotheses of GritGroups. -/
theorem witness_GritGroups :
    (∃ (p : Fin 4) (s : State), dieUp s p.val = true) ∧
    (∃ (p : Fin 4) (s : State), dieUp s p.val = true ∧ s.sys.eff.gseq = true) ∧
    (∃ (p : Fin 4) (s : State), dieUp s p.val = true ∧ s.sys.eff.gseq = true) ∧
    (∃ (p : Fin 4) (s : State), ((dieUp s p.val = false ∨ s.sys.eff.gseq = false))) ∧
    (∃ (x : Grit) (v : Word), ((x.seq = .stopped ∨ x.seq = .halted)) ∧ fld v 31 28 ≤ 12 ∧ (fld v 31 28 ≠ 4 ∧ fld v 31 28 ≠ 5)) ∧
    (∃ (x : Grit), ((x.seq = .running ∨ x.seq = .waiting))) ∧
    (∃ (x : Grit) (v : Word), ((x.seq = .running ∨ x.seq = .waiting)) ∧ bitOf v 30 = false) ∧
    (∃ (x : Grit) (v : Word), ((x.seq = .stopped ∨ x.seq = .halted)) ∧ bitOf v 30 = false ∧ x.evtPend = false) ∧
    (∃ (x : Grit) (v : Word), bitOf v 30 = true ∧ x.evtPend = false) ∧
    (∃ (x : Grit), bitOf x.ctrl 31 = true) ∧
    (∃ (x : Grit), bitOf x.ctrl 31 = true ∧ x.pipe = [] ∧ x.seq = .waiting ∧ x.shadow = false) ∧
    (∃ (p : Fin 4) (g : Fin 480) (s : State), gritRuns s p.val g.val = true) ∧
    (∃ (p : Fin 4) (g : Fin 480) (s : State), gritRuns s p.val g.val = true ∧ (gritAt s (480 * p.val + g.val)).seq ≠ .stopped) ∧
    (∃ (p : Fin 4) (g : Fin 480) (s : State), gritRuns s p.val g.val = true ∧ (gritAt s (480 * p.val + g.val)).seq = .stopped) ∧
    (∃ (p : Fin 4) (g : Fin 480) (s : State), gritRuns s p.val g.val = true) ∧
    (∃ (p : Fin 4) (g : Fin 480) (s : State), gritRuns s p.val g.val = false) ∧
    (∃ (x : Grit), x.seq = .waiting ∧ ((x.outStall = false ∨ x.outOf ≠ x.shadow))) ∧
    (∃ (x : Grit), x.seq = .waiting ∧ ((x.outStall = false ∨ x.outOf ≠ x.shadow)) ∧ x.shadow = false) ∧
    (∃ (x : Grit), ((x.seq ≠ .waiting ∨ (x.outStall = true ∧ x.outOf = x.shadow)))) ∧
    (∃ (x : Grit), x.outStall = true ∧ x.outReady = true ∧ x.outOf = x.shadow) ∧
    (∃ (x : Grit), x.outStall = true ∧ x.outReady = true ∧ x.outOf ≠ x.shadow) ∧
    (∃ (x : Grit), ((x.outStall = false ∨ x.outReady = false))) ∧
    (∃ (x : Grit), x.shadow = false ∧ x.seq = .waiting ∧ bitOf x.ctrl 29 = true) ∧
    (∃ (x : Grit), ((x.shadow = true ∨ x.seq = .stopped))) :=
  ⟨⟨0, up, by decide⟩,
    ⟨0, up, by decide, by decide⟩,
    ⟨0, up, by decide, by decide⟩,
    ⟨0, State.reset, by decide⟩,
    ⟨{}, 0#32, by decide, by decide, by decide⟩,
    ⟨{ seq := .running }, by decide⟩,
    ⟨{ seq := .running }, 0#32, by decide, by decide⟩,
    ⟨{ seq := .halted }, 0#32, by decide, by decide, by decide⟩,
    ⟨{}, 0xC0000000#32, by decide, by decide⟩,
    ⟨{ ctrl := 0x80000000#32 }, by decide⟩,
    ⟨{ ctrl := 0x80000000#32, seq := .waiting }, by decide, by decide, by decide, by decide⟩,
    ⟨0, 0, up, by decide⟩,
    ⟨0, 0, modGrit up 0 (fun g => { g with seq := .running }), by decide, by decide⟩,
    ⟨0, 0, up, by decide, by decide⟩,
    ⟨0, 0, up, by decide⟩,
    ⟨0, 0, State.reset, by decide⟩,
    ⟨{ seq := .waiting }, by decide, by decide⟩,
    ⟨{ seq := .waiting }, by decide, by decide, by decide⟩,
    ⟨{ seq := .waiting, outStall := true }, by decide⟩,
    ⟨{ outStall := true, outReady := true }, by decide, by decide, by decide⟩,
    ⟨{ outStall := true, outReady := true, shadow := true }, by decide, by decide, by decide⟩,
    ⟨{ outStall := true }, by decide⟩,
    ⟨{ seq := .waiting, ctrl := 0x20000000#32 }, by decide, by decide, by decide⟩,
    ⟨{}, by decide⟩⟩

/-- The hypotheses of GritInstructions. -/
theorem witness_GritInstructions :
    (∃ (g : Grit), g.seq = .running ∧ g.shadow = false ∧ g.evtPend = false ∧ g.pipe = [] ∧ g.load = [] ∧ g.go = false) ∧
    (∃ (g : Grit), let w := tget 0#32 g.live g.prim.pc.toNat; g.seq = .running ∧ g.shadow = false ∧ g.evtPend = false ∧
      g.pipe = [] ∧ g.load = [] ∧ g.go = false ∧ bitOf w 7 = false ∧ fld w 31 28 = 0) ∧
    (∃ (g : Grit), let w := tget 0#32 g.live g.prim.pc.toNat; g.seq = .running ∧ g.shadow = false ∧ g.evtPend = false ∧
      g.pipe = [] ∧ g.load = [] ∧ g.go = false ∧ bitOf w 7 = false ∧ fld w 31 28 = 12) ∧
    (∃ (g : Grit), let w := tget 0#32 g.live g.prim.pc.toNat; g.seq = .running ∧ g.shadow = false ∧ g.evtPend = false ∧
      g.pipe = [] ∧ g.load = [] ∧ g.go = false ∧ bitOf w 7 = false ∧ fld w 31 28 = 10) ∧
    (∃ (g : Grit), let w := tget 0#32 g.live g.prim.pc.toNat; g.seq = .running ∧ g.shadow = false ∧ g.evtPend = false ∧
      g.pipe = [] ∧ g.load = [] ∧ g.go = false ∧ bitOf w 7 = false ∧ fld w 31 28 = 10) ∧
    (∃ (g : Grit), let w := tget 0#32 g.live g.prim.pc.toNat; g.seq = .running ∧ g.shadow = false ∧ g.evtPend = false ∧
      g.pipe = [] ∧ g.load = [] ∧ g.go = false ∧ bitOf w 7 = false ∧ fld w 31 28 = 6) ∧
    (∃ (g : Grit), let w := tget 0#32 g.live g.prim.pc.toNat; g.seq = .running ∧ g.shadow = false ∧ g.evtPend = false ∧
      g.pipe = [] ∧ g.load = [] ∧ g.go = false ∧ bitOf w 7 = false ∧ fld w 31 28 = 9 ∧ g.prim.lc = 0#18) ∧
    (∃ (g : Grit), let w := tget 0#32 g.live g.prim.pc.toNat; g.seq = .running ∧ g.shadow = false ∧ g.evtPend = false ∧
      g.pipe = [] ∧ g.load = [] ∧ g.go = false ∧ bitOf w 7 = false ∧ fld w 31 28 = 9 ∧ g.prim.lc ≠ 0#18) ∧
    (∃ (g : Grit), let w := tget 0#32 g.live g.prim.pc.toNat; g.seq = .running ∧ g.shadow = false ∧ g.evtPend = false ∧
      g.pipe = [] ∧ g.load = [] ∧ g.go = false ∧ bitOf w 7 = false ∧ fld w 31 28 = 5 ∧ g.outStall = false) ∧
    (∃ (g : Grit), let w := tget 0#32 g.live g.prim.pc.toNat; g.seq = .running ∧ g.shadow = false ∧ g.evtPend = false ∧
      g.pipe = [] ∧ g.load = [] ∧ g.go = false ∧ bitOf w 7 = false ∧ fld w 31 28 = 7) ∧
    (∃ (g : Grit), let w := tget 0#32 g.live g.prim.pc.toNat; g.seq = .running ∧ g.shadow = false ∧ g.evtPend = false ∧
      g.pipe = [] ∧ g.load = [] ∧ g.go = false ∧ fld w 31 28 = 11) ∧
    (∃ (g : Grit), let w := tget 0#32 g.live g.prim.pc.toNat; g.seq = .running ∧ g.shadow = false ∧ g.evtPend = false ∧
      g.pipe = [] ∧ g.load = [] ∧ g.go = false ∧ fld w 31 28 = 2 ∧ bitOf w 9 = false ∧ bitOf w 8 = false) :=
  ⟨⟨{ seq := .running }, by decide, by decide, by decide, by decide, by decide, by decide⟩,
    ⟨{ seq := .running, live := [(0, 0x0#32)] }, by decide, by decide, by decide, by decide, by decide, by decide, by decide,
      by decide⟩,
    ⟨{ seq := .running, live := [(0, 0xC0000000#32)] }, by decide, by decide, by decide, by decide, by decide, by decide, by decide,
      by decide⟩,
    ⟨{ seq := .running, live := [(0, 0xA0000000#32)] }, by decide, by decide, by decide, by decide, by decide, by decide, by decide,
      by decide⟩,
    ⟨{ seq := .running, live := [(0, 0xA0000000#32)] }, by decide, by decide, by decide, by decide, by decide, by decide, by decide,
      by decide⟩,
    ⟨{ seq := .running, live := [(0, 0x60000000#32)] }, by decide, by decide, by decide, by decide, by decide, by decide, by decide,
      by decide⟩,
    ⟨{ seq := .running, live := [(0, 0x90000000#32)] }, by decide, by decide, by decide, by decide, by decide, by decide, by decide,
      by decide, by decide⟩,
    ⟨{ seq := .running, live := [(0, 0x90000000#32)], prim := { lc := 1#18 } }, by decide, by decide, by decide, by decide,
      by decide, by decide, by decide, by decide, by decide⟩,
    ⟨{ seq := .running, live := [(0, 0x50000000#32)] }, by decide, by decide, by decide, by decide, by decide, by decide, by decide,
      by decide, by decide⟩,
    ⟨{ seq := .running, live := [(0, 0x70000000#32)] }, by decide, by decide, by decide, by decide, by decide, by decide, by decide,
      by decide⟩,
    ⟨{ seq := .running, live := [(0, 0xB0000000#32)] }, by decide, by decide, by decide, by decide, by decide, by decide, by decide⟩,
    ⟨{ seq := .running, live := [(0, 0x20000000#32)] }, by decide, by decide, by decide, by decide, by decide, by decide, by decide,
      by decide, by decide⟩⟩

/-- The hypotheses of BlockRamAndRegionEvents. -/
theorem witness_BlockRamAndRegionEvents :
    (∃ (p : Fin 4) (b : Fin 5400) (s : State), regionRuns s p.val (bramRegion b.val).1 (bramRegion b.val).2 = true) ∧
    (∃ (p : Fin 4) (b : Fin 5400) (s : State), regionRuns s p.val (bramRegion b.val).1 (bramRegion b.val).2 = false) ∧
    (∃ (p : Fin 4) (r : Fin 64) (s : State), regionClocked s p.val r.val = true ∧ (srcAt s (regionSrc p.val r.val)).active = false) ∧
    (∃ (p : Fin 4) (r : Fin 64) (s : State),
      ((regionClocked s p.val r.val = false ∨ (srcAt s (regionSrc p.val r.val)).active = true))) ∧
    (∃ (p : Fin 4) (r : Fin 64) (s : State), regionClocked s p.val r.val = true) ∧
    (∃ (p : Fin 4) (r : Fin 64) (s : State), regionClocked s p.val r.val = true) ∧
    (∃ (p : Fin 4) (r : Fin 64) (s : State), regionClocked s p.val r.val = false) :=
  ⟨⟨0, 0, up, by decide⟩,
    ⟨0, 0, State.reset, by decide⟩,
    ⟨0, 0, up, by decide, by decide⟩,
    ⟨0, 0, State.reset, by decide⟩,
    ⟨0, 0, up, by decide⟩,
    ⟨0, 0, up, by decide⟩,
    ⟨0, 0, State.reset, by decide⟩⟩

/-- The hypotheses of BlockRamPort. -/
theorem witness_BlockRamPort :
    (∃ (b : Bram), b.shapeA < 6 ∧ b.shapeB < 6) ∧
    (∃ (b : Bram) (x : BramAcc), b.shapeA < 6 ∧ b.shapeB < 6 ∧ x.wr = none) ∧
    (∃ (b : Bram) (x : BramAcc) (v : BitVec 72), b.shapeA < 6 ∧ b.shapeB < 6 ∧ x.wr = some v) ∧
    (∃ (b : Bram), b.shapeA < 6 ∧ b.shapeB < 6 ∧ b.regA = true) ∧
    (∃ (b : Bram), b.shapeA < 6 ∧ b.shapeB < 6 ∧ b.regB = false) ∧
    (∃ (b : Bram), b.shapeA < 6 ∧ b.shapeB < 6 ∧ b.regB = true) :=
  ⟨⟨{}, by decide, by decide⟩,
    ⟨{}, { addr := 0, wr := none }, by decide, by decide, by decide⟩,
    ⟨{}, { addr := 0, wr := some 1#72 }, 1#72, by decide, by decide, by decide⟩,
    ⟨{ ({} : Bram) with regA := true }, by decide, by decide, by decide⟩,
    ⟨{}, by decide, by decide, by decide⟩,
    ⟨{ ({} : Bram) with regB := true }, by decide, by decide, by decide⟩⟩

/-- The hypotheses of KaolinRegisters. -/
theorem witness_KaolinRegisters :
    (∃ (v : Word), bitOf v 0 = true) ∧
    (∃ (v : Word), bitOf v 0 = true) ∧
    (∃ (v : Word), bitOf v 0 = false) ∧
    (∃ (v : Word), fld v 30 29 ≤ 2 ∧ bitOf v 31 = true) ∧
    (∃ (v : Word), fld v 30 29 ≤ 2 ∧ bitOf v 31 = false) ∧
    (∃ (v : Word), 2 < fld v 30 29) :=
  ⟨⟨1#32, by decide⟩,
    ⟨1#32, by decide⟩,
    ⟨0#32, by decide⟩,
    ⟨0xC0000000#32, by decide, by decide⟩,
    ⟨0x40000000#32, by decide, by decide⟩,
    ⟨0x60000000#32, by decide⟩⟩

/-- The hypotheses of KaolinChannels. -/
theorem witness_KaolinChannels :
    (∃ (p : Fin 4) (s : State), stackUp s p.val = true) ∧
    (∃ (p : Fin 4) (s : State), stackUp s p.val = false) ∧
    (∃ (p : Fin 4) (c : Fin 17) (q : KReq) (s : State), ((chanAt s p.val c.val).queue.find? (fun q => q.issued && !q.wr) = some q)) ∧
    (∃ (p : Fin 4) (c : Fin 17) (s : State), ((chanAt s p.val c.val).queue.find? (fun q => q.issued && !q.wr) = none)) ∧
    (∃ (p : Fin 4) (c : Fin 17) (b : Fin 32) (s : State), stackUp s p.val = true ∧
      bankIdle s p.val (chanAt s p.val c.val) b.val = true) ∧
    (∃ (p : Fin 4) (c : Fin 17) (b : Fin 32) (s : State), stackUp s p.val = true ∧
      bankIdle s p.val (chanAt s p.val c.val) b.val = false ∧ tget 0 (chanAt s p.val c.val).postponed b.val < 8) ∧
    (∃ (p : Fin 4) (c : Fin 17) (b : Fin 32) (s : State), stackUp s p.val = true ∧
      bankIdle s p.val (chanAt s p.val c.val) b.val = false ∧ 8 ≤ tget 0 (chanAt s p.val c.val).postponed b.val) ∧
    (∃ (p : Fin 4) (c : Fin 17) (b : Fin 32) (s : State), let h := tget (0, 0) (chanAt s p.val c.val).hits b.val;
      ((h.2 = 0 ∨ 12 * (now s - h.1) < h.2 * clock12 (stackAt s p.val).op))) ∧
    (∃ (p : Fin 4) (c : Fin 17) (b : Fin 32) (s : State), let h := tget (0, 0) (chanAt s p.val c.val).hits b.val; h.2 ≠ 0 ∧
      h.2 * clock12 (stackAt s p.val).op ≤ 12 * (now s - h.1)) ∧
    (∃ (p : Fin 4) (s : State), stackUp s p.val = true) ∧
    (∃ (p : Fin 4) (s : State), stackUp s p.val = true) :=
  ⟨⟨0, up, by decide⟩,
    ⟨0, State.reset, by decide⟩,
    ⟨0, 0, kreq true false, modChan up 0 0 (fun c => { c with queue := [kreq true false] }), by decide⟩,
    ⟨0, 0, up, by decide⟩,
    ⟨0, 0, 0, up, by decide, by decide⟩,
    ⟨0, 0, 0, modChan up 0 0 (fun c => { c with openRow := [(0, some 1)], postponed := [(0, 7)] }), by decide, by decide, by decide⟩,
    ⟨0, 0, 0, modChan up 0 0 (fun c => { c with openRow := [(0, some 1)], postponed := [(0, 8)] }), by decide, by decide, by decide⟩,
    ⟨0, 0, 0, up, by decide⟩,
    ⟨0, 0, 0, modSys (modChan up 0 0 (fun c => { c with hits := [(0, (0, 16))] })) (fun y => { y with timeNs := 1000 }), by decide,
      by decide⟩,
    ⟨0, up, by decide⟩,
    ⟨0, up, by decide⟩⟩

/-- The hypotheses of KaolinChoosesARead. -/
theorem witness_KaolinChoosesARead :
    (∃ (p : Fin 4) (c : Fin 17) (q : KReq) (row : Nat) (s : State), let ch := chanAt s p.val c.val; let pl := reqPlace s p.val q;
      let so := bitOf (frontAt s p.val (chanFront s p.val c.val)).ctrl 31;
      let r := readLine (modChan s p.val c.val (fun x => { countHeld so x with drain := false })) (reqAddr p.val q);
      let after := chanAt r.2.2 p.val c.val; ch.queue = [q] ∧ q.issued = false ∧ q.wr = false ∧ q.hazed = false ∧
      ((∀ b, b < 32 → tget 0 ch.postponed b < 8)) ∧ tget none ch.openRow pl.bank = some row) ∧
    (∃ (p : Fin 4) (c : Fin 17) (q : KReq) (row : Nat) (s : State), let ch := chanAt s p.val c.val; let pl := reqPlace s p.val q;
      ch.queue = [q] ∧ q.issued = false ∧ q.wr = false ∧ q.hazed = false ∧ ((∀ b, b < 32 → tget 0 ch.postponed b < 8)) ∧
      tget none ch.openRow pl.bank = some row ∧ row ≠ pl.row) ∧
    (∃ (p : Fin 4) (c : Fin 17) (q : KReq) (row : Nat) (s : State), let ch := chanAt s p.val c.val; let pl := reqPlace s p.val q;
      ch.queue = [q] ∧ q.issued = false ∧ q.wr = false ∧ q.hazed = false ∧ ((∀ b, b < 32 → tget 0 ch.postponed b < 8)) ∧
      tget none ch.openRow pl.bank = some row ∧ row = pl.row) :=
  ⟨⟨0, 0, kreq false false, 1, modChan up 0 0 (fun c => { c with queue := [kreq false false], openRow := [(0, some 1)] }),
      by decide, by decide, by decide, by decide, by decide, by decide⟩,
    ⟨0, 0, kreq false false, 1, modChan up 0 0 (fun c => { c with queue := [kreq false false], openRow := [(0, some 1)] }),
      by decide, by decide, by decide, by decide, by decide, by decide, by decide⟩,
    ⟨0, 0, kreq false false, 0, modChan up 0 0 (fun c => { c with queue := [kreq false false], openRow := [(0, some 0)] }),
      by decide, by decide, by decide, by decide, by decide, by decide, by decide⟩⟩

/-- The hypotheses of Decoders. -/
theorem witness_Decoders :
    (∃ (port : Fin 8) (u : MsgUnit) (d : BitVec 128) (s : State), let l := 2 * port.val + u.engine.val;
      let h := unitHdr s port.val d u none; let data := (descPayload d u).1;
      let p := decodedPacket (portNode port.val) (targetSlice s (portDie port.val) (mLine h)) 0 h (decodedCls s h data.isSome) (data.getD []);
      portUp s port.val = true ∧ (linkAt s l).state = .l0 ∧ carriesClass (linkAt s l) u.cls = true ∧
      unitDesc s port.val u = some d ∧ fld d 52 47 ≠ 0 ∧ tget 0 s.pce.linkBase l ≤ descAgent s d l u.bits ∧
      descAgent s d l u.bits < tget 0 s.pce.linkBase l + tget 0 s.pce.linkCount l ∧ decoderHeld s port.val = false ∧
      s.silt.sink = false ∧ agentHeld s (mAgent h) = false) ∧
    (∃ (port : Fin 8) (u : MsgUnit) (s : State), portUp s port.val = true ∧ (linkAt s (2 * port.val + u.engine.val)).state = .l0 ∧
      carriesClass (linkAt s (2 * port.val + u.engine.val)) u.cls = true ∧
      ((decoderHeld s port.val = false ∨ unitAnswers s port.val u = true))) ∧
    (∃ (port : Fin 8) (u : MsgUnit) (s : State), portUp s port.val = true ∧ (linkAt s (2 * port.val + u.engine.val)).state = .l0 ∧
      carriesClass (linkAt s (2 * port.val + u.engine.val)) u.cls = true ∧ decoderHeld s port.val = true ∧
      unitAnswers s port.val u = false) ∧
    (∃ (port : Fin 8) (u : MsgUnit) (s : State),
      ((portUp s port.val = false ∨ (linkAt s (2 * port.val + u.engine.val)).state ≠ .l0 ∨ carriesClass (linkAt s (2 * port.val + u.engine.val)) u.cls = false))) ∧
    (∃ (port : Fin 8) (u : MsgUnit) (d : BitVec 128) (s : State), let l := 2 * port.val + u.engine.val;
      let h := unitHdr s port.val d u none; unitDesc s port.val u = some d ∧ fld d 52 47 ≠ 0 ∧
      tget 0 s.pce.linkBase l ≤ descAgent s d l u.bits ∧
      descAgent s d l u.bits < tget 0 s.pce.linkBase l + tget 0 s.pce.linkCount l ∧ s.silt.sink = true ∧ newRequest s h = true) ∧
    (∃ (port : Fin 8) (u : MsgUnit) (s : State), let l := 2 * port.val + u.engine.val; unitDesc s port.val u = none) ∧
    (∃ (port : Fin 8) (u : MsgUnit) (d : BitVec 128) (s : State), let l := 2 * port.val + u.engine.val;
      unitDesc s port.val u = some d ∧ tget 0 s.pce.linkBase l + tget 0 s.pce.linkCount l ≤ descAgent s d l u.bits) ∧
    (∃ (port : Fin 8) (u : MsgUnit) (d : BitVec 128) (s : State), let l := 2 * port.val + u.engine.val;
      unitDesc s port.val u = some d ∧ tget 0 s.pce.linkBase l ≤ descAgent s d l u.bits ∧
      descAgent s d l u.bits < tget 0 s.pce.linkBase l + tget 0 s.pce.linkCount l ∧ fld d 52 47 = 0 ∧
      tget none (linkAt s l).tags (unitBits u.bits (fld d 43 35) (fld d 34 31 + 1)) = none) ∧
    (∃ (port : Fin 8) (u : MsgUnit) (d : BitVec 128) (i : Nat) (t : Nat) (g : Nat) (s : State),
      let l := 2 * port.val + u.engine.val; let tag := unitBits u.bits (fld d 43 35) (fld d 34 31 + 1);
      unitDesc s port.val u = some d ∧ tget 0 s.pce.linkBase l ≤ descAgent s d l u.bits ∧
      descAgent s d l u.bits < tget 0 s.pce.linkBase l + tget 0 s.pce.linkCount l ∧ fld d 52 47 = 0 ∧ fld d 15 14 = 0 ∧
      tget none (linkAt s l).tags tag = some (i, t, g)) ∧
    (∃ (b : Bank) (cls : Nat) (u : BitVec 512) (d : BitVec 128), findDesc b cls u = some d) :=
  ⟨⟨0, unit0, addrDesc, decoding addrDesc, by decide +kernel, by decide +kernel, by decide +kernel, by decide +kernel,
      by decide +kernel, by decide +kernel, by decide +kernel, by decide +kernel, by decide +kernel, by decide +kernel⟩,
    ⟨0, unit0, decoding addrDesc, by decide +kernel, by decide +kernel, by decide +kernel, by decide +kernel⟩,
    ⟨0, unit0, portQuiet (decoding addrDesc), by decide +kernel, by decide +kernel, by decide +kernel, by decide +kernel,
      by decide +kernel⟩,
    ⟨0, unit0, up, by decide⟩,
    ⟨0, unit0, addrDesc, modSilt (decoding addrDesc) (fun n => { n with sink := true }), by decide +kernel, by decide +kernel,
      by decide +kernel, by decide +kernel, by decide +kernel, by decide +kernel⟩,
    ⟨0, unit0, emptyProf, by decide +kernel⟩,
    ⟨0, unit0, BitVec.ofNat 128 (2 ^ 127), prof (BitVec.ofNat 128 (2 ^ 127)) id, by decide +kernel, by decide +kernel⟩,
    ⟨0, unit0, BitVec.ofNat 128 (2 ^ 127), decoding (BitVec.ofNat 128 (2 ^ 127)), by decide +kernel, by decide +kernel,
      by decide +kernel, by decide +kernel, by decide +kernel⟩,
    ⟨0, unit0, BitVec.ofNat 128 (2 ^ 127), 0, 0, 0,
      modLink (decoding (BitVec.ofNat 128 (2 ^ 127))) 0 (fun x => { x with tags := [(0, some (0, 0, 0))] }), by decide +kernel,
      by decide +kernel, by decide +kernel, by decide +kernel, by decide +kernel, by decide +kernel⟩,
    ⟨bank (BitVec.ofNat 128 (2 ^ 127)), 0, 0#512, BitVec.ofNat 128 (2 ^ 127), by decide +kernel⟩⟩

/-- The hypotheses of SliceCommands. -/
theorem witness_SliceCommands :
    (∃ (i : Fin 16) (m : SliceMsg) (s : State), ((sliceAt s i.val).intake.find? (fun m => !intakeWaits s i.val m) = some m) ∧
      sliceReady s i.val = true ∧ chainPending s i.val = false) ∧
    (∃ (i : Fin 16) (s : State), (((sliceAt s i.val).intake = [] ∨ sliceReady s i.val = false ∨ chainPending s i.val = true))) ∧
    (∃ (i : Fin 16) (t : Fin 1024) (s : State), (trkAt s i.val t.val).state = .eval ∧ (trkAt s i.val t.val).chain.isSome = true ∧
      sliceReady s i.val = true) ∧
    (∃ (i : Fin 16) (t : Fin 1024) (s : State),
      (((trkAt s i.val t.val).state ≠ .eval ∨ (trkAt s i.val t.val).chain = none ∨ sliceReady s i.val = false))) ∧
    (∃ (i : Fin 16) (t : Fin 1024) (m : SliceMsg) (h : Nat × HomeEnt) (s : State) (s1 : State),
      (trkAt s i.val t.val).state = .waitMem ∧ sliceReady s i.val = true ∧ chainPending s i.val = false ∧
      (trkAt s i.val t.val).msg = some m ∧ homeFor s (trkAt s i.val t.val).line = some h ∧
      makeRoom s i.val (trkAt s i.val t.val).line = .ready s1 ∧ dirCached s1 i.val (trkAt s i.val t.val).line = none) ∧
    (∃ (i : Fin 16) (t : Fin 1024) (m : SliceMsg) (h : Nat × HomeEnt) (s : State) (s1 : State),
      (trkAt s i.val t.val).state = .waitMem ∧ sliceReady s i.val = true ∧ chainPending s i.val = false ∧
      (trkAt s i.val t.val).msg = some m ∧ homeFor s (trkAt s i.val t.val).line = some h ∧
      makeRoom s i.val (trkAt s i.val t.val).line = .wait s1) ∧
    (∃ (i : Fin 16) (t : Fin 1024) (s : State),
      (((trkAt s i.val t.val).state ≠ .waitMem ∨ sliceReady s i.val = false ∨ chainPending s i.val = true))) ∧
    (∃ (i : Fin 16) (t : Fin 1024) (m : SliceMsg) (s : State), (trkAt s i.val t.val).msg = some m ∧
      (trkAt s i.val t.val).state = .waitLock ∧ hasAhead s i.val t.val = false ∧
      ((lockHolder s i.val (trkAt s i.val t.val).line = none ∨ lockHolder s i.val (trkAt s i.val t.val).line = some t.val)) ∧
      sliceReady s i.val = true ∧ chainPending s i.val = false) ∧
    (∃ (i : Fin 16) (t : Fin 1024) (s : State),
      (((trkAt s i.val t.val).state ≠ .waitLock ∨ hasAhead s i.val t.val = true ∨ (∃ k, k ≠ t.val ∧ lockHolder s i.val (trkAt s i.val t.val).line = some k) ∨ sliceReady s i.val = false ∨ chainPending s i.val = true))) ∧
    (∃ (i : Fin 16) (t : Fin 1024) (s : State), 0 < (trkAt s i.val t.val).deliver) ∧
    (∃ (i : Fin 16) (t : Fin 1024) (s : State), let x := trkAt s i.val t.val; let last := x.deliver = 1 ∧ x.state = .waitDeliver ∧
      (x.chainWait = false ∨ x.deliverChain = 0); 0 < (trkAt s i.val t.val).deliver ∧ ¬ last) ∧
    (∃ (i : Fin 16) (t : Fin 1024) (s : State), let x := trkAt s i.val t.val; let last := x.deliver = 1 ∧ x.state = .waitDeliver ∧
      (x.chainWait = false ∨ x.deliverChain = 0); 0 < (trkAt s i.val t.val).deliver ∧ last) ∧
    (∃ (i : Fin 16) (t : Fin 1024) (s : State), (trkAt s i.val t.val).deliver = 0 ∧ 0 < (trkAt s i.val t.val).deliverChain) ∧
    (∃ (i : Fin 16) (t : Fin 1024) (s : State), let x := trkAt s i.val t.val; let last := x.state = .waitDeliver ∧
      (x.chainWait = false ∨ x.deliverChain = 1); (trkAt s i.val t.val).deliver = 0 ∧ 0 < (trkAt s i.val t.val).deliverChain ∧
      ¬ last) ∧
    (∃ (i : Fin 16) (t : Fin 1024) (s : State), let x := trkAt s i.val t.val; let last := x.state = .waitDeliver ∧
      (x.chainWait = false ∨ x.deliverChain = 1); (trkAt s i.val t.val).deliver = 0 ∧ 0 < (trkAt s i.val t.val).deliverChain ∧ last) ∧
    (∃ (i : Fin 16) (t : Fin 1024) (s : State), (trkAt s i.val t.val).deliver = 0 ∧ (trkAt s i.val t.val).deliverChain = 0) ∧
    (∃ (i : Fin 16) (s : State), sliceReady s i.val = true ∧ chainPending s i.val = false) ∧
    (∃ (i : Fin 16) (s : State), ((sliceReady s i.val = false ∨ chainPending s i.val = true))) ∧
    (∃ (s : State), s.silt.sink = true) ∧
    (∃ (i : Fin 16) (e : Emit) (f : Emit) (rest : List Emit) (s : State), s.silt.sink = false ∧
      (sliceAt s i.val).emits = e :: f :: rest) ∧
    (∃ (i : Fin 16) (e : Emit) (s : State), s.silt.sink = false ∧ (sliceAt s i.val).emits = [e]) ∧
    (∃ (i : Fin 16) (t : Fin 1024) (s : State), (trkAt s i.val t.val).state = .waitGrain ∧
      aEscTo (agentAt s ((trkAt s i.val t.val).agent.getD 0)) ≠ 15) ∧
    (∃ (i : Fin 16) (t : Fin 1024) (s : State),
      (((trkAt s i.val t.val).state ≠ .waitGrain ∨ aEscTo (agentAt s ((trkAt s i.val t.val).agent.getD 0)) = 15))) ∧
    (∃ (i : Fin 16) (t : Fin 1024) (g : Fin 16) (s : State), (trkAt s i.val t.val).state = .waitGrain ∧
      (trkAt s i.val t.val).gen = g.val) ∧
    (∃ (i : Fin 16) (t : Fin 1024) (g : Fin 16) (s : State),
      (((trkAt s i.val t.val).state ≠ .waitGrain ∨ (trkAt s i.val t.val).gen ≠ g.val))) :=
  ⟨⟨0, msg, modSlice up 0 (fun x => { x with intake := [msg] }), by decide, by decide, by decide⟩,
    ⟨0, up, by decide⟩,
    ⟨0, 0, trk (fun x => { x with state := .eval, chain := some (0, 1, 0) }), by decide, by decide, by decide⟩,
    ⟨0, 0, up, by decide⟩,
    ⟨0, 0, msg, (0, { valid := true, sizeLog2 := 21 }), homed, useWay homed 0 0, by decide, by decide, by decide, by decide,
      by decide, rfl, by decide⟩,
    ⟨0, 0, msg, (0, { valid := true, sizeLog2 := 21 }), fullSet, fullSet, by decide, by decide, by decide, by decide, by decide,
      rfl⟩,
    ⟨0, 0, up, by decide⟩,
    ⟨0, 0, msg, trk (fun x => { x with state := .waitLock, msg := some msg }), by decide, by decide, by decide, by decide,
      by decide, by decide⟩,
    ⟨0, 0, up, .inl (by decide)⟩,
    ⟨0, 0, trk (fun x => { x with deliver := 2 }), by decide⟩,
    ⟨0, 0, trk (fun x => { x with deliver := 2 }), by decide, by decide⟩,
    ⟨0, 0, trk (fun x => { x with deliver := 1, state := .waitDeliver }), by decide, by decide⟩,
    ⟨0, 0, trk (fun x => { x with deliverChain := 2 }), by decide, by decide⟩,
    ⟨0, 0, trk (fun x => { x with deliverChain := 2 }), by decide, by decide, by decide⟩,
    ⟨0, 0, trk (fun x => { x with deliverChain := 1, state := .waitDeliver }), by decide, by decide, by decide⟩,
    ⟨0, 0, up, by decide, by decide⟩,
    ⟨0, up, by decide, by decide⟩,
    ⟨0, sys (fun y => { y with dies := [] }), by decide⟩,
    ⟨modSilt up (fun n => { n with sink := true }), by decide⟩,
    ⟨0, emit, emit, [], modSlice up 0 (fun x => { x with emits := [emit, emit] }), by decide, by decide⟩,
    ⟨0, emit, modSlice up 0 (fun x => { x with emits := [emit] }), by decide, by decide⟩,
    ⟨0, 0, modPce (trk (fun x => { x with state := .waitGrain })) (fun e => { e with agents := [(0, 1#96)] }), by decide, by decide⟩,
    ⟨0, 0, up, by decide⟩,
    ⟨0, 0, 15, trk (fun x => { x with state := .waitGrain, gen := 15 }), by decide, by decide⟩,
    ⟨0, 0, 0, up, by decide⟩⟩

/-- The hypotheses of NauPorts. -/
theorem witness_NauPorts :
    (∃ (n : Fin 1024) (s : State), nauUp s n.val = true) ∧
    (∃ (n : Fin 1024) (s : State), nauUp s n.val = false) ∧
    (∃ (n : Fin 1024) (k : Nat), attOf n.val = .nau k) ∧
    (∃ (n : Fin 1024) (i : Nat), attOf n.val = .slice i) ∧
    (∃ (n : Fin 1024) (tag : Nat) (i : Nat) (s : State), attOf n.val = .nau i ∧
      ((∀ q, q ∈ (nauAt s n.val).out → q.tag = tag → now s < q.sent + nauWait (nauAt s n.val)))) ∧
    (∃ (n : Fin 1024) (tag : Nat) (i : Nat) (s : State), attOf n.val = .slice i ∧
      ((∀ q, q ∈ (sliceAt s i).outs → q.tag = tag → now s < q.sent + 1000000))) ∧
    (∃ (n : Fin 1024) (tag : Nat) (i : Nat) (s : State), attOf n.val = .port i ∧
      ((∀ l, (l = 2 * i ∨ l = 2 * i + 1) → (∀ q, q ∈ (linkAt s l).cfgReqs → q.1 ≠ tag) ∨ now s < tget 0 (linkAt s l).cfgSent tag + 1000000))) ∧
    (∃ (n : Fin 1024) (tag : Nat) (i : Nat) (l : Nat) (q : Nat × Nat) (s : State), attOf n.val = .port i ∧
      ((l = 2 * i ∨ l = 2 * i + 1)) ∧ q ∈ (linkAt s l).cfgReqs ∧ q.1 = tag ∧ tget 0 (linkAt s l).cfgSent tag + 1000000 ≤ now s) ∧
    (∃ (n : Fin 1024) (p : Nat) (lx : Nat), attOf n.val = .front p lx) ∧
    (∃ (n : Fin 1024), attOf n.val = .cfgMgr) ∧
    (∃ (n : Fin 1024) (h : BitVec 128) (s : State), nauUp s n.val = true ∧ portsShut s n.val = false ∧
      ((plotQuiesced s n.val = false ∨ mTrkV h = true))) ∧
    (∃ (n : Fin 1024) (s : State), nauUp s n.val = true ∧ portsHeld s n.val = false) ∧
    (∃ (n : Fin 1024) (s : State), nauUp s n.val = true ∧ portsHeld s n.val = false ∧ plotBlank s (plotOfNau s n.val) = true) ∧
    (∃ (n : Fin 1024) (s : State), nauUp s n.val = true ∧ portsHeld s n.val = false ∧ plotBlank s (plotOfNau s n.val) = false ∧
      s.silt.sink = true) ∧
    (∃ (n : Fin 1024) (f : Fin 8192) (s : State), nauUp s n.val = true ∧ portsHeld s n.val = false ∧
      plotBlank s (plotOfNau s n.val) = false ∧ s.silt.sink = false ∧
      ((plotOfFlow s f.val ≠ plotOfNau s n.val ∨ flowCount s ≤ f.val))) ∧
    (∃ (n : Fin 1024) (f : Fin 8192) (s : State), nauUp s n.val = true ∧ portsHeld s n.val = false ∧
      plotBlank s (plotOfNau s n.val) = false ∧ s.silt.sink = false ∧ plotOfFlow s f.val = plotOfNau s n.val ∧ f.val < flowCount s) ∧
    (∃ (n : Fin 1024) (i : Fin 256) (s : State), nauUp s n.val = true ∧ portsHeld s n.val = false ∧
      slotHolder s (nodeDie n.val) i.val = some n.val) ∧
    (∃ (n : Fin 1024) (i : Fin 256) (s : State), nauUp s n.val = true ∧ portsHeld s n.val = false ∧
      slotHolder s (nodeDie n.val) i.val ≠ some n.val) ∧
    (∃ (n : Fin 1024) (i : Fin 256) (e : Fin 3) (x : Entry) (s : State), nauUp s n.val = true ∧ portsHeld s n.val = false ∧
      slotHolder s (nodeDie n.val) i.val = some n.val ∧ entryAt s (nodeDie n.val) i.val e.val = some x ∧ x.arrived = true ∧
      x.taken = false ∧ e.val < slotEntries s) ∧
    (∃ (n : Fin 1024) (s : State), nauUp s n.val = true ∧ portsShut s n.val = false) ∧
    (∃ (n : Fin 1024) (s : State), nauUp s n.val = true ∧ portsShut s n.val = false ∧ s.silt.sink = true) ∧
    (∃ (n : Fin 1024) (d : BitVec 128) (s : State), nauUp s n.val = true ∧ portsShut s n.val = false ∧ s.silt.sink = false ∧
      dirNames s n.val d = false) ∧
    (∃ (n : Fin 1024) (d : BitVec 128) (data : Option Line) (s : State), let h := heldDir (nauAt s n.val) d data;
      nauUp s n.val = true ∧ portsShut s n.val = false ∧ s.silt.sink = false ∧ dirNames s n.val d = true ∧
      dirFree (nauAt s n.val) h = true) ∧
    (∃ (n : Fin 1024) (d : BitVec 128) (data : Option Line) (s : State), let h := heldDir (nauAt s n.val) d data;
      nauUp s n.val = true ∧ portsShut s n.val = false ∧ s.silt.sink = false ∧ dirNames s n.val d = true ∧
      dirFree (nauAt s n.val) h = false) ∧
    (∃ (n : Fin 1024) (h : BitVec 128) (s : State),
      ((nauUp s n.val = false ∨ portsShut s n.val = true ∨ (plotQuiesced s n.val = true ∧ mTrkV h = false)))) ∧
    (∃ (n : Fin 1024) (s : State), ((nauUp s n.val = false ∨ portsHeld s n.val = true))) ∧
    (∃ (n : Fin 1024) (s : State), ((nauUp s n.val = false ∨ portsHeld s n.val = true)) ∧
      ((nauUp s n.val = false ∨ portsShut s n.val = true))) ∧
    (∃ (n : Fin 1024) (s : State), (nauAt s n.val).cohSnp = []) ∧
    (∃ (n : Fin 1024) (q : Packet) (rest : List Packet) (s : State), (nauAt s n.val).cohSnp = q :: rest) :=
  ⟨⟨16, up, by decide⟩,
    ⟨0, up, by decide⟩,
    ⟨16, 0, by decide⟩,
    ⟨2, 0, by decide⟩,
    ⟨16, 0, 0, modNau up 16 (fun u => { u with out := [{ portReq u 1 64 9 0 with tag := 0 }] }), by decide, by decide⟩,
    ⟨2, 0, 0, up, by decide, by decide⟩,
    ⟨115, 0, 0, up, by decide, fun l hl => by rcases hl with rfl | rfl <;> decide⟩,
    ⟨115, 0, 0, 0, (0, 0), modSys (lnk (fun x => { x with cfgReqs := [(0, 0)] })) (fun y => { y with timeNs := 1000000 }),
      by decide, by decide, by decide, by decide, by decide⟩,
    ⟨112, 0, 0, by decide⟩,
    ⟨515, by decide⟩,
    ⟨16, 0#128, nau id, by decide, by decide, by decide⟩,
    ⟨16, nau id, by decide, by decide⟩,
    ⟨16, modPlot (nau id) 1 (fun x => { x with live := true, res := { x.res with naus := [16] } }), by decide, by decide, by decide⟩,
    ⟨16, modSilt (nau id) (fun n => { n with sink := true }), by decide, by decide, by decide, by decide⟩,
    ⟨16, 0, ofPlot1, by decide, by decide, by decide, by decide, by decide⟩,
    ⟨16, 0, nau id, by decide, by decide, by decide, by decide, by decide, by decide⟩,
    ⟨16, 0, nau id, by decide, by decide, by decide⟩,
    ⟨16, 255, nau id, by decide, by decide, by decide⟩,
    ⟨16, 0, 2, entry 0, modEslot (nau id) 0 0 (fun x => { x with entries := [(2, some (entry 0))] }), by decide, by decide,
      by decide, by decide, by decide, by decide, by decide⟩,
    ⟨16, nau id, by decide, by decide⟩,
    ⟨16, modSilt (nau id) (fun n => { n with sink := true }), by decide, by decide, by decide⟩,
    ⟨16, 0#128, nau id, by decide, by decide, by decide, by decide⟩,
    ⟨16, 0#128, none, dirHeld, by decide, by decide, by decide, by decide, by decide⟩,
    ⟨16, 0#128, none, modNau dirHeld 16 (fun u => { u with held := [({ nreq with op := 1 }, false)] }), by decide, by decide,
      by decide, by decide, by decide⟩,
    ⟨0, 0#128, up, by decide⟩,
    ⟨16, up, by decide⟩,
    ⟨16, up, by decide, by decide⟩,
    ⟨0, up, by decide⟩,
    ⟨16, pkt 16 8, [], modNau up 16 (fun u => { u with cohSnp := [pkt 16 8] }), by decide⟩⟩

/-- The hypotheses of GrainsAndNauRegisters. -/
theorem witness_GrainsAndNauRegisters :
    (∃ (p : Fin 4) (f : Nat) (s : State), quarterUp s p.val = true ∧ (quarterAt s p.val).spillHigh ≤ (freeOnChip s p.val).length ∧
      refillPick s p.val = some f) ∧
    (∃ (p : Fin 4) (s : State),
      ((quarterUp s p.val = false ∨ (freeOnChip s p.val).length < (quarterAt s p.val).spillHigh ∨ refillPick s p.val = none))) ∧
    (∃ (p : Fin 4) (i : Fin 256) (s : State),
      ((slotHolder s p.val i.val = none ∨ freeEntry s p.val i.val = none ∨ (eslotAt s p.val i.val).isOpen = false ∨ (eslotAt s p.val i.val).closing = true ∨ quarterUp s p.val = false ∨ nextFill s p.val ≠ some i.val))) ∧
    (∃ (p : Fin 4) (i : Fin 256) (node : Nat) (e : Nat) (prio : Nat) (c : Nat) (f : Nat) (g : Grain) (s : State),
      slotWork s p.val i.val = some (node, e, prio, c, f, g) ∧ nextFill s p.val = some i.val) ∧
    (∃ (v : Word), bitOf v 0 = true) ∧
    (∃ (g : Regul), g.tokens ≤ rateBurst g.reg) :=
  ⟨⟨0, 0, modFlow up 0 (fun f => { f with q := [grain 0] }), by decide +kernel, by decide +kernel, by decide +kernel⟩,
    ⟨0, up, by decide +kernel⟩,
    ⟨0, 255, up, by decide⟩,
    ⟨0, 0, 16, 0, 0, 0, 0, { grain 0 with spilled := false }, slotReady, by decide, by decide⟩,
    ⟨1#32, by decide⟩,
    ⟨{}, by decide⟩⟩

/-- The hypotheses of DieLinkRepair. -/
theorem witness_DieLinkRepair :
    (∃ (g : Fin 128) (s : State), groupUp s g.val = true ∧ (groupAt s g.val).trained = true) ∧
    (∃ (g : Fin 128) (s : State), (groupUp s g.val = false ∨ (groupAt s g.val).trained = false)) ∧
    (∃ (g : Fin 128) (s : State), (groupUp s g.val = false ∨ (groupAt s g.val).state = .failed)) ∧
    (∃ (g : Fin 128) (l : Fin 33) (s : State), groupUp s g.val = true ∧ (groupAt s g.val).state ≠ .failed ∧
      (groupAt s g.val).spareFor = 0x3F ∧ l.val < 32 ∧ 3 ≤ tget 0 (groupAt s g.val).low l.val ∧
      bitOf (groupAt s g.val).oos l.val = false ∧ policyReport s 0 = false ∧ held s (.group g.val) = false ∧ ohmyxRuns s = true ∧
      recordFree s = true) ∧
    (∃ (g : Fin 128) (bad : BitVec 33) (s : State), groupUp s g.val = true ∧ (groupAt s g.val).state ≠ .failed ∧
      bad &&& ~~~(groupAt s g.val).oos = 0#33) ∧
    (∃ (g : Fin 128) (bad : BitVec 33) (s : State), groupUp s g.val = true ∧ (groupAt s g.val).state ≠ .failed ∧
      bad &&& ~~~(groupAt s g.val).oos ≠ 0#33) ∧
    (∃ (g : Fin 128) (s : State), groupUp s g.val = true ∧ (groupAt s g.val).state ≠ .failed) ∧
    (∃ (node : Fin 1024) (c : Fin 7) (s : State), let n := node.val / 2 * 2; ohmyxRuns s = true ∧ routerUp s n = true ∧
      (linkTo n c.val).isSome = true ∧
      ((bitOf (routerAt s n).linkDown c.val = true ∨ 100 < (tget (0, 0) (routerAt s n).window c.val).2))) ∧
    (∃ (node : Fin 1024) (c : Fin 7) (s : State), let n := node.val / 2 * 2;
      ((ohmyxRuns s = false ∨ routerUp s n = false ∨ linkTo n c.val = none ∨ (bitOf (routerAt s n).linkDown c.val = false ∧ (tget (0, 0) (routerAt s n).window c.val).2 ≤ 100)))) :=
  ⟨⟨0, modGroup up 0 (fun x => { x with trained := true }), by decide, by decide⟩,
    ⟨0, State.reset, by decide⟩,
    ⟨0, State.reset, by decide⟩,
    ⟨0, 31, modGroup up 0 (fun x => { x with low := [(31, 3)] }), by decide, by decide, by decide, by decide, by decide, by decide,
      by decide, by decide, by decide, by decide⟩,
    ⟨0, 0#33, up, by decide, by decide, by decide⟩,
    ⟨0, 1#33, up, by decide, by decide, by decide⟩,
    ⟨0, up, by decide, by decide⟩,
    ⟨17, 1, modRouter up 16 (fun r => { r with linkDown := 2#7 }), by decide, by decide, by decide, by decide⟩,
    ⟨16, 1, up, by decide⟩⟩

/-- The hypotheses of GroupStates. -/
theorem witness_GroupStates :
    (∃ (cur : GState) (oos : BitVec 33), ((cur = .full ∨ cur = .spared)) ∧ ((∀ l, l < 32 → bitOf oos l = false))) ∧
    (∃ (cur : GState) (oos : BitVec 33) (l : Nat), ((cur = .full ∨ cur = .spared)) ∧ l < 32 ∧ bitOf oos l = true ∧
      ((∀ k, k < 32 → k ≠ l → bitOf oos k = false)) ∧ bitOf oos 32 = false) ∧
    (∃ (cur : GState) (oos : BitVec 33) (l : Nat) (k : Nat), cur ≠ .failed ∧ l < 16 ∧ 16 ≤ k ∧ k < 32 ∧ bitOf oos l = true ∧
      bitOf oos k = true ∧ bitOf oos 32 = true) ∧
    (∃ (cur : GState) (oos : BitVec 33) (l : Nat) (k : Nat), ((cur = .full ∨ cur = .spared)) ∧ l < k ∧ k < 16 ∧ bitOf oos l = true ∧
      bitOf oos k = true ∧ ((∀ j, 16 ≤ j → j < 32 → bitOf oos j = false))) :=
  ⟨⟨.spared, 0#33, by decide, by decide⟩,
    ⟨.full, 1#33 <<< 31, 31, by decide, by decide, by decide, by decide, by decide⟩,
    ⟨.half, 1#33 + 1#33 <<< 16 + 1#33 <<< 32, 0, 16, by decide, by decide, by decide, by decide, by decide, by decide, by decide⟩,
    ⟨.full, 1#33 + 1#33 <<< 15, 0, 15, by decide, by decide, by decide, by decide, by decide, by decide⟩⟩

/-- The hypotheses of MemoryRepair. -/
theorem witness_MemoryRepair :
    (∃ (p : Fin 4) (s : State), ohmyxRuns s = true ∧ stackUp s p.val = true ∧ stackQuiet s p.val = false) ∧
    (∃ (p : Fin 4) (c : Fin 17) (s : State), ohmyxRuns s = true ∧ stackUp s p.val = true ∧ stackQuiet s p.val = false ∧
      (chanAt s p.val c.val).calFails = 0) ∧
    (∃ (p : Fin 4) (s : State), ((ohmyxRuns s = false ∨ stackUp s p.val = false))) ∧
    (∃ (p : Fin 4) (s : State), stackQuiet s p.val = true) ∧
    (∃ (p : Fin 4) (c : Fin 17) (s : State), (chanFuncs p.val c.val).any (quiescing s) = true) ∧
    (∃ (p : Fin 4) (c : Fin 17) (s : State), anyHeld s (chanFuncs p.val c.val) = true) ∧
    (∃ (p : Fin 4) (c : Fin 17) (s : State), patrolRuns s p.val c.val = true ∧ (chanAt s p.val c.val).patrolAt < 2 ^ 23) ∧
    (∃ (p : Fin 4) (c : Fin 17) (s : State),
      let a := lineAddr p.val (chanLine (stackAt s p.val).order (logicalChan s p.val c.val) (chanAt s p.val c.val).patrolAt);
      patrolRuns s p.val c.val = true ∧ (chanAt s p.val c.val).patrolAt < 2 ^ 23 ∧ (granAt s a).sweep = none ∧
      scrubbing s a = false) ∧
    (∃ (p : Fin 4) (c : Fin 17) (s : State),
      let a := lineAddr p.val (chanLine (stackAt s p.val).order (logicalChan s p.val c.val) (chanAt s p.val c.val).patrolAt);
      patrolRuns s p.val c.val = true ∧ (chanAt s p.val c.val).patrolAt < 2 ^ 23 ∧
      (((granAt s a).sweep ≠ none ∨ scrubbing s a = true))) ∧
    (∃ (p : Fin 4) (c : Fin 17) (s : State), patrolRuns s p.val c.val = true ∧ (chanAt s p.val c.val).patrolAt = 2 ^ 23) ∧
    (∃ (p : Fin 4) (c : Fin 17) (b : Fin 32) (r : Fin 16384) (s : State), ohmyxRuns s = true ∧ stackUp s p.val = true ∧
      anyHeld s (chanFuncs p.val c.val) = false ∧
      ((∃ e, e ∈ (chanAt s p.val c.val).tracker ∧ e.1 = b.val * 16384 + r.val ∧ fld (chanAt s p.val c.val).rowSpare 6 0 ≤ e.2.length))) ∧
    (∃ (p : Fin 4) (c : Fin 17) (b : Fin 32) (r : Fin 16384) (s : State), ohmyxRuns s = true ∧ stackUp s p.val = true ∧
      anyHeld s (chanFuncs p.val c.val) = false ∧
      ((∃ e, e ∈ (chanAt s p.val c.val).tracker ∧ e.1 = b.val * 16384 + r.val ∧ fld (chanAt s p.val c.val).rowSpare 6 0 ≤ e.2.length)) ∧
      policyReport s 3 = true) ∧
    (∃ (p : Fin 4) (c : Fin 17) (b : Fin 32) (r : Fin 16384) (s : State) (t : State), ohmyxRuns s = true ∧ stackUp s p.val = true ∧
      anyHeld s (chanFuncs p.val c.val) = false ∧
      ((∃ e, e ∈ (chanAt s p.val c.val).tracker ∧ e.1 = b.val * 16384 + r.val ∧ fld (chanAt s p.val c.val).rowSpare 6 0 ≤ e.2.length)) ∧
      policyReport s 3 = false ∧ spareRow s p.val c.val b.val r.val = some t) ∧
    (∃ (p : Fin 4) (g : Fin 4096) (s : State), let e := tget {} (stackAt s p.val).granules g.val; stackUp s p.val = true ∧
      16384 ≤ e.unswept ∧ e.sweep = none) ∧
    (∃ (p : Fin 4) (g : Fin 4096) (s : State), let e := tget {} (stackAt s p.val).granules g.val;
      ((stackUp s p.val = false ∨ e.unswept < 16384 ∨ e.sweep ≠ none))) ∧
    (∃ (p : Fin 4) (g : Fin 4096) (n : Nat) (s : State), (tget {} (stackAt s p.val).granules g.val).sweep = some n) ∧
    (∃ (p : Fin 4) (g : Fin 4096) (s : State), (tget {} (stackAt s p.val).granules g.val).sweep = none) ∧
    (∃ (p : Fin 4) (c : Nat) (id : Nat) (j : Job) (s : State), (stackAt s p.val).copying = some c ∧
      holderOf s (.chan p.val c) = some id ∧ jobAt s id = some j ∧ j.stage ≠ 0) ∧
    (∃ (p : Fin 4) (s : State), (stackAt s p.val).copying = none) ∧
    (∃ (b : Fin 8192) (s : State), ((ohmyxRuns s = false ∨ blockDue s b.val = false))) ∧
    (∃ (b : Fin 8192) (s : State), ohmyxRuns s = true ∧ blockDue s b.val = true ∧ 0 < s.peat.spares) ∧
    (∃ (b : Fin 8192) (s : State), ohmyxRuns s = true ∧ blockDue s b.val = true ∧ s.peat.spares = 0 ∧ s.peat.readOnly = true) ∧
    (∃ (b : Fin 8192) (s : State), ohmyxRuns s = true ∧ blockDue s b.val = true ∧ s.peat.spares = 0 ∧ s.peat.readOnly = false) :=
  ⟨⟨0, up, by decide, by decide, by decide⟩,
    ⟨0, 0, up, by decide, by decide, by decide, by decide⟩,
    ⟨0, State.reset, by decide⟩,
    ⟨0, mg (fun g => { g with holds := [{ fn := .stack 0, job := 1, quiesce := true }] }), by decide⟩,
    ⟨0, 0, mg (fun g => { g with holds := [{ fn := .chan 0 0, job := 1, quiesce := true }] }), by decide⟩,
    ⟨0, 0, mg (fun g => { g with holds := [{ fn := .chan 0 0, job := 1, quiesce := false }] }), by decide⟩,
    ⟨0, 0, up, by decide, by decide⟩,
    ⟨0, 0, up, by decide, by decide, by decide, by decide⟩,
    ⟨0, 0, modGran up 0 0 (fun e => { e with sweep := some 0 }), by decide, by decide, by decide⟩,
    ⟨0, 0, modChan up 0 0 (fun c => { c with patrolAt := 2 ^ 23 }), by decide, by decide⟩,
    ⟨0, 0, 0, 0, modChan up 0 0 (fun c => { c with tracker := [(0, [1, 2, 3, 4])] }), by decide, by decide, by decide,
      ⟨_, List.mem_cons_self, by decide, by decide⟩⟩,
    ⟨0, 0, 0, 0, tracked true, by decide, by decide, by decide, ⟨_, List.mem_cons_self, by decide, by decide⟩, by decide⟩,
    ⟨0, 0, 0, 0, tracked false, (spareRow (tracked false) 0 0 0 0).get (by decide), by decide, by decide, by decide,
      ⟨_, List.mem_cons_self, by decide, by decide⟩, by decide, (Option.some_get _).symm⟩,
    ⟨0, 0, modGran up 0 0 (fun e => { e with unswept := 16384 }), by decide, by decide, by decide⟩,
    ⟨0, 0, up, by decide⟩,
    ⟨0, 0, 3, modGran up 0 0 (fun e => { e with sweep := some 3 }), by decide⟩,
    ⟨0, 0, up, by decide⟩,
    ⟨0, 2, 1, job 0x0705,
      modStack { jobbed 0x0705 with mgmt := { (jobbed 0x0705).mgmt with holds := [{ fn := .chan 0 2, job := 1, quiesce := false }] } } 0 (fun k => { k with copying := some 2 }),
      by decide, by decide, by decide, by decide⟩,
    ⟨0, up, by decide⟩,
    ⟨0, State.reset, by decide⟩,
    ⟨0, blockWorn id, by decide, by decide, by decide⟩,
    ⟨0, blockWorn (fun x => { x with spares := 0, readOnly := true }), by decide, by decide, by decide, by decide⟩,
    ⟨0, blockWorn (fun x => { x with spares := 0 }), by decide, by decide, by decide, by decide⟩⟩

/-! ## Ill-formed commands are refused -/

theorem test_payload_longest : wellFormed (.caps 0 0 (zeros 2032)) = true := by decide +kernel
theorem test_payload_too_long : wellFormed (.caps 0 0 (zeros 2033)) = false := by decide +kernel
theorem test_mctp_payload_too_long : wellFormed (.mctpRequest true 0#128 (zeros 2033)) = false := by decide +kernel
theorem test_packet_other_operation : wellFormed (.read (pkt 112 1)) = false := by decide
theorem test_packet_no_such_node : wellFormed (.read (pkt 1024 0)) = false := by decide
theorem test_packet_address_too_wide : wellFormed (.read { pkt 112 0 with addr := 2 ^ 52 }) = false := by decide
theorem test_packet_five_flits : wellFormed (.write { pkt 112 1 with data := List.replicate 5 0#512 }) = false := by decide
theorem test_packet_fits : wellFormed (.write { pkt 112 1 with data := List.replicate 4 0#512 }) = true := by decide
theorem test_flight_no_such_input : wellFormed (.siltPacketForward (flight (pkt 112 0) 16 16)) = false := by decide
theorem test_request_tag_too_wide : wellFormed (.nauRequest 16 { nreq with tag := 64 }) = false := by decide
theorem test_timeout_tag_too_wide : wellFormed (.answerTimeout 16 16384) = false := by decide
theorem test_bram_address_too_high : wellFormed (.bramAccess 0 0 (some { addr := 32768, wr := none }) none true) = false := by decide
theorem test_slot_write_past_its_end : wellFormed (.slotRequestWrite 0 0 2047 [0#8, 0#8]) = false := by decide
theorem test_unit_no_such_class :
    wellFormed (.decode 0 { engine := 0, cls := 16, bits := 0#512, poison := false, attached := none, len := 0 }) = false := by decide
theorem test_unit_five_lines :
    wellFormed (.decode 0 { engine := 0, cls := 0, bits := 0#512, poison := false, attached := some (List.replicate 5 0#512), len := 0 }) = false := by
  decide
theorem test_observed_packet_too_wide : wellFormed (.breakMatch 0 0 0 { pkt 112 0 with tag := 2 ^ 14 }) = false := by decide
theorem test_lease_line_too_wide : wellFormed (.leaseExpiry (2 ^ 46)) = false := by decide
theorem test_message_of_part_of_a_line : wellFormed (.coherentOut 16 0#128 (zeros 63)) = false := by decide

/-! ## Words of the opcode table -/

/-- The table gives no row any bits, so no word spells a command, and placing a word changes nothing. -/
theorem test_no_word_spells_a_command : decodeTableWord 16 0x0101 = none ∧ State.reset.withFetchWord 16 0x0101 = State.reset := ⟨rfl, rfl⟩

/-! ## Single steps -/

/-- What holds of the state a command leaves. -/
def after (c : Instr) (s : State) (f : State → Bool) : Bool :=
  match exec c s with
  | .next t => f t
  | _ => false

/-- R338: a command that is answered leaves its slot DONE. -/
theorem test_answered_slot_is_done : after (.caps 0 0 []) up (fun t => decide ((slotAt t 0 0).state = .done)) = true := by decide +kernel
/-- R338: an acknowledged slot is zeroized. -/
theorem test_acknowledged_slot : after (.mbxAck 0 1#32) (slotSt 0 0 .done) (fun t => (slotAt t 0 0).zeroizing) = true := by decide
/-- R288: the hub of the Marl die's check-value units has node identifier 0x217. -/
theorem test_marl_hub : attOf 0x217 = .crcHubMarl := by decide
/-- R35: on the die of position 1 the die-local node (2, 3) is the package's node (3, 5). -/
theorem test_rotated_die : pkgXY 1 2 3 = (3, 5) := by decide
/-- R209: one lane out of service is replaced by the spare, and the group knows which. -/
theorem test_spared_group : (groupNext .full (1#33 <<< 5)).1 = .spared ∧ (groupNext .full (1#33 <<< 5)).2.2 = 5 := by decide
/-- R59: a tamper event without power still clears the battery-backed key and sets the latch. -/
theorem test_tamper_unpowered :
    after .tamper { State.reset with vault := { State.reset.vault with ownerKeyB := 7#256 } } (fun t =>
      t.vault.tamperLatch && decide (t.vault.ownerKeyB = 0#256)) = true := by decide
/-- R440: a sensor at its threshold warns once. -/
theorem test_warned : after (.thermalWarning 3 95000) up (fun t => hasElem t.sys.warned 3) = true := by decide
/-- R272: a write-first port shows what it writes. -/
theorem test_write_first : (bramStep 0 0 { ({} : Bram) with modeA := 1 } (some { addr := 3, wr := some 5#72 }) none true).outA = 5#72 := by decide
/-- R389: the 65th source to coalesce makes a storm. -/
theorem test_storm : (raise storm 0).evt.storm = true := by decide
/-- R183: a packet of another operation than the row's changes nothing. -/
theorem test_other_operation : after (.read (pkt 112 1)) up (fun t => decide (t.silt = up.silt)) = true := by decide
/-- R429: the device stays held until POR_N is released. -/
theorem test_mailbox_not_ready : after .mailboxReady State.reset (fun t => decide (t.sys.phase = .held)) = true := by decide

end Sys2Proof.Tests
end

section
/-! The frame of every operation outside DMA: `kept`, one lemma per operation, in the order of the model's files. Each follows from
the lemmas of the operations it calls, which `simp` finds; a proof that splits names the branches that need it. -/

namespace Sys2Proof
namespace Machine

/-! ### Shared forms -/

@[simp] theorem kept_ite (c : Prop) [Decidable c] (s t : State) :
    kept (if c then s else t) = if c then kept s else kept t := apply_ite kept c s t

@[simp] theorem kept_ite_snd {α : Type} (c : Prop) [Decidable c] (r q : α × State) :
    kept (if c then r else q).2 = if c then kept r.2 else kept q.2 := apply_ite (fun r : α × State => kept r.2) c r q

@[simp] theorem kept_modSys (s : State) (f : Sys → Sys) (h : ∀ y, (f y).part = y.part) : kept (modSys s f) = kept s :=
  kept_modSys_of s f (h s.sys)

@[simp] theorem kept_modVault (s : State) (f : Vault → Vault) (h1 : ∀ v, (f v).vendorRootHash = v.vendorRootHash)
    (h2 : ∀ v, (f v).serial = v.serial) : kept (modVault s f) = kept s :=
  kept_modVault_of s f (h1 s.vault) (h2 s.vault)

/-! ### Counters, plots, event sources, error records, job records -/

@[simp] theorem kept_modDie (s : State) (p : Nat) (f : Die → Die) : kept (modDie s p f) = kept s := by simp [modDie]
@[simp] theorem kept_modSrc (s : State) (i : Nat) (f : Src → Src) : kept (modSrc s i f) = kept s := by simp [modSrc]
@[simp] theorem kept_modNau (s : State) (n : Nat) (f : Nau → Nau) : kept (modNau s n f) = kept s := by simp [modNau]
@[simp] theorem kept_modSlice (s : State) (i : Nat) (f : Slice → Slice) : kept (modSlice s i f) = kept s := by simp [modSlice]
@[simp] theorem kept_modProfile (s : State) (n : Nat) (f : Profile → Profile) : kept (modProfile s n f) = kept s := by simp [modProfile]
@[simp] theorem kept_modLink (s : State) (l : Nat) (f : Link → Link) : kept (modLink s l f) = kept s := by simp [modLink]
@[simp] theorem kept_modPort (s : State) (n : Nat) (f : Port → Port) : kept (modPort s n f) = kept s := by simp [modPort]
@[simp] theorem kept_modLane (s : State) (n : Nat) (f : Lane → Lane) : kept (modLane s n f) = kept s := by simp [modLane]
@[simp] theorem kept_modReach (s : State) (n : Nat) (f : Reach → Reach) : kept (modReach s n f) = kept s := by simp [modReach]
@[simp] theorem kept_modGroup (s : State) (n : Nat) (f : Group → Group) : kept (modGroup s n f) = kept s := by simp [modGroup]
@[simp] theorem kept_modChan (s : State) (p c : Nat) (f : Chan → Chan) : kept (modChan s p c f) = kept s := by simp [modChan]
@[simp] theorem kept_modFront (s : State) (p lx : Nat) (f : Front → Front) : kept (modFront s p lx f) = kept s := by simp [modFront]
@[simp] theorem kept_modCrc (s : State) (u : Nat) (f : Crc → Crc) : kept (modCrc s u f) = kept s := by simp [modCrc]
@[simp] theorem kept_modGrit (s : State) (g : Nat) (f : Grit → Grit) : kept (modGrit s g f) = kept s := by simp [modGrit]
@[simp] theorem kept_markRegions (s : State) (l : List Nat) (blank : Bool) : kept (markRegions s l blank) = kept s := by simp [markRegions]
@[simp] theorem kept_markAll (s : State) (blank : Bool) : kept (markAll s blank) = kept s := by simp [markAll]
@[simp] theorem kept_modRouter (s : State) (n : Nat) (f : Router → Router) : kept (modRouter s n f) = kept s := by simp [modRouter]
@[simp] theorem kept_modSlot (s : State) (m i : Nat) (f : Slot → Slot) : kept (modSlot s m i f) = kept s := by simp [modSlot]
@[simp] theorem kept_freeValue (s : State) : kept (freeValue s).2 = kept s := by simp [freeValue]
@[simp] theorem kept_pickOpen (s : State) (l : List Nat) : kept (pickOpen s l).2 = kept s := by simp [pickOpen]
@[simp] theorem kept_drawn (s : State) (n : Nat) : kept (drawn s n) = kept s := by simp [drawn]
@[simp] theorem kept_msix (s : State) (f v : Nat) : kept (msix s f v) = kept s := by simp [msix]
@[simp] theorem kept_flushMsix (s : State) (f : Nat) : kept (flushMsix s f) = kept s := by simp [flushMsix, kept_foldl]
@[simp] theorem kept_endpointOn (s : State) : kept (endpointOn s) = kept s := by simp [endpointOn, kept_foldl]

@[simp] theorem kept_deliver (s : State) (i : Nat) : kept (deliver s i) = kept s := by
  simp only [deliver]
  repeat' split
  all_goals simp

@[simp] theorem kept_raiseBase (s : State) (i : Nat) : kept (raiseBase s i) = kept s := by
  unfold raiseBase
  repeat' split
  all_goals simp

@[simp] theorem kept_recordBase (s : State) (r : RecOf) : kept (recordBase s r).2 = kept s := by
  unfold recordBase
  repeat' split
  all_goals simp

@[simp] theorem kept_record (s : State) (r : RecOf) : kept (record s r) = kept s := by simp [record]
@[simp] theorem kept_stormCheck (s : State) : kept (stormCheck s) = kept s := by simp [stormCheck]
@[simp] theorem kept_raise (s : State) (i : Nat) : kept (raise s i) = kept s := by simp [raise]
@[simp] theorem kept_report (s : State) (r : RecOf) : kept (report s r) = kept s := by simp [report]
@[simp] theorem kept_markActed (s : State) (cause node : Nat) : kept (markActed s cause node) = kept s := by simp [markActed]
@[simp] theorem kept_countNotice (j : Nat) (s : State) (f : Nat) : kept (countNotice j s f) = kept s := by simp [countNotice]
@[simp] theorem kept_oweNotice (j : Nat) (s : State) (f : Nat) : kept (oweNotice j s f) = kept s := by simp [oweNotice]

@[simp] theorem kept_sendOwed (s : State) (j : Nat) : kept (sendOwed s j) = kept s := by
  unfold sendOwed
  refine kept_foldl _ (fun s x => ?_) _ _
  simp

@[simp] theorem kept_notice (s : State) (j : Nat) (fns : List Nat) : kept (notice s j fns) = kept s := by simp [notice, kept_foldl]
@[simp] theorem kept_capEvent (s : State) : kept (capEvent s) = kept s := by simp [capEvent]
@[simp] theorem kept_plotNotice (s : State) (p : Nat) : kept (plotNotice s p) = kept s := by simp [plotNotice]
@[simp] theorem kept_releaseHolds (s : State) (job : Nat) : kept (releaseHolds s job) = kept s := by simp [releaseHolds]
@[simp] theorem kept_modJob (s : State) (id : Nat) (f : Job → Job) : kept (modJob s id f) = kept s := by simp [modJob]

@[simp] theorem kept_endJob (s : State) (id : Nat) (st : JobState) (result detail word : Nat) (data : Bytes) :
    kept (endJob s id st result detail word data) = kept s := by
  unfold endJob
  split <;> simp

/-! ### The Peat store -/

@[simp] theorem kept_takeBlocks (n : Nat) (l : List Nat) (s : State) : kept (takeBlocks n l s).2 = kept s := by
  induction n generalizing l s with
  | zero => rfl
  | succ n ih => simp [takeBlocks, ih]

@[simp] theorem kept_scrubPage (s : State) (b page : Nat) : kept (scrubPage s b page).2 = kept s := by simp [scrubPage]

@[simp] theorem kept_scrubPages (l : List Nat) (s : State) : kept (scrubPages l s).2 = kept s := by
  induction l generalizing s with
  | nil => rfl
  | cons k l ih => simp [scrubPages, ih]

@[simp] theorem kept_retentionScrub (s : State) : kept (retentionScrub s) = kept s := by simp [retentionScrub]
@[simp] theorem kept_sysWrite (s : State) (k : Nat) : kept (sysWrite s k) = kept s := by simp [sysWrite]
@[simp] theorem kept_sysSecond (s : State) : kept (sysSecond s) = kept s := by simp [sysSecond]
@[simp] theorem kept_sysCut (s : State) : kept (sysCut s) = kept s := by simp [sysCut]
@[simp] theorem kept_pageCut (s : State) (blocks : List Nat) : kept (pageCut s blocks) = kept s := by simp [pageCut]

@[simp] theorem kept_peatLevel (s : State) : kept (peatLevel s) = kept s := by
  simp only [peatLevel]
  repeat' split
  all_goals simp

@[simp] theorem kept_peatWear (s : State) : kept (peatWear s) = kept s := by simp [peatWear]

/-! ### Silt as a network -/

@[simp] theorem kept_failLink (s : State) (n c : Nat) : kept (failLink s n c) = kept s := by
  unfold failLink
  split <;> simp

@[simp] theorem kept_switchLink (s : State) (n c : Nat) (on : Bool) : kept (switchLink s n c on) = kept s := by
  simp only [switchLink]
  split <;> simp

@[simp] theorem kept_spendToken (s : State) (p : Packet) : kept (spendToken s p) = kept s := by simp [spendToken]
@[simp] theorem kept_sendNow (s : State) (p : Packet) : kept (sendNow s p) = kept s := by simp [sendNow]
@[simp] theorem kept_holdBack (s : State) (p : Packet) : kept (holdBack s p) = kept s := by simp [holdBack]
@[simp] theorem kept_offer (s : State) (p : Packet) : kept (offer s p) = kept s := by simp [offer]
@[simp] theorem kept_countDelay (s : State) (p : Packet) : kept (countDelay s p) = kept s := by simp [countDelay]
@[simp] theorem kept_inject (s : State) (p : Packet) : kept (inject s p) = kept s := by simp [inject]
@[simp] theorem kept_injectAll (s : State) (ps : List Packet) : kept (injectAll s ps) = kept s := by simp [injectAll, kept_foldl]
@[simp] theorem kept_offerHeld (s : State) (n : Nat) : kept (offerHeld s n) = kept s := by simp [offerHeld, kept_foldl]

@[simp] theorem kept_routerInject (s : State) (router : Nat) (p : Packet) : kept (routerInject s router p) = kept s := by
  simp [routerInject]

@[simp] theorem kept_grantTokens (s : State) (src dst : Nat) (c : Cls) (n : Nat) : kept (grantTokens s src dst c n) = kept s := by
  simp [grantTokens]

@[simp] theorem kept_askTokens (s : State) (src dst : Nat) (c : Cls) (n : Nat) : kept (askTokens s src dst c n) = kept s := by
  simp [askTokens]

@[simp] theorem kept_serveAsks (n : Nat) (s : State) (dst : Nat) (c : Cls) (got : List Nat) :
    kept (serveAsks n s dst c got).1 = kept s := by
  induction n generalizing s got with
  | zero => rfl
  | succ n ih =>
    unfold serveAsks
    split
    · rfl
    · simp only []
      split
      · simp [ih]
      · split <;> simp [ih]

@[simp] theorem kept_grantAsked (s : State) (dst : Nat) (c : Cls) : kept (grantAsked s dst c) = kept s := by simp [grantAsked, kept_foldl]
@[simp] theorem kept_freeBuffer (s : State) (dst : Nat) (c : Cls) : kept (freeBuffer s dst c) = kept s := by simp [freeBuffer]

@[simp] theorem kept_discardPacket (s : State) (router : Nat) (p : Packet) : kept (discardPacket s router p) = kept s := by
  simp [discardPacket]

@[simp] theorem kept_deadPacket (s : State) (router : Nat) (p : Packet) : kept (deadPacket s router p) = kept s := by simp [deadPacket]

@[simp] theorem kept_refusePacket (s : State) (router : Nat) (p : Packet) : kept (refusePacket s router p) = kept s := by
  simp [refusePacket]

@[simp] theorem kept_traceWrite (s : State) (r : BitVec 512) : kept (traceWrite s r) = kept s := by simp [traceWrite]

@[simp] theorem kept_filterSee (s : State) (probe inC outC : Nat) (p : Packet) (i : Nat) :
    kept (filterSee s probe inC outC p i) = kept s := by simp [filterSee]

@[simp] theorem kept_probeSee (s : State) (n inC outC : Nat) (p : Packet) : kept (probeSee s n inC outC p) = kept s := by simp [probeSee]
@[simp] theorem kept_noteServed (s : State) (f : Flight) : kept (noteServed s f) = kept s := by simp [noteServed]
@[simp] theorem kept_takeFlight (s : State) (f : Flight) : kept (takeFlight s f) = kept s := by simp [takeFlight]
@[simp] theorem kept_putFlight (s : State) (f : Flight) : kept (putFlight s f) = kept s := by simp [putFlight]
@[simp] theorem kept_crossed (s : State) (n c : Nat) (cls : Cls) : kept (crossed s n c cls) = kept s := by simp [crossed]
@[simp] theorem kept_eject (s : State) (f : Flight) : kept (eject s f) = kept s := by simp [eject]

@[simp] theorem kept_forward (s : State) (f : Flight) : kept (forward s f) = kept s := by
  simp only [forward]
  repeat' split
  all_goals simp

@[simp] theorem kept_arriveHeld (s : State) (p : Packet) : kept (arriveHeld s p) = kept s := by
  unfold arriveHeld
  repeat' split
  all_goals simp

@[simp] theorem kept_arrive (s : State) (p : Packet) : kept (arrive s p) = kept s := by simp [arrive]

@[simp] theorem kept_noteDelivered (s : State) (n tag : Nat) : kept (noteDelivered s n tag) = kept s := by
  unfold noteDelivered
  split <;> simp

/-! ### Lines of the Kaolin fronts -/

@[simp] theorem kept_modGran (s : State) (p g : Nat) (f : Granule → Granule) : kept (modGran s p g f) = kept s := by simp [modGran]
@[simp] theorem kept_setStored (s : State) (a : Nat) (x : Stored) : kept (setStored s a x) = kept s := by simp [setStored]
@[simp] theorem kept_modFrontFor (s : State) (a : Nat) (f : Front → Front) : kept (modFrontFor s a f) = kept s := by simp [modFrontFor]
@[simp] theorem kept_injFire (s : State) (a : Nat) : kept (injFire s a) = kept s := by simp [injFire]
@[simp] theorem kept_seen (s : State) (a : Nat) (x : Found) (tagBad : Bool) : kept (seen s a x tagBad) = kept s := by simp [seen]
@[simp] theorem kept_injConsume (s : State) (a : Nat) : kept (injConsume s a) = kept s := by simp [injConsume]
@[simp] theorem kept_chanFlag (s : State) (a bit : Nat) : kept (chanFlag s a bit) = kept s := by simp [chanFlag]
@[simp] theorem kept_chanReport (s : State) (a plot cause : Nat) : kept (chanReport s a plot cause) = kept s := by simp [chanReport]
@[simp] theorem kept_noteCorrected (s : State) (a : Nat) : kept (noteCorrected s a) = kept s := by simp [noteCorrected]
@[simp] theorem kept_countUncorr (s : State) (a : Nat) : kept (countUncorr s a) = kept s := by simp [countUncorr]
@[simp] theorem kept_noteUncorr (s : State) (a : Nat) : kept (noteUncorr s a) = kept s := by simp [noteUncorr]
@[simp] theorem kept_noteTag (s : State) (a : Nat) : kept (noteTag s a) = kept s := by simp [noteTag]
@[simp] theorem kept_notePoison (s : State) (a : Nat) : kept (notePoison s a) = kept s := by simp [notePoison]
@[simp] theorem kept_trackRow (s : State) (a : Nat) : kept (trackRow s a) = kept s := by simp [trackRow]
@[simp] theorem kept_directColumn (s : State) (a : Nat) (wr : Bool) : kept (directColumn s a wr) = kept s := by simp [directColumn]

@[simp] theorem kept_putLine (s : State) (a v : Nat) (data : Line) (side95 : Nat) (fire : Bool) :
    kept (putLine s a v data side95 fire) = kept s := by simp [putLine]

@[simp] theorem kept_poisonLine (s : State) (a : Nat) (x : Stored) (minor : Nat) : kept (poisonLine s a x minor) = kept s := by
  simp [poisonLine]

@[simp] theorem kept_poisonFound (s : State) (a : Nat) (f : Found) : kept (poisonFound s a f) = kept s := by simp [poisonFound]
@[simp] theorem kept_poisonRead (s : State) (a : Nat) (f : Found) : kept (poisonRead s a f) = kept s := by simp [poisonRead]
@[simp] theorem kept_writeBack (s : State) (a : Nat) (f : Found) : kept (writeBack s a f) = kept s := by simp [writeBack]

@[simp] theorem kept_readSettle (s : State) (a : Nat) (f : Found) (tag : Bool) : kept (readSettle s a f tag).2 = kept s := by
  unfold readSettle
  split <;> simp

@[simp] theorem kept_tableRead (s : State) (a : Nat) : kept (tableRead s a) = kept s := by simp [tableRead]
@[simp] theorem kept_touchMajor (s : State) (a : Nat) : kept (touchMajor s a) = kept s := by simp [touchMajor]
@[simp] theorem kept_readLine (s : State) (a : Nat) : kept (readLine s a).2.2 = kept s := by simp [readLine]
@[simp] theorem kept_rollLine (j : Nat) (s : State) (a : Nat) : kept (rollLine j s a) = kept s := by simp [rollLine]

@[simp] theorem kept_tableWrite (s : State) (a j : Nat) : kept (tableWrite s a j) = kept s := by
  simp only [tableWrite]
  split <;> simp

@[simp] theorem kept_updateMajor (s : State) (a j : Nat) : kept (updateMajor s a j) = kept s := by simp [updateMajor]
@[simp] theorem kept_rollover (s : State) (a : Nat) : kept (rollover s a) = kept s := by simp [rollover, kept_foldl]

@[simp] theorem kept_storePlain (s : State) (a minor : Nat) (data : Line) (side95 : Nat) (fire : Bool) :
    kept (storePlain s a minor data side95 fire) = kept s := by simp [storePlain]

@[simp] theorem kept_storePoison (s : State) (a minor side95 : Nat) (fire : Bool) : kept (storePoison s a minor side95 fire) = kept s := by
  simp [storePoison]

@[simp] theorem kept_noteMerge (s : State) (a : Nat) (f : Found) : kept (noteMerge s a f) = kept s := by simp [noteMerge]

@[simp] theorem kept_noteOver (s : State) (a : Nat) (f : Found) : kept (noteOver s a f) = kept s := by
  unfold noteOver
  split <;> simp

@[simp] theorem kept_writeLine (s : State) (a : Nat) (k : WriteKind) (data : Line) (poison demand : Bool) :
    kept (writeLine s a k data poison demand).2 = kept s := by
  simp only [writeLine]
  repeat' split
  all_goals simp

@[simp] theorem kept_accessStatus (s : State) (src plot key a : Nat) : kept (accessStatus s src plot key a).2 = kept s := by
  simp [accessStatus]

@[simp] theorem kept_inlineRead (s : State) (src plot key a : Nat) : kept (inlineRead s src plot key a).2.2 = kept s := by
  simp only [inlineRead]
  split <;> simp

@[simp] theorem kept_sideRefused (s : State) (src : Nat) : kept (sideRefused s src) = kept s := by
  unfold sideRefused
  split <;> simp

@[simp] theorem kept_inlineWrite (s : State) (src plot key a : Nat) (v : BitVec 96) : kept (inlineWrite s src plot key a v) = kept s := by
  simp only [inlineWrite]
  repeat' split
  all_goals simp

@[simp] theorem kept_regionRead (s : State) (src plot key a : Nat) : kept (regionRead s src plot key a).2.2 = kept s := by
  simp only [regionRead]
  repeat' split
  all_goals simp

@[simp] theorem kept_regionWrite (s : State) (src plot key a : Nat) (mask : DWord) (data : Line) :
    kept (regionWrite s src plot key a mask data).2 = kept s := by simp [regionWrite]

@[simp] theorem kept_regionClear (s : State) (a size : Nat) : kept (regionClear s a size) = kept s := by simp [regionClear]
@[simp] theorem kept_sweepGranule (s : State) (p g : Nat) : kept (sweepGranule s p g) = kept s := by simp [sweepGranule, kept_foldl]

@[simp] theorem kept_poisonGranule (s : State) (p g : Nat) : kept (poisonGranule s p g) = kept s := by
  unfold poisonGranule
  refine kept_foldl _ (fun s x => ?_) _ _
  simp

@[simp] theorem kept_bumpGranule (s : State) (p g : Nat) : kept (bumpGranule s p g) = kept s := by simp [bumpGranule]

@[simp] theorem kept_scrubLine (s : State) (a : Nat) : kept (scrubLine s a).2 = kept s := by
  simp only [scrubLine]
  split <;> simp

@[simp] theorem kept_patrolLine (s : State) (a : Nat) : kept (patrolLine s a).2 = kept s := by simp [patrolLine]

/-! ### Grain: records, slots and flows -/

@[simp] theorem kept_modEslot (s : State) (p i : Nat) (f : ESlot → ESlot) : kept (modEslot s p i f) = kept s := by simp [modEslot]
@[simp] theorem kept_setEntry (s : State) (p i e : Nat) (v : Option Entry) : kept (setEntry s p i e v) = kept s := by simp [setEntry]
@[simp] theorem kept_refreshReady (s : State) (f : Nat) : kept (refreshReady s f) = kept s := by simp [refreshReady]
@[simp] theorem kept_refusalAt (s : State) (p st : Nat) : kept (refusalAt s p st) = kept s := by simp [refusalAt]
@[simp] theorem kept_countRefusal (s : State) (f st : Nat) : kept (countRefusal s f st) = kept s := by simp [countRefusal]

@[simp] theorem kept_writeRecord (s : State) (p rec : Nat) (g : Grain) : kept (writeRecord s p rec g) = kept s :=
  (kept_regionWrite ..).trans (kept_regionWrite ..)

@[simp] theorem kept_readRecord (s : State) (p : Nat) (g : Grain) : kept (readRecord s p g).2 = kept s := by simp [readRecord]

@[simp] theorem kept_spillGrain (s : State) (f : Nat) (g : Grain) : kept (spillGrain s f g).2 = kept s := by
  unfold spillGrain
  split <;> simp

@[simp] theorem kept_acceptGrain (s : State) (f : Nat) (d : BitVec 256) (pay : Option Line) : kept (acceptGrain s f d pay).2 = kept s := by
  simp [acceptGrain]

@[simp] theorem kept_refillGrains (s : State) (f n : Nat) (done rest : List Grain) :
    kept (refillGrains s f n done rest) = kept s := by
  induction rest generalizing s n done with
  | nil => cases n <;> simp [refillGrains]
  | cons g rest ih =>
    cases n with
    | zero => simp [refillGrains]
    | succ n => simp [refillGrains, ih]

@[simp] theorem kept_fillSlot (s : State) (p i : Nat) : kept (fillSlot s p i) = kept s := by
  unfold fillSlot
  split <;> simp

@[simp] theorem kept_freeHandle (s : State) (handle : Nat) : kept (freeHandle s handle) = kept s := by simp [freeHandle]
@[simp] theorem kept_settleSlot (s : State) (p i : Nat) : kept (settleSlot s p i) = kept s := by simp [settleSlot]
@[simp] theorem kept_releaseEntry (s : State) (p i e : Nat) (x : Entry) : kept (releaseEntry s p i e x) = kept s := by simp [releaseEntry]
@[simp] theorem kept_returnGrain (s : State) (g : Grain) : kept (returnGrain s g) = kept s := by simp [returnGrain]

@[simp] theorem kept_returnEntries (s : State) (p i : Nat) (f : Entry → Bool) : kept (returnEntries s p i f) = kept s := by
  refine kept_foldl _ (fun s en => ?_) _ _
  split <;> simp

@[simp] theorem kept_closeSlot (s : State) (p i : Nat) : kept (closeSlot s p i) = kept s := by simp [closeSlot]
@[simp] theorem kept_dropNoticeOf (s : State) (g : Grain) (st : Nat) : kept (dropNoticeOf s g st) = kept s := by simp [dropNoticeOf]
@[simp] theorem kept_dropGrain (s : State) (g : Grain) : kept (dropGrain s g) = kept s := by simp [dropGrain]

@[simp] theorem kept_dropEntries (s : State) (f : Nat) : kept (dropEntries s f) = kept s := by
  refine kept_foldl _ (fun s sl => kept_foldl _ (fun s en => ?_) _ _) _ _
  split <;> simp

@[simp] theorem kept_resetFlow (s : State) (f : Nat) : kept (resetFlow s f) = kept s := by simp [resetFlow, kept_foldl]
@[simp] theorem kept_clearSlotsOf (s : State) (node : Nat) : kept (clearSlotsOf s node) = kept s := by simp [clearSlotsOf, kept_foldl]

@[simp] theorem kept_vacateSlots (s : State) (node : Nat) : kept (vacateSlots s node) = kept s := by
  unfold vacateSlots
  refine kept_foldl _ (fun s sl => ?_) _ _
  split
  · rw [kept_modEslot, kept_foldl, kept_returnEntries]
    intro s en
    split <;> simp
  · rfl

@[simp] theorem kept_refreshFlows (s : State) : kept (refreshFlows s) = kept s := by
  unfold refreshFlows
  refine kept_foldl _ (fun s x => ?_) _ _
  simp

@[simp] theorem kept_resetPlotFlows (s : State) (pl : Nat) : kept (resetPlotFlows s pl) = kept s := by simp [resetPlotFlows, kept_foldl]

/-! ### Nau: requests and answers -/

@[simp] theorem kept_nauAnswer (s : State) (n : Nat) (a : Answer) : kept (nauAnswer s n a) = kept s := by simp [nauAnswer]
@[simp] theorem kept_nauRefuse (s : State) (n tag st : Nat) : kept (nauRefuse s n tag st) = kept s := by simp [nauRefuse]

/-- The state in which an attempt leaves the device: `s` where it waits. -/
def Tried.stateOr (s : State) : Tried → State
  | .wait _ => s
  | .done t => t

@[simp] theorem Tried.stateOr_wait (s : State) (b : Bool) : (Tried.wait b).stateOr s = s := rfl
@[simp] theorem Tried.stateOr_done (s t : State) : (Tried.done t).stateOr s = t := rfl

@[simp] theorem Tried.stateOr_ite (c : Prop) [Decidable c] (s : State) (a b : Tried) :
    (if c then a else b).stateOr s = if c then a.stateOr s else b.stateOr s := apply_ite (Tried.stateOr s) c a b

@[simp] theorem kept_nauIssue (s : State) (n key : Nat) (r : NauReq) : kept ((nauIssue s n key r).stateOr s) = kept s := by
  simp [nauIssue]

theorem kept_nauTry (s : State) (n : Nat) (r : NauReq) : kept ((nauTry s n r).stateOr s) = kept s := by
  unfold nauTry
  extract_lets pl u
  split_ifs
  any_goals simp
  split <;> simp

@[simp] theorem kept_nauPumpGo (k : Nat) (s : State) (n : Nat) : kept (nauPumpGo k s n) = kept s := by
  induction k generalizing s with
  | zero => rfl
  | succ k ih =>
    unfold nauPumpGo
    split
    · rfl
    · next r counted rest _ =>
      have h := kept_nauTry s n r
      split
      · split <;> simp
      · next s1 h1 =>
        rw [h1] at h
        simpa [ih] using h

@[simp] theorem kept_nauPump (s : State) (n : Nat) : kept (nauPump s n) = kept s := by simp [nauPump]
@[simp] theorem kept_portStatusSet (s : State) (n st : Nat) : kept (portStatusSet s n st) = kept s := by simp [portStatusSet]

@[simp] theorem kept_sendCreate (s : State) (n ftag addr f : Nat) (d : BitVec 256) (pay : Option Line) :
    kept (sendCreate s n ftag addr f d pay) = kept s := by simp [sendCreate]

@[simp] theorem kept_produce (s : State) (n f : Nat) (user : DWord) (pay : Option Line) : kept (produce s n f user pay) = kept s := by
  simp [produce]

@[simp] theorem kept_strayDirective (s : State) (n : Nat) : kept (strayDirective s n) = kept s := by simp [strayDirective]

@[simp] theorem kept_directiveGo (s : State) (n : Nat) (d : BitVec 128) (data : Option Line) : kept (directiveGo s n d data) = kept s := by
  unfold directiveGo
  split <;> simp

@[simp] theorem kept_directiveWrite (s : State) (n : Nat) (d : BitVec 128) (data : Option Line) :
    kept (directiveWrite s n d data) = kept s := by simp [directiveWrite]

@[simp] theorem kept_directivesPump (s : State) (n : Nat) : kept (directivesPump s n) = kept s := by simp [directivesPump, kept_foldl]
@[simp] theorem kept_nauServe (s : State) (n : Nat) : kept (nauServe s n) = kept s := by simp [nauServe]
@[simp] theorem kept_nauAccept (s : State) (n : Nat) (r : NauReq) : kept (nauAccept s n r) = kept s := by simp [nauAccept]
@[simp] theorem kept_dropReq (s : State) (n tag : Nat) : kept (dropReq s n tag) = kept s := by simp [dropReq]

@[simp] theorem kept_portAnswer (s : State) (n : Nat) (q : Req) (st : Nat) : kept (portAnswer s n q st) = kept s := by
  simp only [portAnswer]
  repeat' split
  all_goals simp

@[simp] theorem kept_nauTakes (s : State) (n : Nat) (p : Packet) : kept (nauTakes s n p) = kept s := by
  unfold nauTakes
  split <;> simp

@[simp] theorem kept_nauTimeout (s : State) (n tag : Nat) : kept (nauTimeout s n tag) = kept s := by
  unfold nauTimeout
  split <;> simp

@[simp] theorem kept_unitWasReset (s : State) (n : Nat) : kept (unitWasReset s n) = kept s := by simp [unitWasReset]
@[simp] theorem kept_nauReset (s : State) (n : Nat) : kept (nauReset s n) = kept s := by simp [nauReset]

/-! ### The coherence engine: directory, words and messages -/

@[simp] theorem kept_modTrk (s : State) (i t : Nat) (f : Trk → Trk) : kept (modTrk s i t f) = kept s := by simp [modTrk]
@[simp] theorem kept_takeTrk (s : State) (i : Nat) (f : Trk → Trk) : kept (takeTrk s i f).2 = kept s := by simp [takeTrk]
@[simp] theorem kept_releaseTrk (s : State) (i t : Nat) : kept (releaseTrk s i t) = kept s := by simp [releaseTrk]
@[simp] theorem kept_dirDrop (s : State) (i la : Nat) : kept (dirDrop s i la) = kept s := by simp [dirDrop]
@[simp] theorem kept_sfRead (s : State) (base i la : Nat) : kept (sfRead s base i la).2.2 = kept s := by simp [sfRead]
@[simp] theorem kept_sfPut (s : State) (base i la k v : Nat) : kept (sfPut s base i la k v) = kept s := by simp [sfPut]

@[simp] theorem kept_sfStore (s : State) (i la : Nat) (d : Dir) : kept (sfStore s i la d) = kept s := by
  simp only [sfStore]
  repeat' split
  all_goals simp

@[simp] theorem kept_sfErase (s : State) (i la : Nat) : kept (sfErase s i la) = kept s := by
  simp only [sfErase]
  repeat' split
  all_goals simp

@[simp] theorem kept_evictEntry (s : State) (i la : Nat) (d : Dir) : kept (evictEntry s i la d) = kept s := by simp [evictEntry]
@[simp] theorem kept_useWay (s : State) (i la : Nat) : kept (useWay s i la) = kept s := by simp [useWay]
@[simp] theorem kept_dirStore (s : State) (i la : Nat) (d : Dir) : kept (dirStore s i la d) = kept s := by simp [dirStore]

@[simp] theorem kept_recoverEntry (s : State) (i la st : Nat) (e : HomeEnt) : kept (recoverEntry s i la st e) = kept s := by
  simp [recoverEntry]

@[simp] theorem kept_placeEntry (s : State) (i la st : Nat) (e : HomeEnt) : kept (placeEntry s i la st e) = kept s := by
  simp only [placeEntry]
  repeat' split
  all_goals simp

@[simp] theorem kept_healEntry (s : State) (i la : Nat) (h : Option (Nat × HomeEnt)) : kept (healEntry s i la h) = kept s := by
  unfold healEntry
  split <;> simp

@[simp] theorem kept_strayAt (s : State) (i : Nat) : kept (strayAt s i) = kept s := by simp [strayAt]
@[simp] theorem kept_profFault (s : State) (i n k : Nat) : kept (profFault s i n k) = kept s := by simp [profFault]
@[simp] theorem kept_rejectTo (s : State) (i : Nat) (m : SliceMsg) (st : Nat) : kept (rejectTo s i m st) = kept s := by simp [rejectTo]

@[simp] theorem kept_violation (s : State) (i st : Nat) (h : Option (Nat × HomeEnt)) : kept (violation s i st h) = kept s := by
  unfold violation
  split <;> simp

@[simp] theorem kept_containRefuse (s : State) (i : Nat) (t : Option Nat) (h : Option (Nat × HomeEnt)) :
    kept (containRefuse s i t h) = kept s := by
  unfold containRefuse
  split <;> simp

@[simp] theorem kept_enqueueEmit (s : State) (i : Nat) (em : Emit) : kept (enqueueEmit s i em) = kept s := by simp [enqueueEmit]
@[simp] theorem kept_refillEmits (s : State) (i : Nat) : kept (refillEmits s i) = kept s := by simp [refillEmits]

@[simp] theorem kept_awaitDelivery (s : State) (i : Nat) (t : Option Nat) (chain : Bool) : kept (awaitDelivery s i t chain) = kept s := by
  unfold awaitDelivery
  split <;> simp

@[simp] theorem kept_emitTo (e : Ev) (tm : BitVec 128) (track chain : Bool) (s : State) (t : Option Nat) :
    kept (emitTo e tm track chain s t) = kept s := by
  unfold emitTo
  repeat' split
  all_goals simp

@[simp] theorem kept_emitField (s : State) (e : Ev) (b : Bank) (d : Dir) (scratch f : Nat) (track chain : Bool) :
    kept (emitField s e b d scratch f track chain) = kept s := by
  simp only [emitField]
  repeat' split
  all_goals simp [kept_foldl]

@[simp] theorem kept_sliceTag (s : State) (i : Nat) (k : SKind) (t : Option Nat) (tgen : Nat) (a : Option Nat) (chain : Bool) :
    kept (sliceTag s i k t tgen a chain).2 = kept s := by simp [sliceTag]

@[simp] theorem kept_memWrite (s : State) (e : Ev) (h : HomeEnt) (op : Nat) (track chain : Bool) :
    kept (memWrite s e h op track chain) = kept s := by
  simp only [memWrite]
  repeat' split
  all_goals simp

@[simp] theorem kept_memForward (s : State) (e : Ev) (b : Bank) (h : HomeEnt) (d : Dir) (scratch emit0 : Nat) (chain : Bool) :
    kept (memForward s e b h d scratch emit0 chain) = kept s := by
  unfold memForward
  repeat' split
  all_goals simp

@[simp] theorem kept_memOp (s : State) (e : Ev) (b : Bank) (d : Dir) (scratch op emit0 : Nat) (track chain : Bool) :
    kept (memOp s e b d scratch op emit0 track chain) = kept s := by
  unfold memOp
  repeat' split
  all_goals simp

@[simp] theorem kept_escalate (s : State) (e : Ev) (d : Dir) (t arg : Nat) : kept (escalate s e d t arg) = kept s := by simp [escalate]
@[simp] theorem kept_completeTrk (s : State) (i t : Nat) : kept (completeTrk s i t) = kept s := by simp [completeTrk]
@[simp] theorem kept_evtField (s : State) (e : Ev) (r : BitVec 128) : kept (evtField s e r) = kept s := by simp [evtField]

@[simp] theorem kept_applyWord (s : State) (e : Ev) (b : Bank) (d : Dir) (r : BitVec 128) (usel : Nat) :
    kept (applyWord s e b d r usel) = kept s := by
  unfold applyWord
  extract_lets i x op scratch d2 s1 s2 chain track s3 s4 s5 s6
  have h1 : kept s1 = kept s := by simp only [s1, kept_ite, kept_dirStore, ite_self]
  have h2 : kept s2 = kept s1 := by
    simp only [s2]
    split
    · rw [kept_modTrk]
    · rfl
  have h6 : kept s6 = kept s := by
    simp only [s6, s5, s4, s3, kept_evtField, kept_emitField, kept_ite, kept_memOp, ite_self, h2, h1]
  clear_value op s6
  refine Eq.trans ?_ h6
  split
  · rfl
  · split
    · split
      · rfl
      · split <;> simp
    all_goals simp

@[simp] theorem kept_refuseQuota (s : State) (i : Nat) (m : SliceMsg) : kept (refuseQuota s i m) = kept s := by simp [refuseQuota]
@[simp] theorem kept_park (s : State) (i : Nat) (m : SliceMsg) : kept (park s i m) = kept s := by simp [park]

@[simp] theorem kept_allocTrk (s : State) (e : Ev) (st : TrkState) (go : State → Nat → State)
    (h : ∀ s t, kept (go s t) = kept s) : kept (allocTrk s e st go) = kept s := by simp [allocTrk, h]

@[simp] theorem kept_queueBehind (s : State) (i la t : Nat) : kept (queueBehind s i la t) = kept s := by
  unfold queueBehind
  split <;> simp

@[simp] theorem kept_lockWait (s : State) (e : Ev) : kept (lockWait s e) = kept s := by
  unfold lockWait
  split <;> simp

@[simp] theorem kept_roomWait (s : State) (e : Ev) : kept (roomWait s e) = kept s := by
  unfold roomWait
  split <;> simp

@[simp] theorem kept_blockedWait (s : State) (e : Ev) : kept (blockedWait s e) = kept s := by
  unfold blockedWait
  split <;> simp

@[simp] theorem kept_withTrk (s : State) (e : Ev) (go : State → Ev → State) (h : ∀ s e, kept (go s e) = kept s) :
    kept (withTrk s e go) = kept s := by
  unfold withTrk
  split <;> simp [h]

@[simp] theorem kept_chainEnd (s : State) (e : Ev) (t : Nat) : kept (chainEnd s e t) = kept s := by simp [chainEnd]

@[simp] theorem kept_doWord (s : State) (e : Ev) (b : Bank) (d : Dir) (r : BitVec 128) (usel : Nat) :
    kept (doWord s e b d r usel) = kept s := by
  unfold doWord
  repeat' split
  all_goals simp

@[simp] theorem kept_restrictedWord (s : State) (e : Ev) (b : Bank) (d : Dir) (r : BitVec 128) :
    kept (restrictedWord s e b d r) = kept s := by
  unfold restrictedWord
  split <;> simp

@[simp] theorem kept_runRule (s : State) (e : Ev) : kept (runRule s e) = kept s := by
  simp only [runRule]
  repeat' split
  all_goals simp

@[simp] theorem kept_fetchEntry (s : State) (e : Ev) : kept (fetchEntry s e) = kept s := by
  refine kept_withTrk s e _ (fun s e => ?_)
  split <;> simp

@[simp] theorem kept_mismatch (s : State) (i : Nat) (m : SliceMsg) (h : Option (Nat × HomeEnt)) : kept (mismatch s i m h) = kept s := by
  simp [mismatch]

/-- The state in which the search for a way leaves the device. -/
def Room.state : Room → State
  | .ready s => s
  | .wait s => s
  | .blocked s => s

@[simp] theorem Room.state_ready (s : State) : (Room.ready s).state = s := rfl
@[simp] theorem Room.state_wait (s : State) : (Room.wait s).state = s := rfl
@[simp] theorem Room.state_blocked (s : State) : (Room.blocked s).state = s := rfl

@[simp] theorem Room.state_ite (c : Prop) [Decidable c] (a b : Room) :
    (if c then a else b).state = if c then a.state else b.state := apply_ite Room.state c a b

theorem kept_makeRoom (s : State) (i la : Nat) : kept (makeRoom s i la).state = kept s := by
  unfold makeRoom
  split
  · simp
  split
  · simp
  split
  · simp
  · extract_lets r
    have hr : kept r.2 = kept s := by simp [r]
    split <;> simp [hr]

theorem kept_entryReady (s : State) (i la : Nat) (h : Option (Nat × HomeEnt)) : kept (entryReady s i la h).state = kept s := by
  have hr := kept_makeRoom s i la
  unfold entryReady
  split
  · rfl
  · split
    · simp
    · split
      all_goals simp_all

@[simp] theorem kept_evalHere (s : State) (e : Ev) : kept (evalHere s e) = kept s := by
  have hr := kept_makeRoom (healEntry s e.slice e.line e.home) e.slice e.line
  rw [kept_healEntry] at hr
  unfold evalHere
  split
  · next h => rw [h] at hr; simpa using hr
  · next h => rw [h] at hr; simpa using hr
  · next s1 h =>
    rw [h] at hr
    refine Eq.trans ?_ hr
    split
    · rfl
    · extract_lets w
      split
      · rw [kept_mismatch]
        split <;> simp
      · split <;> simp

@[simp] theorem kept_evalNew (s : State) (e : Ev) : kept (evalNew s e) = kept s := by
  have hr := kept_entryReady s e.slice e.line e.home
  unfold evalNew
  split
  · simp
  · split
    · split
      · split
        all_goals simp_all
      · simp
    · simp

@[simp] theorem kept_containedMsg (s : State) (i : Nat) (m : SliceMsg) (h : Option (Nat × HomeEnt)) :
    kept (containedMsg s i m h) = kept s := by simp [containedMsg]

theorem kept_of_admitFail {s t : State} {i : Nat} {m : SliceMsg} (h : admitFail s i m = some t) : kept t = kept s := by
  simp only [admitFail] at h
  repeat' split at h
  all_goals cases h
  all_goals simp

@[simp] theorem kept_releaseFanout (s : State) (i t : Nat) : kept (releaseFanout s i t) = kept s := by
  unfold releaseFanout
  split <;> simp

@[simp] theorem kept_evalAnswer (s : State) (i t : Nat) (m : SliceMsg) (typ : Nat) : kept (evalAnswer s i t m typ) = kept s := by
  simp [evalAnswer]

@[simp] theorem kept_toIntake (s : State) (i : Nat) (m : SliceMsg) : kept (toIntake s i m) = kept s := by simp [toIntake]

@[simp] theorem kept_answerOn (s : State) (i t : Nat) (m : SliceMsg) : kept (answerOn s i t m) = kept s := by
  have hr := kept_entryReady s i (trkAt s i t).line (homeFor s (trkAt s i t).line)
  simp only [answerOn]
  split
  · simp
  · split
    all_goals simp_all

theorem kept_of_foreignAnswer {s t : State} {i : Nat} {m : SliceMsg} (h : foreignAnswer s i m = some t) : kept t = kept s := by
  simp only [foreignAnswer] at h
  repeat' split at h
  all_goals cases h
  all_goals simp

@[simp] theorem kept_handleMsg (s : State) (i : Nat) (m : SliceMsg) (served : Bool) : kept (handleMsg s i m served) = kept s := by
  unfold handleMsg
  split
  · simp
  split
  · split
    · next h => exact kept_of_foreignAnswer h
    · simp
  · split
    · next h => exact kept_of_admitFail h
    · repeat' split
      all_goals simp

@[simp] theorem kept_deliveryReport (s : State) (i t st : Nat) (chain : Bool) : kept (deliveryReport s i t st chain) = kept s := by
  simp [deliveryReport]

@[simp] theorem kept_endGrainWait (s : State) (i t : Nat) (m : SliceMsg) : kept (endGrainWait s i t m) = kept s := by simp [endGrainWait]

@[simp] theorem kept_sliceTakes (s : State) (i : Nat) (p : Packet) : kept (sliceTakes s i p) = kept s := by
  unfold sliceTakes
  repeat' split
  all_goals simp

@[simp] theorem kept_answered (s : State) (i t g a : Nat) : kept (answered s i t g a) = kept s := by simp [answered]
@[simp] theorem kept_sliceMsg (s : State) (i : Nat) (p : Packet) : kept (sliceMsg s i p) = kept s := by simp [sliceMsg]

@[simp] theorem kept_sliceTimeout (s : State) (i tag : Nat) : kept (sliceTimeout s i tag) = kept s := by
  unfold sliceTimeout
  split <;> simp

@[simp] theorem kept_sliceDirective (s : State) (i : Nat) (p : Packet) : kept (sliceDirective s i p) = kept s := by simp [sliceDirective]
@[simp] theorem kept_sendEmit (s : State) (i : Nat) (em : Emit) : kept (sendEmit s i em) = kept s := by simp [sendEmit]
@[simp] theorem kept_releaseAgents (s : State) : kept (releaseAgents s) = kept s := by simp [releaseAgents]

theorem kept_of_fwdDelivered {s t : State} {pos lx : Nat} {p : Packet} (h : fwdDelivered s pos lx p = some t) :
    kept t = kept s := by
  obtain ⟨x, -, rfl⟩ := Option.map_eq_some_iff.mp h
  simp

/-- Where an operation may have no effect, and every effect keeps what `kept` names. -/
theorem kept_getD {o : Option State} {s d : State} (h : ∀ t, o = some t → kept t = kept s) (hd : kept d = kept s) :
    kept (o.getD d) = kept s := by
  cases o with
  | none => exact hd
  | some t => exact h t rfl

/-! ### The Kaolin channels -/

@[simp] theorem kept_forwardLine (s : State) (p : Packet) (st : Nat) (l : Line) : kept (forwardLine s p st l) = kept s := by
  simp [forwardLine]

@[simp] theorem kept_answerPacket (s : State) (p : Packet) (rs : List (Nat × Line)) : kept (answerPacket s p rs) = kept s := by
  simp [answerPacket]

@[simp] theorem kept_dropLock (s : State) (a : Nat) : kept (dropLock s a) = kept s := by simp [dropLock]
@[simp] theorem kept_lineDone (s : State) (p : Packet) (a st : Nat) (l : Line) : kept (lineDone s p a st l) = kept s := by simp [lineDone]
@[simp] theorem kept_acceptLine (p : Packet) (s : State) (a : Nat) : kept (acceptLine p s a) = kept s := by simp [acceptLine]
@[simp] theorem kept_frontTakes (s : State) (p : Packet) : kept (frontTakes s p) = kept s := by simp [frontTakes, kept_foldl]
@[simp] theorem kept_serveWaiting (s : State) : kept (serveWaiting s) = kept s := by simp [serveWaiting, kept_foldl]
@[simp] theorem kept_frontRequest (s : State) (p : Packet) : kept (frontRequest s p) = kept s := by simp [frontRequest]

@[simp] theorem kept_hazSettle (s : State) (p lx : Nat) : kept (hazSettle s p lx) = kept s := by
  unfold hazSettle
  split <;> simp

@[simp] theorem kept_endLocks (s : State) (f : Nat → Bool) : kept (endLocks s f) = kept s := by simp [endLocks]
@[simp] theorem kept_performWrite (s : State) (p : Nat) (q : KReq) : kept (performWrite s p q).2 = kept s := by simp [performWrite]
@[simp] theorem kept_dropReqK (s : State) (p c : Nat) (q : KReq) : kept (dropReqK s p c q) = kept s := by simp [dropReqK]
@[simp] theorem kept_issueColumn (s : State) (p c : Nat) (q : KReq) : kept (issueColumn s p c q) = kept s := by simp [issueColumn]

@[simp] theorem kept_issueFor (s : State) (p c : Nat) (q : KReq) : kept (issueFor s p c q) = kept s := by
  simp only [issueFor]
  split <;> simp

@[simp] theorem kept_schedule (s0 : State) (p c : Nat) : kept (schedule s0 p c) = kept s0 := by
  simp only [schedule]
  repeat' split
  all_goals simp

@[simp] theorem keptOut_execKaoSchedule (stack : Fin 4) (ch : Fin 17) (s : State) : keptOut s (execKaoSchedule stack ch s) := by
  unfold execKaoSchedule
  split <;> simp

@[simp] theorem keptOut_execLineReadComplete (stack : Fin 4) (ch : Fin 17) (s : State) : keptOut s (execLineReadComplete stack ch s) := by
  simp only [execLineReadComplete]
  split <;> simp

@[simp] theorem keptOut_execRefreshDue (stack : Fin 4) (ch : Fin 17) (bank : Fin 32) (s : State) :
    keptOut s (execRefreshDue stack ch bank s) := by
  simp only [execRefreshDue]
  repeat' split
  all_goals simp

@[simp] theorem keptOut_execActivationTableClear (stack : Fin 4) (ch : Fin 17) (s : State) :
    keptOut s (execActivationTableClear stack ch s) := by simp [execActivationTableClear]

@[simp] theorem keptOut_execOpenPageTimeout (stack : Fin 4) (ch : Fin 17) (bank : Fin 32) (s : State) :
    keptOut s (execOpenPageTimeout stack ch bank s) := by
  simp only [execOpenPageTimeout]
  split <;> simp

@[simp] theorem keptOut_execStackTempHigh (stack : Fin 4) (s : State) : keptOut s (execStackTempHigh stack s) := by
  simp only [execStackTempHigh]
  repeat' split
  all_goals simp [kept_foldl]

@[simp] theorem keptOut_execKaolinStackHot (stack : Fin 4) (hot : Bool) (s : State) : keptOut s (execKaolinStackHot stack hot s) := by
  unfold execKaolinStackHot
  split <;> simp

@[simp] theorem keptOut_execLeaseExpiry (line : Nat) (s : State) : keptOut s (execLeaseExpiry line s) := by
  unfold execLeaseExpiry
  repeat' split
  all_goals simp

@[simp] theorem keptOut_execLockBrokenNotice (node : Fin 1024) (s : State) : keptOut s (execLockBrokenNotice node s) := by
  unfold execLockBrokenNotice
  split <;> simp

@[simp] theorem keptOut_execKaoChErrRead (stack : Fin 4) (ch : Fin 17) (s : State) : keptOut s (execKaoChErrRead stack ch s) := by
  simp [execKaoChErrRead]

@[simp] theorem keptOut_execKaoCntClr (stack : Fin 4) (ch : Fin 17) (v : Word) (s : State) : keptOut s (execKaoCntClr stack ch v s) := by
  unfold execKaoCntClr
  split <;> simp

@[simp] theorem keptOut_execKaoProtClr (stack : Fin 4) (front : Fin 8) (v : Word) (s : State) :
    keptOut s (execKaoProtClr stack front v s) := by
  unfold execKaoProtClr
  split <;> simp

@[simp] theorem keptOut_execKaoInjCtrlWrite (stack : Fin 4) (front : Fin 8) (v : Word) (s : State) :
    keptOut s (execKaoInjCtrlWrite stack front v s) := by simp [execKaoInjCtrlWrite]

@[simp] theorem keptOut_execKaoInjStatusRead (stack : Fin 4) (front : Fin 8) (s : State) :
    keptOut s (execKaoInjStatusRead stack front s) := by simp [execKaoInjStatusRead]

@[simp] theorem kept_kaoRegTouch (s : State) (p lx off : Nat) : kept (kaoRegTouch s p lx off) = kept s := by
  unfold kaoRegTouch
  split <;> simp

@[simp] theorem kept_kaoCtrlSet (s : State) (p lx : Nat) (v : Word) : kept (kaoCtrlSet s p lx v) = kept s := by simp [kaoCtrlSet]

@[simp] theorem kept_kaoRegWrite (s : State) (p lx off : Nat) (v : Word) : kept (kaoRegWrite s p lx off v) = kept s := by
  unfold kaoRegWrite
  repeat' split
  all_goals simp

/-! ### What carries a mailbox command -/

@[simp] theorem kept_runBody (c : CmdSpec) (w : Who) (p : Bytes) (s : State)
    (h : ∀ w p s, kept (c.body w p s).2 = kept s) : kept (runBody c w p s).2 = kept s := by simp [runBody, h]

@[simp] theorem kept_drawFree (s : State) : kept (drawFree s) = kept s := by simp [drawFree]
@[simp] theorem kept_reply (s : State) (m i op : Nat) (a : Ans) : kept (reply s m i op a) = kept s := by simp [reply]
@[simp] theorem kept_running (s : State) (m i : Nat) : kept (running s m i) = kept s := by simp [running]

theorem kept_runCmd {c : CmdSpec} (h : ∀ w p s, kept (c.body w p s).2 = kept s) (m i : Nat) (p : Bytes) (s : State) :
    kept (runCmd c m i p s) = kept s := by
  unfold runCmd
  split
  · rfl
  · simp only []
    split <;> simp [h]

@[simp] theorem kept_runPk (c : CmdSpec) (pre : Who → Bytes → State → Option Ans) (m i : Nat) (p : Bytes) (s : State) :
    kept (runPk c pre m i p s) = kept s := by
  simp only [runPk]
  repeat' split
  all_goals simp

@[simp] theorem kept_newJob (s : State) (w : Who) (op : Nat) (p : Bytes) (fs : List (Func × Bool)) (stage : Nat) :
    kept (newJob s w op p fs stage).2 = kept s := by simp [newJob]

@[simp] theorem kept_startJobOver (s : State) (w : Who) (op : Nat) (p : Bytes) (fs : List (Func × Bool)) (stage : Nat) :
    kept (startJobOver s w op p fs stage).2 = kept s := by simp [startJobOver]

@[simp] theorem kept_startJob (s : State) (w : Who) (op : Nat) (p : Bytes) (fs : List (Func × Bool)) (stage : Nat) :
    kept (startJob s w op p fs stage).2 = kept s := by simp [startJob]

@[simp] theorem kept_stepDone (s : State) (id : Nat) : kept (stepDone s id) = kept s := by simp [stepDone]
@[simp] theorem kept_jobOk (s : State) (id word : Nat) (data : Bytes) : kept (jobOk s id word data) = kept s := by simp [jobOk]
@[simp] theorem kept_jobFail (s : State) (id st detail word : Nat) : kept (jobFail s id st detail word) = kept s := by simp [jobFail]
@[simp] theorem kept_jobDrained (s : State) (id : Nat) : kept (jobDrained s id) = kept s := by simp [jobDrained]

/-! ### Check-value units, Grit groups and block RAM -/

@[simp] theorem kept_onCrc (s : State) (u : CrcUnitId) (f : Crc → Crc) : kept (onCrc s u f) = kept s := by simp [onCrc]

@[simp] theorem keptOut_execCrcCtrlWrite (u : CrcUnitId) (v : Word) (s : State) : keptOut s (execCrcCtrlWrite u v s) := by
  simp [execCrcCtrlWrite]

@[simp] theorem keptOut_execCrcAliveWrite (u : CrcUnitId) (v : Word) (s : State) : keptOut s (execCrcAliveWrite u v s) := by
  simp [execCrcAliveWrite]

@[simp] theorem keptOut_execCrcValWrite (u : CrcUnitId) (hi : Bool) (v : Word) (s : State) : keptOut s (execCrcValWrite u hi v s) := by
  simp [execCrcValWrite]

@[simp] theorem keptOut_execCrcStatusRead (u : CrcUnitId) (s : State) : keptOut s (execCrcStatusRead u s) := by simp [execCrcStatusRead]
@[simp] theorem keptOut_execCrcCntClr (u : CrcUnitId) (v : Word) (s : State) : keptOut s (execCrcCntClr u v s) := by simp [execCrcCntClr]
@[simp] theorem keptOut_execCrcFeedB (m : Fin 8) (v : Word) (s : State) : keptOut s (execCrcFeedB m v s) := by simp [execCrcFeedB]
@[simp] theorem keptOut_execCrcFeedH (m : Fin 8) (v : Word) (s : State) : keptOut s (execCrcFeedH m v s) := by simp [execCrcFeedH]
@[simp] theorem keptOut_execCrcFeedW (m : Fin 8) (v : Word) (s : State) : keptOut s (execCrcFeedW m v s) := by simp [execCrcFeedW]
@[simp] theorem keptOut_execCrcEnd (m : Fin 8) (v : Word) (s : State) : keptOut s (execCrcEnd m v s) := by simp [execCrcEnd]

@[simp] theorem keptOut_execCrcPortFeed (pos : Fin 4) (unit : Fin 64) (bytes : Bytes) (s : State) :
    keptOut s (execCrcPortFeed pos unit bytes s) := by
  unfold execCrcPortFeed
  split <;> simp

@[simp] theorem keptOut_execCrcPortEnd (pos : Fin 4) (unit : Fin 64) (alive : Byte) (check : DWord) (s : State) :
    keptOut s (execCrcPortEnd pos unit alive check s) := by
  unfold execCrcPortEnd
  split <;> simp

@[simp] theorem kept_crcRegTouch (s : State) (k off : Nat) : kept (crcRegTouch s k off) = kept s := by simp [crcRegTouch]

@[simp] theorem kept_crcRegWrite (s : State) (k off : Nat) (v : Word) : kept (crcRegWrite s k off v) = kept s := by
  unfold crcRegWrite
  split <;> simp

@[simp] theorem keptOut_execGrtErrRead (pos : Fin 4) (g : Fin 480) (s : State) : keptOut s (execGrtErrRead pos g s) := by
  unfold execGrtErrRead
  split <;> simp

@[simp] theorem keptOut_execGrtSeqRun (pos : Fin 4) (g : Fin 480) (v : Word) (s : State) : keptOut s (execGrtSeqRun pos g v s) := by
  unfold execGrtSeqRun
  split <;> simp

@[simp] theorem keptOut_execGrtSeqStop (pos : Fin 4) (g : Fin 480) (v : Word) (s : State) : keptOut s (execGrtSeqStop pos g v s) := by
  unfold execGrtSeqStop
  split <;> simp

@[simp] theorem keptOut_execGrtProgWrite (pos : Fin 4) (g : Fin 480) (i : Fin 64) (v : Word) (s : State) :
    keptOut s (execGrtProgWrite pos g i v s) := by
  unfold execGrtProgWrite
  split <;> simp

@[simp] theorem keptOut_execGritIssue (pos : Fin 4) (g : Fin 480) (s : State) : keptOut s (execGritIssue pos g s) := by
  unfold execGritIssue
  split <;> simp

@[simp] theorem keptOut_execGritEvent (pos : Fin 4) (g : Fin 480) (s : State) : keptOut s (execGritEvent pos g s) := by
  unfold execGritEvent
  split <;> simp

@[simp] theorem keptOut_execGritGo (pos : Fin 4) (g : Fin 480) (s : State) : keptOut s (execGritGo pos g s) := by
  unfold execGritGo
  split <;> simp

@[simp] theorem keptOut_execGritOutAccept (pos : Fin 4) (g : Fin 480) (s : State) : keptOut s (execGritOutAccept pos g s) := by
  unfold execGritOutAccept
  split <;> simp

@[simp] theorem keptOut_execOperandLoad (pos : Fin 4) (g : Fin 480) (tile : Fin 8) (addr : Fin 512) (v : BitVec 24) (s : State) :
    keptOut s (execOperandLoad pos g tile addr v s) := by
  unfold execOperandLoad
  split <;> simp

@[simp] theorem kept_gritRegTouch (s : State) (pos g off : Nat) : kept (gritRegTouch s pos g off) = kept s := by simp [gritRegTouch]

theorem kept_of_gritRegWrite {s t : State} {pos g off : Nat} {v : Word} (h : gritRegWrite s pos g off v = some t) :
    kept t = kept s := by
  simp only [gritRegWrite] at h
  repeat' split at h
  all_goals cases h
  all_goals simp

@[simp] theorem keptOut_execBramAccess (pos : Fin 4) (block : Fin 5400) (a b : Option BramAcc) (near : Bool) (s : State) :
    keptOut s (execBramAccess pos block a b near s) := by
  simp only [execBramAccess]
  split <;> simp

@[simp] theorem keptOut_execFabricEventOutput (pos : Fin 4) (region : Fin 64) (s : State) :
    keptOut s (execFabricEventOutput pos region s) := by
  simp only [execFabricEventOutput]
  split <;> simp

@[simp] theorem keptOut_execFabricEventOutputFall (pos : Fin 4) (region : Fin 64) (s : State) :
    keptOut s (execFabricEventOutputFall pos region s) := by simp [execFabricEventOutputFall]

@[simp] theorem keptOut_execPlotWatchdogKick (pos : Fin 4) (region : Fin 64) (s : State) :
    keptOut s (execPlotWatchdogKick pos region s) := by
  unfold execPlotWatchdogKick
  split <;> simp

@[simp] theorem keptOut_execPlotWatchdogExpiry (pos : Fin 4) (region : Fin 64) (s : State) :
    keptOut s (execPlotWatchdogExpiry pos region s) := by
  unfold execPlotWatchdogExpiry
  split <;> simp

/-! ### The links of the coherent ports -/

@[simp] theorem kept_wakeLane (s : State) (rate : Nat) (reversed : Bool) (f : Nat) : kept (wakeLane s rate reversed f) = kept s := by
  simp [wakeLane]

@[simp] theorem kept_sleepLane (s : State) (f : Nat) : kept (sleepLane s f) = kept s := by simp [sleepLane]

theorem kept_of_linkSend {s t : State} {l : Nat} {p : Packet} (h : linkSend s l p = some t) : kept t = kept s := by
  simp only [linkSend] at h
  split at h
  · split at h
    · cases h
    · obtain rfl := Option.some.inj h
      split <;> simp
  · obtain rfl := Option.some.inj h
    split <;> simp

@[simp] theorem kept_linkPumpGo (ps : List Packet) (s : State) (l : Nat) : kept (linkPumpGo ps s l) = kept s := by
  induction ps generalizing s with
  | nil => rfl
  | cons p ps ih =>
    unfold linkPumpGo
    split
    · simp [ih]
    · split
      · simp [ih]
      · next h => simp [ih, kept_of_linkSend h]

@[simp] theorem kept_linkPump (s : State) (l : Nat) : kept (linkPump s l) = kept s := by simp [linkPump]
@[simp] theorem kept_portDownTo (s : State) (p : Packet) : kept (portDownTo s p) = kept s := by simp [portDownTo]
@[simp] theorem kept_portMsg (s : State) (p : Packet) : kept (portMsg s p) = kept s := by simp [portMsg]
@[simp] theorem kept_failHeld (s : State) (l : Nat) : kept (failHeld s l) = kept s := by simp [failHeld, kept_foldl]
@[simp] theorem kept_ideInsecure (s : State) (l : Nat) : kept (ideInsecure s l) = kept s := by simp [ideInsecure]
@[simp] theorem kept_linkToDown (s : State) (l : Nat) : kept (linkToDown s l) = kept s := by simp [linkToDown]
@[simp] theorem kept_linkOff (s : State) (l : Nat) : kept (linkOff s l) = kept s := by simp [linkOff, kept_foldl]
@[simp] theorem kept_linksOff (s : State) : kept (linksOff s) = kept s := by simp [linksOff, kept_foldl]
@[simp] theorem kept_linkStart (s : State) (l : Nat) (holding : Bool) : kept (linkStart s l holding) = kept s := by simp [linkStart]

/-! ### Steps of the coherence engine, the NAUs and the Grain dispatcher -/

@[simp] theorem kept_decodeMiss (s : State) (l : Nat) : kept (decodeMiss s l) = kept s := by simp [decodeMiss]
@[simp] theorem kept_agentRange (s : State) (l : Nat) : kept (agentRange s l) = kept s := by simp [agentRange]
@[simp] theorem kept_sendDecoded (s : State) (p : Packet) : kept (sendDecoded s p) = kept s := by simp [sendDecoded]

@[simp] theorem kept_tagRouted (s : State) (port l : Nat) (d : BitVec 128) (u : MsgUnit) (h : Nat → Nat → BitVec 128)
    (pay : Option (List Line)) : kept (tagRouted s port l d u h pay) = kept s := by
  simp only [tagRouted]
  split <;> simp

@[simp] theorem kept_decodeUnit (s : State) (port : Nat) (u : MsgUnit) : kept (decodeUnit s port u) = kept s := by
  unfold decodeUnit
  split <;> simp

@[simp] theorem kept_takeUnit (s : State) (port : Nat) (u : MsgUnit) : kept (takeUnit s port u) = kept s := by simp [takeUnit]
@[simp] theorem kept_releaseUnits (s : State) : kept (releaseUnits s) = kept s := by simp [releaseUnits, kept_foldl]

@[simp] theorem keptOut_execDecode (port : Fin 8) (u : MsgUnit) (s : State) : keptOut s (execDecode port u s) := by
  unfold execDecode
  split <;> simp

@[simp] theorem keptOut_execEvaluate (slice : Fin 16) (s : State) : keptOut s (execEvaluate slice s) := by
  unfold execEvaluate
  repeat' split
  all_goals simp

@[simp] theorem kept_continueOn (s : State) (i t : Nat) : kept (continueOn s i t) = kept s := by
  simp only [continueOn]
  repeat' split
  all_goals simp

@[simp] theorem keptOut_execContinueChain (slice : Fin 16) (trk : Fin 1024) (s : State) : keptOut s (execContinueChain slice trk s) := by
  unfold execContinueChain
  split <;> simp

@[simp] theorem keptOut_execDirectoryFetchComplete (slice : Fin 16) (trk : Fin 1024) (status : Byte) (s : State) :
    keptOut s (execDirectoryFetchComplete slice trk status s) := by
  have hr := kept_makeRoom s slice.val (trkAt s slice.val trk.val).line
  simp only [execDirectoryFetchComplete]
  split
  · split
    · split
      · next h => rw [h] at hr; simpa using hr
      · next h => rw [h] at hr; simpa using hr
      · next h => rw [h] at hr; simpa using hr
    · simp
    · simp
  · simp

@[simp] theorem keptOut_execLockQueueHead (slice : Fin 16) (trk : Fin 1024) (s : State) : keptOut s (execLockQueueHead slice trk s) := by
  simp only [execLockQueueHead]
  repeat' split
  all_goals simp

@[simp] theorem keptOut_execDeliveryReport (slice : Fin 16) (trk : Fin 1024) (status : Byte) (s : State) :
    keptOut s (execDeliveryReport slice trk status s) := by simp [execDeliveryReport]

@[simp] theorem keptOut_execParkedRequestServe (slice : Fin 16) (s : State) : keptOut s (execParkedRequestServe slice s) := by
  unfold execParkedRequestServe
  repeat' split
  all_goals simp

@[simp] theorem keptOut_execEmission (slice : Fin 16) (s : State) : keptOut s (execEmission slice s) := by
  unfold execEmission
  split <;> simp [kept_foldl]

@[simp] theorem kept_escalationEnds (s : State) (i t st : Nat) : kept (escalationEnds s i t st) = kept s := by simp [escalationEnds]

@[simp] theorem keptOut_execEscalationTimeout (slice : Fin 16) (trk : Fin 1024) (s : State) :
    keptOut s (execEscalationTimeout slice trk s) := by
  simp only [execEscalationTimeout]
  split <;> simp

@[simp] theorem kept_dropNotice (s : State) (i t g st : Nat) : kept (dropNotice s i t g st) = kept s := by simp [dropNotice]

@[simp] theorem keptOut_execDropNotice (slice : Fin 16) (trk : Fin 1024) (tgen : Fin 16) (status : Byte) (s : State) :
    keptOut s (execDropNotice slice trk tgen status s) := by simp [execDropNotice]

@[simp] theorem keptOut_execNauRequest (node : Fin 1024) (r : NauReq) (s : State) : keptOut s (execNauRequest node r s) := by
  unfold execNauRequest
  split <;> simp

@[simp] theorem kept_cfgDoneAt (s : State) (n tag : Nat) (v : Option Nat) : kept (cfgDoneAt s n tag v) = kept s := by
  refine kept_foldl _ (fun s l => ?_) _ _
  split <;> simp

@[simp] theorem kept_fwdTimeout (s : State) (n pos lx tag : Nat) : kept (fwdTimeout s n pos lx tag) = kept s := by
  unfold fwdTimeout
  split
  · rfl
  · refine kept_getD (fun t h => ?_) rfl
    rw [kept_of_fwdDelivered h, kept_noteDelivered]

@[simp] theorem kept_frameTimeout (s : State) (tag : Nat) : kept (frameTimeout s tag) = kept s := by simp [frameTimeout]

@[simp] theorem keptOut_execAnswerTimeout (node : Fin 1024) (tag : Nat) (s : State) : keptOut s (execAnswerTimeout node tag s) := by
  unfold execAnswerTimeout
  repeat' split
  all_goals simp

@[simp] theorem kept_coherentOut (s : State) (n : Nat) (h : BitVec 128) (data : Bytes) : kept (coherentOut s n h data) = kept s := by
  simp [coherentOut]

theorem kept_of_cfgAnswer {s t : State} {n : Nat} {h : BitVec 128} {data : Bytes} (ha : cfgAnswer s n h data = some t) :
    kept t = kept s := by
  obtain ⟨l, -, hl⟩ := List.exists_of_findSome?_eq_some ha
  revert hl
  split
  · rintro ⟨⟩
    simp
  · rintro ⟨⟩

@[simp] theorem keptOut_execCoherentOut (node : Fin 1024) (header : BitVec 128) (data : Bytes) (s : State) :
    keptOut s (execCoherentOut node header data s) := by
  unfold execCoherentOut
  split
  · split
    · next h => exact kept_of_cfgAnswer h
    · simp
  · rfl

@[simp] theorem keptOut_execProducerGrain (node : Fin 1024) (flow : Fin 8192) (user : DWord) (pay : Option Line) (s : State) :
    keptOut s (execProducerGrain node flow user pay s) := by
  unfold execProducerGrain
  split <;> simp

@[simp] theorem keptOut_execSlotOpen (node : Fin 1024) (slot : Fin 256) (mask : DWord) (s : State) :
    keptOut s (execSlotOpen node slot mask s) := by
  unfold execSlotOpen
  repeat' split
  all_goals simp

@[simp] theorem keptOut_execSlotClose (node : Fin 1024) (slot : Fin 256) (s : State) : keptOut s (execSlotClose node slot s) := by
  unfold execSlotClose
  repeat' split
  all_goals simp

@[simp] theorem keptOut_execEntryTake (node : Fin 1024) (slot : Fin 256) (entry : Fin 3) (s : State) :
    keptOut s (execEntryTake node slot entry s) := by
  simp only [execEntryTake]
  repeat' split
  all_goals simp

@[simp] theorem keptOut_execDirectiveWrite (node : Fin 1024) (d : BitVec 128) (data : Option Line) (s : State) :
    keptOut s (execDirectiveWrite node d data s) := by
  unfold execDirectiveWrite
  split <;> simp

@[simp] theorem keptOut_execCoherentInAccept (node : Fin 1024) (answer : Bool) (s : State) :
    keptOut s (execCoherentInAccept node answer s) := by
  unfold execCoherentInAccept
  repeat' split
  all_goals simp

@[simp] theorem keptOut_execGrainRefill (pos : Fin 4) (s : State) : keptOut s (execGrainRefill pos s) := by
  unfold execGrainRefill
  repeat' split
  all_goals simp

@[simp] theorem keptOut_execSlotFill (pos : Fin 4) (slot : Fin 256) (s : State) : keptOut s (execSlotFill pos slot s) := by
  simp [execSlotFill]

@[simp] theorem keptOut_execNauErrRead (node : Fin 1024) (s : State) : keptOut s (execNauErrRead node s) := by simp [execNauErrRead]

@[simp] theorem keptOut_execNauCntClr (node : Fin 1024) (v : Word) (s : State) : keptOut s (execNauCntClr node v s) := by
  simp [execNauCntClr]

@[simp] theorem keptOut_execNauRateWrite (node : Fin 1024) (cls : Cls) (v : Word) (s : State) :
    keptOut s (execNauRateWrite node cls v s) := by simp [execNauRateWrite]

@[simp] theorem keptOut_execNauRegulatorRefill (node : Fin 1024) (s : State) : keptOut s (execNauRegulatorRefill node s) := by
  simp [execNauRegulatorRefill]

/-! ### Plots -/

@[simp] theorem kept_zeroFrames (s : State) (f : Nat → Bool) : kept (zeroFrames s f) = kept s := by simp [zeroFrames]
@[simp] theorem kept_freshKeys (s : State) (ks : List Nat) : kept (freshKeys s ks) = kept s := by simp [freshKeys, kept_foldl]
@[simp] theorem kept_modSession (s : State) (id : Nat) (f : Session → Session) : kept (modSession s id f) = kept s := by simp [modSession]
@[simp] theorem kept_dropSession (s : State) (id : Nat) : kept (dropSession s id) = kept s := by simp [dropSession]
@[simp] theorem kept_closeGates (s : State) (p kind : Nat) : kept (closeGates s p kind) = kept s := by simp [closeGates]
@[simp] theorem kept_freePlotTrks (s : State) (p : Nat) : kept (freePlotTrks s p) = kept s := by simp [freePlotTrks, kept_foldl]
@[simp] theorem kept_breakLocks (s : State) (p : Nat) : kept (breakLocks s p) = kept s := by simp [breakLocks, kept_foldl]
@[simp] theorem kept_clearCaptures (s : State) (p : Nat) : kept (clearCaptures s p) = kept s := by simp [clearCaptures]

@[simp] theorem kept_releaseHeld (s : State) (n : Nat) : kept (releaseHeld s n) = kept s := by
  unfold releaseHeld
  split <;> simp

@[simp] theorem kept_resumePlot (s : State) (p : Nat) : kept (resumePlot s p) = kept s := by simp [resumePlot, kept_foldl]

@[simp] theorem kept_failHalt (s : State) (p st detail : Nat) : kept (failHalt s p st detail) = kept s := by
  unfold failHalt
  split <;> simp

@[simp] theorem kept_undoHalt (s : State) (p : Nat) : kept (undoHalt s p) = kept s := by simp [undoHalt, kept_foldl]

@[simp] theorem kept_endSession (s : State) (id : Nat) : kept (endSession s id) = kept s := by
  unfold endSession
  split <;> simp

@[simp] theorem kept_endPlotSessions (s : State) (p : Nat) : kept (endPlotSessions s p) = kept s := by simp [endPlotSessions]
@[simp] theorem kept_dropHeldOf (s : State) (n : Nat) : kept (dropHeldOf s n) = kept s := by simp [dropHeldOf]
@[simp] theorem kept_refuseSnoops (s : State) (n : Nat) : kept (refuseSnoops s n) = kept s := by simp [refuseSnoops, kept_foldl]
@[simp] theorem kept_endTraffic (s : State) (n : Nat) : kept (endTraffic s n) = kept s := by simp [endTraffic]
@[simp] theorem kept_failTraffic (s : State) (n : Nat) : kept (failTraffic s n) = kept s := by simp [failTraffic, kept_foldl]
@[simp] theorem kept_resetUnits (s : State) (p : Nat) : kept (resetUnits s p) = kept s := by simp [resetUnits, kept_foldl]
@[simp] theorem kept_blankPlot (s : State) (p : Nat) : kept (blankPlot s p) = kept s := by simp [blankPlot]
@[simp] theorem kept_plotReset (s : State) (p : Nat) (blank : Bool) : kept (plotReset s p blank) = kept s := by simp [plotReset, kept_foldl]
@[simp] theorem kept_nausReset (s : State) (ns : List Nat) : kept (nausReset s ns) = kept s := by simp [nausReset, kept_foldl]

@[simp] theorem kept_releaseGranules (s : State) (gs : List (Nat × Nat)) : kept (releaseGranules s gs) = kept s := by
  unfold releaseGranules
  refine kept_foldl _ (fun s x => ?_) _ _
  simp

@[simp] theorem kept_clearRoutes (s : State) (es : List Nat) : kept (clearRoutes s es) = kept s := by
  unfold clearRoutes
  refine kept_foldl _ (fun s x => ?_) _ _
  simp

@[simp] theorem kept_unlend (s : State) (n : Nat) : kept (unlend s n) = kept s := by simp [unlend, kept_foldl]
@[simp] theorem kept_eraseSections (s : State) (p : Nat) : kept (eraseSections s p) = kept s := by simp [eraseSections]

@[simp] theorem kept_endPlotJobs (s : State) (p except : Nat) : kept (endPlotJobs s p except) = kept s := by
  refine kept_foldl _ (fun s id => ?_) _ _
  split <;> simp

@[simp] theorem kept_disownJobs (s : State) (p : Nat) : kept (disownJobs s p) = kept s := by simp [disownJobs]

@[simp] theorem kept_plotDestroy (s : State) (p job : Nat) : kept (plotDestroy s p job) = kept s := by
  have h (f : Flow → Flow) (l : List Nat) (s : State) : kept (l.foldl (fun s n => modFlow s n f) s) = kept s :=
    kept_foldl (fun s n => modFlow s n f) (fun _ _ => rfl) l s
  simp [plotDestroy, kept_foldl, h]

@[simp] theorem kept_destroyAll (s : State) : kept (destroyAll s) = kept s := by simp [destroyAll, kept_foldl]

@[simp] theorem kept_violationOf (s : State) (src cause plot sub node info : Nat) :
    kept (violationOf s src cause plot sub node info) = kept s := by simp [violationOf]

/-! ### Fabric lanes, coherent-port links and reach lanes -/

@[simp] theorem kept_laneCount (s : State) (f k : Nat) : kept (laneCount s f k) = kept s := by simp [laneCount]

@[simp] theorem kept_toRecovery (s : State) (f : Nat) : kept (toRecovery s f) = kept s := by
  unfold toRecovery
  split <;> simp [kept_foldl]

@[simp] theorem kept_runLanes (s : State) (l rate w : Nat) (t : TrainStep) (reversed equalized : Bool) :
    kept (runLanes s l rate w t reversed equalized) = kept s := by simp [runLanes, kept_foldl]

@[simp] theorem kept_trainFirst (s : State) (l : Nat) (t : TrainStep) : kept (trainFirst s l t) = kept s := by
  unfold trainFirst
  split <;> simp

@[simp] theorem kept_trainNext (s : State) (l : Nat) (t : TrainStep) : kept (trainNext s l t) = kept s := by simp [trainNext]
@[simp] theorem kept_aerSet (s : State) (l b : Nat) : kept (aerSet s l b) = kept s := by simp [aerSet]
@[simp] theorem kept_linkFails (s : State) (l : Nat) : kept (linkFails s l) = kept s := by simp [linkFails, kept_foldl]

@[simp] theorem kept_retrain (s : State) (l : Nat) (t : TrainStep) : kept (retrain s l t) = kept s := by
  simp only [retrain]
  split <;> simp

@[simp] theorem keptOut_execLinkTraining (link : Fin 16) (rate : Fin 8) (lanes : TrainLanes) (reversed : Bool) (eq : TrainEq) (s : State) :
    keptOut s (execLinkTraining link rate lanes reversed eq s) := by
  simp only [execLinkTraining]
  repeat' split
  all_goals simp

@[simp] theorem keptOut_execLinkUp (link : Fin 16) (s : State) : keptOut s (execLinkUp link s) := by
  simp only [execLinkUp]
  split <;> simp

@[simp] theorem keptOut_execTrainingTimeout (link : Fin 16) (s : State) : keptOut s (execTrainingTimeout link s) := by
  simp only [execTrainingTimeout]
  split <;> simp

@[simp] theorem keptOut_execTrainingRetry (link : Fin 16) (s : State) : keptOut s (execTrainingRetry link s) := by
  unfold execTrainingRetry
  split <;> simp

@[simp] theorem kept_losReport (s : State) (f : Nat) : kept (losReport s f) = kept s := by simp [losReport]

@[simp] theorem keptOut_execLossOfSignal (lane : Fin 160) (ns : Nat) (s : State) : keptOut s (execLossOfSignal lane ns s) := by
  unfold execLossOfSignal
  repeat' split
  all_goals simp

@[simp] theorem kept_lolReport (s : State) (f : Nat) : kept (lolReport s f) = kept s := by simp [lolReport]

@[simp] theorem keptOut_execLossOfLock (lane : Fin 160) (ns : Nat) (quadPll : Bool) (s : State) :
    keptOut s (execLossOfLock lane ns quadPll s) := by
  simp only [execLossOfLock]
  repeat' split
  all_goals simp [kept_foldl]

@[simp] theorem keptOut_execLaneReturn (lane : Fin 160) (s : State) : keptOut s (execLaneReturn lane s) := by
  simp only [execLaneReturn]
  repeat' split
  all_goals simp

@[simp] theorem keptOut_execLinkDown (link : Fin 16) (s : State) : keptOut s (execLinkDown link s) := by
  simp only [execLinkDown]
  split <;> simp

@[simp] theorem keptOut_execViralReceived (link : Fin 16) (s : State) : keptOut s (execViralReceived link s) := by
  simp only [execViralReceived]
  split <;> simp

@[simp] theorem keptOut_execIdeIntegrityFail (link : Fin 16) (s : State) : keptOut s (execIdeIntegrityFail link s) := by
  simp only [execIdeIntegrityFail]
  split <;> simp

@[simp] theorem kept_countSymbols (s : State) (f k : Nat) : kept (countSymbols s f k) = kept s := by simp [countSymbols]
@[simp] theorem kept_countReplay (s : State) (l : Nat) : kept (countReplay s l) = kept s := by simp [countReplay]

@[simp] theorem keptOut_execFlitReplay (flit : FlitSeen) (s : State) : keptOut s (execFlitReplay flit s) := by
  simp only [execFlitReplay]
  repeat' split
  all_goals simp [kept_foldl]

@[simp] theorem keptOut_execDfeAdaptationUpdate (lane : Fin 160) (v : Nat) (s : State) : keptOut s (execDfeAdaptationUpdate lane v s) := by
  simp only [execDfeAdaptationUpdate]
  split <;> simp

@[simp] theorem keptOut_execPartnerPresetRequest (lane : Fin 128) (req : PresetReq) (s : State) :
    keptOut s (execPartnerPresetRequest lane req s) := by
  unfold execPartnerPresetRequest
  repeat' split
  all_goals simp

@[simp] theorem keptOut_execPartnerMarginRequest (lane : Fin 128) (cmd : Word) (s : State) :
    keptOut s (execPartnerMarginRequest lane cmd s) := by
  unfold execPartnerMarginRequest
  repeat' split
  all_goals simp

@[simp] theorem kept_completeCfg (s : State) (l off : Nat) (v : Option Nat) : kept (completeCfg s l off v) = kept s := by simp [completeCfg]
@[simp] theorem kept_forwardCfg (s : State) (l off : Nat) (wr : Option Word) : kept (forwardCfg s l off wr) = kept s := by simp [forwardCfg]

@[simp] theorem keptOut_execConfigSpaceForward (link : Fin 16) (req : CfgReq) (off : Fin 4096) (wr : Option Word) (s : State) :
    keptOut s (execConfigSpaceForward link req off wr s) := by
  simp only [execConfigSpaceForward]
  repeat' split
  all_goals simp

@[simp] theorem keptOut_execLinkPowerStateChange (link : Fin 16) (width : Fin 17) (power : LinkPower) (s : State) :
    keptOut s (execLinkPowerStateChange link width power s) := by
  simp only [execLinkPowerStateChange]
  repeat' split
  all_goals simp [kept_foldl]

@[simp] theorem keptOut_execPcieTlpReceive (link : Fin 16) (tlp : Tlp) (s : State) : keptOut s (execPcieTlpReceive link tlp s) := by
  simp only [execPcieTlpReceive]
  repeat' split
  all_goals simp

@[simp] theorem kept_portRetrain (s : State) (n : Nat) : kept (portRetrain s n) = kept s := by simp [portRetrain]
@[simp] theorem kept_reachPump (s : State) (j : Nat) : kept (reachPump s j) = kept s := by simp [reachPump]

@[simp] theorem kept_countFec (s : State) (j corrected uncorrected : Nat) : kept (countFec s j corrected uncorrected) = kept s := by
  simp [countFec]

@[simp] theorem keptOut_execReachReceive (lane : Fin 32) (pkt : Bytes) (seen : ReachSeen) (s0 : State) :
    keptOut s0 (execReachReceive lane pkt seen s0) := by
  simp only [execReachReceive]
  repeat' split
  all_goals simp

@[simp] theorem keptOut_execReachUnderflow (lane : Fin 32) (s : State) : keptOut s (execReachUnderflow lane s) := by
  simp only [execReachUnderflow]
  split <;> simp

/-! ### Full loads and plot loads -/

@[simp] theorem kept_writeFrame (s : State) (a : Nat) (w : FrameWrite) : kept (writeFrame s a w) = kept s := by simp [writeFrame]
@[simp] theorem kept_clearHidden (s : State) (p : Nat) : kept (clearHidden s p) = kept s := by simp [clearHidden]

theorem kept_of_frameStep {s : State} {ld : Load} {die a : Nat} {w : FrameWrite} {x : State × Load}
    (h : frameStep s ld die a w = .inr x) : kept x.1 = kept s := by
  simp only [frameStep] at h
  repeat' split at h
  all_goals cases h
  all_goals simp

theorem kept_of_framesStep {w : Nat → FrameWrite} {die n i : Nat} {a : Option Nat} {s : State} {ld : Load} {x : State × Load}
    (h : framesStep w die n i a s ld = .inr x) : kept x.1 = kept s := by
  induction n generalizing i a s ld with
  | zero => cases h; rfl
  | succ n ih =>
    unfold framesStep at h
    split at h
    · cases h
    · split at h
      · cases h
      · next y hy => rw [ih h, kept_of_frameStep hy]

theorem kept_of_recordsStep {die : Nat} {last : Bool} {n : Nat} {p : Bytes} {s : State} {ld : Load} {x : State × Load}
    (h : recordsStep die last n p s ld = .inr x) : kept x.1 = kept s := by
  induction n generalizing p s ld with
  | zero => cases h; rfl
  | succ n ih =>
    unfold recordsStep at h
    extract_lets bad op k a go at h
    have hbad : bad ≠ .inr x := Sum.inl_ne_inr
    have hgo (len : Nat) (w : Nat → FrameWrite) (hw : go len w = .inr x) : kept x.1 = kept s := by
      simp only [go] at hw
      split at hw
      · exact absurd hw hbad
      · split at hw
        · cases hw
        · next hy => rw [ih hw, kept_of_framesStep hy]
    clear_value op go bad
    split at h
    · cases h; rfl
    split at h
    · exact absurd h hbad
    split at h
    · cases h; rfl
    iterate 5 exact hgo _ _ h
    · split at h
      · cases h; rfl
      · exact absurd h hbad
    · exact absurd h hbad

theorem kept_of_blockStep {s : State} {ld : Load} {b : Bytes} {x : State × Load} (h : blockStep s ld b = .inr x) :
    kept x.1 = kept s := by
  simp only [blockStep] at h
  split at h
  · cases h
  split at h
  · cases h
  split at h
  · cases h
  split at h
  · cases h
  · next y hy =>
    split at h
    · cases h
    · obtain rfl := Sum.inr.inj h
      exact kept_of_recordsStep (x := y) hy

@[simp] theorem kept_putLoad (s : State) (ld : Load) : kept (putLoad s ld) = kept s := by simp [putLoad]
@[simp] theorem kept_dropLoad (s : State) (job : Nat) : kept (dropLoad s job) = kept s := by simp [dropLoad]
@[simp] theorem kept_disableNau (s : State) (n : Nat) : kept (disableNau s n) = kept s := by simp [disableNau]

@[simp] theorem kept_unconfigure (s : State) : kept (unconfigure s) = kept s := by
  unfold unconfigure
  refine kept_foldl _ (fun s x => ?_) _ _
  simp

@[simp] theorem kept_cfgClear (s : State) : kept (cfgClear s) = kept s := by simp [cfgClear]
@[simp] theorem kept_shellGone (s : State) : kept (shellGone s) = kept s := by simp [shellGone]
@[simp] theorem kept_clearConfig (s : State) : kept (clearConfig s) = kept s := by simp [clearConfig]

@[simp] theorem kept_failFull (s : State) (f : LoadFail) : kept (failFull s f) = kept s := by
  unfold failFull
  extract_lets s1 s2
  have h1 : kept s1 = kept s := by rw [kept_raise, kept_modCfg]
  have h2 : kept s2 = kept s1 := by simp [s2, -kept_raise]
  exact (kept_modSys s2 _ fun _ => rfl).trans (h2.trans h1)

@[simp] theorem kept_failPlot (s : State) (p : Nat) (f : LoadFail) : kept (failPlot s p f) = kept s := by
  unfold failPlot
  split <;> simp [kept_foldl]

@[simp] theorem kept_startFull (s : State) (w : Who) (p : Bytes) : kept (startFull s w p).2 = kept s := by simp [startFull]
@[simp] theorem kept_startBoot (s : State) (entry : Nat) : kept (startBoot s entry) = kept s := by simp [startBoot]
@[simp] theorem kept_bootNext (s : State) : kept (bootNext s) = kept s := by simp [bootNext]

@[simp] theorem kept_failLoad (s : State) (id : Nat) (f : LoadFail) (st : JobState) (detail : Nat) :
    kept (failLoad s id f st detail) = kept s := by
  unfold failLoad
  split <;> simp

@[simp] theorem kept_failRefused (s : State) (id st detail : Nat) : kept (failRefused s id st detail) = kept s := by
  unfold failRefused
  split <;> simp

@[simp] theorem kept_beginPlotLoad (s : State) (id p : Nat) (img : Bytes) : kept (beginPlotLoad s id p img) = kept s := by
  simp [beginPlotLoad, kept_foldl]

@[simp] theorem kept_beginFullLoad (s : State) (id : Nat) (img : Bytes) : kept (beginFullLoad s id img) = kept s := by simp [beginFullLoad]
@[simp] theorem kept_enableNau (s : State) (n : Nat) : kept (enableNau s n) = kept s := by simp [enableNau]
@[simp] theorem kept_finishPlotLoad (s : State) (ld : Load) : kept (finishPlotLoad s ld) = kept s := by simp [finishPlotLoad, kept_foldl]
@[simp] theorem kept_finishFullLoad (s : State) (ld : Load) : kept (finishFullLoad s ld) = kept s := by simp [finishFullLoad, kept_foldl]

/-! ### The management complex -/

@[simp] theorem kept_startChange (s : State) (job : Nat) (rs : RouteSet) (removing : List Nat) :
    kept (startChange s job rs removing) = kept s := by simp [startChange, kept_foldl]

@[simp] theorem kept_ownChange (s : State) (outR : List Nat) (outL : List (Nat × Nat)) : kept (ownChange s outR outL) = kept s := by
  unfold ownChange
  repeat' split
  all_goals simp

@[simp] theorem kept_afterChange (s : State) : kept (afterChange s) = kept s := by simp [afterChange]
@[simp] theorem kept_dropChange (s : State) : kept (dropChange s) = kept s := by simp [dropChange]
@[simp] theorem kept_resumeFlows (s : State) : kept (resumeFlows s) = kept s := by simp [resumeFlows, kept_foldl]
@[simp] theorem kept_resumeSlots (s : State) : kept (resumeSlots s) = kept s := by simp [resumeSlots, kept_foldl]
@[simp] theorem kept_resumePorts (s : State) : kept (resumePorts s) = kept s := by simp [resumePorts, kept_foldl]
@[simp] theorem kept_resumeAll (s : State) : kept (resumeAll s) = kept s := by simp [resumeAll, kept_foldl]
@[simp] theorem kept_endCopy (s : State) (j : Job) : kept (endCopy s j) = kept s := by simp [endCopy]

@[simp] theorem kept_stopJob (s : State) (id : Nat) (st : JobState) (status detail : Nat) :
    kept (stopJob s id st status detail) = kept s := by
  unfold stopJob
  repeat' split
  all_goals simp

@[simp] theorem kept_cancelNow (s : State) (id detail : Nat) : kept (cancelNow s id detail) = kept s := by
  unfold cancelNow
  split <;> simp

@[simp] theorem kept_cancelAll (s : State) (detail : Nat) : kept (cancelAll s detail) = kept s := by simp [cancelAll, kept_foldl]
@[simp] theorem kept_stopDump (s : State) (detail : Nat) : kept (stopDump s detail) = kept s := by simp [stopDump, kept_foldl]

@[simp] theorem kept_fatalPath (s : State) (r : RecOf) (dump direct : Bool) : kept (fatalPath s r dump direct) = kept s := by
  simp [fatalPath]

@[simp] theorem kept_faultExecuting (s : State) (detail : Nat) : kept (faultExecuting s detail) = kept s := by
  unfold faultExecuting
  extract_lets s1 s2
  refine (kept_foldl (fun s p => modPlot s p _) (fun _ _ => rfl) _ _).trans ?_
  simp [s1, s2, kept_foldl]

@[simp] theorem kept_restartBegin (s : State) (why : Nat) : kept (restartBegin s why) = kept s := by simp [restartBegin]

@[simp] theorem keptOut_execMgmtWatchdogExpiry (s : State) : keptOut s (execMgmtWatchdogExpiry s) := by
  unfold execMgmtWatchdogExpiry
  split <;> simp

@[simp] theorem keptOut_execLockstepMismatch (s : State) : keptOut s (execLockstepMismatch s) := by
  unfold execLockstepMismatch
  split <;> simp

@[simp] theorem keptOut_execScratchpadUncorrectable (word : Fin 524288) (victim : SpdVictim) (s : State) :
    keptOut s (execScratchpadUncorrectable word victim s) := by
  simp only [execScratchpadUncorrectable]
  repeat' split
  all_goals simp

@[simp] theorem keptOut_execManagementRestartDone (s : State) : keptOut s (execManagementRestartDone s) := by
  unfold execManagementRestartDone
  split <;> simp [kept_foldl]

@[simp] theorem keptOut_execFwPieceTimeout (s : State) : keptOut s (execFwPieceTimeout s) := by simp [execFwPieceTimeout]
@[simp] theorem kept_bankOwnerSet (s : State) (b : Nat) (v : Word) : kept (bankOwnerSet s b v) = kept s := by simp [bankOwnerSet]

@[simp] theorem keptOut_execSpdBankOwnerWrite (bank : Fin 8) (v : Word) (s : State) : keptOut s (execSpdBankOwnerWrite bank v s) := by
  simp [execSpdBankOwnerWrite]

@[simp] theorem kept_ownerViol (s : State) (b : Nat) (m : SpdMaster) : kept (ownerViol s b m) = kept s := by simp [ownerViol]

@[simp] theorem kept_fillSlotReq (s : State) (m i off : Nat) (data : Bytes) : kept (fillSlotReq s m i off data) = kept s := by
  simp [fillSlotReq]

@[simp] theorem kept_slotWordMod (s : State) (m i off : Nat) (f : Word → Word) : kept (slotWordMod s m i off f) = kept s := by
  simp [slotWordMod]

@[simp] theorem kept_aliasWrite (s : State) (m : SpdMaster) (word : Nat) (f : Word → Word) : kept (aliasWrite s m word f) = kept s := by
  unfold aliasWrite
  repeat' split
  all_goals simp

@[simp] theorem keptOut_execSpdSetAliasWrite (master : SpdMaster) (word : Fin 524288) (v : Word) (s : State) :
    keptOut s (execSpdSetAliasWrite master word v s) := by simp [execSpdSetAliasWrite]

@[simp] theorem keptOut_execSpdClearAliasWrite (master : SpdMaster) (word : Fin 524288) (v : Word) (s : State) :
    keptOut s (execSpdClearAliasWrite master word v s) := by simp [execSpdClearAliasWrite]

@[simp] theorem keptOut_execSpdErrRead (s : State) : keptOut s (execSpdErrRead s) := by simp [execSpdErrRead]
@[simp] theorem kept_spdCntClear (s : State) (v : Word) : kept (spdCntClear s v) = kept s := by simp [spdCntClear]
@[simp] theorem keptOut_execSpdCntClr (v : Word) (s : State) : keptOut s (execSpdCntClr v s) := by simp [execSpdCntClr]
@[simp] theorem kept_spdRegWrite (s : State) (off : Nat) (v : Word) : kept (spdRegWrite s off v) = kept s := by simp [spdRegWrite]
@[simp] theorem kept_queueSlot (s : State) (m i : Nat) : kept (queueSlot s m i) = kept s := by simp [queueSlot]
@[simp] theorem kept_doorbell (s : State) (m : Nat) (v : Word) : kept (doorbell s m v) = kept s := by simp [doorbell]

@[simp] theorem keptOut_execMbxDoorbell (m : Fin 17) (value : Word) (s : State) : keptOut s (execMbxDoorbell m value s) := by
  unfold execMbxDoorbell
  split <;> simp

@[simp] theorem kept_ackSlots (s : State) (m : Nat) (v : Word) : kept (ackSlots s m v) = kept s := by simp [ackSlots, kept_foldl]

@[simp] theorem keptOut_execMbxAck (m : Fin 17) (value : Word) (s : State) : keptOut s (execMbxAck m value s) := by
  unfold execMbxAck
  split <;> simp

@[simp] theorem keptOut_execSlotZeroized (m : Fin 17) (slot : Fin 8) (s : State) : keptOut s (execSlotZeroized m slot s) := by
  unfold execSlotZeroized
  split <;> simp

@[simp] theorem keptOut_execMbxErrRead (m : Fin 17) (s : State) : keptOut s (execMbxErrRead m s) := by
  unfold execMbxErrRead
  split <;> simp

@[simp] theorem kept_mbxCntClear (s : State) (m : Nat) (v : Word) : kept (mbxCntClear s m v) = kept s := by simp [mbxCntClear]

@[simp] theorem keptOut_execMbxCntClr (m : Fin 17) (v : Word) (s : State) : keptOut s (execMbxCntClr m v s) := by
  unfold execMbxCntClr
  split <;> simp

@[simp] theorem kept_hostSlotWrite (s : State) (m i off : Nat) (data : Bytes) : kept (hostSlotWrite s m i off data) = kept s := by
  simp [hostSlotWrite]

@[simp] theorem keptOut_execSlotRequestWrite (m : Fin 17) (slot : Fin 8) (off : Fin 2048) (data : Bytes) (s : State) :
    keptOut s (execSlotRequestWrite m slot off data s) := by
  unfold execSlotRequestWrite
  split <;> simp

@[simp] theorem kept_transportRequest (s : State) (m : Nat) (header : BitVec 128) (payload : Bytes) :
    kept (transportRequest s m header payload) = kept s := by
  unfold transportRequest
  repeat' split
  all_goals simp

@[simp] theorem keptOut_execMctpRequest (pecOk : Bool) (header : BitVec 128) (payload : Bytes) (s : State) :
    keptOut s (execMctpRequest pecOk header payload s) := by
  unfold execMctpRequest
  split <;> simp

@[simp] theorem keptOut_execTransportResponseSent (uart : Bool) (slot : Fin 8) (s : State) :
    keptOut s (execTransportResponseSent uart slot s) := by
  simp only [execTransportResponseSent]
  repeat' split
  all_goals simp

@[simp] theorem kept_controlSent (s : State) (b : Bytes) : kept (controlSent s b) = kept s := by simp [controlSent]

@[simp] theorem keptOut_execSetEndpointId (eid : Byte) (s : State) : keptOut s (execSetEndpointId eid s) := by
  unfold execSetEndpointId
  split <;> simp

@[simp] theorem keptOut_execGetEndpointId (s : State) : keptOut s (execGetEndpointId s) := by
  unfold execGetEndpointId
  split <;> simp

@[simp] theorem keptOut_execGetMctpVersionSupport (msgType : Byte) (s : State) : keptOut s (execGetMctpVersionSupport msgType s) := by
  unfold execGetMctpVersionSupport
  repeat' split
  all_goals simp

@[simp] theorem keptOut_execGetMessageTypeSupport (s : State) : keptOut s (execGetMessageTypeSupport s) := by
  unfold execGetMessageTypeSupport
  split <;> simp

@[simp] theorem kept_flrOne (s : State) (f : Nat) : kept (flrOne s f) = kept s := by simp [flrOne]

@[simp] theorem keptOut_execFlr (f : Fin 17) (s : State) : keptOut s (execFlr f s) := by
  simp only [execFlr]
  repeat' split
  all_goals simp [kept_foldl]

@[simp] theorem kept_setNumVfs (s : State) (n : Nat) : kept (setNumVfs s n) = kept s := by simp [setNumVfs, kept_foldl]

@[simp] theorem keptOut_execVfDisable (numVfs : Fin 17) (s : State) : keptOut s (execVfDisable numVfs s) := by
  unfold execVfDisable
  split <;> simp

@[simp] theorem keptOut_execNumvfsWrite (n : Fin 17) (s : State) : keptOut s (execNumvfsWrite n s) := by simp [execNumvfsWrite]
@[simp] theorem kept_unmaskVector (s : State) (f v : Nat) : kept (unmaskVector s f v) = kept s := by simp [unmaskVector]

@[simp] theorem keptOut_execMsixVectorUnmask (f : Fin 17) (v : Fin 64) (s : State) : keptOut s (execMsixVectorUnmask f v s) := by
  unfold execMsixVectorUnmask
  split <;> simp

@[simp] theorem keptOut_execSaturation (s : State) : keptOut s (execSaturation s) := by
  unfold execSaturation
  repeat' split
  all_goals simp

/-! ### Silt: tokens, links, dead targets and the isolation of a die -/

@[simp] theorem keptOut_execReservationTokenRequest (src dst : Fin 1024) (cls : Cls) (n : Nat) (s : State) :
    keptOut s (execReservationTokenRequest src dst cls n s) := by
  unfold execReservationTokenRequest
  repeat' split
  all_goals simp

@[simp] theorem keptOut_execTokenReturn (src dst : Fin 1024) (cls : Cls) (s : State) : keptOut s (execTokenReturn src dst cls s) := by
  simp [execTokenReturn]

@[simp] theorem keptOut_execSiltPacketForward (f : Flight) (s : State) : keptOut s (execSiltPacketForward f s) := by
  unfold execSiltPacketForward
  split <;> simp

@[simp] theorem kept_flipEpoch (s : State) : kept (flipEpoch s) = kept s := by simp [flipEpoch]

@[simp] theorem keptOut_execShadowBankAck (node : Fin 1024) (s : State) : keptOut s (execShadowBankAck node s) := by
  simp only [execShadowBankAck]
  repeat' split
  all_goals simp

@[simp] theorem keptOut_execRouterAckTimeout (node : Fin 1024) (s : State) : keptOut s (execRouterAckTimeout node s) := by
  unfold execRouterAckTimeout
  repeat' split
  all_goals simp

@[simp] theorem keptOut_execAttachmentEpochSwitch (node : Fin 1024) (cls : Cls) (s : State) :
    keptOut s (execAttachmentEpochSwitch node cls s) := by
  unfold execAttachmentEpochSwitch
  repeat' split
  all_goals simp

@[simp] theorem kept_loseNaus (s : State) (gone : Nat → Bool) (blank : Bool) : kept (loseNaus s gone blank) = kept s := by
  simp [loseNaus, kept_foldl]

@[simp] theorem kept_bypassRouter (s : State) (r : Nat) : kept (bypassRouter s r) = kept s := by simp [bypassRouter]
@[simp] theorem kept_saveRepair (s : State) (kind unit : Nat) : kept (saveRepair s kind unit) = kept s := by simp [saveRepair]

@[simp] theorem kept_disableElem (s : State) (e : Nat) : kept (disableElem s e) = kept s := by
  unfold disableElem
  rw [kept_ite, kept_saveRepair, kept_bypassRouter, kept_ite, kept_switchLink]
  extract_lets k
  rw [kept_modTilth, kept_switchLink, ite_self, ite_self]

@[simp] theorem kept_tilthAction (s : State) (src sub node info : Nat) : kept (tilthAction s src sub node info) = kept s := by
  simp [tilthAction]

@[simp] theorem keptOut_execRouteChangeEnd (s : State) : keptOut s (execRouteChangeEnd s) := by
  simp only [execRouteChangeEnd]
  repeat' split
  all_goals simp [kept_foldl]

@[simp] theorem keptOut_execLinkCrcFail (node : Fin 1024) (code : Fin 7) (data : Bool) (s : State) :
    keptOut s (execLinkCrcFail node code data s) := by
  simp only [execLinkCrcFail]
  repeat' split
  all_goals simp

@[simp] theorem kept_setIo (s : State) (k : Io) : kept { s with io := k } = kept s := rfl

@[simp] theorem kept_dropUnconsumed (s : State) (n : Nat) : kept (dropUnconsumed s n) = kept s := by
  unfold dropUnconsumed
  split <;> simp

@[simp] theorem keptOut_execDeadTargetStall (node : Fin 1024) (s : State) : keptOut s (execDeadTargetStall node s) := by
  simp only [execDeadTargetStall]
  repeat' split
  all_goals simp [kept_foldl]

@[simp] theorem kept_endDieJobs (s : State) (p : Nat) : kept (endDieJobs s p) = kept s := by
  refine kept_foldl _ (fun s id => ?_) _ _
  split <;> simp

@[simp] theorem kept_lostFlows (s : State) (p : Nat) : kept (lostFlows s p) = kept s := by simp [lostFlows, kept_foldl]
@[simp] theorem kept_lostSpills (s : State) (p : Nat) : kept (lostSpills s p) = kept s := by simp [lostSpills, kept_foldl]

@[simp] theorem kept_loseDie (s : State) (p : Nat) : kept (loseDie s p) = kept s := by
  unfold loseDie
  extract_lets lost gone s0 s1 s2 s3 s4
  have h2 : kept s2 = kept s := by simp [s2, s1, s0, kept_foldl]
  have h4 : kept s4 = kept s3 := kept_foldl _ (fun s l => by simp) _ _
  have h3 : kept s3 = kept s2 := kept_setQuarters s2 _
  rw [kept_foldl, h4, h3, h2]
  simp

@[simp] theorem kept_isolateHw (s : State) (p src : Nat) : kept (isolateHw s p src) = kept s := by simp [isolateHw]
@[simp] theorem kept_isolateRest (s : State) (p : Nat) : kept (isolateRest s p) = kept s := by simp [isolateRest, kept_foldl]
@[simp] theorem kept_isolateJob (s : State) (p : Nat) : kept (isolateJob s p) = kept s := by simp [isolateJob]
@[simp] theorem kept_isolateDie (s : State) (p src : Nat) : kept (isolateDie s p src) = kept s := by simp [isolateDie]
@[simp] theorem kept_startOwed (s : State) : kept (startOwed s) = kept s := by simp [startOwed, kept_foldl]
@[simp] theorem keptOut_execDieIsolation (pos : Fin 4) (s : State) : keptOut s (execDieIsolation pos s) := by simp [execDieIsolation]

/-! ### Die-link groups and Tilth -/

@[simp] theorem kept_sparesExhausted (s : State) (src sub node : Nat) : kept (sparesExhausted s src sub node) = kept s := by
  simp [sparesExhausted]

@[simp] theorem kept_groupFails (s : State) (g : Nat) : kept (groupFails s g) = kept s := by simp [groupFails]
@[simp] theorem kept_edgeCheck (s : State) (g : Nat) : kept (edgeCheck s g) = kept s := by simp [edgeCheck]

@[simp] theorem kept_saveLanes (s : State) (g : Nat) (old new : BitVec 33) : kept (saveLanes s g old new) = kept s := by
  simp [saveLanes, kept_foldl]

@[simp] theorem kept_groupTake (s : State) (g : Nat) (oos : BitVec 33) (n : GState × Bool × Nat) : kept (groupTake s g oos n) = kept s := by
  simp [groupTake]

@[simp] theorem kept_groupLose (s : State) (g : Nat) (bad : BitVec 33) : kept (groupLose s g bad) = kept s := by simp [groupLose]

@[simp] theorem kept_overtake (s : State) (g : Nat) : kept (overtake s g) = kept s := by
  unfold overtake
  split <;> simp

@[simp] theorem kept_plannedSwap (s : State) (g l : Nat) : kept (plannedSwap s g l) = kept s := by simp [plannedSwap]
@[simp] theorem kept_sampleLane (s : State) (g l t v : Nat) : kept (sampleLane s g l t v) = kept s := by simp [sampleLane]

@[simp] theorem keptOut_execDlinkMarginSample (group : Fin 128) (margins : List (Byte × Byte)) (s : State) :
    keptOut s (execDlinkMarginSample group margins s) := by
  simp only [execDlinkMarginSample]
  repeat' split
  all_goals simp [kept_foldl]

@[simp] theorem keptOut_execPlannedSwapAuto (group : Fin 128) (lane : Fin 33) (s : State) :
    keptOut s (execPlannedSwapAuto group lane s) := by
  simp only [execPlannedSwapAuto]
  split <;> simp

@[simp] theorem kept_noFault (s : State) (g : Nat) : kept (noFault s g) = kept s := by simp [noFault]
@[simp] theorem kept_restartCount (s : State) (g : Nat) : kept (restartCount s g) = kept s := by simp [restartCount]

@[simp] theorem keptOut_execLaneCheck (group : Fin 128) (bad : BitVec 33) (s : State) : keptOut s (execLaneCheck group bad s) := by
  simp only [execLaneCheck]
  repeat' split
  all_goals simp

@[simp] theorem keptOut_execDlinkForwardedClockLoss (group : Fin 128) (s : State) : keptOut s (execDlinkForwardedClockLoss group s) := by
  simp only [execDlinkForwardedClockLoss]
  split <;> simp

@[simp] theorem kept_routerFails (s : State) (n : Nat) : kept (routerFails s n) = kept s := by simp [routerFails]
@[simp] theorem kept_detourRouter (s : State) (n : Nat) : kept (detourRouter s n) = kept s := by simp [detourRouter]
@[simp] theorem kept_detourLink (s : State) (n c : Nat) : kept (detourLink s n c) = kept s := by simp [detourLink]
@[simp] theorem kept_recordLink (s : State) (n c : Nat) : kept (recordLink s n c) = kept s := by simp [recordLink]

@[simp] theorem keptOut_execTilthDetour (node : Fin 1024) (code : Fin 7) (s : State) : keptOut s (execTilthDetour node code s) := by
  simp only [execTilthDetour]
  repeat' split
  all_goals simp

@[simp] theorem kept_copyLines (s : State) (p : Nat) (f : Place → Bool) : kept (copyLines s p f) = kept s := by
  refine kept_foldl _ (fun s kv => ?_) _ _
  extract_lets a x
  split <;> simp

theorem kept_of_spareRow {s t : State} {p c b r : Nat} (h : spareRow s p c b r = some t) : kept t = kept s := by
  obtain ⟨i, -, rfl⟩ := Option.map_eq_some_iff.mp h
  simp

@[simp] theorem kept_copyStart (s : State) (w : Who) (op p c : Nat) : kept (copyStart s w op p c).2 = kept s := by simp [copyStart]
@[simp] theorem kept_failQueue (s : State) (p c : Nat) : kept (failQueue s p c) = kept s := by simp [failQueue, kept_foldl]
@[simp] theorem kept_retireChan (s : State) (p c : Nat) : kept (retireChan s p c) = kept s := by simp [retireChan]

@[simp] theorem kept_channelTrigger (s : State) (p c : Nat) (bad : Bool) : kept (channelTrigger s p c bad) = kept s := by
  simp [channelTrigger]

@[simp] theorem kept_runTriggers (s : State) : kept (runTriggers s) = kept s := by
  refine kept_foldl _ (fun s kv => kept_foldl _ (fun s cv => ?_) _ _) _ _
  split <;> simp

@[simp] theorem kept_standIn (s : State) (p c : Nat) (st : ChState) : kept (standIn s p c st) = kept s := by simp [standIn]
@[simp] theorem kept_moveToSpare (s : State) (op p c : Nat) : kept (moveToSpare s op p c) = kept s := by simp [moveToSpare]
@[simp] theorem kept_moveBack (s : State) (p c : Nat) : kept (moveBack s p c) = kept s := by simp [moveBack]
@[simp] theorem kept_copyDone (s : State) (id p c : Nat) : kept (copyDone s id p c) = kept s := by simp [copyDone]
@[simp] theorem kept_copyMove (s : State) (id op p c : Nat) : kept (copyMove s id op p c) = kept s := by simp [copyMove]

@[simp] theorem keptOut_execChannelStopsAnswering (stack : Fin 4) (s : State) : keptOut s (execChannelStopsAnswering stack s) := by
  simp only [execChannelStopsAnswering]
  repeat' split
  all_goals simp

@[simp] theorem keptOut_execRowSpareAuto (stack : Fin 4) (ch : Fin 17) (bank : Fin 32) (row : Fin 16384) (s : State) :
    keptOut s (execRowSpareAuto stack ch bank row s) := by
  unfold execRowSpareAuto
  extract_lets p c key x due s1
  split
  · split
    · simp
    · split
      · next h => exact kept_of_spareRow h
      · split <;> simp [s1]
  · rfl

@[simp] theorem keptOut_execPeriodicCalibration (stack : Fin 4) (ch : Fin 17) (ok : Bool) (s : State) :
    keptOut s (execPeriodicCalibration stack ch ok s) := by
  simp only [execPeriodicCalibration]
  repeat' split
  all_goals simp

@[simp] theorem keptOut_execPatrolRead (stack : Fin 4) (ch : Fin 17) (s : State) : keptOut s (execPatrolRead stack ch s) := by
  simp only [execPatrolRead]
  split <;> simp

@[simp] theorem keptOut_execPatrolLapEnd (stack : Fin 4) (ch : Fin 17) (s : State) : keptOut s (execPatrolLapEnd stack ch s) := by
  simp only [execPatrolLapEnd]
  repeat' split
  all_goals simp

@[simp] theorem keptOut_execForcedSweep (stack : Fin 4) (granule : Fin 4096) (s : State) : keptOut s (execForcedSweep stack granule s) := by
  simp only [execForcedSweep]
  split <;> simp

@[simp] theorem keptOut_execForcedSweepEnd (stack : Fin 4) (granule : Fin 4096) (s : State) :
    keptOut s (execForcedSweepEnd stack granule s) := by
  simp only [execForcedSweepEnd]
  split <;> simp

@[simp] theorem kept_retireBlock (s : State) (b : Nat) : kept (retireBlock s b) = kept s := by simp [retireBlock]

@[simp] theorem keptOut_execBlockRetire (block : Fin 8192) (s : State) : keptOut s (execBlockRetire block s) := by
  unfold execBlockRetire
  split <;> simp

/-! ### Start-up, resets, power and pins -/

@[simp] theorem kept_deviceReset (s : State) : kept (deviceReset s) = kept s := rfl

@[simp] theorem keptOut_execPorNAssert (lowUs : Nat) (s : State) : keptOut s (execPorNAssert lowUs s) := by
  unfold execPorNAssert
  split <;> simp

@[simp] theorem kept_startUp (s : State) (bootSrc : BitVec 2) : kept (startUp s bootSrc) = kept s := by simp [startUp]

@[simp] theorem keptOut_execPorNRelease (bootSrc : BitVec 2) (s : State) : keptOut s (execPorNRelease bootSrc s) := by
  unfold execPorNRelease
  repeat' split
  all_goals simp

@[simp] theorem kept_peatCut (s : State) : kept (peatCut s) = kept s := by
  unfold peatCut
  rw [kept_foldl _ fun s id => ?_, kept_sysCut]
  split <;> simp

@[simp] theorem keptOut_execBrownOut (rail : BrownRail) (s : State) : keptOut s (execBrownOut rail s) := by
  unfold execBrownOut
  split <;> simp

@[simp] theorem keptOut_execRailRecovery (bootSrc : BitVec 2) (s : State) : keptOut s (execRailRecovery bootSrc s) := by
  unfold execRailRecovery
  repeat' split
  all_goals simp

@[simp] theorem kept_trainGroup (ts : List GroupTest) (s : State) (g : Nat) : kept (trainGroup ts s g) = kept s := by simp [trainGroup]
@[simp] theorem kept_placeDie (synthBad : List (Fin 4)) (s : State) (p : Nat) : kept (placeDie synthBad s p) = kept s := by simp [placeDie]

@[simp] theorem keptOut_execLoamResetRelease (synthBad : List (Fin 4)) (groups : List GroupTest) (s : State) :
    keptOut s (execLoamResetRelease synthBad groups s) := by
  simp only [execLoamResetRelease]
  repeat' split
  all_goals simp [kept_foldl]

@[simp] theorem kept_reserve (s : State) (p g n : Nat) (k : GKind) : kept (reserve s p g n k) = kept s := by simp [reserve, kept_foldl]
@[simp] theorem kept_reserveStack (s : State) (p : Nat) : kept (reserveStack s p) = kept s := by simp [reserveStack]

@[simp] theorem kept_applyKaolin (s : State) (e : Nat × Nat) : kept (applyKaolin s e) = kept s := by
  simp only [applyKaolin]
  repeat' split
  all_goals simp

@[simp] theorem kept_applySilt (s : State) (e : Nat × Nat) : kept (applySilt s e) = kept s := by
  unfold applySilt
  split <;> simp

@[simp] theorem kept_fillStack (s : State) (p : Nat) : kept (fillStack s p) = kept s := by simp [fillStack]

@[simp] theorem keptOut_execOhmyxStart (kaolinBad : List (Fin 4)) (s : State) : keptOut s (execOhmyxStart kaolinBad s) := by
  simp only [execOhmyxStart]
  repeat' split
  all_goals simp [kept_foldl]

@[simp] theorem kept_bootAct (s : State) : kept (bootAct s) = kept s := by
  unfold bootAct
  split <;> simp

@[simp] theorem keptOut_execMailboxReady (s : State) : keptOut s (execMailboxReady s) := by
  unfold execMailboxReady
  split <;> simp

@[simp] theorem kept_clearBbram (s : State) : kept (clearBbram s) = kept s := by simp [clearBbram]
@[simp] theorem keptOut_execLoamRailLow (pos : Fin 4) (s : State) : keptOut s (execLoamRailLow pos s) := by simp [execLoamRailLow]
@[simp] theorem keptOut_execVbattLow (s : State) : keptOut s (execVbattLow s) := by simp [execVbattLow]

@[simp] theorem keptOut_execRailOutOfLimits (monitor : Fin 32) (mv : Nat) (s : State) : keptOut s (execRailOutOfLimits monitor mv s) := by
  simp only [execRailOutOfLimits]
  repeat' split
  all_goals simp

@[simp] theorem kept_reachRelock (s : State) : kept (reachRelock s) = kept s := by simp [reachRelock, kept_foldl]
@[simp] theorem kept_reachUnlock (s : State) : kept (reachUnlock s) = kept s := by simp [reachUnlock, kept_foldl]

@[simp] theorem keptOut_execRefclkLoss (input : RefClk) (s : State) : keptOut s (execRefclkLoss input s) := by
  unfold execRefclkLoss
  repeat' split
  all_goals simp

@[simp] theorem keptOut_execRefclkReturn (input : RefClk) (s : State) : keptOut s (execRefclkReturn input s) := by
  unfold execRefclkReturn
  repeat' split
  all_goals simp

@[simp] theorem keptOut_execSynthLockLoss (pos : Fin 4) (s : State) : keptOut s (execSynthLockLoss pos s) := by
  unfold execSynthLockLoss
  split <;> simp

@[simp] theorem keptOut_execVidRampStep (pos : Fin 4) (s : State) : keptOut s (execVidRampStep pos s) := by
  simp only [execVidRampStep]
  split <;> simp

@[simp] theorem keptOut_execVoltageDrift (pos : Fin 4) (s : State) : keptOut s (execVoltageDrift pos s) := by
  unfold execVoltageDrift
  split <;> simp

@[simp] theorem keptOut_execThermalWarning (sensor : Fin 64) (mc : Int) (s : State) : keptOut s (execThermalWarning sensor mc s) := by
  unfold execThermalWarning
  repeat' split
  all_goals simp

@[simp] theorem keptOut_execThermalWarningEnd (sensor : Fin 64) (mc : Int) (s : State) : keptOut s (execThermalWarningEnd sensor mc s) := by
  unfold execThermalWarningEnd
  split <;> simp

@[simp] theorem keptOut_execThermalClamp (sensor : Fin 56) (s : State) : keptOut s (execThermalClamp sensor s) := by
  simp only [execThermalClamp]
  split <;> simp

@[simp] theorem keptOut_execClampEnd (pos : Fin 4) (s : State) : keptOut s (execClampEnd pos s) := by
  simp only [execClampEnd]
  split <;> simp

@[simp] theorem keptOut_execThermalTrip (src : TripSrc) (s : State) : keptOut s (execThermalTrip src s) := by
  unfold execThermalTrip
  split <;> simp [kept_foldl]

@[simp] theorem kept_zeroizeKeys (s : State) : kept (zeroizeKeys s) = kept s := by
  unfold zeroizeKeys
  extract_lets s1 s2
  have h2 : kept s2 = kept s1 := kept_foldl (fun s p => modPlot s p _) (fun _ _ => rfl) _ _
  rw [kept_modDbg, h2]
  simp [s1, kept_foldl]

@[simp] theorem kept_dropPkOps (s : State) : kept (dropPkOps s) = kept s := by simp [dropPkOps, kept_foldl]
@[simp] theorem kept_dropLoads (s : State) : kept (dropLoads s) = kept s := by simp [dropLoads, kept_foldl]

@[simp] theorem keptOut_execTamper (s : State) : keptOut s (execTamper s) := by
  unfold execTamper
  split <;> simp

@[simp] theorem keptOut_execRandomSourceHealthFailure (s : State) : keptOut s (execRandomSourceHealthFailure s) := by
  unfold execRandomSourceHealthFailure
  split <;> simp

@[simp] theorem keptOut_execTapInstruction (i : TapInstr) (s : State) : keptOut s (execTapInstruction i s) := by simp [execTapInstruction]
@[simp] theorem keptOut_execTapReset (s : State) : keptOut s (execTapReset s) := by simp [execTapReset]

@[simp] theorem keptOut_execBrdEvtInput (i : Fin 2) (s : State) : keptOut s (execBrdEvtInput i s) := by
  unfold execBrdEvtInput
  split <;> simp

@[simp] theorem keptOut_execBrdEvtRelease (i : Fin 2) (s : State) : keptOut s (execBrdEvtRelease i s) := by simp [execBrdEvtRelease]
@[simp] theorem keptOut_execEndpointHotReset (s : State) : keptOut s (execEndpointHotReset s) := by simp [execEndpointHotReset, kept_foldl]

/-! ### Packets at their destinations -/

@[simp] theorem kept_unserved (s : State) (p : Packet) : kept (unserved s p) = kept s := by simp [unserved]
@[simp] theorem kept_lateAnswer (s : State) : kept (lateAnswer s) = kept s := by simp [lateAnswer]

@[simp] theorem kept_memArrive (s : State) (p : Packet) : kept (memArrive s p) = kept s := by
  unfold memArrive
  split <;> simp

@[simp] theorem keptOut_execRead (p : Packet) (s : State) : keptOut s (execRead p s) := by
  unfold execRead
  split <;> simp

@[simp] theorem keptOut_execWrite (p : Packet) (s : State) : keptOut s (execWrite p s) := by
  unfold execWrite
  split <;> simp

@[simp] theorem keptOut_execWritePart (p : Packet) (s : State) : keptOut s (execWritePart p s) := by
  unfold execWritePart
  split <;> simp

@[simp] theorem keptOut_execLockRead (p : Packet) (s : State) : keptOut s (execLockRead p s) := by
  unfold execLockRead
  split <;> simp

@[simp] theorem keptOut_execUnlockWrite (p : Packet) (s : State) : keptOut s (execUnlockWrite p s) := by
  unfold execUnlockWrite
  split <;> simp

@[simp] theorem keptOut_execUnlock (p : Packet) (s : State) : keptOut s (execUnlock p s) := by
  unfold execUnlock
  split <;> simp

theorem kept_of_regRead {s t : State} {node off st v : Nat} (h : regRead s node off = some (st, v, t)) : kept t = kept s := by
  revert h
  unfold regRead
  repeat' split
  all_goals rintro ⟨⟩
  all_goals simp

theorem kept_of_regWrite {s t : State} {node off st : Nat} {v : Word} (h : regWrite s node off v = some (st, t)) :
    kept t = kept s := by
  unfold regWrite at h
  split at h
  · cases h; rfl
  · cases h; simp
  · split at h
    · cases h; simp
    · split at h
      · split at h
        · next hg => cases h; exact kept_of_gritRegWrite hg
        · cases h; rfl
      · cases h; rfl
  · split at h <;> cases h <;> simp
  · cases h; simp
  · cases h; rfl
  · cases h

@[simp] theorem keptOut_execRegRead (p : Packet) (s : State) : keptOut s (execRegRead p s) := by
  unfold execRegRead
  split
  · split
    · simp
    · simp only []
      split
      · next h => simp [kept_of_regRead h]
      · simp
  · rfl

@[simp] theorem keptOut_execRegWrite (p : Packet) (s : State) : keptOut s (execRegWrite p s) := by
  unfold execRegWrite
  split
  · split
    · simp
    · simp only []
      split
      · simp
      · split
        · next h => simp [kept_of_regWrite h]
        · simp
  · rfl

@[simp] theorem kept_nauMsg (s : State) (p : Packet) : kept (nauMsg s p) = kept s := by simp [nauMsg]

@[simp] theorem keptOut_execMsg (p : Packet) (s : State) : keptOut s (execMsg p s) := by
  unfold execMsg
  repeat' split
  all_goals simp

@[simp] theorem keptOut_execGrainCreate (p : Packet) (s : State) : keptOut s (execGrainCreate p s) := by
  simp only [execGrainCreate]
  repeat' split
  all_goals simp

@[simp] theorem keptOut_execGrainPush (p : Packet) (s : State) : keptOut s (execGrainPush p s) := by
  simp only [execGrainPush]
  repeat' split
  all_goals simp

@[simp] theorem keptOut_execDirective (p : Packet) (s : State) : keptOut s (execDirective p s) := by
  unfold execDirective
  repeat' split
  all_goals simp

@[simp] theorem keptOut_execDirReport (p : Packet) (s : State) : keptOut s (execDirReport p s) := by
  unfold execDirReport
  repeat' split
  all_goals simp

@[simp] theorem keptOut_execStream (p : Packet) (s : State) : keptOut s (execStream p s) := by
  simp only [execStream]
  repeat' split
  all_goals simp

@[simp] theorem keptOut_execEvent (p : Packet) (s : State) : keptOut s (execEvent p s) := by
  simp only [execEvent]
  repeat' split
  all_goals simp

@[simp] theorem keptOut_execFrame (p : Packet) (s : State) : keptOut s (execFrame p s) := by
  simp only [execFrame]
  repeat' split
  all_goals simp

@[simp] theorem kept_cfgTakes (s : State) (n : Nat) (p : Packet) : kept (cfgTakes s n p) = kept s := by
  unfold cfgTakes
  split <;> simp

@[simp] theorem kept_frameTakes (s : State) (p : Packet) : kept (frameTakes s p) = kept s := by simp [frameTakes]

@[simp] theorem kept_answerArrive (s : State) (p : Packet) : kept (answerArrive s p) = kept s := by
  unfold answerArrive
  split <;> simp

@[simp] theorem keptOut_execCompletion (p : Packet) (s : State) : keptOut s (execCompletion p s) := by
  unfold execCompletion
  split <;> simp

@[simp] theorem keptOut_execData (p : Packet) (s : State) : keptOut s (execData p s) := by
  unfold execData
  split <;> simp

@[simp] theorem keptOut_execDelivered (p : Packet) (s : State) : keptOut s (execDelivered p s) := by
  unfold execDelivered
  split
  · split
    · simp
    · refine kept_getD (fun t h => ?_) ?_
      · simp [kept_of_fwdDelivered h]
      · simp
    · simp
  · rfl

/-! ### Commands: information and jobs -/

@[simp] theorem kept_orElse (c : Option Ans) (s : State) (k : Ans × State) (h : kept k.2 = kept s) :
    kept (orElse c s k).2 = kept s := by
  cases c with
  | some a => rfl
  | none => exact h

@[simp] theorem kept_beginDrain (s : State) (id : Nat) : kept (beginDrain s id) = kept s := by simp [beginDrain]
@[simp] theorem kept_specCaps (w : Who) (p : Bytes) (s : State) : kept (specCaps.body w p s).2 = kept s := by simp [specCaps, capsBody]

@[simp] theorem kept_specIdCert (w : Who) (p : Bytes) (s : State) : kept (specIdCert.body w p s).2 = kept s := by
  simp [specIdCert, idCertBody]

@[simp] theorem kept_specJobStatus (w : Who) (p : Bytes) (s : State) : kept (specJobStatus.body w p s).2 = kept s := by
  simp only [specJobStatus, jobStatusBody]
  split <;> simp

@[simp] theorem kept_specJobCancel (w : Who) (p : Bytes) (s : State) : kept (specJobCancel.body w p s).2 = kept s := by
  simp only [specJobCancel, jobCancelBody]
  split <;> simp

@[simp] theorem kept_specJobList (w : Who) (p : Bytes) (s : State) : kept (specJobList.body w p s).2 = kept s := by
  simp [specJobList, jobListBody]

/-! ### Commands: profiles and homes -/

@[simp] theorem kept_specProfileLoad (w : Who) (p : Bytes) (s : State) : kept (specProfileLoad.body w p s).2 = kept s := by
  simp [specProfileLoad, profileLoadBody, profileLoadEffect]

@[simp] theorem kept_clearBank (s : State) (n : Nat) (active : Bool) : kept (clearBank s n active) = kept s := by simp [clearBank]

@[simp] theorem kept_stepProfileLoad (s : State) (id : Nat) (j : Job) : kept (stepProfileLoad s id j) = kept s := by
  simp only [stepProfileLoad]
  repeat' split
  all_goals simp

@[simp] theorem kept_specProfileSwap (w : Who) (p : Bytes) (s : State) : kept (specProfileSwap.body w p s).2 = kept s := by
  simp [specProfileSwap, profileSwapBody, profileSwapEffect]

@[simp] theorem kept_stepProfileSwap (s : State) (id : Nat) (j : Job) : kept (stepProfileSwap s id j) = kept s := by simp [stepProfileSwap]

@[simp] theorem kept_specProfileUnload (w : Who) (p : Bytes) (s : State) : kept (specProfileUnload.body w p s).2 = kept s := by
  simp [specProfileUnload, profileUnloadBody, profileUnloadEffect]

@[simp] theorem kept_specProfileRead (w : Who) (p : Bytes) (s : State) : kept (specProfileRead.body w p s).2 = kept s := by
  simp [specProfileRead, profileReadBody, profileReadEffect]

/-! ### Commands: agents and the coherence engine -/

@[simp] theorem kept_specHomeMapSet (w : Who) (p : Bytes) (s : State) : kept (specHomeMapSet.body w p s).2 = kept s := by
  simp [specHomeMapSet, homeMapSetBody, homeMapSetEffect]

@[simp] theorem kept_setDirBits (s : State) (e : HomeEnt) (v : Bool) : kept (setDirBits s e v) = kept s := by simp [setDirBits, kept_foldl]
@[simp] theorem kept_putHome (s : State) (i : Nat) (e : HomeEnt) : kept (putHome s i e) = kept s := by simp [putHome]

@[simp] theorem kept_stepHomeMapSet (s : State) (id : Nat) (j : Job) : kept (stepHomeMapSet s id j) = kept s := by
  simp only [stepHomeMapSet]
  repeat' split
  all_goals simp

@[simp] theorem kept_specHomeMapRead (w : Who) (p : Bytes) (s : State) : kept (specHomeMapRead.body w p s).2 = kept s := by
  simp [specHomeMapRead, homeMapReadBody]

@[simp] theorem kept_specAgentBind (w : Who) (p : Bytes) (s : State) : kept (specAgentBind.body w p s).2 = kept s := by
  simp [specAgentBind, agentBindBody, agentBindEffect]

@[simp] theorem kept_putAgents (s : State) (c : BitVec 96) (l : List Nat) : kept (putAgents s c l) = kept s := by simp [putAgents]

@[simp] theorem kept_stepAgentBind (s : State) (id : Nat) (j : Job) : kept (stepAgentBind s id j) = kept s := by
  simp only [stepAgentBind]
  repeat' split
  all_goals simp

@[simp] theorem kept_specAgentRead (w : Who) (p : Bytes) (s : State) : kept (specAgentRead.body w p s).2 = kept s := by
  simp [specAgentRead, agentReadBody, agentReadEffect]

@[simp] theorem kept_specPceSfAssign (w : Who) (p : Bytes) (s : State) : kept (specPceSfAssign.body w p s).2 = kept s := by
  simp [specPceSfAssign, pceSfAssignBody, kept_foldl]

@[simp] theorem kept_specPceRemap (w : Who) (p : Bytes) (s : State) : kept (specPceRemap.body w p s).2 = kept s := by
  simp [specPceRemap, pceRemapBody, pceRemapEffect]

@[simp] theorem kept_flushMoved (mv : List Nat) (s : State) (i : Nat) : kept (flushMoved mv s i) = kept s := by
  unfold flushMoved
  rw [kept_modSlice]
  refine kept_foldl _ (fun s kv => ?_) _ _
  split <;> simp

@[simp] theorem kept_remapTo (s : State) (new : List Nat) : kept (remapTo s new) = kept s := by simp [remapTo, kept_foldl]

@[simp] theorem kept_stepPceRemap (s : State) (id : Nat) (j : Job) : kept (stepPceRemap s id j) = kept s := by
  unfold stepPceRemap
  repeat' split
  all_goals simp

@[simp] theorem kept_specPceStatus (w : Who) (p : Bytes) (s : State) : kept (specPceStatus.body w p s).2 = kept s := by
  simp [specPceStatus, pceStatusBody, pceStatusEffect]

/-! ### Commands: plots, flows and Grain -/

@[simp] theorem kept_takeWindows (s : State) (p : Nat) (ws : List Window) : kept (takeWindows s p ws) = kept s := by
  simp [takeWindows, kept_foldl]

@[simp] theorem kept_plotCreate (s : State) (p : Nat) (r : Resources) (meas : BitVec 384) : kept (plotCreate s p r meas) = kept s := by
  simp [plotCreate, kept_foldl]

@[simp] theorem kept_specPlotCreate (w : Who) (p : Bytes) (s : State) : kept (specPlotCreate.body w p s).2 = kept s := by
  simp [specPlotCreate, plotCreateBody, plotCreateEffect]

@[simp] theorem kept_changeRes (s : State) (p : Nat) (r : Resources) (meas : BitVec 384) : kept (changeRes s p r meas) = kept s := by
  simp [changeRes, kept_foldl]

@[simp] theorem kept_specPlotChange (w : Who) (p : Bytes) (s : State) : kept (specPlotChange.body w p s).2 = kept s := by
  simp [specPlotChange, plotChangeBody, plotChangeEffect]

@[simp] theorem kept_specPlotDestroy (w : Who) (p : Bytes) (s : State) : kept (specPlotDestroy.body w p s).2 = kept s := by
  simp [specPlotDestroy, plotDestroyBody, plotDestroyEffect]

@[simp] theorem kept_stepPlotDestroy (s : State) (id : Nat) (j : Job) : kept (stepPlotDestroy s id j) = kept s := by simp [stepPlotDestroy]

@[simp] theorem kept_specPlotReset (w : Who) (p : Bytes) (s : State) : kept (specPlotReset.body w p s).2 = kept s := by
  simp [specPlotReset, plotResetBody, plotResetEffect]

@[simp] theorem kept_specPlotLoad (w : Who) (p : Bytes) (s : State) : kept (specPlotLoad.body w p s).2 = kept s := by
  simp [specPlotLoad, plotLoadBody, plotLoadEffect]

@[simp] theorem kept_returnPrefetched (s : State) (q : Nat) : kept (returnPrefetched s q) = kept s := by simp [returnPrefetched, kept_foldl]
@[simp] theorem kept_endQuiesce (s : State) (id : Nat) : kept (endQuiesce s id) = kept s := by simp [endQuiesce]

@[simp] theorem kept_startPlotBody (s : State) (id q : Nat) (img : Bytes) : kept (startPlotBody s id q img) = kept s := by
  simp [startPlotBody]

@[simp] theorem kept_stepPlotLoad (s : State) (id : Nat) (j : Job) : kept (stepPlotLoad s id j) = kept s := by
  simp only [stepPlotLoad]
  repeat' split
  all_goals simp

@[simp] theorem kept_specPlotStatus (w : Who) (p : Bytes) (s : State) : kept (specPlotStatus.body w p s).2 = kept s := by
  simp [specPlotStatus, plotStatusBody, plotStatusEffect]

@[simp] theorem kept_specFlowConfig (w : Who) (p : Bytes) (s : State) : kept (specFlowConfig.body w p s).2 = kept s := by
  simp [specFlowConfig, flowConfigBody, flowConfigEffect]

@[simp] theorem kept_putFlow (fields : BitVec 8) (c : DWord) (s : State) (f : Nat) : kept (putFlow fields c s f) = kept s := by
  simp [putFlow]

@[simp] theorem kept_stopFlow (s : State) (f : Nat) : kept (stopFlow s f) = kept s := by simp [stopFlow, kept_foldl]

@[simp] theorem kept_stepFlowConfig (s : State) (id : Nat) (j : Job) : kept (stepFlowConfig s id j) = kept s := by
  simp [stepFlowConfig, kept_foldl]

@[simp] theorem kept_specFlowStatus (w : Who) (p : Bytes) (s : State) : kept (specFlowStatus.body w p s).2 = kept s := by
  simp [specFlowStatus, flowStatusBody, flowStatusEffect]

@[simp] theorem kept_lendSlots (p m n : Nat) (l : List Nat) (s : State) : kept (lendSlots p m n l s).2 = kept s := by
  induction n generalizing l s with
  | zero => rfl
  | succ n ih => simp [lendSlots, ih]

@[simp] theorem kept_specSlotLend (w : Who) (p : Bytes) (s : State) : kept (specSlotLend.body w p s).2 = kept s := by
  simp [specSlotLend, slotLendBody, slotLendEffect]

@[simp] theorem kept_specSlotReclaim (w : Who) (p : Bytes) (s : State) : kept (specSlotReclaim.body w p s).2 = kept s := by
  simp [specSlotReclaim, slotReclaimBody, slotReclaimEffect]

@[simp] theorem kept_stepSlotReclaim (s : State) (id : Nat) (j : Job) : kept (stepSlotReclaim s id j) = kept s := by simp [stepSlotReclaim]

@[simp] theorem kept_specGrnConfig (w : Who) (p : Bytes) (s : State) : kept (specGrnConfig.body w p s).2 = kept s :=
  kept_orElse _ _ _ rfl

@[simp] theorem kept_specGrnStatus (w : Who) (p : Bytes) (s : State) : kept (specGrnStatus.body w p s).2 = kept s := by
  simp [specGrnStatus, grnStatusBody, grnStatusEffect]

/-! ### Commands: the vault -/

@[simp] theorem kept_specKeyImport (w : Who) (p : Bytes) (s : State) : kept (specKeyImport.body w p s).2 = kept s := by
  simp [specKeyImport, keyImportDone]

@[simp] theorem keptOut_execKeyImport (m : Fin 24) (slot : Fin 8) (p : Bytes) (s : State) : keptOut s (execKeyImport m slot p s) := by
  simp [execKeyImport]

@[simp] theorem kept_specKeyDrop (w : Who) (p : Bytes) (s : State) : kept (specKeyDrop.body w p s).2 = kept s := by
  simp [specKeyDrop, keyDropBody, keyDropEffect]

@[simp] theorem kept_specAttest (w : Who) (p : Bytes) (s : State) : kept (specAttest.body w p s).2 = kept s := by
  simp only [specAttest, attestDone]
  split <;> simp

@[simp] theorem keptOut_execAttest (m : Fin 24) (slot : Fin 8) (p : Bytes) (s : State) : keptOut s (execAttest m slot p s) := by
  simp [execAttest]

@[simp] theorem kept_specVaultStatus (w : Who) (p : Bytes) (s : State) : kept (specVaultStatus.body w p s).2 = kept s := by
  simp [specVaultStatus, vaultStatusBody]

@[simp] theorem kept_specFuseProg (w : Who) (p : Bytes) (s : State) : kept (specFuseProg.body w p s).2 = kept s := by
  simp [specFuseProg, fuseProgBody, fuseProgEffect]

/-- FUSE_PROG programs the owner's fuses only: those of manufacture stay (R55, R57). -/
theorem fusesAfter_keeps {s : State} {p : Bytes} {v : Vault} (h : fusesAfter s p = some v) :
    v.vendorRootHash = s.vault.vendorRootHash ∧ v.serial = s.vault.serial := by
  simp only [fusesAfter] at h
  repeat' split at h
  all_goals cases h
  all_goals exact ⟨rfl, rfl⟩

@[simp] theorem kept_stepFuseProg (s : State) (id : Nat) (j : Job) : kept (stepFuseProg s id j) = kept s := by
  unfold stepFuseProg
  split
  · next h =>
    obtain ⟨hr, hs⟩ := fusesAfter_keeps h
    rw [kept_jobOk, kept_modVault_of s _ hr hs]
  · simp

@[simp] theorem kept_specBbramKeyWrite (w : Who) (p : Bytes) (s : State) : kept (specBbramKeyWrite.body w p s).2 = kept s := by
  simp [specBbramKeyWrite, bbramKeyWriteBody]

@[simp] theorem kept_specBbramClear (w : Who) (p : Bytes) (s : State) : kept (specBbramClear.body w p s).2 = kept s := by
  simp [specBbramClear, bbramClearBody]

@[simp] theorem kept_specTamperClear (w : Who) (p : Bytes) (s : State) : kept (specTamperClear.body w p s).2 = kept s := by
  simp [specTamperClear, tamperClearBody]

/-! ### Commands: memory -/

theorem kept_of_mgmtBlocked {s : State} {pl a : Nat} {r : Nat × State} (h : mgmtBlocked s pl a = some r) : kept r.2 = kept s := by
  revert h
  unfold mgmtBlocked
  repeat' split
  all_goals rintro ⟨⟩
  all_goals simp

@[simp] theorem kept_mgmtRead (s : State) (pl a : Nat) : kept (mgmtRead s pl a).2.2 = kept s := by
  unfold mgmtRead
  split
  · next h => exact kept_of_mgmtBlocked h
  · simp

@[simp] theorem kept_mgmtWrite (s : State) (pl a : Nat) (data : Line) : kept (mgmtWrite s pl a data).2 = kept s := by
  unfold mgmtWrite
  split
  · next h => exact kept_of_mgmtBlocked h
  · simp

@[simp] theorem kept_mgmtReads (pl : Nat) (l : List Nat) (s : State) : kept (mgmtReads pl l s).2.2 = kept s := by
  induction l generalizing s with
  | nil => rfl
  | cons a l ih => simp [mgmtReads, ih]

@[simp] theorem kept_mgmtWrites (pl : Nat) (data : Bytes) (n : Nat) (l : List Nat) (s : State) :
    kept (mgmtWrites pl data n l s).2 = kept s := by
  induction l generalizing n s with
  | nil => rfl
  | cons a l ih => simp [mgmtWrites, ih]

@[simp] theorem kept_specMemRead (w : Who) (p : Bytes) (s : State) : kept (specMemRead.body w p s).2 = kept s := by
  simp [specMemRead, memReadBody]

@[simp] theorem keptOut_execMemRead (m : Fin 24) (slot : Fin 8) (p : Bytes) (s : State) : keptOut s (execMemRead m slot p s) := by
  unfold execMemRead
  split
  · rfl
  · exact kept_runCmd kept_specMemRead _ _ _ _

@[simp] theorem kept_specMemWrite (w : Who) (p : Bytes) (s : State) : kept (specMemWrite.body w p s).2 = kept s := by
  simp [specMemWrite, memWriteBody]

@[simp] theorem keptOut_execMemWrite (m : Fin 24) (slot : Fin 8) (p : Bytes) (s : State) : keptOut s (execMemWrite m slot p s) := by
  unfold execMemWrite
  split
  · rfl
  · exact kept_runCmd kept_specMemWrite _ _ _ _

@[simp] theorem kept_stepMemWrite (s : State) (id : Nat) (j : Job) : kept (stepMemWrite s id j) = kept s := by
  unfold stepMemWrite
  split <;> simp

@[simp] theorem kept_specKaoConfig (w : Who) (p : Bytes) (s : State) : kept (specKaoConfig.body w p s).2 = kept s := by
  simp [specKaoConfig, kaoConfigBody, kaoConfigEffect]

@[simp] theorem kept_stepKaoConfig (s : State) (id : Nat) (j : Job) : kept (stepKaoConfig s id j) = kept s := by simp [stepKaoConfig]
@[simp] theorem kept_kaoClear (s : State) (p lx : Nat) : kept (kaoClear s p lx) = kept s := by simp [kaoClear, kept_foldl]

@[simp] theorem kept_kaoStatusBody (w : Who) (p : Bytes) (s : State) : kept (kaoStatusBody w p s).2 = kept s := by
  simp [kaoStatusBody, kaoStatusEffect]

@[simp] theorem kept_specKaoStatus (w : Who) (p : Bytes) (s : State) : kept (specKaoStatus.body w p s).2 = kept s := by simp [specKaoStatus]

@[simp] theorem kept_specKaoMapSet (w : Who) (p : Bytes) (s : State) : kept (specKaoMapSet.body w p s).2 = kept s := by
  simp [specKaoMapSet, kaoMapSetBody, kaoMapSetEffect]

@[simp] theorem kept_stepKaoMapSet (s : State) (id : Nat) (j : Job) : kept (stepKaoMapSet s id j) = kept s := by
  unfold stepKaoMapSet
  split <;> simp

@[simp] theorem kept_specKaoOpSet (w : Who) (p : Bytes) (s : State) : kept (specKaoOpSet.body w p s).2 = kept s := by
  simp [specKaoOpSet, kaoOpSetBody, kaoOpSetEffect]

@[simp] theorem kept_selfRefresh (s : State) (q : Nat) : kept (selfRefresh s q) = kept s := by simp [selfRefresh, kept_foldl]
@[simp] theorem kept_stepKaoOpSet (s : State) (id : Nat) (j : Job) : kept (stepKaoOpSet s id j) = kept s := by simp [stepKaoOpSet]

@[simp] theorem kept_specKaoChanOffline (w : Who) (p : Bytes) (s : State) : kept (specKaoChanOffline.body w p s).2 = kept s := by
  simp [specKaoChanOffline, kaoOfflineBody, kaoOfflineEffect]

@[simp] theorem kept_makePermanent (s : State) (p c : Nat) : kept (makePermanent s p c) = kept s := by simp [makePermanent]

@[simp] theorem kept_specKaoChanOnline (w : Who) (p : Bytes) (s : State) : kept (specKaoChanOnline.body w p s).2 = kept s := by
  simp [specKaoChanOnline, kaoOnlineBody, kaoOnlineEffect]

@[simp] theorem kept_stepCopy (s : State) (id : Nat) (j : Job) : kept (stepCopy s id j) = kept s := by simp [stepCopy]

@[simp] theorem kept_specKaoBist (w : Who) (p : Bytes) (s : State) : kept (specKaoBist.body w p s).2 = kept s := by
  simp [specKaoBist, kaoBistBody, kaoBistEffect]

@[simp] theorem kept_drawRows (n : Nat) (s : State) : kept (drawRows n s).2 = kept s := by
  induction n generalizing s with
  | zero => rfl
  | succ n ih => simp [drawRows, ih]

@[simp] theorem kept_bistFails (s : State) (p c : Nat) : kept (bistFails s p c) = kept s := by simp [bistFails]
@[simp] theorem kept_stepKaoBist (s : State) (id : Nat) (j : Job) : kept (stepKaoBist s id j) = kept s := by simp [stepKaoBist]

@[simp] theorem kept_specKaoScrub (w : Who) (p : Bytes) (s : State) : kept (specKaoScrub.body w p s).2 = kept s := by
  simp [specKaoScrub, kaoScrubBody, kaoScrubEffect]

@[simp] theorem kept_scrubCheck (l : List Nat) (s : State) : kept (scrubCheck l s).2 = kept s := by
  induction l generalizing s with
  | nil => rfl
  | cons a l ih => simp [scrubCheck, ih]

@[simp] theorem kept_scrubClear (s : State) (a : Nat) : kept (scrubClear s a) = kept s := by simp [scrubClear]

@[simp] theorem kept_stepKaoScrub (s : State) (id : Nat) (j : Job) : kept (stepKaoScrub s id j) = kept s := by
  simp [stepKaoScrub, kept_foldl]

@[simp] theorem kept_specKaoInject (w : Who) (p : Bytes) (s : State) : kept (specKaoInject.body w p s).2 = kept s := by
  simp [specKaoInject, kaoInjectBody, kaoInjectEffect]

@[simp] theorem kept_specKaoPatrolSet (w : Who) (p : Bytes) (s : State) : kept (specKaoPatrolSet.body w p s).2 = kept s :=
  kept_orElse _ _ _ rfl

@[simp] theorem kept_specPeatConfig (w : Who) (p : Bytes) (s : State) : kept (specPeatConfig.body w p s).2 = kept s := by
  simp [specPeatConfig, peatConfigBody, peatConfigEffect]

@[simp] theorem kept_stepPeatConfig (s : State) (id : Nat) (j : Job) : kept (stepPeatConfig s id j) = kept s := by
  unfold stepPeatConfig
  split <;> simp

@[simp] theorem kept_specPeatScrub (w : Who) (p : Bytes) (s : State) : kept (specPeatScrub.body w p s).2 = kept s := by
  simp [specPeatScrub, peatScrubBody, peatScrubEffect]

@[simp] theorem kept_stepPeatScrub (s : State) (id : Nat) (j : Job) : kept (stepPeatScrub s id j) = kept s := by
  unfold stepPeatScrub
  split <;> simp

@[simp] theorem kept_specPeatStatus (w : Who) (p : Bytes) (s : State) : kept (specPeatStatus.body w p s).2 = kept s := by
  simp [specPeatStatus, peatStatusBody]

/-! ### Commands: Silt -/

@[simp] theorem kept_specSiltRouteLoad (w : Who) (p : Bytes) (s : State) : kept (specSiltRouteLoad.body w p s).2 = kept s := by
  simp [specSiltRouteLoad, routeLoadBody, routeLoadEffect]

@[simp] theorem kept_stepRouteLoad (s : State) (id : Nat) (j : Job) : kept (stepRouteLoad s id j) = kept s := by simp [stepRouteLoad]

@[simp] theorem kept_specSiltRouteRead (w : Who) (p : Bytes) (s : State) : kept (specSiltRouteRead.body w p s).2 = kept s := by
  simp [specSiltRouteRead, routeReadBody, routeReadEffect]

@[simp] theorem kept_specSiltBypass (w : Who) (p : Bytes) (s : State) : kept (specSiltBypass.body w p s).2 = kept s := by
  simp [specSiltBypass, bypassBody, bypassEffect]

@[simp] theorem kept_stepBypass (s : State) (id : Nat) (j : Job) : kept (stepBypass s id j) = kept s := by
  simp only [stepBypass]
  repeat' split
  all_goals simp

@[simp] theorem kept_specSiltStatus (w : Who) (p : Bytes) (s : State) : kept (specSiltStatus.body w p s).2 = kept s := by
  simp [specSiltStatus, siltStatusBody, siltStatusEffect]

@[simp] theorem kept_specSiltTargetRevive (w : Who) (p : Bytes) (s : State) : kept (specSiltTargetRevive.body w p s).2 = kept s :=
  kept_orElse _ _ _ rfl

@[simp] theorem kept_specSiltProbeSet (w : Who) (p : Bytes) (s : State) : kept (specSiltProbeSet.body w p s).2 = kept s :=
  kept_orElse _ _ _ rfl

@[simp] theorem kept_specSiltTraceRead (w : Who) (p : Bytes) (s : State) : kept (specSiltTraceRead.body w p s).2 = kept s := by
  simp [specSiltTraceRead, traceReadBody, traceReadEffect]

@[simp] theorem kept_specSiltLeaseSet (w : Who) (p : Bytes) (s : State) : kept (specSiltLeaseSet.body w p s).2 = kept s :=
  kept_orElse _ _ _ rfl

@[simp] theorem kept_specNauRateSet (w : Who) (p : Bytes) (s : State) : kept (specNauRateSet.body w p s).2 = kept s := by
  simp [specNauRateSet, nauRateSetBody, nauRateSetEffect]

@[simp] theorem kept_specNauConfig (w : Who) (p : Bytes) (s : State) : kept (specNauConfig.body w p s).2 = kept s := by
  simp [specNauConfig, nauConfigBody, nauConfigEffect]

@[simp] theorem kept_specNauStatus (w : Who) (p : Bytes) (s : State) : kept (specNauStatus.body w p s).2 = kept s := by
  simp [specNauStatus, nauStatusBody, nauStatusEffect]

/-! ### Commands: Tilth -/

@[simp] theorem kept_drawLanes (s : State) : kept (drawLanes s) = kept s := by simp [drawLanes]

@[simp] theorem kept_dlinkStatusBody (w : Who) (p : Bytes) (s : State) : kept (dlinkStatusBody w p s).2 = kept s := by
  simp [dlinkStatusBody, dlinkStatusEffect]

@[simp] theorem kept_specDlinkStatus (w : Who) (p : Bytes) (s : State) : kept (specDlinkStatus.body w p s).2 = kept s := by
  simp [specDlinkStatus]

@[simp] theorem kept_specDlinkSwap (w : Who) (p : Bytes) (s : State) : kept (specDlinkSwap.body w p s).2 = kept s := by
  simp [specDlinkSwap, dlinkSwapBody, dlinkSwapEffect]

@[simp] theorem kept_stepDlinkSwap (s : State) (id : Nat) (j : Job) : kept (stepDlinkSwap s id j) = kept s := by simp [stepDlinkSwap]

@[simp] theorem kept_specDlinkHalve (w : Who) (p : Bytes) (s : State) : kept (specDlinkHalve.body w p s).2 = kept s := by
  simp [specDlinkHalve, dlinkHalveBody, dlinkHalveEffect]

@[simp] theorem kept_stepDlinkHalve (s : State) (id : Nat) (j : Job) : kept (stepDlinkHalve s id j) = kept s := by simp [stepDlinkHalve]

@[simp] theorem kept_specDlinkMargin (w : Who) (p : Bytes) (s : State) : kept (specDlinkMargin.body w p s).2 = kept s := by
  simp [specDlinkMargin, dlinkMarginBody, dlinkMarginEffect, kept_foldl]

@[simp] theorem kept_specDieIsolate (w : Who) (p : Bytes) (s : State) : kept (specDieIsolate.body w p s).2 = kept s := by
  simp [specDieIsolate, dieIsolateBody, dieIsolateEffect]

@[simp] theorem kept_stepDieIsolate (s : State) (id : Nat) (j : Job) : kept (stepDieIsolate s id j) = kept s := by simp [stepDieIsolate]

@[simp] theorem kept_specKaoChanReplace (w : Who) (p : Bytes) (s : State) : kept (specKaoChanReplace.body w p s).2 = kept s := by
  simp [specKaoChanReplace, chanReplaceBody, chanReplaceEffect]

@[simp] theorem kept_specRowSpare (w : Who) (p : Bytes) (s : State) : kept (specRowSpare.body w p s).2 = kept s :=
  kept_orElse _ _ _ (kept_getD (fun _ h => kept_of_spareRow h) rfl)

@[simp] theorem kept_specTilthPolicy (w : Who) (p : Bytes) (s : State) : kept (specTilthPolicy.body w p s).2 = kept s :=
  kept_orElse _ _ _ rfl

@[simp] theorem kept_specTilthStatus (w : Who) (p : Bytes) (s : State) : kept (specTilthStatus.body w p s).2 = kept s := by
  simp [specTilthStatus, tilthStatusBody]

@[simp] theorem kept_specTilthClear (w : Who) (p : Bytes) (s : State) : kept (specTilthClear.body w p s).2 = kept s := by
  simp [specTilthClear, tilthClearBody, tilthClearEffect]

@[simp] theorem kept_stepTilthClear (s : State) (id : Nat) (j : Job) : kept (stepTilthClear s id j) = kept s := by
  unfold stepTilthClear
  split <;> simp

@[simp] theorem kept_specCrcSelftest (w : Who) (p : Bytes) (s : State) : kept (specCrcSelftest.body w p s).2 = kept s := by
  simp [specCrcSelftest, crcSelftestBody, crcSelftestEffect]

@[simp] theorem kept_specPeatRetire (w : Who) (p : Bytes) (s : State) : kept (specPeatRetire.body w p s).2 = kept s := by
  simp [specPeatRetire, peatRetireBody, peatRetireEffect]

@[simp] theorem kept_stepPeatRetire (s : State) (id : Nat) (j : Job) : kept (stepPeatRetire s id j) = kept s := by
  unfold stepPeatRetire
  split <;> simp

/-! ### Commands: ports and links -/

@[simp] theorem kept_linkHeldOff (s : State) (l : Nat) : kept (linkHeldOff s l) = kept s := by simp [linkHeldOff]
@[simp] theorem kept_portTaken (s : State) (n : Nat) : kept (portTaken s n) = kept s := by simp [portTaken]
@[simp] theorem kept_portWaits (s : State) (id n : Nat) (j : Job) : kept (portWaits s id n j) = kept s := by simp [portWaits]
@[simp] theorem kept_toStage (s : State) (id k : Nat) : kept (toStage s id k) = kept s := by simp [toStage]

@[simp] theorem kept_stepPort (s : State) (id : Nat) (j : Job) (change : State → State) (h : ∀ s, kept (change s) = kept s) :
    kept (stepPort s id j change) = kept s := by simp [stepPort, h]

@[simp] theorem kept_specPortConfig (w : Who) (p : Bytes) (s : State) : kept (specPortConfig.body w p s).2 = kept s := by
  simp [specPortConfig, portConfigBody, portConfigEffect]

@[simp] theorem kept_setPort (p : Bytes) (s : State) : kept (setPort p s) = kept s := by simp [setPort]
@[simp] theorem kept_stepPortConfig (s : State) (id : Nat) (j : Job) : kept (stepPortConfig s id j) = kept s := by simp [stepPortConfig]

@[simp] theorem kept_specPortReset (w : Who) (p : Bytes) (s : State) : kept (specPortReset.body w p s).2 = kept s := by
  simp [specPortReset, portResetBody, portResetEffect]

@[simp] theorem kept_stepPortReset (s : State) (id : Nat) (j : Job) : kept (stepPortReset s id j) = kept s := by simp [stepPortReset]

@[simp] theorem kept_specIdeKeySet (w : Who) (p : Bytes) (s : State) : kept (specIdeKeySet.body w p s).2 = kept s := by
  simp [specIdeKeySet, ideKeySetBody, ideKeySetEffect]

@[simp] theorem kept_setIdeKeys (p : Bytes) (s : State) : kept (setIdeKeys p s) = kept s := by simp [setIdeKeys]
@[simp] theorem kept_stepIdeKeySet (s : State) (id : Nat) (j : Job) : kept (stepIdeKeySet s id j) = kept s := by simp [stepIdeKeySet]

@[simp] theorem kept_specPortLoopback (w : Who) (p : Bytes) (s : State) : kept (specPortLoopback.body w p s).2 = kept s := by
  simp [specPortLoopback, portLoopbackBody, portLoopbackEffect]

@[simp] theorem kept_drawWords (bits n : Nat) (s : State) : kept (drawWords bits n s).2 = kept s := by
  induction n generalizing s with
  | zero => rfl
  | succ n ih => simp [drawWords, ih]

@[simp] theorem kept_loopLanes (s : State) (l rate : Nat) : kept (loopLanes s l rate) = kept s := by simp [loopLanes, kept_foldl]

@[simp] theorem kept_stepPortLoopback (s : State) (id : Nat) (j : Job) : kept (stepPortLoopback s id j) = kept s := by
  simp [stepPortLoopback, kept_foldl]

@[simp] theorem kept_portStatusBody (w : Who) (p : Bytes) (s : State) : kept (portStatusBody w p s).2 = kept s := by
  simp [portStatusBody, portStatusEffect]

@[simp] theorem kept_specPortStatus (w : Who) (p : Bytes) (s : State) : kept (specPortStatus.body w p s).2 = kept s := by
  simp [specPortStatus]

@[simp] theorem kept_laneClear (s : State) (f : Nat) : kept (laneClear s f) = kept s := by simp [laneClear]

@[simp] theorem kept_specLaneStatus (w : Who) (p : Bytes) (s : State) : kept (specLaneStatus.body w p s).2 = kept s := by
  simp [specLaneStatus, laneStatusBody, laneStatusEffect, kept_foldl]

@[simp] theorem kept_specLaneMargin (w : Who) (p : Bytes) (s : State) : kept (specLaneMargin.body w p s).2 = kept s := by
  simp [specLaneMargin, laneMarginBody, laneMarginEffect]

@[simp] theorem kept_stepLaneMargin (s : State) (id : Nat) (j : Job) : kept (stepLaneMargin s id j) = kept s := by
  unfold stepLaneMargin
  split <;> simp

@[simp] theorem kept_laneSleep (s : State) (f : Nat) (tx rx : Bool) : kept (laneSleep s f tx rx) = kept s := by simp [laneSleep]

@[simp] theorem kept_specLaneSleep (w : Who) (p : Bytes) (s : State) : kept (specLaneSleep.body w p s).2 = kept s := by
  simp [specLaneSleep, laneSleepBody, laneSleepEffect]

@[simp] theorem kept_specReachConfig (w : Who) (p : Bytes) (s : State) : kept (specReachConfig.body w p s).2 = kept s := by
  simp [specReachConfig, reachConfigBody, reachConfigEffect]

@[simp] theorem kept_setReach (p : Bytes) (s : State) : kept (setReach p s) = kept s := by simp [setReach]
@[simp] theorem kept_stepReachConfig (s : State) (id : Nat) (j : Job) : kept (stepReachConfig s id j) = kept s := by simp [stepReachConfig]

/-! ### Commands: configuration -/

theorem kept_settingSpecs : ∀ c ∈ settingSpecs, ∀ w p s, kept (c.body w p s).2 = kept s := by simp [settingSpecs]

@[simp] theorem kept_settingAns (r : Nat × Bytes) (s : State) : kept (settingAns r s).2 = kept s := by
  unfold settingAns
  split
  · next c hc => exact kept_runBody c _ _ _ (kept_settingSpecs c (List.mem_of_find?_eq_some hc))
  · rfl

@[simp] theorem kept_startLanes (s : State) : kept (startLanes s) = kept s := by simp [startLanes, kept_foldl]

@[simp] theorem kept_specCfgLoad (w : Who) (p : Bytes) (s : State) : kept (specCfgLoad.body w p s).2 = kept s := by
  simp [specCfgLoad, cfgLoadBody, cfgLoadEffect]

@[simp] theorem keptOut_execFrameWriterBlock (job : Fin 65536) (block : Bytes) (s : State) :
    keptOut s (execFrameWriterBlock job block s) := by
  unfold execFrameWriterBlock
  split
  · split
    · rfl
    split
    · simp
    split
    · rfl
    split
    · simp
    · next h => simp [kept_of_blockStep h]
  · rfl

@[simp] theorem keptOut_execChainSegment (container : Bytes) (s : State) : keptOut s (execChainSegment container s) := by
  simp only [execChainSegment]
  repeat' split
  all_goals simp

@[simp] theorem kept_cutForwarded (s : State) : kept (cutForwarded s) = kept s := by
  unfold cutForwarded
  split <;> simp

@[simp] theorem keptOut_execChainLockLoss (pair : Fin 4) (s : State) : keptOut s (execChainLockLoss pair s) := by
  unfold execChainLockLoss
  repeat' split
  all_goals simp

@[simp] theorem kept_specCfgClear (w : Who) (p : Bytes) (s : State) : kept (specCfgClear.body w p s).2 = kept s := by
  simp [specCfgClear, cfgClearBody, cfgClearEffect]

@[simp] theorem kept_stepCfgClear (s : State) (id : Nat) (j : Job) : kept (stepCfgClear s id j) = kept s := by
  unfold stepCfgClear
  split <;> simp

@[simp] theorem kept_specCfgStatus (w : Who) (p : Bytes) (s : State) : kept (specCfgStatus.body w p s).2 = kept s := by
  simp [specCfgStatus, cfgStatusBody]

@[simp] theorem kept_specCfgStore (w : Who) (p : Bytes) (s : State) : kept (specCfgStore.body w p s).2 = kept s := by
  simp [specCfgStore, cfgStoreBody, cfgStoreEffect]

@[simp] theorem kept_stepCfgStore (s : State) (id : Nat) (j : Job) : kept (stepCfgStore s id j) = kept s := by
  unfold stepCfgStore
  extract_lets b
  clear_value b
  split
  · rw [kept_jobFail]
  split
  · rw [kept_jobFail]
  split
  · rw [kept_jobFail]
  · rw [kept_jobOk, kept_sysWrite, kept_modPeat, kept_takeBlocks]

@[simp] theorem kept_specCfgErase (w : Who) (p : Bytes) (s : State) : kept (specCfgErase.body w p s).2 = kept s := by
  simp [specCfgErase, cfgEraseBody, cfgEraseEffect]

@[simp] theorem kept_stepCfgErase (s : State) (id : Nat) (j : Job) : kept (stepCfgErase s id j) = kept s := by
  unfold stepCfgErase
  split <;> simp

@[simp] theorem kept_specCfgBootSet (w : Who) (p : Bytes) (s : State) : kept (specCfgBootSet.body w p s).2 = kept s := by
  simp [specCfgBootSet, cfgBootSetBody, cfgBootSetEffect]

@[simp] theorem kept_stepCfgBootSet (s : State) (id : Nat) (j : Job) : kept (stepCfgBootSet s id j) = kept s := by
  unfold stepCfgBootSet
  split <;> simp

@[simp] theorem kept_specCfgDir (w : Who) (p : Bytes) (s : State) : kept (specCfgDir.body w p s).2 = kept s := by
  simp [specCfgDir, cfgDirBody]

@[simp] theorem kept_specCfgReadback (w : Who) (p : Bytes) (s : State) : kept (specCfgReadback.body w p s).2 = kept s := by
  simp [specCfgReadback, cfgReadbackBody, cfgReadbackEffect]

@[simp] theorem kept_scanCount (s : State) : kept (scanCount s) = kept s := by simp [scanCount]
@[simp] theorem kept_scanCorrected (s : State) (a : Nat) (ess : Bool) : kept (scanCorrected s a ess) = kept s := by simp [scanCorrected]
@[simp] theorem kept_scanUncorr (s : State) (a : Nat) (ess : Bool) : kept (scanUncorr s a ess) = kept s := by simp [scanUncorr, kept_foldl]

@[simp] theorem keptOut_execFrameScanRead (addr : Word) (found : ScanFound) (s : State) : keptOut s (execFrameScanRead addr found s) := by
  simp only [execFrameScanRead]
  repeat' split
  all_goals simp

@[simp] theorem kept_specCfgScanStatus (w : Who) (p : Bytes) (s : State) : kept (specCfgScanStatus.body w p s).2 = kept s := by
  simp [specCfgScanStatus, cfgScanStatusBody, cfgScanStatusEffect]

@[simp] theorem kept_fwPiece (w : Who) (p : Bytes) (s : State) : kept (fwPiece w p s).2 = kept s := by simp [fwPiece]

@[simp] theorem kept_specFwUpdate (w : Who) (p : Bytes) (s : State) : kept (specFwUpdate.body w p s).2 = kept s := by
  simp [specFwUpdate, fwUpdateBody, fwUpdateEffect]

@[simp] theorem kept_stepFwUpdate (s : State) (id : Nat) (j : Job) : kept (stepFwUpdate s id j) = kept s := by
  unfold stepFwUpdate
  extract_lets img k s1 s2
  clear_value img
  have h1 : kept s1 = kept s := by rw [kept_modPeat]
  have h2 : kept s2 = kept s := by rw [kept_jobOk, h1]
  clear_value s2
  split
  · rw [kept_jobFail]
  · split
    · split
      · exact (kept_modSys s2 _ fun _ => rfl).trans h2
      · exact h2
    · rw [kept_jobFail, kept_modPeat, h1]

@[simp] theorem kept_specFwActivate (w : Who) (p : Bytes) (s : State) : kept (specFwActivate.body w p s).2 = kept s :=
  kept_orElse _ _ _ rfl

@[simp] theorem keptOut_execFwActivate (m : Fin 24) (slot : Fin 8) (p : Bytes) (s : State) : keptOut s (execFwActivate m slot p s) := by
  have h : kept (runCmd specFwActivate m.val slot.val p s) = kept s := kept_runCmd kept_specFwActivate _ _ _ _
  simp [execFwActivate, h]

/-! ### Commands: events and records -/

@[simp] theorem kept_specEvtRoute (w : Who) (p : Bytes) (s : State) : kept (specEvtRoute.body w p s).2 = kept s := by
  simp [specEvtRoute, evtRouteBody, evtRouteEffect]

@[simp] theorem kept_specEvtRearm (w : Who) (p : Bytes) (s : State) : kept (specEvtRearm.body w p s).2 = kept s := by
  simp [specEvtRearm, evtRearmBody, evtRearmEffect]

@[simp] theorem kept_specEvtStatus (w : Who) (p : Bytes) (s : State) : kept (specEvtStatus.body w p s).2 = kept s := by
  simp [specEvtStatus, evtStatusBody, evtStatusEffect]

@[simp] theorem kept_specErrRead (w : Who) (p : Bytes) (s : State) : kept (specErrRead.body w p s).2 = kept s := by
  simp [specErrRead, errReadBody]

@[simp] theorem keptOut_execSourceRaise (src : Fin 768) (s : State) : keptOut s (execSourceRaise src s) := by simp [execSourceRaise]

@[simp] theorem keptOut_execCoalesceDelivery (src : Fin 768) (s : State) : keptOut s (execCoalesceDelivery src s) := by
  simp only [execCoalesceDelivery]
  split <;> simp

@[simp] theorem keptOut_execCoalescingEnd (src : Fin 768) (s : State) : keptOut s (execCoalescingEnd src s) := by
  simp only [execCoalescingEnd]
  split <;> simp

@[simp] theorem keptOut_execAutoMasked (src : Fin 768) (s : State) : keptOut s (execAutoMasked src s) := by
  simp only [execAutoMasked]
  split <;> simp

@[simp] theorem keptOut_execHandlingWindowClose (seq : Word) (s : State) : keptOut s (execHandlingWindowClose seq s) := by
  simp [execHandlingWindowClose]

@[simp] theorem kept_readRecords (s : State) : kept (readRecords s) = kept s := by simp [readRecords]
@[simp] theorem kept_peatCopy (s : State) (d : Dump) : kept (peatCopy s d) = kept s := by simp [peatCopy]
@[simp] theorem kept_beginDump (s : State) : kept (beginDump s) = kept s := by simp [beginDump]

@[simp] theorem keptOut_execDumpWrite (s : State) : keptOut s (execDumpWrite s) := by
  unfold execDumpWrite
  split <;> simp

@[simp] theorem kept_stepDump (s : State) (id : Nat) (j : Job) : kept (stepDump s id j) = kept s := by
  unfold stepDump
  split <;> simp

@[simp] theorem kept_specDumpList (w : Who) (p : Bytes) (s : State) : kept (specDumpList.body w p s).2 = kept s := by
  simp [specDumpList, dumpListBody]

@[simp] theorem kept_specDumpRead (w : Who) (p : Bytes) (s : State) : kept (specDumpRead.body w p s).2 = kept s := by
  simp [specDumpRead, dumpReadBody, dumpReadEffect]

@[simp] theorem kept_specDumpPolicy (w : Who) (p : Bytes) (s : State) : kept (specDumpPolicy.body w p s).2 = kept s := by
  simp [specDumpPolicy, dumpPolicyBody, dumpPolicyEffect]

@[simp] theorem kept_specDumpErase (w : Who) (p : Bytes) (s : State) : kept (specDumpErase.body w p s).2 = kept s := by
  simp [specDumpErase, dumpEraseBody, dumpEraseEffect]

@[simp] theorem kept_stepDumpErase (s : State) (id : Nat) (j : Job) : kept (stepDumpErase s id j) = kept s := by simp [stepDumpErase]

/-! ### Commands: debug sessions -/

@[simp] theorem kept_hitRead (s : State) (id : Nat) : kept (hitRead s id) = kept s := by simp [hitRead]

@[simp] theorem keptOut_execSiltBrkHitRead (session : Fin 65536) (s : State) : keptOut s (execSiltBrkHitRead session s) := by
  simp [execSiltBrkHitRead]

@[simp] theorem kept_coreWrite (s : State) (id : Nat) (v : Word) : kept (coreWrite s id v) = kept s := by
  unfold coreWrite
  split <;> simp

@[simp] theorem keptOut_execSiltDbgCoreWrite (session : Fin 65536) (v : Word) (s : State) :
    keptOut s (execSiltDbgCoreWrite session v s) := by simp [execSiltDbgCoreWrite]

@[simp] theorem keptOut_execCoreHaltExpiry (s : State) : keptOut s (execCoreHaltExpiry s) := by simp [execCoreHaltExpiry]
@[simp] theorem kept_sessRegWrite (s : State) (id off : Nat) (v : Word) : kept (sessRegWrite s id off v) = kept s := by simp [sessRegWrite]

@[simp] theorem kept_dbgReadLine (s : State) (a : Nat) : kept (dbgReadLine s a).2.2 = kept s := by
  simp only [dbgReadLine]
  repeat' split
  all_goals simp

@[simp] theorem kept_dbgWriteLine (s : State) (a : Nat) (data : Line) : kept (dbgWriteLine s a data).2 = kept s := by simp [dbgWriteLine]

@[simp] theorem kept_dbgReads (l : List Nat) (s : State) : kept (dbgReads l s).2.2 = kept s := by
  induction l generalizing s with
  | nil => rfl
  | cons a l ih => simp [dbgReads, ih]

@[simp] theorem kept_dbgWrites (data : Bytes) (n : Nat) (l : List Nat) (s : State) : kept (dbgWrites data n l s).2 = kept s := by
  induction l generalizing n s with
  | nil => rfl
  | cons a l ih => simp [dbgWrites, ih]

@[simp] theorem kept_keepLstat (s : State) (id : Nat) (sts : List Nat) : kept (keepLstat s id sts) = kept s := by simp [keepLstat]

@[simp] theorem kept_dbgRegRead (s : State) (id : Nat) (x : Session) (consume : Bool) (a : Nat) :
    kept (dbgRegRead s id x consume a).2 = kept s := by
  unfold dbgRegRead
  split
  · simp
  · split
    · next h => simp [kept_of_regRead h]
    · rfl

@[simp] theorem kept_dbgRegReads (id : Nat) (x : Session) (consume : Bool) (l : List Nat) (s : State) :
    kept (dbgRegReads id x consume l s).2 = kept s := by
  induction l generalizing s with
  | nil => rfl
  | cons a l ih =>
    rw [dbgRegReads]
    exact (ih _).trans (kept_dbgRegRead s id x consume a)

@[simp] theorem kept_dbgRegWrite (s : State) (id a : Nat) (v : Word) : kept (dbgRegWrite s id a v) = kept s := by
  unfold dbgRegWrite
  split
  · simp
  · split
    · next h => exact kept_of_regWrite h
    · rfl

@[simp] theorem kept_dbgRegWrites (id : Nat) (data : Bytes) (n : Nat) (l : List Nat) (s : State) :
    kept (dbgRegWrites id data n l s) = kept s := by
  fun_induction dbgRegWrites with
  | case1 => rfl
  | case2 n a l s ih => rw [ih, kept_dbgRegWrite]

@[simp] theorem kept_useSeq (s : State) (id seq : Nat) : kept (useSeq s id seq) = kept s := by simp [useSeq]

@[simp] theorem kept_sessBody (op : Nat) (len : Bytes → Bool) (f : Nat → Session → Who → Bytes → State → Ans × State) (w : Who)
    (p : Bytes) (s : State) (h : ∀ id x w p s, kept (f id x w p s).2 = kept s) : kept (sessBody op len f w p s).2 = kept s := by
  unfold sessBody
  split
  · rfl
  · simp [h]

@[simp] theorem kept_specDbgClose (w : Who) (p : Bytes) (s : State) : kept (specDbgClose.body w p s).2 = kept s := by
  simp [specDbgClose, dbgCloseBody]

@[simp] theorem kept_specDbgResume (w : Who) (p : Bytes) (s : State) : kept (specDbgResume.body w p s).2 = kept s := by
  simp [specDbgResume, dbgResumeBody]

@[simp] theorem kept_specDbgRead (w : Who) (p : Bytes) (s : State) : kept (specDbgRead.body w p s).2 = kept s := by
  simp [specDbgRead, dbgReadBody]

@[simp] theorem kept_specDbgWrite (w : Who) (p : Bytes) (s : State) : kept (specDbgWrite.body w p s).2 = kept s := by
  simp [specDbgWrite, dbgWriteBody]

@[simp] theorem kept_specDbgUnitSet (w : Who) (p : Bytes) (s : State) : kept (specDbgUnitSet.body w p s).2 = kept s := by
  simp [specDbgUnitSet, dbgUnitBody, dbgUnitEffect]

@[simp] theorem kept_specDbgStatus (w : Who) (p : Bytes) (s : State) : kept (specDbgStatus.body w p s).2 = kept s := by
  simp [specDbgStatus, dbgStatusBody]

@[simp] theorem kept_beginHalt (s : State) (q : Nat) (force byBreak : Bool) (by_ : Option HaltReq) :
    kept (beginHalt s q force byBreak by_) = kept s := by simp [beginHalt]

@[simp] theorem kept_specDbgFreeze (w : Who) (p : Bytes) (s : State) : kept (specDbgFreeze.body w p s).2 = kept s := by
  simp [specDbgFreeze, dbgFreezeBody]

theorem kept_of_freezeWaits {s t : State} {w : Who} {p : Bytes} (h : freezeWaits s w p = some t) : kept t = kept s := by
  revert h
  unfold freezeWaits
  repeat' split
  all_goals rintro ⟨⟩
  all_goals simp

@[simp] theorem kept_runFreeze (m i : Nat) (p : Bytes) (s : State) : kept (runFreeze m i p s) = kept s := by
  have hc : kept (runCmd specDbgFreeze m i p s) = kept s := kept_runCmd (by simp) m i p s
  unfold runFreeze
  split
  · rfl
  simp only []
  split
  · split
    · next h => simp [kept_of_freezeWaits h]
    · exact hc
  · exact hc

@[simp] theorem keptOut_execDbgFreeze (m : Fin 24) (slot : Fin 8) (p : Bytes) (s : State) : keptOut s (execDbgFreeze m slot p s) := by
  simp [execDbgFreeze]

@[simp] theorem kept_answerHalt (s : State) (q : Nat) (a : Ans) : kept (answerHalt s q a) = kept s := by
  unfold answerHalt
  repeat' split
  all_goals simp

@[simp] theorem kept_softHaltDone (s : State) (q : Nat) : kept (softHaltDone s q) = kept s := by simp [softHaltDone]

@[simp] theorem keptOut_execSoftHaltComplete (plot : Fin 17) (s : State) : keptOut s (execSoftHaltComplete plot s) := by
  unfold execSoftHaltComplete
  split <;> simp

@[simp] theorem kept_breakTimeout (s : State) (q : Nat) : kept (breakTimeout s q) = kept s := by simp [breakTimeout]
@[simp] theorem kept_leaseBound (s : State) (q : Nat) (force : Bool) : kept (leaseBound s q force) = kept s := by simp [leaseBound]

@[simp] theorem keptOut_execHaltLeaseBound (plot : Fin 17) (s : State) : keptOut s (execHaltLeaseBound plot s) := by
  unfold execHaltLeaseBound
  split <;> simp

@[simp] theorem kept_holdPacket (s : State) (node : Nat) (p : Packet) : kept (holdPacket s node p) = kept s := by simp [holdPacket]

@[simp] theorem kept_breakMatch (s : State) (id : Nat) (x : Session) (point node : Nat) (p : Packet) :
    kept (breakMatch s id x point node p) = kept s := by
  simp only [breakMatch]
  split <;> simp

@[simp] theorem keptOut_execBreakMatch (session : Fin 65536) (point : Fin 3) (node : Fin 1024) (p : Packet) (s : State) :
    keptOut s (execBreakMatch session point node p s) := by
  unfold execBreakMatch
  repeat' split
  all_goals simp

@[simp] theorem kept_bindSession (s : State) (x : Session) : kept (bindSession s x).2 = kept s := by simp [bindSession]

@[simp] theorem kept_specDbgOpen (w : Who) (p : Bytes) (s : State) : kept (specDbgOpen.body w p s).2 = kept s := by
  simp only [specDbgOpen, dbgOpenDone]
  split <;> simp

@[simp] theorem keptOut_execDbgOpen (m : Fin 24) (slot : Fin 8) (p : Bytes) (s : State) : keptOut s (execDbgOpen m slot p s) := by
  simp [execDbgOpen]

@[simp] theorem kept_specVdbgOpen (w : Who) (p : Bytes) (s : State) : kept (specVdbgOpen.body w p s).2 = kept s := by
  simp [specVdbgOpen, vdbgOpenBody, vdbgOpenEffect]

@[simp] theorem kept_endAllSessions (s : State) : kept (endAllSessions s) = kept s := by simp [endAllSessions, kept_foldl]

@[simp] theorem kept_vendorSteps (s : State) : kept (vendorSteps s) = kept s := by
  unfold vendorSteps
  extract_lets s0 s1 s2
  have h1 : kept s1 = kept s := by simp [s1, s0, kept_foldl]
  have h2 : kept s2 = kept (endAllSessions s1) := kept_foldl (fun s q => modPlot s q _) (fun _ _ => rfl) _ _
  rw [kept_modVault, h2, kept_endAllSessions, h1]
  · exact fun _ => rfl
  · exact fun _ => rfl

@[simp] theorem kept_stepVdbgOpen (s : State) (id : Nat) (j : Job) : kept (stepVdbgOpen s id j) = kept s := by simp [stepVdbgOpen]

/-! ### Commands: telemetry -/

@[simp] theorem keptOut_execTelemetryUpdate (s : State) : keptOut s (execTelemetryUpdate s) := by
  unfold execTelemetryUpdate
  split <;> simp

@[simp] theorem kept_specTelRead (w : Who) (p : Bytes) (s : State) : kept (specTelRead.body w p s).2 = kept s := by
  simp [specTelRead, telReadBody, telReadEffect]

@[simp] theorem kept_specVidSet (w : Who) (p : Bytes) (s : State) : kept (specVidSet.body w p s).2 = kept s := by
  simp [specVidSet, vidSetBody, vidSetEffect]

@[simp] theorem kept_specTelThresh (w : Who) (p : Bytes) (s : State) : kept (specTelThresh.body w p s).2 = kept s := by
  simp only [specTelThresh, telThreshBody, telThreshEffect]
  split <;> simp

/-! ### Turns of the management complex -/

@[simp] theorem kept_startAskedRestart (s : State) : kept (startAskedRestart s) = kept s := by simp [startAskedRestart]

theorem kept_of_pkSpec {op : Nat} {c : CmdSpec} (h : pkSpec op = some c) (w : Who) (p : Bytes) (s : State) :
    kept (c.body w p s).2 = kept s := by
  have hc := List.mem_of_find?_eq_some h
  simp only [List.mem_cons, List.not_mem_nil, or_false] at hc
  obtain rfl | rfl | rfl := hc <;> simp

@[simp] theorem keptOut_execPkOpComplete (s : State) : keptOut s (execPkOpComplete s) := by
  unfold execPkOpComplete
  split
  · split
    · rfl
    · extract_lets s1
      have h1 : kept s1 = kept s := kept_modVault s _ (fun _ => rfl) (fun _ => rfl)
      split
      · rw [keptOut_next, kept_reply, h1]
      · split
        · next h => rw [keptOut_next, kept_reply, kept_of_pkSpec h, h1]
        · exact h1
  · rfl

@[simp] theorem kept_drainDone (s : State) (id : Nat) : kept (drainDone s id) = kept s := by
  unfold drainDone
  split <;> simp

@[simp] theorem keptOut_execDrainComplete (job : Fin 65536) (s : State) : keptOut s (execDrainComplete job s) := by
  unfold execDrainComplete
  split <;> simp

@[simp] theorem kept_drainFail (s : State) (id : Nat) : kept (drainFail s id) = kept s := by
  unfold drainFail
  split <;> simp

@[simp] theorem keptOut_execDrainTimeout (job : Fin 65536) (s : State) : keptOut s (execDrainTimeout job s) := by
  unfold execDrainTimeout
  split <;> simp

@[simp] theorem keptOut_execPlotBlankZeroingDone (m : Fin 24) (slot : Fin 8) (p : Bytes) (s : State) :
    keptOut s (execPlotBlankZeroingDone m slot p s) := by
  simp only [execPlotBlankZeroingDone]
  split <;> simp

@[simp] theorem kept_failDma (s : State) (id : Nat) (j : Job) : kept (failDma s id j) = kept s := by
  unfold failDma
  split <;> simp

@[simp] theorem kept_taskTurn (s : State) (i us : Nat) : kept (taskTurn s i us) = kept s := by simp [taskTurn]
@[simp] theorem kept_countTurn (s : State) (us : Nat) : kept (countTurn s us) = kept s := by simp [countTurn]
@[simp] theorem kept_turnFirst (s : State) : kept (turnFirst s) = kept s := by simp [turnFirst]

@[simp] theorem kept_monitorBusy (s : State) (h : BitVec 128) (detail : Nat) : kept (monitorBusy s h detail) = kept s := by
  simp [monitorBusy]

@[simp] theorem kept_mbxRegWrite (s : State) (m off : Nat) (v : Word) : kept (mbxRegWrite s m off v) = kept s := by
  unfold mbxRegWrite
  split <;> simp

@[simp] theorem kept_slotRegWrite (s : State) (m i off : Nat) (v : Word) : kept (slotRegWrite s m i off v) = kept s := by
  simp [slotRegWrite]

@[simp] theorem kept_maskVector (s : State) (f v : Nat) : kept (maskVector s f v) = kept s := by simp [maskVector]
@[simp] theorem kept_msixWrite (s : State) (f off : Nat) (v : Word) : kept (msixWrite s f off v) = kept s := by simp [msixWrite]
@[simp] theorem kept_barWrite (s : State) (f off : Nat) (v : Word) : kept (barWrite s f off v) = kept s := by simp [barWrite]

@[simp] theorem kept_siltWrite (s : State) (a : Nat) (v : Word) : kept (siltWrite s a v) = kept s := by
  unfold siltWrite
  split
  · split
    · next h => exact kept_of_regWrite h
    · rfl
  · rfl

@[simp] theorem keptOut_execRegisterWrite (a : RegAddr) (v : Word) (s : State) : keptOut s (execRegisterWrite a v s) := by
  unfold execRegisterWrite
  repeat' split
  all_goals simp

end Machine
end Sys2Proof
end

section
namespace Sys2Proof
namespace Machine

/-! ## Operations that write host memory -/

/-- From `s` to `t` the queue, the part and the fuses of manufacture stay, and host memory keeps its canonical form: what `kept`
says, but for the bytes that DMA writes. -/
def Keeps (s t : State) : Prop := fixedPart t = fixedPart s ∧ (hostOk s = true → hostOk t = true)

theorem Keeps.of_kept {s t : State} (h : kept t = kept s) : Keeps s t := by
  obtain ⟨hf, hm⟩ := Prod.mk.inj h
  exact ⟨hf, fun hs => by rwa [hostOk, hm]⟩

theorem Keeps.refl (s : State) : Keeps s s := .of_kept rfl

theorem Keeps.trans {s t u : State} (h1 : Keeps s t) (h2 : Keeps t u) : Keeps s u :=
  ⟨h2.1.trans h1.1, fun hs => h2.2 (h1.2 hs)⟩

/-- An operation outside DMA follows. -/
theorem Keeps.trans_kept {s t u : State} (h1 : Keeps s t) (h2 : kept u = kept t) : Keeps s u := h1.trans (.of_kept h2)

theorem Keeps.ite {s t u : State} {c : Prop} [Decidable c] (ht : Keeps s t) (hu : Keeps s u) : Keeps s (if c then t else u) := by
  split
  · exact ht
  · exact hu

theorem keeps_foldl {α : Type} (f : State → α → State) (h : ∀ s x, Keeps s (f s x)) (l : List α) (s : State) :
    Keeps s (l.foldl f s) := by
  induction l generalizing s with
  | nil => exact .refl s
  | cons x l ih => exact (h s x).trans (ih (f s x))

/-- Each byte is written by `tset`, which keeps the canonical form. -/
theorem keeps_dmaWrite (s : State) (a : Nat) (b : Bytes) : Keeps s (dmaWrite s a b) := by
  have hw (l : List (Byte × Nat)) (h : List Host.Cell) (hh : tblWf 0#8 h = true) :
      tblWf 0#8 (l.foldl (fun h x => tset 0#8 h (a + x.2) x.1) h) = true := by
    induction l generalizing h with
    | nil => exact hh
    | cons x l ih => exact ih _ (tblWf_tset 0#8 h (a + x.2) x.1 hh)
  exact ⟨rfl, hw b.zipIdx s.host⟩

theorem keeps_stepProfileRead (s : State) (id : Nat) (j : Job) : Keeps s (stepProfileRead s id j) := by
  unfold stepProfileRead
  split
  · exact .of_kept (by simp)
  · exact (keeps_dmaWrite s _ _).trans_kept (kept_jobOk _ _ _ _)

theorem keeps_stepMemRead (s : State) (id : Nat) (j : Job) : Keeps s (stepMemRead s id j) := by
  unfold stepMemRead
  split
  · exact .of_kept (by simp)
  · refine .ite ?_ (.refl s)
    extract_lets r
    have hr : Keeps s r.2.2 := .of_kept (by simp [r])
    exact (hr.trans (keeps_dmaWrite _ _ _)).trans_kept (kept_jobOk _ _ _ _)

theorem keeps_stepTraceRead (s : State) (id : Nat) (j : Job) : Keeps s (stepTraceRead s id j) := by
  unfold stepTraceRead
  extract_lets first s1
  have h1 : Keeps s s1 := by
    refine keeps_foldl _ (fun t i => ?_) _ s
    split
    · exact keeps_dmaWrite t _ _
    · exact .refl t
  exact h1.trans_kept (by simp)

theorem keeps_stepCfgReadback (s : State) (id : Nat) (j : Job) : Keeps s (stepCfgReadback s id j) := by
  unfold stepCfgReadback
  extract_lets q w r n
  refine .ite (.of_kept (by simp)) (.ite (.of_kept (by simp)) ?_)
  exact ((keeps_dmaWrite s _ _).trans_kept (kept_modMgmt _ _)).trans_kept (kept_jobOk _ _ _ _)

theorem keeps_stepDumpRead (s : State) (id : Nat) (j : Job) : Keeps s (stepDumpRead s id j) := by
  unfold stepDumpRead
  split
  · refine .ite (.of_kept (by simp)) ?_
    split
    · exact (keeps_dmaWrite s _ _).trans_kept (kept_jobOk _ _ _ _)
    · exact .of_kept (by simp)
  · exact .of_kept (by simp)

theorem keeps_stepGroups456 (s : State) (id : Nat) (j : Job) : Keeps s (stepGroups456 s id j) := by
  unfold stepGroups456
  split
  case h_1 => exact keeps_stepMemRead s id j
  case h_14 => exact keeps_stepTraceRead s id j
  all_goals exact .of_kept (by simp)

theorem keeps_settle (n id : Nat) (s : State) : Keeps s (settle n id s) := by
  induction n generalizing s with
  | zero => exact .refl s
  | succ n ih =>
    unfold settle
    split
    · refine .ite (.refl s) (.ite ?_ ((keeps_stepGroups456 s id _).trans (ih _)))
      have hd : Keeps s (jobDrained s id) := .of_kept (by simp)
      exact (hd.trans (keeps_stepGroups456 _ id _)).trans (ih _)
    · exact .refl s

theorem keeps_applySetting (s : State) (r : Nat × Bytes) : Keeps s (applySetting s r).2 := by
  unfold applySetting
  extract_lets a s1 st
  have ha : Keeps s a.2 := .of_kept (by simp [a])
  have h1 : Keeps s s1 := ha.trans (keeps_settle 5 _ a.2)
  split
  · exact ha
  · change Keeps s (match jobAt s1 a.1.job with
      | some j => if j.state = .running then s1 else modMgmt s1 _
      | none => s1)
    split
    · exact .ite h1 (h1.trans_kept (by simp))
    · exact h1

theorem keeps_applySettings (rs : List (Nat × Bytes)) (s : State) : Keeps s (applySettings rs s).2 := by
  induction rs generalizing s with
  | nil => exact .refl s
  | cons r rs ih =>
    unfold applySettings
    extract_lets a
    split
    · exact (keeps_applySetting s r).trans (ih a.2)
    · exact keeps_applySetting s r

theorem keeps_endFullLoad (s : State) (ld : Load) : Keeps s (endFullLoad s ld) := by
  have hr := keeps_applySettings ((settingsOf ld.image).getD []) s
  unfold endFullLoad
  extract_lets r
  split
  · exact hr.trans_kept (by simp [r])
  · exact hr.trans_kept (by simp [r])

theorem keeps_stepCfgLoad (s : State) (id : Nat) (j : Job) : Keeps s (stepCfgLoad s id j) := by
  unfold stepCfgLoad
  split
  · refine .ite (.ite (.refl s) (.of_kept (by simp))) ?_
    extract_lets img
    split
    · exact .of_kept (by simp)
    · split
      · exact .of_kept (by simp)
      · exact .of_kept (by simp)
  · split
    · exact .ite (keeps_endFullLoad s _) (.refl s)
    · exact .refl s

theorem keeps_stepByOp (s : State) (id : Nat) (j : Job) : Keeps s (stepByOp s id j) := by
  unfold stepByOp
  split
  case h_2 => exact keeps_stepCfgLoad s id j
  case h_7 => exact keeps_stepCfgReadback s id j
  case h_11 => exact keeps_stepProfileRead s id j
  case h_26 => exact keeps_stepDumpRead s id j
  case h_29 => exact keeps_stepGroups456 s id j
  all_goals exact .of_kept (by simp)

theorem keeps_stepJob (s : State) (id : Nat) : Keeps s (stepJob s id) := by
  unfold stepJob
  split
  · exact .ite (.refl s) (.ite (.of_kept (by simp)) (.ite (.of_kept (by simp)) (keeps_stepByOp s id _)))
  · exact .refl s

theorem keeps_jobTurn (s : State) (id : Nat) : Keeps s (jobTurn s id) :=
  (Keeps.of_kept (kept_modMgmt s _)).trans (keeps_stepJob _ id)

/-! ## Commands, those that use DMA included -/

theorem keeps_specProfileStats (w : Who) (p : Bytes) (s : State) : Keeps s (specProfileStats.body w p s).2 := by
  change Keeps s (orElse (profileStatsChecks w p s) s (profileStatsEffect w p s)).2
  unfold orElse
  split
  · exact .refl s
  · unfold profileStatsEffect
    extract_lets n x rules s1 s2
    have h1 : Keeps s s1 := keeps_dmaWrite s _ _
    exact .ite (h1.trans_kept (by simp)) h1

theorem keeps_runBody {c : CmdSpec} (h : ∀ w p s, Keeps s (c.body w p s).2) (w : Who) (p : Bytes) (s : State) :
    Keeps s (runBody c w p s).2 := by
  unfold runBody
  split
  · exact .refl s
  · split
    · exact .refl s
    · exact h w p s

theorem keeps_runCmd {c : CmdSpec} (h : ∀ w p s, Keeps s (c.body w p s).2) (m i : Nat) (p : Bytes) (s : State) :
    Keeps s (runCmd c m i p s) := by
  unfold runCmd
  refine .ite (.refl s) ?_
  extract_lets s1
  have h1 : Keeps s s1 := .of_kept (by simp [s1])
  split
  · exact h1.trans_kept (by simp)
  · exact (h1.trans (keeps_runBody h _ p s1)).trans_kept (kept_reply _ _ _ _ _)

theorem keeps_sessBody (op : Nat) (len : Bytes → Bool) {f : Nat → Session → Who → Bytes → State → Ans × State}
    (h : ∀ id x w p s, Keeps s (f id x w p s).2) (w : Who) (p : Bytes) (s : State) : Keeps s (sessBody op len f w p s).2 := by
  unfold sessBody
  split
  · exact .refl s
  · next id x seq b _ =>
    extract_lets s1 r
    have h1 : Keeps s s1 := .of_kept (by simp [s1])
    refine h1.trans ?_
    change Keeps s1 (if len b then f id x w b s1 else (ansBad stBadArg 0xFF, s1)).2
    split
    · exact h id x w b s1
    · exact .refl s1

/-- Of the commands outside group 0x09 only PROFILE_STATS writes host memory in its body. -/
theorem keeps_of_mem_specs {c : CmdSpec} (hc : c ∈ specsLow ++ specsHigh) (w : Who) (p : Bytes) (s : State) :
    Keeps s (c.body w p s).2 := by
  have hs : ∀ c ∈ specsLow ++ specsHigh, c = specProfileStats ∨ ∀ w p s, kept (c.body w p s).2 = kept s := by
    simp [specsLow, specsHigh]
  rcases hs c hc with rfl | hk
  · exact keeps_specProfileStats w p s
  · exact .of_kept (hk w p s)

theorem kept_of_mem_specsDbg {c : CmdSpec} (hc : c ∈ specsDbg) (w : Who) (p : Bytes) (s : State) :
    kept (c.body w p s).2 = kept s := by
  have hs : ∀ c ∈ specsDbg, ∀ w p s, kept (c.body w p s).2 = kept s := by simp [specsDbg]
  exact hs c hc w p s

theorem keeps_innerRun (s : State) (w : Who) (op : Nat) (p : Bytes) : Keeps s (innerRun s w op p).2 := by
  unfold innerRun
  split
  · next c hc => exact keeps_runBody (keeps_of_mem_specs (List.mem_of_find?_eq_some hc)) w p s
  · exact .refl s

theorem keeps_specDbgCall (w : Who) (p : Bytes) (s : State) : Keeps s (specDbgCall.body w p s).2 := by
  refine keeps_sessBody _ _ (fun id x w p s => ?_) w p s
  unfold dbgCallBody
  split
  · exact .refl s
  · exact keeps_innerRun s _ _ _

theorem keeps_runSlot (s : State) (m i : Nat) : Keeps s (runSlot s m i) := by
  have hbad (c : CmdSpec) (hc : c.body = fun _ _ s => (ansBad stBadArg 0xFF, s)) (w : Who) (p : Bytes) (s : State) :
      Keeps s (c.body w p s).2 := by
    rw [hc]
    exact .refl s
  unfold runSlot
  extract_lets op p base w bad
  refine .ite (keeps_runCmd (hbad bad rfl) m i p s) (.ite (.of_kept (by simp)) (.ite (.of_kept (by simp))
    (.ite (.of_kept (by simp)) (.ite (.of_kept (by simp)) (.ite ?_ (.ite (.refl s) ?_))))))
  · exact (keeps_runCmd keeps_specDbgCall m i p s).trans_kept (by simp)
  · split
    · next c hc =>
      refine (keeps_runCmd (fun w p s => ?_) m i p s).trans_kept (kept_startAskedRestart _)
      rcases List.mem_append.mp (List.mem_of_find?_eq_some hc) with hm | hm
      · exact keeps_of_mem_specs hm w p s
      · exact .of_kept (kept_of_mem_specsDbg hm w p s)
    · exact keeps_runCmd (hbad bad rfl) m i p s

/-- The commands that a monitor request may carry. -/
theorem keeps_of_monitorSpec {op : Nat} {c : CmdSpec}
    (h : [specDbgClose, specDbgFreeze, specDbgResume, specDbgRead, specDbgWrite, specDbgUnitSet, specDbgStatus, specDbgCall].find?
      (fun c => decide (c.op = op)) = some c) (w : Who) (p : Bytes) (s : State) : Keeps s (c.body w p s).2 := by
  have hs : ∀ c ∈ [specDbgClose, specDbgFreeze, specDbgResume, specDbgRead, specDbgWrite, specDbgUnitSet, specDbgStatus, specDbgCall],
      c = specDbgCall ∨ ∀ w p s, kept (c.body w p s).2 = kept s := by simp
  rcases hs c (List.mem_of_find?_eq_some h) with rfl | hk
  · exact keeps_specDbgCall w p s
  · exact .of_kept (hk w p s)

theorem keeps_runMonitor (s : State) : Keeps s (runMonitor s) := by
  unfold runMonitor
  extract_lets op p w answer
  have ha (r : Ans × State) (h : Keeps s r.2) : Keeps s (answer r) := h.trans_kept (by simp [answer])
  have hs (a : Ans) : Keeps s (answer (a, s)) := ha (a, s) (.refl s)
  refine .ite (hs _) (.ite (hs _) ?_)
  split
  · split
    · split
      · exact hs _
      · exact .of_kept (by simp)
    · exact hs _
  · split
    · refine .of_kept (kept_getD (fun t ht => kept_of_freezeWaits ht) rfl)
    · split
      · next c hc =>
        split
        · exact (ha _ (keeps_of_monitorSpec hc w p s)).trans_kept (by simp)
        · exact hs _
      · exact hs _

theorem keeps_serveMbx (s : State) (m us : Nat) : Keeps s (serveMbx s m us) := by
  unfold serveMbx
  extract_lets s1 slotTurn
  have h1 : Keeps s s1 := .of_kept (by simp [s1])
  refine .ite ?_ ?_
  · exact (h1.trans_kept (kept_modMbx s1 18 _)).trans (keeps_runMonitor _)
  · simp only [slotTurn]
    split
    · exact (h1.trans (keeps_runSlot s1 m _)).trans_kept (kept_modMbx _ _ _)
    · exact h1

theorem keeps_chooseTurn (s : State) (us : Nat) : Keeps s (chooseTurn s us) := by
  unfold chooseTurn
  extract_lets rom
  split
  · exact .of_kept (by simp)
  · split
    · exact keeps_jobTurn s _
    · split
      · exact keeps_serveMbx s _ us
      · split
        · exact keeps_jobTurn s _
        · exact .ite (.refl s) (.of_kept (by simp))

theorem keeps_monitorFrame (s : State) (h : BitVec 128) (p : Bytes) : Keeps s (monitorFrame s h p) := by
  unfold monitorFrame
  refine .ite (.refl s) (.ite (.of_kept (by simp)) (.ite (.ite ?_ (.of_kept (by simp))) (.ite (.of_kept (by simp)) (.of_kept (by simp)))))
  exact (Keeps.of_kept (kept_modMbx s 18 _)).trans (keeps_runMonitor _)

/-! ## Commands of the table -/

/-- What a command answers keeps what `Keeps` names. -/
def KeepsOut (s : State) (o : Host.Outcome State Fault Refusal) : Prop := ∀ t, o = .next t → Keeps s t

theorem KeepsOut.next {s t : State} (h : Keeps s t) : KeepsOut s (.next t) := by
  rintro _ ⟨⟩
  exact h

theorem KeepsOut.of_keptOut {s : State} {o : Host.Outcome State Fault Refusal} (h : keptOut s o) : KeepsOut s o := by
  rintro t rfl
  exact .of_kept h

/-- A mailbox command outside DMA. -/
theorem keepsOut_runCmd {c : CmdSpec} (h : ∀ w p s, kept (c.body w p s).2 = kept s) (m i : Nat) (p : Bytes) (s : State) :
    KeepsOut s (.next (runCmd c m i p s)) := .next (.of_kept (kept_runCmd h m i p s))

theorem keepsOut_execTurn (us : Nat) (s : State) : KeepsOut s (execTurn us s) := by
  unfold execTurn
  split
  · refine .next (Keeps.trans_kept ?_ (kept_countTurn _ us))
    exact (Keeps.of_kept (kept_turnFirst s)).trans (keeps_chooseTurn _ us)
  · exact .next (.refl s)

theorem keepsOut_execUartFrame (f : Bytes) (s : State) : KeepsOut s (execUartFrame f s) := by
  unfold execUartFrame
  extract_lets b body h
  split
  · exact .next (.of_kept (by simp))
  split
  · exact .next (.refl s)
  split
  · exact .next (.of_kept (by simp))
  split
  · exact .next (keeps_monitorFrame s h _)
  · exact .next (.refl s)

theorem keepsOut_execDbgCall (m : Fin 24) (slot : Fin 8) (p : Bytes) (s : State) : KeepsOut s (execDbgCall m slot p s) :=
  .next ((keeps_runCmd keeps_specDbgCall m.val slot.val p s).trans_kept (by simp))

/-- Every command keeps what `Keeps` names: TURN, the frames of the console and DBG_CALL run commands and jobs that may use DMA,
every other command outside the mailboxes leaves host memory as it is. -/
theorem keepsOut_exec (c : Instr) (s : State) : KeepsOut s (exec c s) := by
  cases c with
  | turn us => exact keepsOut_execTurn us s
  | monitorFrame h p => exact .next (keeps_monitorFrame s h p)
  | uartFrame f => exact keepsOut_execUartFrame f s
  | dbgCall m i p => exact keepsOut_execDbgCall m i p s
  | profileStats m i p => exact .next (keeps_runCmd keeps_specProfileStats m.val i.val p s)
  | caps m i p | idCert m i p | jobStatus m i p | jobCancel m i p | jobList m i p | cfgLoad m i p | cfgClear m i p
  | cfgStatus m i p | cfgStore m i p | cfgErase m i p | cfgBootSet m i p | cfgDir m i p | cfgReadback m i p | cfgScanStatus m i p
  | fwUpdate m i p | profileLoad m i p | profileSwap m i p | profileUnload m i p | profileRead m i p | homeMapSet m i p
  | homeMapRead m i p | agentBind m i p | agentRead m i p | pceSfAssign m i p | pceRemap m i p | pceStatus m i p
  | plotCreate m i p | plotChange m i p | plotDestroy m i p | plotReset m i p | plotLoad m i p | plotStatus m i p
  | flowConfig m i p | flowStatus m i p | slotLend m i p | slotReclaim m i p | grnConfig m i p | grnStatus m i p | keyDrop m i p
  | vaultStatus m i p | fuseProg m i p | bbramKeyWrite m i p | bbramClear m i p | tamperClear m i p | kaoConfig m i p
  | kaoStatus m i p | kaoMapSet m i p | kaoOpSet m i p | kaoChanOffline m i p | kaoChanOnline m i p | kaoBist m i p
  | kaoScrub m i p | kaoInject m i p | kaoPatrolSet m i p | peatConfig m i p | peatScrub m i p | peatStatus m i p
  | siltRouteLoad m i p | siltRouteRead m i p | siltBypass m i p | siltStatus m i p | siltTargetRevive m i p | siltProbeSet m i p
  | siltTraceRead m i p | siltLeaseSet m i p | nauRateSet m i p | nauConfig m i p | nauStatus m i p | portConfig m i p
  | portReset m i p | portLoopback m i p | portStatus m i p | ideKeySet m i p | laneStatus m i p | laneMargin m i p
  | laneSleep m i p | reachConfig m i p | dlinkStatus m i p | dlinkSwap m i p | dlinkHalve m i p | dlinkMargin m i p
  | dieIsolate m i p | kaoChanReplace m i p | rowSpare m i p | tilthPolicy m i p | tilthStatus m i p | tilthClear m i p
  | crcSelftest m i p | peatRetire m i p | evtRoute m i p | evtRearm m i p | evtStatus m i p | errRead m i p | dumpList m i p
  | dumpRead m i p | dumpPolicy m i p | dumpErase m i p | dbgClose m i p | dbgResume m i p | dbgRead m i p | dbgWrite m i p
  | dbgUnitSet m i p | dbgStatus m i p | vdbgOpen m i p | telRead m i p | vidSet m i p | telThresh m i p => exact keepsOut_runCmd (by simp) _ _ _ _
  | _ => exact .of_keptOut (by simp [exec])

/-- A step takes the front of the queue and keeps what `Keeps` names. -/
theorem keeps_of_step {s t : State} (h : step s = .next t) : Keeps (dropPending s (s.pending.drop 1)) t := by
  unfold step at h
  split at h
  · next hq =>
    cases h
    rw [hq]
    exact ⟨by simp [fixedPart, idleTick, dropPending, hq], id⟩
  · next c rest hq =>
    rw [hq]
    exact keepsOut_exec c _ t h

/-- Settles O4: no operation of the model changes what `kept` names, but those that use DMA, and these keep host memory's form. -/
theorem stepKeepsManufacture : Obligations.StepKeepsManufacture := by
  rintro p root serial s t ⟨hpart, hroot, hserial, hhost⟩ hstep
  obtain ⟨hfixed, hform⟩ := keeps_of_step hstep
  simp only [fixedPart, Prod.mk.injEq] at hfixed
  obtain ⟨hq, hp, hr, hs⟩ := hfixed
  exact ⟨⟨hp.trans hpart, hr.trans hroot, hs.trans hserial, hform hhost⟩, hq⟩

end Machine
end Sys2Proof
end

section
namespace Sys2Proof
namespace Machine

/-! ## The functions of the endpoint (R89 to R91) -/

/-- A function level reset of an enabled function other than PF0 (R91). -/
theorem exec_flr_of_enabled {s : State} {f : Fin 17} (hf : f.val ≠ 0) (he : fnEnabled s f.val = true) :
    exec (.flr f) s = .next (flrOne s f.val) := by
  show execFlr f s = _
  rw [execFlr, if_neg hf, if_pos he]

theorem exec_flr_zero (s : State) :
    exec (.flr 0) s = .next (modMgmt ((List.range 17).foldl flrOne s) (fun g => { g with numVfs := 0 })) := rfl

/-- NumVFs as written: it is at most TotalVFs (R90). -/
theorem setNumVfs_eq (s : State) (n : Fin 17) : setNumVfs s n.val = (List.range 17).foldl flushMsix (modMgmt
    (((List.range 17).filter (fun f => decide (n.val < f ∧ f ≤ s.mgmt.numVfs))).foldl flrOne s) (fun g => { g with numVfs := n.val })) := by
  have hn : min n.val (epIdentity s).totalVfs = n.val := Nat.min_eq_left (Nat.le_of_lt_succ n.isLt)
  rw [setNumVfs, hn]

theorem exec_numvfsWrite (n : Fin 17) (s : State) : exec (.numvfsWrite n) s = .next (setNumVfs s n.val) := rfl

/-- VF_DISABLE writes a lower NumVFs; any other value has no effect. -/
theorem exec_vfDisable (n : Fin 17) (s : State) :
    exec (.vfDisable n) s = if n.val < s.mgmt.numVfs then exec (.numvfsWrite n) s else .next s := rfl

/-- MSI-X vectors: 64 of PF0, 8 of a VF (R90). -/
theorem lt_fnVectors_iff (s : State) (f : Nat) (v : Fin 64) : v.val < fnVectors s f ↔ f = 0 ∨ v.val < 8 := by
  by_cases hf : f = 0
  · simp [fnVectors, epIdentity, hf]
  · simp [fnVectors, epIdentity, hf]

theorem exec_msixVectorUnmask (f : Fin 17) (v : Fin 64) (s : State) : exec (.msixVectorUnmask f v) s =
    if fnEnabled s f.val = true ∧ v.val < fnVectors s f.val then .next (unmaskVector s f.val v.val) else .next s := rfl

theorem msixSends_eq_true_iff (s : State) (f v : Nat) :
    msixSends s f v = true ↔ fnEnabled s f = true ∧ s.sys.endpointUp = true ∧ hasElem (fnAt s f).unmasked v = true := by
  simp [msixSends, and_assoc]

theorem msixSends_eq_false_iff (s : State) (f v : Nat) :
    msixSends s f v = false ↔ fnEnabled s f = false ∨ s.sys.endpointUp = false ∨ hasElem (fnAt s f).unmasked v = false := by
  rw [msixSends, Bool.and_eq_false_iff, Bool.and_eq_false_iff, or_assoc]

/-- A message that can be sent is sent (R91, R386). -/
theorem msix_of_sends {s : State} {f v : Nat} (h : msixSends s f v = true) :
    msix s f v = modFn s f (fun n => { n with sent := tmod 0 n.sent v (· + 1) }) := by simp [msix, h]

/-- A message that cannot be sent stays pending. -/
theorem msix_of_not_sends {s : State} {f v : Nat} (h : msixSends s f v = false) :
    msix s f v = modFn s f (fun n => { n with pending := withElem n.pending v }) := by simp [msix, h]

/-- With one message pending, flushing sends it or leaves it. -/
theorem flushMsix_of_pending {s : State} {f v : Nat} (h : (fnAt s f).pending = [v]) :
    flushMsix s f = if msixSends s f v then
      modFn s f (fun n => { n with pending := without n.pending v, sent := tmod 0 n.sent v (· + 1) }) else s := by
  rw [flushMsix, h]
  rfl

/-- A register write of a function's BAR0 that the host reaches (R336). -/
theorem exec_registerWrite_bar {s : State} {f : Fin 17} (h : mbxReached s f.val = true) (off : Nat) (v : Word) :
    exec (.registerWrite (.bar f off) v) s = .next (barWrite s f.val off v) := by
  show execRegisterWrite (.bar f off) v s = _
  simp [execRegisterWrite, h]

/-- The mailbox control page stands at 0x1000 of BAR0 (R336). -/
theorem barWrite_controlPage (s : State) (f : Nat) {off : Nat} (ha : off % 4 = 0) (ho : off < 0x1000) (v : Word) :
    barWrite s f (0x1000 + off) v = mbxRegWrite s f off v := by
  have h4 : ¬ (0x1000 + off) % 4 ≠ 0 := by omega
  rw [barWrite, if_neg h4, if_pos ⟨by omega, by omega⟩, Nat.add_sub_cancel_left]

/-- Settles O32, clause by clause from the equations of the rows above. -/
theorem functions : Obligations.Functions := by
  refine ⟨fun s f hf he => exec_flr_of_enabled hf he, exec_flr_zero, fun s n => (exec_numvfsWrite n s).trans (congrArg _ (setNumVfs_eq s n)),
    fun s n h => ?_, fun s n h => ?_, fun s f v he hv => ?_, fun s f v h => ?_, fun s f v he hu hm => ?_, fun s f v h => ?_,
    fun s => ⟨rfl, rfl, rfl, rfl, rfl, rfl, rfl, rfl⟩, fun s f v h => ?_, fun s a v => rfl, fun s off v => rfl, fun s id v => rfl⟩
  · rw [exec_vfDisable, if_pos h]
  · rw [exec_vfDisable, if_neg (Nat.not_lt.mpr h)]
  · rw [exec_msixVectorUnmask, if_pos ⟨he, (lt_fnVectors_iff s f.val v).mpr hv⟩]
    rfl
  · rw [exec_msixVectorUnmask, if_neg]
    rintro ⟨he, hv⟩
    rcases h with hd | ⟨hf, h8⟩
    · exact Bool.false_ne_true (hd.symm.trans he)
    · rcases (lt_fnVectors_iff s f.val v).mp hv with h0 | hlt
      · exact hf h0
      · omega
  · have hs := (msixSends_eq_true_iff s f v).mpr ⟨he, hu, hm⟩
    exact ⟨msix_of_sends hs, fun hp => by rw [flushMsix_of_pending hp, if_pos hs]⟩
  · have hs := (msixSends_eq_false_iff s f v).mpr h
    exact ⟨msix_of_not_sends hs, fun hp => by rw [flushMsix_of_pending hp, hs]; rfl⟩
  · have hb (off : Nat) (ha : off % 4 = 0) (ho : off < 0x1000) :
        exec (.registerWrite (.bar f (0x1000 + off)) v) s = .next (mbxRegWrite s f.val off v) := by
      rw [exec_registerWrite_bar h, barWrite_controlPage s f.val ha ho]
    refine ⟨(hb 0x008 rfl (by decide)).trans ?_, (hb 0x010 rfl (by decide)).trans ?_, hb 0x014 rfl (by decide)⟩
    · exact (if_pos h).symm
    · exact (if_pos h).symm

end Machine
end Sys2Proof
end

section
namespace Sys2Proof
namespace Machine

/-! ## Every row answers a next state -/

/-- The row answers a next state: neither a fault nor a refusal. -/
def Completes (o : Host.Outcome State Fault Refusal) : Prop := ∃ t, o = .next t

theorem completes_next (t : State) : Completes (.next t) := ⟨t, rfl⟩

/-- A row that asks first completes where both of its branches do. -/
theorem completes_ite {c : Prop} {d : Decidable c} {a b : Host.Outcome State Fault Refusal} (ha : Completes a) (hb : Completes b) :
    Completes (if c then a else b) := by split <;> assumption

/-- The commonest row: where its condition fails the state stays as it is (log 8). -/
theorem completes_guard {c : Prop} {d : Decidable c} {t u : State} : Completes (if c then .next t else .next u) :=
  completes_ite (completes_next t) (completes_next u)

/-! ### Kaolin -/

theorem completes_execLineReadComplete (stack : Fin 4) (ch : Fin 17) (s : State) : Completes (execLineReadComplete stack ch s) := by
  dsimp only [execLineReadComplete]
  split <;> exact completes_next _

theorem completes_execForcedSweepEnd (stack : Fin 4) (granule : Fin 4096) (s : State) : Completes (execForcedSweepEnd stack granule s) := by
  dsimp only [execForcedSweepEnd]
  split <;> exact completes_next _

theorem completes_execRowSpareAuto (stack : Fin 4) (ch : Fin 17) (bank : Fin 32) (row : Fin 16384) (s : State) :
    Completes (execRowSpareAuto stack ch bank row s) := by
  refine completes_ite (completes_ite (completes_next _) ?_) (completes_next _)
  split
  · exact completes_next _
  · exact completes_guard

theorem completes_execChannelStopsAnswering (stack : Fin 4) (s : State) : Completes (execChannelStopsAnswering stack s) := by
  dsimp only [execChannelStopsAnswering]
  split
  · split <;> exact completes_next _
  · exact completes_next _

/-! ### Locks, route changes and links of Silt -/

theorem completes_execLeaseExpiry (line : Nat) (s : State) : Completes (execLeaseExpiry line s) := by
  unfold execLeaseExpiry
  split
  · exact completes_next _
  · exact completes_guard

theorem completes_execShadowBankAck (node : Fin 1024) (s : State) : Completes (execShadowBankAck node s) := by
  unfold execShadowBankAck
  split
  · exact completes_ite completes_guard (completes_next _)
  · exact completes_next _

theorem completes_execRouterAckTimeout (node : Fin 1024) (s : State) : Completes (execRouterAckTimeout node s) := by
  unfold execRouterAckTimeout
  split
  · exact completes_guard
  · exact completes_next _

theorem completes_execRouteChangeEnd (s : State) : Completes (execRouteChangeEnd s) := by
  unfold execRouteChangeEnd
  split
  · exact completes_guard
  · exact completes_next _

/-! ### The coherence engine -/

theorem completes_execEvaluate (slice : Fin 16) (s : State) : Completes (execEvaluate slice s) := by
  unfold execEvaluate
  split
  · exact completes_next _
  · exact completes_guard

theorem completes_execDirectoryFetchComplete (slice : Fin 16) (trk : Fin 1024) (status : Byte) (s : State) :
    Completes (execDirectoryFetchComplete slice trk status s) := by
  refine completes_ite ?_ (completes_next _)
  split
  case h_1 => split <;> exact completes_next _
  all_goals exact completes_next _

theorem completes_execLockQueueHead (slice : Fin 16) (trk : Fin 1024) (s : State) : Completes (execLockQueueHead slice trk s) := by
  dsimp only [execLockQueueHead]
  split
  · exact completes_guard
  · exact completes_next _

theorem completes_execParkedRequestServe (slice : Fin 16) (s : State) : Completes (execParkedRequestServe slice s) := by
  unfold execParkedRequestServe
  split
  · exact completes_guard
  · exact completes_next _

/-! ### NAUs and Grain -/

theorem completes_execAnswerTimeout (node : Fin 1024) (tag : Nat) (s : State) : Completes (execAnswerTimeout node tag s) := by
  unfold execAnswerTimeout
  split
  case h_3 => exact completes_guard
  all_goals exact completes_next _

theorem completes_execCoherentOut (node : Fin 1024) (header : BitVec 128) (data : Bytes) (s : State) :
    Completes (execCoherentOut node header data s) := by
  refine completes_ite ?_ (completes_next _)
  split <;> exact completes_next _

theorem completes_execEntryTake (node : Fin 1024) (slot : Fin 256) (entry : Fin 3) (s : State) : Completes (execEntryTake node slot entry s) := by
  dsimp only [execEntryTake]
  split
  · exact completes_guard
  · exact completes_next _

theorem completes_execCoherentInAccept (node : Fin 1024) (answer : Bool) (s : State) : Completes (execCoherentInAccept node answer s) := by
  refine completes_ite (completes_next _) ?_
  split <;> exact completes_next _

theorem completes_execGrainRefill (pos : Fin 4) (s : State) : Completes (execGrainRefill pos s) := by
  refine completes_ite ?_ (completes_next _)
  split <;> exact completes_next _

/-! ### Lanes and links -/

theorem completes_execLinkTraining (link : Fin 16) (rate : Fin 8) (lanes : TrainLanes) (reversed : Bool) (eq : TrainEq) (s : State) :
    Completes (execLinkTraining link rate lanes reversed eq s) := by
  refine completes_ite ?_ (completes_next _)
  split
  · exact completes_next _
  · exact completes_ite (completes_next _) completes_guard
  · exact completes_next _

theorem completes_execLaneReturn (lane : Fin 160) (s : State) : Completes (execLaneReturn lane s) := by
  refine completes_ite ?_ (completes_next _)
  split
  · exact completes_next _
  · exact completes_guard

theorem completes_execPartnerPresetRequest (lane : Fin 128) (req : PresetReq) (s : State) :
    Completes (execPartnerPresetRequest lane req s) := by
  refine completes_ite ?_ (completes_next _)
  cases req <;> exact completes_next _

theorem completes_execPartnerMarginRequest (lane : Fin 128) (cmd : Word) (s : State) : Completes (execPartnerMarginRequest lane cmd s) := by
  unfold execPartnerMarginRequest
  split
  · exact completes_next _
  · exact completes_guard

theorem completes_execConfigSpaceForward (link : Fin 16) (req : CfgReq) (off : Fin 4096) (wr : Option Word) (s : State) :
    Completes (execConfigSpaceForward link req off wr s) := by
  refine completes_ite ?_ (completes_next _)
  cases req with
  | discovery i => exact completes_next _
  | doe => exact completes_next _
  | config =>
    refine completes_ite (completes_next _) ?_
    cases wr <;> exact completes_next _

theorem completes_execPcieTlpReceive (link : Fin 16) (tlp : Tlp) (s : State) : Completes (execPcieTlpReceive link tlp s) := by
  refine completes_ite (completes_ite (completes_next _) ?_) (completes_next _)
  split
  · exact completes_next _
  · exact completes_next _
  · exact completes_guard

/-! ### Start-up and clocks -/

theorem completes_execOhmyxStart (kaolinBad : List (Fin 4)) (s : State) : Completes (execOhmyxStart kaolinBad s) := by
  refine completes_ite ?_ (completes_next _)
  split <;> exact completes_next _

theorem completes_execRefclkReturn (input : RefClk) (s : State) : Completes (execRefclkReturn input s) := by
  cases input with
  | xlref => exact completes_guard
  | sysclk | laneref | mgmtRefclk => exact completes_next _

/-! ### Packets at their destinations -/

theorem completes_execRegRead (p : Packet) (s : State) : Completes (execRegRead p s) := by
  refine completes_ite (completes_ite (completes_next _) ?_) (completes_next _)
  dsimp only
  split <;> exact completes_next _

theorem completes_execRegWrite (p : Packet) (s : State) : Completes (execRegWrite p s) := by
  refine completes_ite (completes_ite (completes_next _) (completes_ite (completes_next _) ?_)) (completes_next _)
  split <;> exact completes_next _

theorem completes_execMsg (p : Packet) (s : State) : Completes (execMsg p s) := by
  refine completes_ite ?_ (completes_next _)
  split
  case h_3 => exact completes_guard
  all_goals exact completes_next _

theorem completes_execGrainCreate (p : Packet) (s : State) : Completes (execGrainCreate p s) := by
  refine completes_ite ?_ (completes_next _)
  split
  · exact completes_guard
  · exact completes_next _

theorem completes_execGrainPush (p : Packet) (s : State) : Completes (execGrainPush p s) := by
  refine completes_ite ?_ (completes_next _)
  dsimp only
  split <;> exact completes_next _

theorem completes_execDirective (p : Packet) (s : State) : Completes (execDirective p s) := by
  refine completes_ite ?_ (completes_next _)
  split <;> exact completes_next _

theorem completes_execDirReport (p : Packet) (s : State) : Completes (execDirReport p s) := by
  refine completes_ite ?_ (completes_next _)
  split <;> exact completes_next _

theorem completes_execStream (p : Packet) (s : State) : Completes (execStream p s) := by
  refine completes_ite ?_ (completes_next _)
  split
  · exact completes_next _
  · dsimp only
    split <;> exact completes_next _
  · exact completes_next _

theorem completes_execFrame (p : Packet) (s : State) : Completes (execFrame p s) := by
  refine completes_ite ?_ (completes_next _)
  split
  · exact completes_guard
  · exact completes_guard
  · exact completes_next _

theorem completes_execDelivered (p : Packet) (s : State) : Completes (execDelivered p s) := by
  refine completes_ite ?_ (completes_next _)
  split <;> exact completes_next _

/-! ### Configuration -/

theorem completes_execFrameWriterBlock (job : Fin 65536) (block : Bytes) (s : State) : Completes (execFrameWriterBlock job block s) := by
  unfold execFrameWriterBlock
  split
  · refine completes_ite (completes_next _) ?_
    split
    · exact completes_next _
    · refine completes_ite (completes_next _) ?_
      split <;> exact completes_next _
  · exact completes_next _

theorem completes_execChainSegment (container : Bytes) (s : State) : Completes (execChainSegment container s) := by
  refine completes_ite (completes_next _) (completes_ite ?_ (completes_next _))
  split
  · split
    · exact completes_guard
    · exact completes_next _
  · exact completes_guard

theorem completes_execChainLockLoss (pair : Fin 4) (s : State) : Completes (execChainLockLoss pair s) := by
  unfold execChainLockLoss
  split
  · split
    · exact completes_guard
    · exact completes_next _
  · exact completes_guard

theorem completes_execFrameScanRead (addr : Word) (found : ScanFound) (s : State) : Completes (execFrameScanRead addr found s) := by
  refine completes_ite (completes_next _) (completes_ite (completes_next _) ?_)
  cases found with
  | none => exact completes_next _
  | correctable bits => exact completes_guard
  | uncorrectable => exact completes_next _

/-! ### The management complex and debug sessions -/

theorem completes_execScratchpadUncorrectable (word : Fin 524288) (victim : SpdVictim) (s : State) :
    Completes (execScratchpadUncorrectable word victim s) := by
  refine completes_ite completes_guard ?_
  cases victim with
  | none => exact completes_next _
  | slot m i => exact completes_guard
  | job id =>
    dsimp only
    split
    · exact completes_guard
    · exact completes_next _

theorem completes_execPkOpComplete (s : State) : Completes (execPkOpComplete s) := by
  refine completes_ite ?_ (completes_next _)
  split
  · exact completes_next _
  · refine completes_ite (completes_next _) ?_
    split <;> exact completes_next _

theorem completes_execRegisterWrite (a : RegAddr) (v : Word) (s : State) : Completes (execRegisterWrite a v s) := by
  cases a with
  | bar f off => exact completes_guard
  | silt | spd | dbg => exact completes_next _

theorem completes_execBreakMatch (session : Fin 65536) (point : Fin 3) (node : Fin 1024) (p : Packet) (s : State) :
    Completes (execBreakMatch session point node p s) := by
  unfold execBreakMatch
  split
  · exact completes_guard
  · exact completes_next _

theorem completes_execHaltLeaseBound (plot : Fin 17) (s : State) : Completes (execHaltLeaseBound plot s) := by
  unfold execHaltLeaseBound
  split <;> exact completes_next _

/-! ### Every row -/

/-- Every row answers a next state. The rows that look at nothing first come first, then those with one guard, then those with a second
guard within or after the first; the others choose by what they find. -/
theorem completes_exec (c : Instr) (s : State) : Completes (exec c s) := by
  cases c with
  | brownOut | loamRailLow | vbattLow | tapInstruction | tapReset | monitorFrame | endpointHotReset | fwPieceTimeout | spdBankOwnerWrite
  | spdSetAliasWrite | spdClearAliasWrite | spdErrRead | spdCntClr | caps | idCert | jobStatus | jobCancel | jobList | cfgLoad | cfgClear
  | cfgStatus | cfgStore | cfgErase | cfgBootSet | cfgDir | cfgReadback | cfgScanStatus | fwUpdate | fwActivate | profileLoad
  | profileSwap | profileUnload | profileRead | profileStats | homeMapSet | homeMapRead | agentBind | agentRead | pceSfAssign | pceRemap
  | pceStatus | plotCreate | plotChange | plotDestroy | plotReset | plotLoad | plotStatus | flowConfig | flowStatus | slotLend
  | slotReclaim | grnConfig | grnStatus | keyImport | keyDrop | attest | vaultStatus | fuseProg | bbramKeyWrite | bbramClear | tamperClear
  | kaoConfig | kaoStatus | kaoMapSet | kaoOpSet | kaoChanOffline | kaoChanOnline | kaoBist | kaoScrub | kaoInject | kaoPatrolSet
  | peatConfig | peatScrub | peatStatus | siltRouteLoad | siltRouteRead | siltBypass | siltStatus | siltTargetRevive | siltProbeSet
  | siltTraceRead | siltLeaseSet | nauRateSet | nauConfig | nauStatus | portConfig | portReset | portLoopback | portStatus | ideKeySet
  | laneStatus | laneMargin | laneSleep | reachConfig | dlinkStatus | dlinkSwap | dlinkHalve | dlinkMargin | dieIsolate | kaoChanReplace
  | rowSpare | tilthPolicy | tilthStatus | tilthClear | crcSelftest | peatRetire | evtRoute | evtRearm | evtStatus | errRead | dumpList
  | dumpRead | dumpPolicy | dumpErase | dbgOpen | dbgClose | dbgFreeze | dbgResume | dbgRead | dbgWrite | dbgUnitSet | dbgStatus | dbgCall
  | vdbgOpen | telRead | vidSet | telThresh | nauErrRead | nauCntClr | nauRateWrite | kaoChErrRead | kaoInjCtrlWrite | kaoInjStatusRead
  | crcCtrlWrite | crcAliveWrite | crcValWrite | crcStatusRead | crcCntClr | crcFeedB | crcFeedH | crcFeedW | crcEnd | siltBrkHitRead
  | siltDbgCoreWrite | coreHaltExpiry | tokenReturn | activationTableClear | deliveryReport | dropNotice | slotFill | dieIsolation
  | sourceRaise | handlingWindowClose | numvfsWrite | nauRegulatorRefill | brdEvtRelease | fabricEventOutputFall =>
    exact completes_next _
  | porNAssert | mailboxReady | refclkLoss | thermalClamp | clampEnd | thermalTrip | vidRampStep | voltageDrift | tamper | synthLockLoss
  | brdEvtInput | mbxDoorbell | mbxAck | slotZeroized | mctpRequest | setEndpointId | getEndpointId | getMessageTypeSupport | turn
  | mgmtWatchdogExpiry | lockstepMismatch | managementRestartDone | vfDisable | mbxErrRead | mbxCntClr | plotBlankZeroingDone | memRead
  | memWrite | telemetryUpdate | kaoCntClr | kaoProtClr | grtErrRead | grtSeqRun | grtSeqStop | grtProgWrite | nauRequest | producerGrain
  | directiveWrite | crcPortFeed | crcPortEnd | bramAccess | gritIssue | gritEvent | gritGo | gritOutAccept | operandLoad
  | fabricEventOutput | plotWatchdogKick | plotWatchdogExpiry | reservationTokenRequest | siltPacketForward | deadTargetStall
  | attachmentEpochSwitch | lockBrokenNotice | read | write | writePart | lockRead | unlockWrite | unlock | completion | data
  | kaoSchedule | openPageTimeout | stackTempHigh | patrolRead | forcedSweep | blockRetire | drainComplete | drainTimeout | decode
  | continueChain | emission | escalationTimeout | linkUp | trainingTimeout | trainingRetry | linkDown | viralReceived | ideIntegrityFail
  | flitReplay | dfeAdaptationUpdate | reachUnderflow | dlinkMarginSample | plannedSwapAuto | coalesceDelivery | coalescingEnd
  | autoMasked | dumpWrite | softHaltComplete | thermalWarningEnd | kaolinStackHot | dlinkForwardedClockLoss | randomSourceHealthFailure
  | msixVectorUnmask | slotRequestWrite | linkPowerStateChange | transportResponseSent =>
    exact completes_guard
  | porNRelease | loamResetRelease | railOutOfLimits | thermalWarning | getMctpVersionSupport | slotOpen | slotClose | linkCrcFail | event
  | patrolLapEnd | reachReceive | laneCheck | railRecovery =>
    exact completes_ite completes_guard (completes_next _)
  | saturation | flr | refreshDue =>
    exact completes_ite (completes_next _) completes_guard
  | periodicCalibration | lossOfSignal | lossOfLock =>
    exact completes_ite (completes_ite (completes_next _) completes_guard) (completes_next _)
  | tilthDetour => exact completes_ite (completes_ite completes_guard (completes_next _)) (completes_next _)
  | uartFrame =>
    exact completes_ite (completes_next _) (completes_ite (completes_next _) (completes_ite (completes_next _) completes_guard))
  | ohmyxStart kaolinBad => exact completes_execOhmyxStart kaolinBad s
  | pkOpComplete => exact completes_execPkOpComplete s
  | scratchpadUncorrectable word victim => exact completes_execScratchpadUncorrectable word victim s
  | registerWrite a v => exact completes_execRegisterWrite a v s
  | answerTimeout node tag => exact completes_execAnswerTimeout node tag s
  | coherentOut node header data => exact completes_execCoherentOut node header data s
  | entryTake node slot entry => exact completes_execEntryTake node slot entry s
  | shadowBankAck node => exact completes_execShadowBankAck node s
  | routerAckTimeout node => exact completes_execRouterAckTimeout node s
  | routeChangeEnd => exact completes_execRouteChangeEnd s
  | leaseExpiry line => exact completes_execLeaseExpiry line s
  | regRead p => exact completes_execRegRead p s
  | regWrite p => exact completes_execRegWrite p s
  | msg p => exact completes_execMsg p s
  | grainCreate p => exact completes_execGrainCreate p s
  | grainPush p => exact completes_execGrainPush p s
  | directive p => exact completes_execDirective p s
  | dirReport p => exact completes_execDirReport p s
  | stream p => exact completes_execStream p s
  | frame p => exact completes_execFrame p s
  | delivered p => exact completes_execDelivered p s
  | lineReadComplete stack ch => exact completes_execLineReadComplete stack ch s
  | rowSpareAuto stack ch bank row => exact completes_execRowSpareAuto stack ch bank row s
  | channelStopsAnswering stack => exact completes_execChannelStopsAnswering stack s
  | frameWriterBlock job block => exact completes_execFrameWriterBlock job block s
  | chainSegment container => exact completes_execChainSegment container s
  | chainLockLoss pair => exact completes_execChainLockLoss pair s
  | frameScanRead addr found => exact completes_execFrameScanRead addr found s
  | evaluate slice => exact completes_execEvaluate slice s
  | directoryFetchComplete slice trk status => exact completes_execDirectoryFetchComplete slice trk status s
  | lockQueueHead slice trk => exact completes_execLockQueueHead slice trk s
  | parkedRequestServe slice => exact completes_execParkedRequestServe slice s
  | grainRefill pos => exact completes_execGrainRefill pos s
  | linkTraining link rate lanes reversed eq => exact completes_execLinkTraining link rate lanes reversed eq s
  | partnerPresetRequest lane req => exact completes_execPartnerPresetRequest lane req s
  | partnerMarginRequest lane cmd => exact completes_execPartnerMarginRequest lane cmd s
  | configSpaceForward link req off wr => exact completes_execConfigSpaceForward link req off wr s
  | breakMatch session point node p => exact completes_execBreakMatch session point node p s
  | haltLeaseBound plot => exact completes_execHaltLeaseBound plot s
  | refclkReturn input => exact completes_execRefclkReturn input s
  | laneReturn lane => exact completes_execLaneReturn lane s
  | forcedSweepEnd stack granule => exact completes_execForcedSweepEnd stack granule s
  | pcieTlpReceive link tlp => exact completes_execPcieTlpReceive link tlp s
  | coherentInAccept node answer => exact completes_execCoherentInAccept node answer s

/-- Settles O3: on an empty queue the time base ticks, and a command at the front completes whatever the state. -/
theorem everyStepCompletes : Obligations.EveryStepCompletes := by
  intro s
  unfold step
  split
  · exact completes_next _
  · exact completes_exec _ _

end Machine
end Sys2Proof
end

section
namespace Sys2Proof
namespace Machine

/-! ## Turns of the management complex (R23, R265, R345) -/

/-- No background task takes the turn before commands and jobs: the ROM runs none (R326), and no task is below its share (R23). -/
def NoTaskFirst (s : State) : Prop := s.sys.phase = .romMode ∨ belowFloor s = none

theorem exec_turn_not_serving {s : State} (h : serving s = false) (us : Nat) : exec (.turn us) s = .next s := by
  show execTurn us s = _
  rw [execTurn, if_neg (by simp [h])]

theorem exec_turn_serving {s : State} (h : serving s = true) (us : Nat) :
    exec (.turn us) s = .next (countTurn (chooseTurn (turnFirst s) us) us) := by
  show execTurn us s = _
  rw [execTurn, if_pos h]

theorem sysSecond_sys (s : State) : (sysSecond s).sys = s.sys := rfl

/-- In service a turn begins with the second copies, the error records and what waited for the turn. -/
theorem turnFirst_ready {s : State} (h : s.sys.phase = .ready) :
    turnFirst s = runTriggers (startOwed (readRecords (if s.peat.sysDue = [] then s else sysSecond s))) := by
  have hphase : (if s.peat.sysDue = [] then s else sysSecond s).sys.phase = .ready := by
    split
    · exact h
    · rw [sysSecond_sys, h]
  exact if_pos hphase

/-- With one record due whose copy A is the newer, copy A goes into the place of copy B (R265). -/
theorem sysSecond_of_newer_a {s : State} {k : Nat} (hdue : s.peat.sysDue = [k])
    (hseq : copySeq (tget none s.peat.sysB k) < copySeq (tget none s.peat.sysA k)) :
    (sysSecond s).peat.sysA = tset none s.peat.sysA k (tget none s.peat.sysA k) ∧
    (sysSecond s).peat.sysB = tset none s.peat.sysB k (tget none s.peat.sysA k) := by
  simp [sysSecond, modPeat, hdue, hseq.le]

theorem sysSecond_sysDue (s : State) : (sysSecond s).peat.sysDue = [] := rfl

/-- A background task below its share runs before commands and jobs. -/
theorem chooseTurn_task {s : State} {i : Nat} (hrom : s.sys.phase ≠ .romMode) (h : belowFloor s = some i) (us : Nat) :
    chooseTurn s us = taskTurn s i us := by
  simp [chooseTurn, hrom, h]

theorem NoTaskFirst.task_eq_none {s : State} (h : NoTaskFirst s) : (if s.sys.phase = .romMode then none else belowFloor s) = none := by
  rcases h with hrom | hbelow
  · exact if_pos hrom
  · rw [hbelow, ite_self]

/-- A job that has waited for 1 ms of commands runs before them. -/
theorem chooseTurn_overdue_job {s : State} {id : Nat} (h : NoTaskFirst s) (hus : 1000 ≤ s.mgmt.cmdUs) (hjob : nextOpenJob s = some id)
    (us : Nat) : chooseTurn s us = jobTurn s id := by
  simp [chooseTurn, h.task_eq_none, hus, hjob]

/-- Before that a command runs first. -/
theorem chooseTurn_mailbox {s : State} {m : Nat} (h : NoTaskFirst s) (hwait : s.mgmt.cmdUs < 1000 ∨ nextOpenJob s = none)
    (hmbx : nextMbx s = some m) (us : Nat) : chooseTurn s us = serveMbx s m us := by
  have hnone : (if 1000 ≤ s.mgmt.cmdUs then nextOpenJob s else none) = none := by
    rcases hwait with hlt | hjob
    · exact if_neg (Nat.not_le.mpr hlt)
    · rw [hjob, ite_self]
  simp [chooseTurn, h.task_eq_none, hnone, hmbx]

/-- Where no command waits a job runs. -/
theorem chooseTurn_job {s : State} {id : Nat} (h : NoTaskFirst s) (hus : s.mgmt.cmdUs < 1000) (hmbx : nextMbx s = none)
    (hjob : nextOpenJob s = some id) (us : Nat) : chooseTurn s us = jobTurn s id := by
  simp [chooseTurn, h.task_eq_none, hus.not_ge, hmbx, hjob]

/-- A mailbox that is served has something for Ohmyx. -/
theorem mbxWaits_of_nextMbx {s : State} {m : Nat} (h : nextMbx s = some m) : mbxWaits s m = true := List.find?_some h

/-- A task below its floor needs something of the window: one that needs nothing has no floor. -/
theorem taskNeed_pos_of_belowFloor {s : State} {i : Nat} (h : belowFloor s = some i) : 0 < Config.taskNeed i s.mgmt.windows := by
  have hlt : 1000 * tget 0 s.mgmt.used i < floorOf s i * s.mgmt.windowUs := by simpa using List.find?_some h
  have hfloor : 0 < floorOf s i := Nat.pos_of_mul_pos_right (Nat.zero_lt_of_lt hlt)
  exact Nat.lt_of_lt_of_le hfloor (Nat.min_le_right _ _)

/-- Settles O33, clause by clause from what a turn chooses. -/
theorem turns : Obligations.Turns := by
  refine ⟨fun s us h => exec_turn_not_serving h us, fun s h => turnFirst_ready h, fun s k hdue hseq => ?_, fun s us hs hready => ?_,
    fun s us id hs _ hbelow hus hjob => ?_, fun s us m hs _ hbelow hwait hmbx => ?_, fun s us id hs _ hbelow hus hmbx hjob => ?_,
    fun s us m hs hrom hwait hmbx => ⟨mbxWaits_of_nextMbx hmbx, ?_⟩, fun s i => ⟨Nat.min_le_left _ _, ?_⟩⟩
  · obtain ⟨ha, hb⟩ := sysSecond_of_newer_a hdue hseq
    exact ⟨sysSecond_sysDue s, by rw [ha, tget_tset_self], by rw [hb, tget_tset_self]⟩
  · rw [exec_turn_serving hs]
    split
    · next i hbelow => rw [chooseTurn_task (by simp [hready]) hbelow]
    · rfl
  · rw [exec_turn_serving hs, chooseTurn_overdue_job (.inr hbelow) hus hjob]
  · rw [exec_turn_serving hs, chooseTurn_mailbox (.inr hbelow) hwait hmbx]
  · rw [exec_turn_serving hs, chooseTurn_job (.inr hbelow) hus hmbx hjob]
  · rw [exec_turn_serving hs, chooseTurn_mailbox (.inl hrom) hwait hmbx]
  · by_cases hbelow : belowFloor s = some i
    · exact .inr (taskNeed_pos_of_belowFloor hbelow)
    · exact .inl hbelow

end Machine
end Sys2Proof
end

section
namespace Sys2Proof
namespace Machine

/-! ## Coordinates of the Loam dies (R35) -/

theorem pkgXY_lt (p : Nat) {lx ly : Nat} (hx : lx < 8) (hy : ly < 8) : (pkgXY p lx ly).1 < 8 ∧ (pkgXY p lx ly).2 < 8 := by
  unfold pkgXY
  split <;> dsimp only <;> omega

/-- Die-local coordinates survive the way to the package and back. -/
theorem localXY_pkgXY (p : Nat) {lx ly : Nat} (hx : lx < 8) (hy : ly < 8) :
    localXY p (pkgXY p lx ly).1 (pkgXY p lx ly).2 = (lx, ly) := by
  have hx7 : 7 - (7 - lx) = lx := by omega
  have hy7 : 7 - (7 - ly) = ly := by omega
  match p with
  | 0 => rfl
  | 1 => exact Prod.ext hx7 rfl
  | 2 => exact Prod.ext hx7 hy7
  | _ + 3 => exact Prod.ext rfl hy7

/-! ### The fields of a node identifier -/

theorem nodeDie_nodeXY (d : Nat) {x y att : Nat} (hx : x < 8) (hy : y < 8) (ha : att < 2) : nodeDie (nodeXY d x y att) = d := by
  unfold nodeDie nodeXY
  omega

theorem nodeX_nodeXY (d y : Nat) {x att : Nat} (hx : x < 8) (ha : att < 2) : nodeX (nodeXY d x y att) = x := by
  unfold nodeX nodeXY
  omega

theorem nodeY_nodeXY (d : Nat) {x y att : Nat} (hx : x < 8) (hy : y < 8) (ha : att < 2) : nodeY (nodeXY d x y att) = y := by
  unfold nodeY nodeXY
  omega

/-! ### Where the die-link groups and the fronts attach -/

/-- The clockwise neighbour of a router on a die's clockwise edge: the same row at `lx` 0 of the next die (R206). -/
theorem linkTo_clockwise {p ly : Nat} (hp : p < 4) (hlo : 2 ≤ ly) (hhi : ly ≤ 5) :
    linkTo (nodeLocal p 7 ly 0) 5 = some (nodeLocal ((p + 1) % 4) 0 ly 0) := by
  have hly : ly < 8 := by omega
  obtain ⟨hx, hy⟩ := pkgXY_lt p (show 7 < 8 by decide) hly
  have hne : ly ≠ 0 := by omega
  simp [linkTo, nodeLocal, nodeDie_nodeXY p hx hy, nodeX_nodeXY p _ hx, nodeY_nodeXY p hx hy, localXY_pkgXY p, loamRouter,
    hp, hly, hne, hlo, hhi]

/-- A group of the Marl edge stands at `ly` 0 (R35). -/
theorem groupNode_inner {g : Nat} (h : groupEdge g = 0) : groupNode g = nodeLocal (groupPos g) (groupPair g) 0 0 := if_pos h

/-- A group of the clockwise edge stands at `lx` 7 (R35). -/
theorem groupNode_clockwise {g : Nat} (h : groupEdge g = 1) : groupNode g = nodeLocal (groupPos g) 7 (groupPair g + 2) 0 :=
  if_neg (by simp [h])

/-- Its peer stands on the next die's counter-clockwise edge, at `lx` 0 of the same row (R35, R206). -/
theorem groupPeer_clockwise {g : Nat} (hg : g < 128) (h : groupEdge g = 1) (hpair : groupPair g < 4) :
    groupPeer g = nodeLocal ((groupPos g + 1) % 4) 0 (groupPair g + 2) 0 := by
  have hpos : groupPos g < 4 := by unfold groupPos; omega
  rw [groupPeer, groupNode_clockwise h, linkTo_clockwise hpos (by omega) (by omega)]
  rfl

/-- Settles O9: the table of R35 is the definition, its inverse is `localXY_pkgXY`, and each attachment stands where its node says. -/
theorem loamCoordinates : Obligations.LoamCoordinates := by
  refine ⟨fun lx ly _ _ => ⟨rfl, rfl, rfl, rfl⟩, fun p lx ly _ hx hy => localXY_pkgXY p hx hy, fun g _ h => ?_, fun g hg h hpair => ?_,
    fun p lx _ _ => rfl, fun n _ => ⟨if portLocal n = 0 then 1 else 6, by split <;> decide, rfl⟩⟩
  · exact ⟨groupPair g, Nat.mod_lt _ (by decide), groupNode_inner h⟩
  · have hrow : groupPair g + 2 < 8 := by omega
    exact ⟨groupPair g + 2, hrow, groupNode_clockwise h, groupPair g + 2, hrow, by rw [groupPeer_clockwise hg h hpair]⟩

end Machine
end Sys2Proof
end

section
namespace Sys2Proof

/-- After a change of several keys of a canonical table, what the change brings about holds at each of them, and where it held
before. -/
theorem tget_tsetAll_of {α : Type} [DecidableEq α] {d : α} {f : α → α} {P : α → Prop} (hf : ∀ x, P (f x)) {k : Nat} (ks : List Nat)
    {t : Tbl α} (hwf : tblWf d t = true) (h : P (tget d t k) ∨ k ∈ ks) : P (tget d (tsetAll d t ks f) k) := by
  induction ks generalizing t with
  | nil => exact h.resolve_right (List.not_mem_nil)
  | cons k₀ ks ih =>
    refine ih (t := tmod d t k₀ f) (tblWf_tset d t k₀ _ hwf) ?_
    by_cases hk : k = k₀
    · subst hk
      exact .inl (by rw [tget_tmod_self]; exact hf _)
    · have hsame : tget d (tmod d t k₀ f) k = tget d t k := tget_tset_ne d t 0 k₀ _ hwf k hk
      rw [hsame]
      exact h.imp_right fun hmem => (List.mem_cons.mp hmem).resolve_left hk

namespace Machine

/-! ## Rails, clocks and voltage steps (R38, R58, R427, R433, R436) -/

/-! ### A raise leaves lanes, links and ports as they are -/

@[simp] theorem msix_io (s : State) (f v : Nat) : (msix s f v).io = s.io := rfl

@[simp] theorem deliver_io (s : State) (i : Nat) : (deliver s i).io = s.io := by
  cases h : (srcAt s i).fabric <;> simp [deliver, h, apply_ite State.io]

@[simp] theorem raiseBase_io (s : State) (i : Nat) : (raiseBase s i).io = s.io := by
  unfold raiseBase
  split
  · dsimp only
    split
    · rfl
    · split <;> simp
  · rfl

@[simp] theorem recordBase_io (s : State) (r : RecOf) : (recordBase s r).2.io = s.io := by
  unfold recordBase
  split
  · rfl
  · split
    · rfl
    · split
      · rfl
      · split <;> rfl

@[simp] theorem record_io (s : State) (r : RecOf) : (record s r).io = s.io := by
  unfold record
  dsimp only
  split <;> simp

@[simp] theorem stormCheck_io (s : State) : (stormCheck s).io = s.io := by
  unfold stormCheck
  split
  · split <;> simp
  · rfl

@[simp] theorem raise_io (s : State) (i : Nat) : (raise s i).io = s.io := by simp [raise]

/-! ### The reach lanes without XLREF -/

/-- A lane reports loss of lock. -/
def loseLock (x : Lane) : Lane := { x with lol := true, locked := false }

/-- One reach lane loses its clock: one step of `reachUnlock`. -/
def unlockReachLane (s : State) (j : Nat) : State :=
  let t := modReach (modLane s (128 + j) loseLock) j (fun x => { x with filler := none })
  if (laneAt s (128 + j)).lol then t else raise t (laneSrc (128 + j))

theorem reachUnlock_eq (s : State) : reachUnlock s = (List.range (partReach s.sys.part)).foldl unlockReachLane s := rfl

theorem unlockReachLane_lanes (s : State) (j : Nat) : (unlockReachLane s j).io.lanes = tmod {} s.io.lanes (128 + j) loseLock := by
  unfold unlockReachLane
  dsimp only
  split
  · rfl
  · rw [raise_io]
    rfl

theorem reachUnlock_lanes (s : State) :
    (reachUnlock s).io.lanes = tsetAll {} s.io.lanes ((List.range (partReach s.sys.part)).map (128 + ·)) loseLock := by
  rw [reachUnlock_eq, tsetAll, List.foldl_map]
  exact (List.foldl_hom (fun s : State => s.io.lanes) fun s j => (unlockReachLane_lanes s j).symm).symm

/-- Without XLREF every reach lane of the part reports loss of lock (R427). -/
theorem laneAt_reachUnlock {s : State} {j : Nat} (hwf : tblWf {} s.io.lanes = true) (hj : j < partReach s.sys.part) :
    (laneAt (reachUnlock s) (128 + j)).lol = true ∧ (laneAt (reachUnlock s) (128 + j)).locked = false := by
  rw [laneAt, reachUnlock_lanes]
  exact tget_tsetAll_of (P := fun x : Lane => x.lol = true ∧ x.locked = false) (fun _ => ⟨rfl, rfl⟩) _ hwf
    (.inr (List.mem_map_of_mem (List.mem_range.mpr hj)))

/-! ### What each row answers -/

theorem exec_railOutOfLimits {s : State} (hp : powered s = true) (i : Fin 32) (mv : Nat) : exec (.railOutOfLimits i mv) s =
    if mv < tget 0 s.sys.voltLow i.val ∨ (tget 0 s.sys.voltHigh i.val ≠ 0 ∧ tget 0 s.sys.voltHigh i.val < mv) then
      .next (raise (modSys s (fun y => { y with volt := tset 0 y.volt i.val mv })) srcTele)
    else .next (modSys s (fun y => { y with volt := tset 0 y.volt i.val mv })) := if_pos hp

theorem exec_vidRampStep {s : State} {pos : Fin 4} (hup : dieUp s pos.val = true) (hr : (dieAt s pos.val).ramping = true)
    (hc : (dieAt s pos.val).clamp = false) {t c : Nat} (ht : t = vidCodeOf (dieAt s pos.val).vidTarget)
    (h : c = if (dieAt s pos.val).vidCode < t then (dieAt s pos.val).vidCode + 1
      else if t < (dieAt s pos.val).vidCode then (dieAt s pos.val).vidCode - 1 else (dieAt s pos.val).vidCode) :
    exec (.vidRampStep pos) s = .next (modDie s pos.val (fun d => { d with vidCode := c, ramping := decide (c ≠ t) })) := by
  subst h ht
  exact if_pos ⟨hup, hr, hc⟩

/-- Settles O25, row by row from what each answers; the source of an isolation by rail or synthesizer is log entry 103's. -/
theorem powerEvents : Obligations.PowerEvents := by
  refine ⟨fun s pos => rfl, fun s => rfl, fun s i mv hp => ⟨fun hout => ?_, fun hlow hhigh => ?_⟩, fun s c hp => ⟨_, if_pos hp, ?_⟩,
    fun s => rfl, fun s => rfl, fun s => rfl, fun s h => if_pos h, fun s j hwf hj => laneAt_reachUnlock hwf hj,
    fun s pos hup => if_pos hup, fun s pos c hup hr hc h => exec_vidRampStep hup hr hc rfl h,
    fun s pos hup hr => if_pos ⟨hup, hr⟩⟩
  · exact (exec_railOutOfLimits hp i mv).trans (if_pos hout)
  · refine (exec_railOutOfLimits hp i mv).trans (if_neg ?_)
    omega
  · cases c <;> rfl

end Machine
end Sys2Proof
end

section
namespace Sys2Proof
namespace Machine

/-! ## The gates of a mailbox command (R46, R326, R338, R352, R398) -/

/-- What steps 1 and 2 of R352 answer: the requester's rights, the length. -/
def stepsRefusal (k : CmdSpec) (w : Who) (p : Bytes) : Option Ans :=
  if !groupOk w k.op || !horizonOk k w then some (ansBad stDenied 0)
  else if !k.len p then some (ansBad stBadArg 0xFF)
  else none

/-- What a command is answered before its own checks: by the state of the device (R326, R398), then by steps 1 and 2 of R352. -/
def gateRefusal (k : CmdSpec) (m : Fin 24) (i : Fin 8) (p : Bytes) (s : State) : Option Ans :=
  (gateAns s m.val k.op).or (stepsRefusal k (asker s m i) p)

/-- `t` is what the gates make of `s`: `s` itself where nothing serves the mailbox, and a refusal in the slot where they answer one. -/
structure Gated (k : CmdSpec) (m : Fin 24) (i : Fin 8) (p : Bytes) (s t : State) : Prop where
  unserved : serving s = false ∨ 18 < m.val → t = s
  refused : ∀ a, serving s = true → m.val ≤ 18 → gateRefusal k m i p s = some a →
    t = reply (running s m.val i.val) m.val i.val k.op a

section
variable {k : CmdSpec} {m : Fin 24} {i : Fin 8} {p : Bytes} {s : State}

/-! ### What the gates answer -/

theorem stepsRefusal_of_denied {w : Who} (h : groupOk w k.op = false ∨ horizonOk k w = false) :
    stepsRefusal k w p = some (ansBad stDenied 0) := if_pos (by simpa using h)

theorem stepsRefusal_of_len {w : Who} (h1 : groupOk w k.op = true) (h2 : horizonOk k w = true) (h : k.len p = false) :
    stepsRefusal k w p = some (ansBad stBadArg 0xFF) := by simp [stepsRefusal, h1, h2, h]

theorem stepsRefusal_eq_none {w : Who} :
    stepsRefusal k w p = none ↔ groupOk w k.op = true ∧ horizonOk k w = true ∧ k.len p = true := by
  unfold stepsRefusal
  by_cases h : (!groupOk w k.op || !horizonOk k w) = true
  · rw [if_pos h]
    simp only [Bool.or_eq_true, Bool.not_eq_true'] at h
    rcases h with h | h <;> simp [h]
  · rw [if_neg h]
    simp only [Bool.or_eq_true, Bool.not_eq_true', not_or, Bool.not_eq_false] at h
    simp [h]

/-- The two steps of R352 as the model's carriers write them. -/
theorem stepsRefusal_or {w : Who} (o : Option Ans) : (stepsRefusal k w p).or o =
    if !groupOk w k.op || !horizonOk k w then some (ansBad stDenied 0) else if !k.len p then some (ansBad stBadArg 0xFF) else o := by
  unfold stepsRefusal
  split
  · rfl
  · split <;> rfl

theorem gateAns_romMode {op : Nat} (hp : s.sys.phase = .romMode)
    (h : ¬ ((m.val = 0 ∨ m.val = 18) ∧ (op = 0x0000 ∨ op = 0x0109 ∨ op = 0x0B00))) :
    gateAns s m.val op = some (ansBad stAbsent 3) := by
  rw [gateAns, if_pos hp, if_neg h]

theorem gateAns_fatal {op : Nat} (hp : s.sys.phase = .ready) (hf : s.sys.fatal = true)
    (h : op / 256 ≠ 0x00 ∧ op / 256 ≠ 0x08 ∧ op / 256 ≠ 0x0A ∧ op / 256 ≠ 0x0B) :
    gateAns s m.val op = some (ansBad stFault 1) := by
  simp [gateAns, hp, hf, groupOf, h]

theorem gateAns_ready {op : Nat} (hp : s.sys.phase = .ready) (hf : s.sys.fatal = false) : gateAns s m.val op = none := by
  simp [gateAns, hp, hf]

theorem gateRefusal_of_gateAns {a : Ans} (h : gateAns s m.val k.op = some a) : gateRefusal k m i p s = some a := by
  simp [gateRefusal, h]

theorem gateRefusal_of_ready (hp : s.sys.phase = .ready) (hf : s.sys.fatal = false) :
    gateRefusal k m i p s = stepsRefusal k (asker s m i) p := by
  simp [gateRefusal, gateAns_ready hp hf]

/-- Outside ROM mode the gates see the requester that the mailbox speaks for (R46, R326). -/
theorem asker_of_not_romMode (hp : s.sys.phase ≠ .romMode) :
    asker s m i = { (whoOf s m.val i.val) with consume := hdrConsume s m.val i.val } := by
  rw [asker, gateWho, if_neg hp]

/-- In ROM mode every command but CAPS, FW_UPDATE and JOB_STATUS is refused (R326). -/
theorem not_romMode_of_gateAns {op : Nat} (hop : op ≠ 0x0000 ∧ op ≠ 0x0109 ∧ op ≠ 0x0B00) (h : gateAns s m.val op = none) :
    s.sys.phase ≠ .romMode := by
  intro hp
  rw [gateAns_romMode hp (by tauto)] at h
  cases h

/-- An admitted command is served, and the gates answer nothing. -/
theorem admits_eq : admits k m.val i.val p s = (serving s && decide (m.val ≤ 18) && (gateRefusal k m i p s).isNone) := by
  rw [Bool.eq_iff_iff]
  simp only [gateRefusal, Bool.and_eq_true, Option.isNone_iff_eq_none, Option.or_eq_none_iff, stepsRefusal_eq_none]
  simp only [admits, Bool.and_eq_true, Option.isNone_iff_eq_none, asker, and_assoc]

/-! ### Commands carried by `runCmd` and by the public-key engine -/

theorem runBody_eq {w : Who} : runBody k w p s = ((stepsRefusal k w p).map (·, s)).getD (k.body w p s) := by
  unfold runBody stepsRefusal
  split
  · rfl
  · split <;> rfl

theorem gated_runCmd : Gated k m i p s (runCmd k m.val i.val p s) where
  unserved h := if_pos h
  refused a hs hm h := by
    rw [runCmd, if_neg (by simp [hs, hm])]
    rcases Option.or_eq_some_iff.mp h with hg | ⟨hg, hr⟩
    · rw [hg]
    · rw [hg]
      change reply (runBody k (asker s m i) p _).2 _ _ _ (runBody k (asker s m i) p _).1 = _
      rw [runBody_eq, hr]
      rfl

/-- A command of the public-key engine is none of those of ROM mode, so its gates see the mailbox's own requester. -/
theorem gated_runPk {pre : Who → Bytes → State → Option Ans} (hop : k.op ≠ 0x0000 ∧ k.op ≠ 0x0109 ∧ k.op ≠ 0x0B00) :
    Gated k m i p s (runPk k pre m.val i.val p s) where
  unserved h := if_pos h
  refused a hs hm h := by
    rw [runPk, if_neg (by simp [hs, hm])]
    rcases Option.or_eq_some_iff.mp h with hg | ⟨hg, hr⟩
    · rw [hg]
    · rw [asker_of_not_romMode (not_romMode_of_gateAns hop hg)] at hr
      have hr' : stepsRefusal k (whoOf s m.val i.val) p = some a := hr
      simp only [hg, ← stepsRefusal_or, hr', Option.some_or]

/-! ### The rows that carry a command in another way -/

/-- A freeze that begins is an admitted one (R417). -/
theorem runFreeze_of_not_admits (h : admits specDbgFreeze m.val i.val p s = false) :
    runFreeze m.val i.val p s = runCmd specDbgFreeze m.val i.val p s := by
  by_cases hs : serving s = false ∨ 18 < m.val
  · rw [runFreeze, if_pos hs, runCmd, if_pos hs]
  · rw [runFreeze, if_neg hs]
    refine if_neg fun hc => ?_
    simp only [Bool.and_eq_true, Option.isNone_iff_eq_none] at hc
    obtain ⟨⟨hg, h1⟩, h2⟩ := hc
    rw [← asker_of_not_romMode (not_romMode_of_gateAns (by decide) hg)] at h1
    have hr : gateRefusal specDbgFreeze m i p s = none :=
      Option.or_eq_none_iff.mpr ⟨hg, stepsRefusal_eq_none.mpr ⟨h1, rfl, h2⟩⟩
    simp only [not_or, Bool.not_eq_false, Nat.not_lt] at hs
    simp [admits_eq, hr, hs] at h

theorem startAskedRestart_of_not_asked {t : State} (h : t.mgmt.restartFw = false) : startAskedRestart t = t :=
  if_neg (by simp [h])

/-- The state but for what a response changes: the mailboxes, the messages sent, and the count of free values drawn. -/
def besideAnswers (s : State) : State := { s with mbxs := [], fns := [], mgmt := { s.mgmt with free := 0 } }

theorem besideAnswers_reply (m j op : Nat) (a : Ans) : besideAnswers (reply s m j op a) = besideAnswers s := by
  unfold reply
  extract_lets retry s0 s1 s2
  have h0 : besideAnswers s0 = besideAnswers s := by
    simp only [s0]
    split <;> rfl
  have h1 : besideAnswers s1 = besideAnswers s := h0
  have h2 : besideAnswers s2 = besideAnswers s := h1
  split
  · exact h1
  · split
    · exact h1
    · split
      · exact h2
      · exact h2

theorem reply_restartFw (m j op : Nat) (a : Ans) : (reply s m j op a).mgmt.restartFw = s.mgmt.restartFw :=
  (congrArg (·.mgmt.restartFw) (besideAnswers_reply m j op a) :)

theorem reply_sys (m j op : Nat) (a : Ans) : (reply s m j op a).sys = s.sys :=
  (congrArg State.sys (besideAnswers_reply m j op a) :)

theorem reply_vault (m j op : Nat) (a : Ans) : (reply s m j op a).vault = s.vault :=
  (congrArg State.vault (besideAnswers_reply m j op a) :)

theorem reply_dbg (m j op : Nat) (a : Ans) : (reply s m j op a).dbg = s.dbg :=
  (congrArg State.dbg (besideAnswers_reply m j op a) :)

/-- A command that the gates stop asks for no restart. -/
theorem Gated.startAskedRestart {t : State} (h : Gated k m i p s t) (hfw : s.mgmt.restartFw = false) :
    Gated k m i p s (startAskedRestart t) where
  unserved hs := by
    rw [h.unserved hs, startAskedRestart_of_not_asked hfw]
  refused a hs hm hr := by
    rw [h.refused a hs hm hr, startAskedRestart_of_not_asked]
    rw [reply_restartFw, running_mgmt, hfw]

theorem Gated.of_not_admits {t : State} (h : admits k m.val i.val p s = false → t = runCmd k m.val i.val p s) :
    Gated k m i p s t where
  unserved hs := by
    have hn : admits k m.val i.val p s = false := by
      rcases hs with hs | hs
      · simp [admits_eq, hs]
      · simp [admits_eq, Nat.not_le.mpr hs]
    rw [h hn, gated_runCmd.unserved hs]
  refused a hs hm hr := by
    rw [h (by simp [admits_eq, hr]), gated_runCmd.refused a hs hm hr]

/-! ### The rows of the table -/

/-- A command that is a mailbox row answers what the gates make of the state, where no restart has been asked for before it. -/
def CarriesGates (c : Instr) : Prop :=
  ∀ (m : Fin 24) (i : Fin 8) (p : Bytes) (k : CmdSpec) (s : State), mailboxRow c = some (m, i, p, k) →
    ((k.op = 0x010A ∨ k.op = 0x0908) → s.mgmt.restartFw = false) → ∃ t, exec c s = .next t ∧ Gated k m i p s t

theorem carriesGates_of_none {c : Instr} (h : mailboxRow c = none) : CarriesGates c := by
  intro m i p k s hrow
  rw [h] at hrow
  cases hrow

theorem carriesGates_of_gated {c : Instr} {f : State → State} (hrow : mailboxRow c = some (m, i, p, k))
    (hx : ∀ s, exec c s = .next (f s))
    (hf : ∀ s : State, ((k.op = 0x010A ∨ k.op = 0x0908) → s.mgmt.restartFw = false) → Gated k m i p s (f s)) : CarriesGates c := by
  intro m' i' p' k' s h hfw
  rw [hrow] at h
  cases h
  exact ⟨f s, hx s, hf s hfw⟩

theorem carriesGates_of_runCmd {c : Instr} (hrow : mailboxRow c = some (m, i, p, k))
    (hx : ∀ s, exec c s = .next (runCmd k m.val i.val p s)) : CarriesGates c :=
  carriesGates_of_gated hrow hx fun _ _ => gated_runCmd

/-- FW_ACTIVATE and DBG_CALL, which may ask for a restart. -/
theorem carriesGates_of_restart {c : Instr} (hrow : mailboxRow c = some (m, i, p, k))
    (hx : ∀ s, exec c s = .next (startAskedRestart (runCmd k m.val i.val p s))) (hop : k.op = 0x010A ∨ k.op = 0x0908) :
    CarriesGates c :=
  carriesGates_of_gated hrow hx fun _ hfw => gated_runCmd.startAskedRestart (hfw hop)

/-- MEM_READ and MEM_WRITE, of which an admitted one waits while its lines cannot be served (R366). -/
theorem carriesGates_of_waits {c : Instr} {waits : State → Bool} (hrow : mailboxRow c = some (m, i, p, k))
    (hx : ∀ s, exec c s = if admits k m.val i.val p s && waits s then .next s else .next (runCmd k m.val i.val p s)) :
    CarriesGates c := by
  refine carriesGates_of_gated (f := fun s => if admits k m.val i.val p s && waits s then s else runCmd k m.val i.val p s) hrow
    (fun s => (hx s).trans (apply_ite Host.Outcome.next ..).symm) fun s _ => .of_not_admits fun h => ?_
  rw [h]
  rfl

theorem carriesGates (c : Instr) : CarriesGates c := by
  cases c with
  | caps m i p | idCert m i p | jobStatus m i p | jobCancel m i p | jobList m i p | cfgLoad m i p | cfgClear m i p | cfgStatus m i p
  | cfgStore m i p | cfgErase m i p | cfgBootSet m i p | cfgDir m i p | cfgReadback m i p | cfgScanStatus m i p | fwUpdate m i p
  | profileLoad m i p | profileSwap m i p | profileUnload m i p | profileRead m i p | profileStats m i p | homeMapSet m i p
  | homeMapRead m i p | agentBind m i p | agentRead m i p | pceSfAssign m i p | pceRemap m i p | pceStatus m i p | plotCreate m i p
  | plotChange m i p | plotDestroy m i p | plotReset m i p | plotLoad m i p | plotStatus m i p | flowConfig m i p | flowStatus m i p
  | slotLend m i p | slotReclaim m i p | grnConfig m i p | grnStatus m i p | keyDrop m i p | vaultStatus m i p | fuseProg m i p
  | bbramKeyWrite m i p | bbramClear m i p | tamperClear m i p | kaoConfig m i p | kaoStatus m i p | kaoMapSet m i p | kaoOpSet m i p
  | kaoChanOffline m i p | kaoChanOnline m i p | kaoBist m i p | kaoScrub m i p | kaoInject m i p | kaoPatrolSet m i p
  | peatConfig m i p | peatScrub m i p | peatStatus m i p | siltRouteLoad m i p | siltRouteRead m i p | siltBypass m i p
  | siltStatus m i p | siltTargetRevive m i p | siltProbeSet m i p | siltTraceRead m i p | siltLeaseSet m i p | nauRateSet m i p
  | nauConfig m i p | nauStatus m i p | portConfig m i p | portReset m i p | portLoopback m i p | portStatus m i p | ideKeySet m i p
  | laneStatus m i p | laneMargin m i p | laneSleep m i p | reachConfig m i p | dlinkStatus m i p | dlinkSwap m i p | dlinkHalve m i p
  | dlinkMargin m i p | dieIsolate m i p | kaoChanReplace m i p | rowSpare m i p | tilthPolicy m i p | tilthStatus m i p
  | tilthClear m i p | crcSelftest m i p | peatRetire m i p | evtRoute m i p | evtRearm m i p | evtStatus m i p | errRead m i p
  | dumpList m i p | dumpRead m i p | dumpPolicy m i p | dumpErase m i p | dbgClose m i p | dbgResume m i p | dbgRead m i p
  | dbgWrite m i p | dbgUnitSet m i p | dbgStatus m i p | vdbgOpen m i p | telRead m i p | vidSet m i p | telThresh m i p =>
    exact carriesGates_of_runCmd rfl fun _ => rfl
  | keyImport m i p | attest m i p | dbgOpen m i p =>
    exact carriesGates_of_gated rfl (fun _ => rfl) fun _ _ => gated_runPk (by decide)
  | dbgFreeze m i p =>
    exact carriesGates_of_gated rfl (fun _ => rfl) fun _ _ => .of_not_admits runFreeze_of_not_admits
  | fwActivate m i p => exact carriesGates_of_restart rfl (fun _ => rfl) (.inl rfl)
  | dbgCall m i p => exact carriesGates_of_restart rfl (fun _ => rfl) (.inr rfl)
  | memRead m i p | memWrite m i p => exact carriesGates_of_waits rfl fun _ => rfl
  | _ => exact carriesGates_of_none rfl

end

/-- Settles O6: the gates of a mailbox command, whatever carries it, and what each of them answers. -/
theorem mailboxGates : Obligations.MailboxGates := by
  intro c m i p k s hrow hfw
  obtain ⟨t, ht, hun, href⟩ := carriesGates c m i p k s hrow hfw
  rw [ht]
  refine ⟨fun h => ?_, fun hs hm hp hop => ?_, fun hs hm hp hf hg => ?_, fun hs hm hp hf hd => ?_, fun hs hm hp hf h1 h2 h3 => ?_⟩
  · rw [hun h]
  · rw [href _ hs hm (gateRefusal_of_gateAns (gateAns_romMode hp hop))]
  · rw [href _ hs hm (gateRefusal_of_gateAns (gateAns_fatal hp hf hg))]
  · rw [href _ hs hm ((gateRefusal_of_ready hp hf).trans (stepsRefusal_of_denied hd))]
  · rw [href _ hs hm ((gateRefusal_of_ready hp hf).trans (stepsRefusal_of_len h1 h2 h3))]

end Machine
end Sys2Proof
end

section
namespace Sys2Proof
namespace Machine

/-! ## What a raise or a record changes (R381 to R395) -/

/-- A fold of operations that each leave a projection as it is leaves it as it is. -/
theorem foldl_fixes {α β γ : Type} (π : α → γ) (f : α → β → α) (h : ∀ s x, π (f s x) = π s) (l : List β) (s : α) :
    π (l.foldl f s) = π s :=
  (List.foldl_hom π fun s x => (h s x).symm).symm.trans (List.foldl_fixed l)

/-- The state but for what the event controller holds and the messages that it sends. -/
def besideEvents (s : State) : State := { s with evt := {}, fns := [] }

@[simp] theorem besideEvents_modEvt (s : State) (f : Evt → Evt) : besideEvents (modEvt s f) = besideEvents s := rfl
@[simp] theorem besideEvents_modSrc (s : State) (i : Nat) (f : Src → Src) : besideEvents (modSrc s i f) = besideEvents s := rfl
@[simp] theorem besideEvents_msix (s : State) (f v : Nat) : besideEvents (msix s f v) = besideEvents s := rfl

@[simp] theorem besideEvents_deliver (s : State) (i : Nat) : besideEvents (deliver s i) = besideEvents s := by
  cases h : (srcAt s i).fabric <;> simp [deliver, h, apply_ite besideEvents]

@[simp] theorem besideEvents_raiseBase (s : State) (i : Nat) : besideEvents (raiseBase s i) = besideEvents s := by
  unfold raiseBase
  split
  · extract_lets t s1
    split
    · rfl
    · split <;> simp [s1]
  · rfl

@[simp] theorem besideEvents_recordBase (s : State) (r : RecOf) : besideEvents (recordBase s r).2 = besideEvents s := by
  unfold recordBase
  repeat' split
  all_goals rfl

@[simp] theorem besideEvents_record (s : State) (r : RecOf) : besideEvents (record s r) = besideEvents s := by
  simp [record, apply_ite besideEvents]

@[simp] theorem besideEvents_stormCheck (s : State) : besideEvents (stormCheck s) = besideEvents s := by
  simp [stormCheck, apply_ite besideEvents]

@[simp] theorem besideEvents_raise (s : State) (i : Nat) : besideEvents (raise s i) = besideEvents s := by simp [raise]

@[simp] theorem raise_sys (s : State) (i : Nat) : (raise s i).sys = s.sys := (congrArg State.sys (besideEvents_raise s i) :)
@[simp] theorem raise_vault (s : State) (i : Nat) : (raise s i).vault = s.vault := (congrArg State.vault (besideEvents_raise s i) :)
@[simp] theorem raise_dbg (s : State) (i : Nat) : (raise s i).dbg = s.dbg := (congrArg State.dbg (besideEvents_raise s i) :)
@[simp] theorem record_sys (s : State) (r : RecOf) : (record s r).sys = s.sys := (congrArg State.sys (besideEvents_record s r) :)
@[simp] theorem record_vault (s : State) (r : RecOf) : (record s r).vault = s.vault := (congrArg State.vault (besideEvents_record s r) :)

end Machine
end Sys2Proof
end

section
namespace Sys2Proof
namespace Machine

/-! ## What stands when jobs, loads and plots end

Ending a job takes its load, its plot, its route change and its holds with it, and lets the traffic that waited go on. Of the device's
own state that changes the configuration pins only, and of the vault the slot keys and the count of draws. -/

/-- The device's own state but for the configuration pins, and the vault but for its slot keys and draws. -/
def lasting (s : State) : Sys × Vault :=
  ({ s.sys with cfgDone := false, userIo := false, cfgErr := false }, { s.vault with slotKeys := [], draws := 0 })

/-! ### Shared forms -/

@[simp] theorem lasting_ite (c : Prop) [Decidable c] (s t : State) :
    lasting (if c then s else t) = if c then lasting s else lasting t := apply_ite lasting c s t

/-- Where both branches leave what lasts, a choice between them does. -/
theorem lasting_of_ite {c : Prop} [Decidable c] {s t u : State} (ht : lasting t = lasting s) (hu : lasting u = lasting s) :
    lasting (if c then t else u) = lasting s := by
  split
  · exact ht
  · exact hu

@[simp] theorem lasting_ite_snd {α : Type} (c : Prop) [Decidable c] (r q : α × State) :
    lasting (if c then r else q).2 = if c then lasting r.2 else lasting q.2 := apply_ite (fun r : α × State => lasting r.2) c r q

theorem lasting_foldl {α : Type} (f : State → α → State) (h : ∀ s x, lasting (f s x) = lasting s) (l : List α) (s : State) :
    lasting (l.foldl f s) = lasting s := foldl_fixes lasting f h l s

@[simp] theorem lasting_cfgPins (s : State) (d u e : Sys → Bool) :
    lasting (modSys s (fun y => { y with cfgDone := d y, userIo := u y, cfgErr := e y })) = lasting s := rfl

@[simp] theorem lasting_slotKeys (s : State) (f : Vault → Tbl (BitVec 256)) :
    lasting (modVault s (fun v => { v with slotKeys := f v })) = lasting s := rfl

@[simp] theorem lasting_raise (s : State) (i : Nat) : lasting (raise s i) = lasting s := (congrArg lasting (besideEvents_raise s i) :)
@[simp] theorem lasting_record (s : State) (r : RecOf) : lasting (record s r) = lasting s := (congrArg lasting (besideEvents_record s r) :)
@[simp] theorem lasting_modMgmt (s : State) (f : Mgmt → Mgmt) : lasting (modMgmt s f) = lasting s := rfl
@[simp] theorem lasting_modEvt (s : State) (f : Evt → Evt) : lasting (modEvt s f) = lasting s := rfl
@[simp] theorem lasting_modDumps (s : State) (f : Dumps → Dumps) : lasting (modDumps s f) = lasting s := rfl
@[simp] theorem lasting_modPce (s : State) (f : Pce → Pce) : lasting (modPce s f) = lasting s := rfl
@[simp] theorem lasting_modSilt (s : State) (f : Silt → Silt) : lasting (modSilt s f) = lasting s := rfl
@[simp] theorem lasting_modTilth (s : State) (f : Tilth → Tilth) : lasting (modTilth s f) = lasting s := rfl
@[simp] theorem lasting_modCfg (s : State) (f : Cfg → Cfg) : lasting (modCfg s f) = lasting s := rfl
@[simp] theorem lasting_modDbg (s : State) (f : Dbg → Dbg) : lasting (modDbg s f) = lasting s := rfl
@[simp] theorem lasting_modIo (s : State) (f : Io → Io) : lasting (modIo s f) = lasting s := rfl
@[simp] theorem lasting_modFab (s : State) (f : Fab → Fab) : lasting (modFab s f) = lasting s := rfl
@[simp] theorem lasting_modPlot (s : State) (n : Nat) (f : Plot → Plot) : lasting (modPlot s n f) = lasting s := rfl
@[simp] theorem lasting_modMbx (s : State) (n : Nat) (f : Mbx → Mbx) : lasting (modMbx s n f) = lasting s := rfl
@[simp] theorem lasting_modFn (s : State) (n : Nat) (f : Fn → Fn) : lasting (modFn s n f) = lasting s := rfl
@[simp] theorem lasting_modFlow (s : State) (n : Nat) (f : Flow → Flow) : lasting (modFlow s n f) = lasting s := rfl
@[simp] theorem lasting_modQuarter (s : State) (n : Nat) (f : Quarter → Quarter) : lasting (modQuarter s n f) = lasting s := rfl
@[simp] theorem lasting_modStack (s : State) (n : Nat) (f : Stack → Stack) : lasting (modStack s n f) = lasting s := rfl

/-! ### Counters, plots, event sources, error records, job records -/

@[simp] theorem lasting_modSrc (s : State) (i : Nat) (f : Src → Src) : lasting (modSrc s i f) = lasting s := rfl
@[simp] theorem lasting_modNau (s : State) (n : Nat) (f : Nau → Nau) : lasting (modNau s n f) = lasting s := rfl
@[simp] theorem lasting_modLink (s : State) (l : Nat) (f : Link → Link) : lasting (modLink s l f) = lasting s := rfl
@[simp] theorem lasting_modPort (s : State) (n : Nat) (f : Port → Port) : lasting (modPort s n f) = lasting s := rfl
@[simp] theorem lasting_modLane (s : State) (n : Nat) (f : Lane → Lane) : lasting (modLane s n f) = lasting s := rfl
@[simp] theorem lasting_modReach (s : State) (n : Nat) (f : Reach → Reach) : lasting (modReach s n f) = lasting s := rfl
@[simp] theorem lasting_modChan (s : State) (p c : Nat) (f : Chan → Chan) : lasting (modChan s p c f) = lasting s := rfl
@[simp] theorem lasting_modFront (s : State) (p lx : Nat) (f : Front → Front) : lasting (modFront s p lx f) = lasting s := rfl
@[simp] theorem lasting_modCrc (s : State) (u : Nat) (f : Crc → Crc) : lasting (modCrc s u f) = lasting s := rfl
@[simp] theorem lasting_modGrit (s : State) (g : Nat) (f : Grit → Grit) : lasting (modGrit s g f) = lasting s := rfl
@[simp] theorem lasting_markRegions (s : State) (l : List Nat) (blank : Bool) : lasting (markRegions s l blank) = lasting s := rfl
@[simp] theorem lasting_markAll (s : State) (blank : Bool) : lasting (markAll s blank) = lasting s := rfl
@[simp] theorem lasting_modRouter (s : State) (n : Nat) (f : Router → Router) : lasting (modRouter s n f) = lasting s := rfl
@[simp] theorem lasting_modSlot (s : State) (m i : Nat) (f : Slot → Slot) : lasting (modSlot s m i f) = lasting s := rfl
@[simp] theorem lasting_freeValue (s : State) : lasting (freeValue s).2 = lasting s := rfl
@[simp] theorem lasting_drawn (s : State) (n : Nat) : lasting (drawn s n) = lasting s := rfl
@[simp] theorem lasting_msix (s : State) (f v : Nat) : lasting (msix s f v) = lasting s := by simp [msix]
@[simp] theorem lasting_report (s : State) (r : RecOf) : lasting (report s r) = lasting s := by simp [report]
@[simp] theorem lasting_countNotice (j : Nat) (s : State) (f : Nat) : lasting (countNotice j s f) = lasting s := rfl
@[simp] theorem lasting_oweNotice (j : Nat) (s : State) (f : Nat) : lasting (oweNotice j s f) = lasting s := rfl

@[simp] theorem lasting_sendOwed (s : State) (j : Nat) : lasting (sendOwed s j) = lasting s := by
  unfold sendOwed
  refine lasting_foldl _ (fun s x => ?_) _ _
  simp

@[simp] theorem lasting_notice (s : State) (j : Nat) (fns : List Nat) : lasting (notice s j fns) = lasting s := by
  have h1 : lasting (fns.foldl (countNotice j) (raise s (640 + j))) = lasting s :=
    (lasting_foldl (countNotice j) (lasting_countNotice j) ..).trans (lasting_raise ..)
  refine (lasting_of_ite rfl (lasting_of_ite ?_ ?_)).trans h1
  · exact (lasting_sendOwed ..).trans (lasting_foldl (fun s f => msix s f 1) (fun _ _ => rfl) ..)
  · exact lasting_foldl (oweNotice j) (lasting_oweNotice j) ..

@[simp] theorem lasting_plotNotice (s : State) (p : Nat) : lasting (plotNotice s p) = lasting s := by simp [plotNotice]
@[simp] theorem lasting_releaseHolds (s : State) (job : Nat) : lasting (releaseHolds s job) = lasting s := rfl
@[simp] theorem lasting_modJob (s : State) (id : Nat) (f : Job → Job) : lasting (modJob s id f) = lasting s := rfl

@[simp] theorem lasting_endJob (s : State) (id : Nat) (st : JobState) (result detail word : Nat) (data : Bytes) :
    lasting (endJob s id st result detail word data) = lasting s := by
  unfold endJob
  generalize jobAt s id = o
  cases o
  · rfl
  · extract_lets s1
    have h1 : lasting (releaseHolds s1 id) = lasting s := (lasting_releaseHolds ..).trans (lasting_modJob ..)
    exact lasting_of_ite h1 (lasting_of_ite h1 ((lasting_notice ..).trans h1))

/-! ### Silt as a network -/

@[simp] theorem lasting_switchLink (s : State) (n c : Nat) (on : Bool) : lasting (switchLink s n c on) = lasting s := by
  unfold switchLink
  generalize linkTo n c = o
  cases o
  · exact lasting_modRouter ..
  · exact (lasting_modRouter ..).trans (lasting_modRouter ..)

@[simp] theorem lasting_spendToken (s : State) (p : Packet) : lasting (spendToken s p) = lasting s := by simp [spendToken]

@[simp] theorem lasting_sendNow (s : State) (p : Packet) : lasting (sendNow s p) = lasting s := by
  unfold sendNow
  extract_lets s1 s2
  have h2 : lasting s2 = lasting s1 := lasting_of_ite rfl rfl
  exact h2.trans (lasting_spendToken s p)

@[simp] theorem lasting_holdBack (s : State) (p : Packet) : lasting (holdBack s p) = lasting s := rfl
@[simp] theorem lasting_offer (s : State) (p : Packet) : lasting (offer s p) = lasting s := by simp [offer]
@[simp] theorem lasting_countDelay (s : State) (p : Packet) : lasting (countDelay s p) = lasting s := by simp [countDelay]
@[simp] theorem lasting_inject (s : State) (p : Packet) : lasting (inject s p) = lasting s := by simp [inject]

@[simp] theorem lasting_injectAll (s : State) (ps : List Packet) : lasting (injectAll s ps) = lasting s := by
  simp [injectAll, lasting_foldl]

@[simp] theorem lasting_offerHeld (s : State) (n : Nat) : lasting (offerHeld s n) = lasting s := lasting_foldl _ lasting_offer _ _
@[simp] theorem lasting_grantTokens (s : State) (src dst : Nat) (c : Cls) (n : Nat) : lasting (grantTokens s src dst c n) = lasting s := rfl

@[simp] theorem lasting_serveAsks (n : Nat) (s : State) (dst : Nat) (c : Cls) (got : List Nat) :
    lasting (serveAsks n s dst c got).1 = lasting s := by
  induction n generalizing s got with
  | zero => rfl
  | succ n ih =>
    unfold serveAsks
    generalize s.silt.asks.find? _ = o
    rcases o with _ | ⟨k, src, m⟩
    · rfl
    · dsimp only
      split
      · exact ih ..
      · split
        · rfl
        · exact ih ..

@[simp] theorem lasting_grantAsked (s : State) (dst : Nat) (c : Cls) : lasting (grantAsked s dst c) = lasting s := by
  simp [grantAsked, lasting_foldl]

@[simp] theorem lasting_freeBuffer (s : State) (dst : Nat) (c : Cls) : lasting (freeBuffer s dst c) = lasting s :=
  lasting_of_ite ((lasting_grantAsked ..).trans (lasting_modSilt ..)) rfl

/-! ### Lines of the Kaolin fronts -/

@[simp] theorem lasting_modGran (s : State) (p g : Nat) (f : Granule → Granule) : lasting (modGran s p g f) = lasting s := rfl
@[simp] theorem lasting_setStored (s : State) (a : Nat) (x : Stored) : lasting (setStored s a x) = lasting s := rfl
@[simp] theorem lasting_modFrontFor (s : State) (a : Nat) (f : Front → Front) : lasting (modFrontFor s a f) = lasting s := rfl
@[simp] theorem lasting_injFire (s : State) (a : Nat) : lasting (injFire s a) = lasting s := rfl
@[simp] theorem lasting_injConsume (s : State) (a : Nat) : lasting (injConsume s a) = lasting s := rfl
@[simp] theorem lasting_chanFlag (s : State) (a bit : Nat) : lasting (chanFlag s a bit) = lasting s := rfl

@[simp] theorem lasting_chanReport (s : State) (a plot cause : Nat) : lasting (chanReport s a plot cause) = lasting s := by
  simp [chanReport]

@[simp] theorem lasting_putLine (s : State) (a v : Nat) (data : Line) (side95 : Nat) (fire : Bool) :
    lasting (putLine s a v data side95 fire) = lasting s := by simp [putLine]

@[simp] theorem lasting_poisonLine (s : State) (a : Nat) (x : Stored) (minor : Nat) : lasting (poisonLine s a x minor) = lasting s := rfl
@[simp] theorem lasting_poisonFound (s : State) (a : Nat) (f : Found) : lasting (poisonFound s a f) = lasting s := rfl

@[simp] theorem lasting_accessStatus (s : State) (src plot key a : Nat) : lasting (accessStatus s src plot key a).2 = lasting s := by
  simp [accessStatus]

@[simp] theorem lasting_poisonGranule (s : State) (p g : Nat) : lasting (poisonGranule s p g) = lasting s := by
  unfold poisonGranule
  refine lasting_foldl _ (fun s x => ?_) _ _
  simp

@[simp] theorem lasting_bumpGranule (s : State) (p g : Nat) : lasting (bumpGranule s p g) = lasting s := by simp [bumpGranule]

/-! ### Grain: records, slots and flows -/

@[simp] theorem lasting_modEslot (s : State) (p i : Nat) (f : ESlot → ESlot) : lasting (modEslot s p i f) = lasting s := rfl
@[simp] theorem lasting_setEntry (s : State) (p i e : Nat) (v : Option Entry) : lasting (setEntry s p i e v) = lasting s := rfl
@[simp] theorem lasting_refreshReady (s : State) (f : Nat) : lasting (refreshReady s f) = lasting s := rfl
@[simp] theorem lasting_refusalAt (s : State) (p st : Nat) : lasting (refusalAt s p st) = lasting s := by simp [refusalAt]
@[simp] theorem lasting_freeHandle (s : State) (handle : Nat) : lasting (freeHandle s handle) = lasting s := rfl
@[simp] theorem lasting_settleSlot (s : State) (p i : Nat) : lasting (settleSlot s p i) = lasting s := by simp [settleSlot]

@[simp] theorem lasting_releaseEntry (s : State) (p i e : Nat) (x : Entry) : lasting (releaseEntry s p i e x) = lasting s := by
  simp [releaseEntry]

@[simp] theorem lasting_dropNoticeOf (s : State) (g : Grain) (st : Nat) : lasting (dropNoticeOf s g st) = lasting s := by
  simp [dropNoticeOf]

@[simp] theorem lasting_dropGrain (s : State) (g : Grain) : lasting (dropGrain s g) = lasting s := by simp [dropGrain]

@[simp] theorem lasting_dropEntries (s : State) (f : Nat) : lasting (dropEntries s f) = lasting s := by
  refine lasting_foldl _ (fun s sl => lasting_foldl _ (fun s en => ?_) _ _) _ _
  generalize en.2 = o
  cases o
  · rfl
  · exact lasting_of_ite ((lasting_dropGrain ..).trans (lasting_setEntry ..)) rfl

@[simp] theorem lasting_resetFlow (s : State) (f : Nat) : lasting (resetFlow s f) = lasting s := by simp [resetFlow, lasting_foldl]

@[simp] theorem lasting_clearSlotsOf (s : State) (node : Nat) : lasting (clearSlotsOf s node) = lasting s := by
  simp [clearSlotsOf, lasting_foldl]

@[simp] theorem lasting_refreshFlows (s : State) : lasting (refreshFlows s) = lasting s := by
  unfold refreshFlows
  refine lasting_foldl _ (fun s x => ?_) _ _
  simp

@[simp] theorem lasting_resetPlotFlows (s : State) (pl : Nat) : lasting (resetPlotFlows s pl) = lasting s := by
  simp [resetPlotFlows, lasting_foldl]

/-! ### Nau: requests and answers -/

@[simp] theorem lasting_nauAnswer (s : State) (n : Nat) (a : Answer) : lasting (nauAnswer s n a) = lasting s := rfl
@[simp] theorem lasting_nauRefuse (s : State) (n tag st : Nat) : lasting (nauRefuse s n tag st) = lasting s := rfl

theorem lasting_stateOr_ite {c : Prop} [Decidable c] {s : State} {a b : Tried} (ha : lasting (a.stateOr s) = lasting s)
    (hb : lasting (b.stateOr s) = lasting s) : lasting ((if c then a else b).stateOr s) = lasting s := by
  split
  · exact ha
  · exact hb

@[simp] theorem lasting_nauIssue (s : State) (n key : Nat) (r : NauReq) :
    lasting ((nauIssue s n key r).stateOr s) = lasting s :=
  lasting_stateOr_ite rfl (lasting_stateOr_ite rfl (lasting_stateOr_ite rfl (lasting_injectAll _ _)))

theorem lasting_nauTry (s : State) (n : Nat) (r : NauReq) : lasting ((nauTry s n r).stateOr s) = lasting s := by
  unfold nauTry
  refine lasting_stateOr_ite rfl <| lasting_stateOr_ite rfl <| lasting_stateOr_ite rfl <|
    lasting_stateOr_ite (lasting_inject s _) <| lasting_stateOr_ite rfl <| lasting_stateOr_ite rfl <| lasting_stateOr_ite rfl <|
    lasting_stateOr_ite rfl <| lasting_stateOr_ite (lasting_nauIssue ..) ?_
  generalize windowOf s _ r.addr = o
  cases o
  · rfl
  · exact lasting_nauIssue ..

@[simp] theorem lasting_nauPumpGo (k : Nat) (s : State) (n : Nat) : lasting (nauPumpGo k s n) = lasting s := by
  induction k generalizing s with
  | zero => rfl
  | succ k ih =>
    unfold nauPumpGo
    generalize (nauAt s n).held = o
    rcases o with _ | ⟨⟨r, counted⟩, rest⟩
    · rfl
    · have h := lasting_nauTry s n r
      dsimp only
      generalize nauTry s n r = x at h
      cases x
      · exact lasting_of_ite rfl rfl
      · exact (ih _).trans h

@[simp] theorem lasting_nauPump (s : State) (n : Nat) : lasting (nauPump s n) = lasting s := by simp [nauPump]
@[simp] theorem lasting_portStatusSet (s : State) (n st : Nat) : lasting (portStatusSet s n st) = lasting s := rfl

@[simp] theorem lasting_sendCreate (s : State) (n ftag addr f : Nat) (d : BitVec 256) (pay : Option Line) :
    lasting (sendCreate s n ftag addr f d pay) = lasting s :=
  (lasting_inject ..).trans (lasting_modNau ..)

@[simp] theorem lasting_strayDirective (s : State) (n : Nat) : lasting (strayDirective s n) = lasting s := by simp [strayDirective]

@[simp] theorem lasting_directiveGo (s : State) (n : Nat) (d : BitVec 128) (data : Option Line) :
    lasting (directiveGo s n d data) = lasting s := by
  unfold directiveGo
  generalize dirEntry s n d = o
  rcases o with _ | ⟨i, e, x⟩
  · exact lasting_strayDirective s n
  · have hq (t : State) (q : Req) (pk : Packet) :
        lasting (portStatusSet (inject (modNau t n (fun u => { u with out := u.out ++ [q], nextTag := (q.tag + 1) % 2 ^ 14 })) pk) n 0) =
          lasting t :=
      (lasting_portStatusSet ..).trans ((lasting_inject ..).trans (lasting_modNau ..))
    exact lasting_of_ite (lasting_of_ite ((lasting_setEntry ..).trans (hq ..)) ((lasting_releaseEntry ..).trans (hq ..)))
      (lasting_of_ite (lasting_releaseEntry ..) (lasting_of_ite (lasting_of_ite rfl (lasting_sendCreate ..)) rfl))

@[simp] theorem lasting_directivesPump (s : State) (n : Nat) : lasting (directivesPump s n) = lasting s := by
  simp [directivesPump, lasting_foldl]

@[simp] theorem lasting_nauServe (s : State) (n : Nat) : lasting (nauServe s n) = lasting s := by simp [nauServe]
@[simp] theorem lasting_unitWasReset (s : State) (n : Nat) : lasting (unitWasReset s n) = lasting s := by simp [unitWasReset]
@[simp] theorem lasting_nauReset (s : State) (n : Nat) : lasting (nauReset s n) = lasting s := by simp [nauReset]

/-! ### The coherence engine: directory, words and messages -/

@[simp] theorem lasting_releaseAgents (s : State) : lasting (releaseAgents s) = lasting s := (lasting_injectAll ..).trans (lasting_modPce ..)

/-! ### The Kaolin channels -/

@[simp] theorem lasting_forwardLine (s : State) (p : Packet) (st : Nat) (l : Line) : lasting (forwardLine s p st l) = lasting s :=
  (lasting_inject ..).trans (lasting_modFront ..)

@[simp] theorem lasting_answerPacket (s : State) (p : Packet) (rs : List (Nat × Line)) : lasting (answerPacket s p rs) = lasting s := by
  simp [answerPacket]

@[simp] theorem lasting_dropLock (s : State) (a : Nat) : lasting (dropLock s a) = lasting s := rfl

@[simp] theorem lasting_lineDone (s : State) (p : Packet) (a st : Nat) (l : Line) : lasting (lineDone s p a st l) = lasting s :=
  lasting_of_ite ((lasting_answerPacket ..).trans (lasting_of_ite rfl rfl)) rfl

@[simp] theorem lasting_acceptLine (p : Packet) (s : State) (a : Nat) : lasting (acceptLine p s a) = lasting s :=
  lasting_of_ite ((lasting_lineDone ..).trans (lasting_accessStatus ..))
    (lasting_of_ite ((lasting_lineDone ..).trans (lasting_modChan ..)) (lasting_modChan ..))

@[simp] theorem lasting_frontTakes (s : State) (p : Packet) : lasting (frontTakes s p) = lasting s :=
  lasting_of_ite (lasting_inject ..) <| lasting_of_ite rfl <| lasting_of_ite (lasting_acceptLine ..) <|
    lasting_of_ite (lasting_of_ite (lasting_inject ..) (lasting_of_ite (lasting_acceptLine ..) (lasting_acceptLine ..))) <|
    lasting_of_ite (lasting_of_ite (lasting_acceptLine ..) (lasting_inject ..)) <|
    lasting_of_ite (lasting_inject ..) (lasting_foldl _ (lasting_acceptLine p) _ s)

@[simp] theorem lasting_serveWaiting (s : State) : lasting (serveWaiting s) = lasting s := by simp [serveWaiting, lasting_foldl]
@[simp] theorem lasting_endLocks (s : State) (f : Nat → Bool) : lasting (endLocks s f) = lasting s := by simp [endLocks]

/-! ### What carries a mailbox command -/

@[simp] theorem lasting_drawFree (s : State) : lasting (drawFree s) = lasting s := rfl

@[simp] theorem lasting_reply (s : State) (m i op : Nat) (a : Ans) : lasting (reply s m i op a) = lasting s :=
  (congrArg lasting (besideAnswers_reply m i op a) :)

@[simp] theorem lasting_newJob (s : State) (w : Who) (op : Nat) (p : Bytes) (fs : List (Func × Bool)) (stage : Nat) :
    lasting (newJob s w op p fs stage).2 = lasting s := by simp [newJob]

@[simp] theorem lasting_startJobOver (s : State) (w : Who) (op : Nat) (p : Bytes) (fs : List (Func × Bool)) (stage : Nat) :
    lasting (startJobOver s w op p fs stage).2 = lasting s := by simp [startJobOver]

@[simp] theorem lasting_startJob (s : State) (w : Who) (op : Nat) (p : Bytes) (fs : List (Func × Bool)) (stage : Nat) :
    lasting (startJob s w op p fs stage).2 = lasting s := by simp [startJob]

@[simp] theorem lasting_stepDone (s : State) (id : Nat) : lasting (stepDone s id) = lasting s := rfl

/-! ### The links of the coherent ports -/

@[simp] theorem lasting_sleepLane (s : State) (f : Nat) : lasting (sleepLane s f) = lasting s := rfl

theorem lasting_of_linkSend {s t : State} {l : Nat} {p : Packet} (h : linkSend s l p = some t) : lasting t = lasting s := by
  unfold linkSend at h
  extract_lets tm hd x base data unit viral at h
  have hv (u : State) : lasting (viral u) = lasting u := lasting_of_ite rfl rfl
  split at h
  · split at h
    · cases h
    · obtain rfl := Option.some.inj h
      exact hv _
  · obtain rfl := Option.some.inj h
    exact hv _

@[simp] theorem lasting_linkPumpGo (ps : List Packet) (s : State) (l : Nat) : lasting (linkPumpGo ps s l) = lasting s := by
  induction ps generalizing s with
  | nil => rfl
  | cons p ps ih =>
    unfold linkPumpGo
    refine lasting_of_ite (ih _) ?_
    cases h : linkSend s l p with
    | none => exact ih _
    | some t => exact (ih _).trans ((lasting_freeBuffer ..).trans (lasting_of_linkSend h))

@[simp] theorem lasting_linkPump (s : State) (l : Nat) : lasting (linkPump s l) = lasting s :=
  lasting_of_ite ((lasting_linkPumpGo ..).trans (lasting_modLink ..)) rfl

@[simp] theorem lasting_portDownTo (s : State) (p : Packet) : lasting (portDownTo s p) = lasting s := lasting_inject ..

@[simp] theorem lasting_failHeld (s : State) (l : Nat) : lasting (failHeld s l) = lasting s :=
  (lasting_foldl _ lasting_portDownTo _ _).trans (lasting_foldl _ (fun _ _ => lasting_freeBuffer ..) _ _)

@[simp] theorem lasting_ideInsecure (s : State) (l : Nat) : lasting (ideInsecure s l) = lasting s := by simp [ideInsecure]

@[simp] theorem lasting_linkOff (s : State) (l : Nat) : lasting (linkOff s l) = lasting s := by
  unfold linkOff
  extract_lets x s1
  have h1 : lasting s1 = lasting s := (lasting_failHeld ..).trans (lasting_of_ite (lasting_ideInsecure s l) rfl)
  exact (lasting_foldl _ lasting_sleepLane ..).trans ((lasting_modLink ..).trans h1)

@[simp] theorem lasting_linksOff (s : State) : lasting (linksOff s) = lasting s := by
  unfold linksOff
  refine (lasting_foldl _ (fun s j => ?_) _ _).trans ((lasting_foldl _ (fun s n => ?_) _ _).trans (lasting_foldl _ lasting_linkOff ..))
  · exact (lasting_sleepLane ..).trans (lasting_modReach ..)
  · exact lasting_modPort ..

@[simp] theorem lasting_linkStart (s : State) (l : Nat) (holding : Bool) : lasting (linkStart s l holding) = lasting s := rfl

/-! ### Steps of the coherence engine, the NAUs and the Grain dispatcher -/

@[simp] theorem lasting_decodeMiss (s : State) (l : Nat) : lasting (decodeMiss s l) = lasting s := lasting_raise ..
@[simp] theorem lasting_agentRange (s : State) (l : Nat) : lasting (agentRange s l) = lasting s := lasting_raise ..

@[simp] theorem lasting_sendDecoded (s : State) (p : Packet) : lasting (sendDecoded s p) = lasting s :=
  lasting_of_ite rfl (lasting_inject ..)

@[simp] theorem lasting_tagRouted (s : State) (port l : Nat) (d : BitVec 128) (u : MsgUnit) (h : Nat → Nat → BitVec 128)
    (pay : Option (List Line)) : lasting (tagRouted s port l d u h pay) = lasting s := by
  unfold tagRouted
  extract_lets tag
  generalize tget none (linkAt s l).tags tag = o
  rcases o with _ | ⟨i, t, g⟩
  · exact lasting_raise ..
  · exact lasting_inject ..

@[simp] theorem lasting_decodeUnit (s : State) (port : Nat) (u : MsgUnit) : lasting (decodeUnit s port u) = lasting s := by
  unfold decodeUnit
  generalize unitDesc s port u = o
  cases o
  · exact lasting_decodeMiss ..
  · exact lasting_of_ite (lasting_agentRange ..) (lasting_of_ite (lasting_tagRouted ..) (lasting_of_ite rfl (lasting_sendDecoded ..)))

@[simp] theorem lasting_releaseUnits (s : State) : lasting (releaseUnits s) = lasting s := by simp [releaseUnits, lasting_foldl]

/-! ### Plots -/

@[simp] theorem lasting_zeroFrames (s : State) (f : Nat → Bool) : lasting (zeroFrames s f) = lasting s := rfl

@[simp] theorem lasting_freshKeys (s : State) (ks : List Nat) : lasting (freshKeys s ks) = lasting s := by
  unfold freshKeys
  refine lasting_foldl _ (fun s k => ?_) ks s
  rfl

@[simp] theorem lasting_failHalt (s : State) (p st detail : Nat) : lasting (failHalt s p st detail) = lasting s := by
  unfold failHalt
  generalize (plotAt s p).haltBy = o
  cases o
  · rfl
  · exact (lasting_reply ..).trans (lasting_modPlot ..)

@[simp] theorem lasting_endPlotSessions (s : State) (p : Nat) : lasting (endPlotSessions s p) = lasting s := rfl
@[simp] theorem lasting_dropHeldOf (s : State) (n : Nat) : lasting (dropHeldOf s n) = lasting s := rfl
@[simp] theorem lasting_refuseSnoops (s : State) (n : Nat) : lasting (refuseSnoops s n) = lasting s := by simp [refuseSnoops, lasting_foldl]
@[simp] theorem lasting_endTraffic (s : State) (n : Nat) : lasting (endTraffic s n) = lasting s := by simp [endTraffic]

@[simp] theorem lasting_failTraffic (s : State) (n : Nat) : lasting (failTraffic s n) = lasting s := by
  refine ((lasting_foldl _ (fun s q => ?_) _ _).trans (lasting_foldl _ (fun s q => ?_) _ _)).trans (lasting_endTraffic s n)
  · exact lasting_nauRefuse ..
  · exact lasting_of_ite (lasting_portStatusSet ..) (lasting_nauRefuse ..)

@[simp] theorem lasting_resetUnits (s : State) (p : Nat) : lasting (resetUnits s p) = lasting s := by
  refine (lasting_foldl _ (fun s k => ?_) _ _).trans (lasting_foldl _ (fun s k => ?_) _ _)
  · exact lasting_modCrc ..
  · exact lasting_modGrit ..

@[simp] theorem lasting_blankPlot (s : State) (p : Nat) : lasting (blankPlot s p) = lasting s := rfl

@[simp] theorem lasting_plotReset (s : State) (p : Nat) (blank : Bool) : lasting (plotReset s p blank) = lasting s := by
  unfold plotReset
  extract_lets s0 s1 s2 s3 s4 s5
  have h1 : lasting s1 = lasting s :=
    (lasting_of_ite (lasting_blankPlot ..) rfl).trans ((lasting_modPlot ..).trans (lasting_failHalt ..))
  have h3 : lasting s3 = lasting s1 :=
    (lasting_foldl _ (fun _ _ => lasting_bumpGranule ..) ..).trans ((lasting_freshKeys ..).trans (lasting_resetUnits ..))
  have h4 : lasting s4 = lasting s3 := (lasting_foldl _ lasting_endTraffic ..).trans (lasting_endPlotSessions ..)
  have h5 : lasting s5 = lasting s := (lasting_resetPlotFlows ..).trans ((lasting_endLocks ..).trans (h4.trans (h3.trans h1)))
  exact lasting_of_ite ((lasting_plotNotice ..).trans h5) h5

@[simp] theorem lasting_nausReset (s : State) (ns : List Nat) : lasting (nausReset s ns) = lasting s := by simp [nausReset, lasting_foldl]

@[simp] theorem lasting_releaseGranules (s : State) (gs : List (Nat × Nat)) : lasting (releaseGranules s gs) = lasting s := by
  unfold releaseGranules
  refine lasting_foldl _ (fun s x => ?_) _ _
  simp

@[simp] theorem lasting_clearRoutes (s : State) (es : List Nat) : lasting (clearRoutes s es) = lasting s := by
  unfold clearRoutes
  refine lasting_foldl _ (fun s x => ?_) _ _
  simp

@[simp] theorem lasting_unlend (s : State) (n : Nat) : lasting (unlend s n) = lasting s := by simp [unlend, lasting_foldl]
@[simp] theorem lasting_eraseSections (s : State) (p : Nat) : lasting (eraseSections s p) = lasting s := rfl

@[simp] theorem lasting_endPlotJobs (s : State) (p except : Nat) : lasting (endPlotJobs s p except) = lasting s := by
  refine lasting_foldl _ (fun s id => ?_) _ _
  generalize jobAt s id = o
  cases o
  · rfl
  · exact lasting_of_ite rfl (lasting_endJob ..)

@[simp] theorem lasting_disownJobs (s : State) (p : Nat) : lasting (disownJobs s p) = lasting s := rfl

@[simp] theorem lasting_plotDestroy (s : State) (p job : Nat) : lasting (plotDestroy s p job) = lasting s := by
  have h (f : Flow → Flow) (l : List Nat) (s : State) : lasting (l.foldl (fun s n => modFlow s n f) s) = lasting s :=
    lasting_foldl (fun s n => modFlow s n f) (fun _ _ => rfl) l s
  simp [plotDestroy, lasting_foldl, h]

@[simp] theorem lasting_destroyAll (s : State) : lasting (destroyAll s) = lasting s := by simp [destroyAll, lasting_foldl]

@[simp] theorem lasting_violationOf (s : State) (src cause plot sub node info : Nat) :
    lasting (violationOf s src cause plot sub node info) = lasting s := by simp [violationOf]

@[simp] theorem lasting_portRetrain (s : State) (n : Nat) : lasting (portRetrain s n) = lasting s := by
  refine lasting_foldl _ (fun s l => ?_) _ _
  exact lasting_of_ite rfl (lasting_of_ite rfl (lasting_failHeld s l))

/-! ### Full loads and plot loads -/

@[simp] theorem lasting_dropLoad (s : State) (job : Nat) : lasting (dropLoad s job) = lasting s := rfl
@[simp] theorem lasting_disableNau (s : State) (n : Nat) : lasting (disableNau s n) = lasting s := rfl

@[simp] theorem lasting_unconfigure (s : State) : lasting (unconfigure s) = lasting s := by
  unfold unconfigure
  refine lasting_foldl _ (fun s x => ?_) _ _
  simp

@[simp] theorem lasting_cfgClear (s : State) : lasting (cfgClear s) = lasting s := by simp [cfgClear]
@[simp] theorem lasting_shellGone (s : State) : lasting (shellGone s) = lasting s := rfl
@[simp] theorem lasting_clearConfig (s : State) : lasting (clearConfig s) = lasting s := by simp [clearConfig]

@[simp] theorem lasting_failFull (s : State) (f : LoadFail) : lasting (failFull s f) = lasting s := by
  unfold failFull
  extract_lets s1 s2
  have h1 : lasting s1 = lasting s := by rw [lasting_raise, lasting_modCfg]
  have h2 : lasting s2 = lasting s1 := by simp [s2, -lasting_raise]
  change lasting s2 = lasting s
  rw [h2, h1]

@[simp] theorem lasting_failPlot (s : State) (p : Nat) (f : LoadFail) : lasting (failPlot s p f) = lasting s := by
  unfold failPlot
  extract_lets s1 s2
  have h1 : lasting s1 = lasting s := lasting_of_ite (lasting_violationOf ..) rfl
  have h2 : lasting s2 = lasting s := (lasting_modPlot ..).trans h1
  refine lasting_of_ite ?_ ?_
  · refine (lasting_plotNotice ..).trans ((lasting_foldl _ (fun s n => ?_) _ _).trans ((lasting_blankPlot ..).trans h2))
    split
    · exact lasting_failTraffic s n
    · exact lasting_endTraffic s n
  · exact (lasting_plotNotice ..).trans ((lasting_foldl _ lasting_nauServe ..).trans h2)

@[simp] theorem lasting_startFull (s : State) (w : Who) (p : Bytes) : lasting (startFull s w p).2 = lasting s := by simp [startFull]
@[simp] theorem lasting_startBoot (s : State) (entry : Nat) : lasting (startBoot s entry) = lasting s := by simp [startBoot]
@[simp] theorem lasting_bootNext (s : State) : lasting (bootNext s) = lasting s := by simp [bootNext]

@[simp] theorem lasting_failLoad (s : State) (id : Nat) (f : LoadFail) (st : JobState) (detail : Nat) :
    lasting (failLoad s id f st detail) = lasting s := by
  unfold failLoad
  generalize jobAt s id = o
  cases o
  · rfl
  · dsimp -zeta only
    extract_lets p s1 s2 s3 s4
    have h2 : lasting s2 = lasting s1 := lasting_of_ite (lasting_failFull ..) (lasting_failPlot ..)
    have h4 : lasting s4 = lasting s :=
      (lasting_endJob ..).trans ((lasting_stepDone ..).trans ((lasting_modCfg ..).trans (h2.trans (lasting_dropLoad ..))))
    exact lasting_of_ite ((lasting_bootNext _).trans h4) h4

/-! ### The management complex -/

@[simp] theorem lasting_startChange (s : State) (job : Nat) (rs : RouteSet) (removing : List Nat) :
    lasting (startChange s job rs removing) = lasting s := by simp [startChange, lasting_foldl]

@[simp] theorem lasting_ownChange (s : State) (outR : List Nat) (outL : List (Nat × Nat)) :
    lasting (ownChange s outR outL) = lasting s := by
  unfold ownChange
  refine lasting_of_ite rfl ?_
  extract_lets s1
  generalize tilthRoutes s outR outL = o
  cases o
  · rfl
  · exact (lasting_startChange ..).trans (lasting_newJob s1 ..)

@[simp] theorem lasting_afterChange (s : State) : lasting (afterChange s) = lasting s := by simp [afterChange]
@[simp] theorem lasting_dropChange (s : State) : lasting (dropChange s) = lasting s := rfl
@[simp] theorem lasting_resumeFlows (s : State) : lasting (resumeFlows s) = lasting s := by simp [resumeFlows, lasting_foldl]
@[simp] theorem lasting_resumeSlots (s : State) : lasting (resumeSlots s) = lasting s := by simp [resumeSlots, lasting_foldl]

@[simp] theorem lasting_resumePorts (s : State) : lasting (resumePorts s) = lasting s := by
  refine lasting_foldl _ (fun s n => ?_) _ _
  refine lasting_of_ite rfl ((lasting_foldl _ (fun s l => ?_) _ _).trans ?_)
  · exact lasting_modLink ..
  · exact lasting_of_ite ((lasting_portRetrain ..).trans (lasting_modPort ..)) rfl

@[simp] theorem lasting_resumeAll (s : State) : lasting (resumeAll s) = lasting s := by simp [resumeAll, lasting_foldl]
@[simp] theorem lasting_endCopy (s : State) (j : Job) : lasting (endCopy s j) = lasting s := by simp [endCopy]

@[simp] theorem lasting_stopJob (s : State) (id : Nat) (st : JobState) (status detail : Nat) :
    lasting (stopJob s id st status detail) = lasting s := by
  unfold stopJob
  generalize jobAt s id = o
  rcases o with _ | j
  · rfl
  · refine lasting_of_ite (lasting_failLoad ..) ?_
    generalize changeOf s id = o
    rcases o with _ | _ | _
    · have hend := (lasting_endJob (endCopy s j) id st status detail 0 []).trans (lasting_endCopy s j)
      dsimp only
      split
      · exact (lasting_afterChange _).trans hend
      · exact (lasting_resumeAll _).trans hend
    · exact (lasting_afterChange _).trans (lasting_endJob ..)
    · rfl

@[simp] theorem lasting_cancelNow (s : State) (id detail : Nat) : lasting (cancelNow s id detail) = lasting s := by
  unfold cancelNow
  split <;> simp

@[simp] theorem lasting_cancelAll (s : State) (detail : Nat) : lasting (cancelAll s detail) = lasting s := by
  simp [cancelAll, lasting_foldl]

@[simp] theorem lasting_stopDump (s : State) (detail : Nat) : lasting (stopDump s detail) = lasting s := by simp [stopDump, lasting_foldl]

@[simp] theorem lasting_dropLoads (s : State) : lasting (dropLoads s) = lasting s := by
  refine (lasting_foldl _ (fun s id => ?_) _ _).trans (lasting_modCfg s _)
  exact (lasting_modMgmt ..).trans (lasting_releaseHolds ..)

end Machine
end Sys2Proof
end

section
namespace Sys2Proof
namespace Machine

/-! ## Thermal protection and tamper (R59, R60, R440 to R442) -/

/-! ### The fatal path and the end of jobs -/

/-- `t` is in the fatal state, with the vault and THERMTRIP_N as `s` has them. -/
structure TakesFatal (s t : State) : Prop where
  vault : t.vault = s.vault
  fatal : t.sys.fatal = true
  thermtrip : t.sys.thermtrip = s.sys.thermtrip

/-- A FATAL cause without a dump, the first or a further one (R396, R397). -/
theorem fatalPath_noDump (s : State) (r : RecOf) (direct : Bool) : TakesFatal s (fatalPath s r false direct) := by
  have hsys := record_sys s { r with sev := sevFatal }
  have hvault := record_vault s { r with sev := sevFatal }
  unfold fatalPath
  split
  · next h => exact ⟨hvault, (congrArg Sys.fatal hsys).trans h, (congrArg Sys.thermtrip hsys :)⟩
  · exact ⟨(raise_vault ..).trans hvault, congrArg Sys.fatal (raise_sys ..),
      (congrArg Sys.thermtrip (raise_sys ..)).trans (congrArg Sys.thermtrip hsys :)⟩

/-- The end of every job and of the dump being written, as the fatal path of a trip or a tamper has it. -/
theorem lasting_endJobs (s : State) (detail : Nat) : lasting (cancelAll (stopDump s detail) detail) = lasting s :=
  (lasting_cancelAll ..).trans (lasting_stopDump ..)

theorem fatal_of_lasting {s t : State} (h : lasting t = lasting s) : t.sys.fatal = s.sys.fatal := (congrArg (·.1.fatal) h :)

theorem thermtrip_of_lasting {s t : State} (h : lasting t = lasting s) : t.sys.thermtrip = s.sys.thermtrip :=
  (congrArg (·.1.thermtrip) h :)

/-- What a tamper writes in the BBRAM's domain (R59). -/
def bbram (s : State) : BitVec 256 × DWord × Bool := (s.vault.ownerKeyB, s.vault.keyCheck, s.vault.tamperLatch)

theorem bbram_of_lasting {s t : State} (h : lasting t = lasting s) : bbram t = bbram s :=
  (congrArg (fun x => (x.2.ownerKeyB, x.2.keyCheck, x.2.tamperLatch)) h :)

/-! ### What a trip ends with (R441, R442) -/

/-- The steps of a trip after what trips has shut down: THERMTRIP_N, the fatal path without a dump, the end of jobs. -/
def tripEnd (s : State) : State :=
  let s5 := modSys s (fun y => { y with thermtrip := true })
  let s6 := fatalPath s5 { src := srcTele, sev := sevFatal, cause := 0x30, node := mgmtNode } false false
  let s7 := modVault (cancelAll (stopDump s6 4) 4) (fun v => { v with slotKeys := [] })
  modDumps s7 (fun d => { d with wanted := false, complete := false, kaolin := none })

/-- A trip shuts down what has tripped, then ends in `tripEnd`; one of the Marl die takes the management endpoint with it. -/
theorem exec_thermalTrip {s : State} (hp : powered s = true) (src : TripSrc) : ∃ u, exec (.thermalTrip src) s =
    .next (if tripOnMarl src then modSys (tripEnd u) (fun y => { y with phase := .tripHeld, endpointUp := false }) else tripEnd u) := by
  change ∃ u, execThermalTrip src s = _
  rw [execThermalTrip, if_pos hp]
  extract_lets s1 s2 s3 s4 s5 s6 s7 s8
  clear_value s4
  exact ⟨s4, rfl⟩

theorem tripEnd_thermtrip (s : State) : (tripEnd s).sys.thermtrip = true :=
  (thermtrip_of_lasting (lasting_endJobs _ 4)).trans (fatalPath_noDump ..).thermtrip

theorem tripEnd_fatal (s : State) : (tripEnd s).sys.fatal = true :=
  (fatal_of_lasting (lasting_endJobs _ 4)).trans (fatalPath_noDump ..).fatal

/-! ### What a tamper ends with (R59) -/

@[simp] theorem ideInsecure_sys (s : State) (l : Nat) : (ideInsecure s l).sys = s.sys := by
  unfold ideInsecure
  extract_lets x
  split
  · exact raise_sys _ _
  · rfl

@[simp] theorem ideInsecure_vault (s : State) (l : Nat) : (ideInsecure s l).vault = s.vault := by
  unfold ideInsecure
  extract_lets x
  split
  · exact raise_vault _ _
  · rfl

theorem zeroizeKeys_sys (s : State) : (zeroizeKeys s).sys = s.sys := by
  simp only [zeroizeKeys, modDbg_sys]
  rw [foldl_fixes State.sys _ (by simp), foldl_fixes State.sys _ (by simp)]
  rfl

theorem zeroizeKeys_vault (s : State) : (zeroizeKeys s).vault = { s.vault with slotKeys := [], ideKeys := [] } := by
  simp only [zeroizeKeys, modDbg_vault]
  rw [foldl_fixes State.vault _ (by simp), foldl_fixes State.vault _ (by simp)]
  rfl

theorem zeroizeKeys_sessions (s : State) : (zeroizeKeys s).dbg.sessions = [] := rfl

theorem dropPkOps_sys (s : State) : (dropPkOps s).sys = s.sys := foldl_fixes State.sys _ (fun _ _ => reply_sys ..) _ _

theorem dropPkOps_vault (s : State) : (dropPkOps s).vault = { s.vault with pkQueue := [] } :=
  foldl_fixes State.vault _ (fun _ _ => reply_vault ..) _ _

theorem dropPkOps_dbg (s : State) : (dropPkOps s).dbg = s.dbg := foldl_fixes State.dbg _ (fun _ _ => reply_dbg ..) _ _

/-- The steps of a tamper of a device that runs: the plots and the loads go, the event and the fatal path, the end of jobs. -/
def tamperFatal (s : State) : State :=
  let s2 := fatalPath (raise (destroyAll (dropLoads s)) srcVault)
    { src := srcVault, sev := sevFatal, cause := 0x2F, node := mgmtNode } false false
  cancelAll (stopDump s2 4) 4

/-- The steps after them: the keys are zeroized, and the public-key engine gives up what it holds. -/
def tamperEnd (s : State) : State :=
  modDumps (modSys (dropPkOps (zeroizeKeys s)) (fun y => { y with tampered := true }))
    (fun d => { d with wanted := false, complete := false, kaolin := none })

theorem exec_tamper {s : State} (hp : powered s = true) :
    exec .tamper s = .next (tamperEnd (tamperFatal (modVault (clearBbram s) (fun v => { v with tamperLatch := true })))) := if_pos hp

theorem tamperFatal_fatal (s : State) : (tamperFatal s).sys.fatal = true := by
  rw [tamperFatal, fatal_of_lasting (lasting_endJobs _ 4), (fatalPath_noDump ..).fatal]

theorem tamperFatal_bbram (s : State) : bbram (tamperFatal s) = bbram s := by
  have hend : bbram (tamperFatal s) = bbram (raise (destroyAll (dropLoads s)) srcVault) := by
    rw [tamperFatal, bbram_of_lasting (lasting_endJobs _ 4)]
    simp [bbram, (fatalPath_noDump ..).vault]
  exact hend.trans (bbram_of_lasting (by simp))

theorem tamperEnd_sys (s : State) : (tamperEnd s).sys = { s.sys with tampered := true } := by
  simp [tamperEnd, dropPkOps_sys, zeroizeKeys_sys]

theorem tamperEnd_vault (s : State) : (tamperEnd s).vault = { s.vault with slotKeys := [], ideKeys := [], pkQueue := [] } := by
  simp [tamperEnd, dropPkOps_vault, zeroizeKeys_vault]

theorem tamperEnd_sessions (s : State) : (tamperEnd s).dbg.sessions = [] := by
  simp [tamperEnd, dropPkOps_dbg, zeroizeKeys_sessions]

/-! ### What each row answers -/

theorem exec_thermalWarning {s : State} (hp : powered s = true) (i : Fin 64) (mc : Int) : exec (.thermalWarning i mc) s =
    if tget 95000 s.sys.tempThresh i.val ≤ mc ∧ hasElem s.sys.warned i.val = false then
      .next (raise (modSys s (fun y => { y with temp := tset 0 y.temp i.val mc, warned := withElem y.warned i.val })) srcTele)
    else .next (modSys s (fun y => { y with temp := tset 0 y.temp i.val mc })) := if_pos hp

/-- Settles O26, row by row: what a trip and a tamper end with stands through the end of every job. -/
theorem thermalAndTamper : Obligations.ThermalAndTamper := by
  refine ⟨fun s i mc hp => ⟨fun hmc hw => ?_, fun hn => ?_⟩, fun s i mc h => if_pos h, fun s i mc h => if_neg (Int.not_le.mpr h),
    fun s i hup hc => if_pos ⟨hup, hc⟩, fun s pos hup hc => if_pos ⟨hup, hc⟩, fun s src hp => ?_, fun s hp => ?_,
    fun s hp => if_neg (by simp [hp]), fun s hp => if_pos hp⟩
  · rw [exec_thermalWarning hp, if_pos ⟨hmc, hw⟩]
    simp [modSys, withElem, hw, srcTele]
  · rw [exec_thermalWarning hp, if_neg (by rintro ⟨hmc, hw⟩; simp [hw, Int.not_lt.mpr hmc] at hn)]
    rfl
  · obtain ⟨u, hu⟩ := exec_thermalTrip hp src
    refine ⟨_, hu, ?_⟩
    cases tripOnMarl src
    · exact ⟨tripEnd_thermtrip u, tripEnd_fatal u, rfl, rfl, rfl, by simp⟩
    · exact ⟨tripEnd_thermtrip u, tripEnd_fatal u, rfl, rfl, rfl, fun _ => ⟨rfl, rfl⟩⟩
  · have hf := tamperFatal_fatal (modVault (clearBbram s) (fun v => { v with tamperLatch := true }))
    have hb := tamperFatal_bbram (modVault (clearBbram s) (fun v => { v with tamperLatch := true }))
    refine ⟨_, exec_tamper hp, ?_⟩
    generalize tamperFatal _ = u at hf hb
    obtain ⟨hkey, hcheck, hlatch⟩ := Prod.mk.inj hb |>.imp_right Prod.mk.inj
    rw [tamperEnd_sys, tamperEnd_vault, tamperEnd_sessions]
    exact ⟨hlatch, hkey, hcheck, rfl, rfl, rfl, rfl, hf, rfl, rfl⟩

end Machine
end Sys2Proof
end

section
namespace Sys2Proof
namespace Machine

/-! ## Decoding at the ports (R83, R100 to R102, R144, R202)

What the decoder does with a unit, by what the unit's descriptor says; then what stands between the link and the decoder. -/

/-! ### One unit at the decoder -/

section
variable {s : State} {port : Nat} {u : MsgUnit} {d : BitVec 128}

theorem decodeUnit_of_noDesc (hd : unitDesc s port u = none) : decodeUnit s port u = decodeMiss s (2 * port + u.engine.val) := by
  simp only [decodeUnit, hd]

theorem decodeUnit_above (hd : unitDesc s port u = some d)
    (hhi : tget 0 s.pce.linkBase (2 * port + u.engine.val) + tget 0 s.pce.linkCount (2 * port + u.engine.val) ≤
      descAgent s d (2 * port + u.engine.val) u.bits) :
    decodeUnit s port u = agentRange s (2 * port + u.engine.val) := by
  simp only [decodeUnit, hd]
  exact if_pos (.inr hhi)

/-- What R100 asks of a unit before it is routed: a descriptor matches it, and its agent lies in the link's range. -/
structure Routable (s : State) (port : Nat) (u : MsgUnit) (d : BitVec 128) : Prop where
  desc : unitDesc s port u = some d
  above : tget 0 s.pce.linkBase (2 * port + u.engine.val) ≤ descAgent s d (2 * port + u.engine.val) u.bits
  below : descAgent s d (2 * port + u.engine.val) u.bits <
    tget 0 s.pce.linkBase (2 * port + u.engine.val) + tget 0 s.pce.linkCount (2 * port + u.engine.val)

/-- A routable unit goes by its tag where its descriptor has no address, and else as a message that sink mode may answer. -/
theorem Routable.decodeUnit_eq (hr : Routable s port u d) : decodeUnit s port u =
    if fld d 52 47 = 0 then
      tagRouted s port (2 * port + u.engine.val) d u (fun t g => unitHdr s port d u (some (t, g))) (descPayload d u).1
    else if s.silt.sink && newRequest s (unitHdr s port d u none) then
      modLink s (2 * port + u.engine.val) (fun x => { x with sunk := x.sunk ++ [unitHdr s port d u none] })
    else sendDecoded s (decodedPacket (portNode port) (targetSlice s (portDie port) (mLine (unitHdr s port d u none))) 0
      (unitHdr s port d u none) (decodedCls s (unitHdr s port d u none) (descPayload d u).1.isSome) ((descPayload d u).1.getD [])) := by
  simp only [decodeUnit, hr.desc]
  exact if_neg (not_or.mpr ⟨Nat.not_lt.mpr hr.above, Nat.not_le.mpr hr.below⟩)

theorem Routable.decodeUnit_tag (hr : Routable s port u d) (ha : fld d 52 47 = 0) : decodeUnit s port u =
    tagRouted s port (2 * port + u.engine.val) d u (fun t g => unitHdr s port d u (some (t, g))) (descPayload d u).1 :=
  hr.decodeUnit_eq.trans (if_pos ha)

theorem Routable.decodeUnit_sink (hr : Routable s port u d) (ha : fld d 52 47 ≠ 0) (hs : s.silt.sink = true)
    (hn : newRequest s (unitHdr s port d u none) = true) : decodeUnit s port u =
    modLink s (2 * port + u.engine.val) (fun x => { x with sunk := x.sunk ++ [unitHdr s port d u none] }) := by
  rw [hr.decodeUnit_eq, if_neg ha, if_pos (by simp [hs, hn])]

/-- The message header that a packet carries in its own is read from it unchanged. -/
theorem ofNat_toNat_widened (h : BitVec 128) : BitVec.ofNat 128 (BitVec.ofNat 384 h.toNat).toNat = h := by
  rw [BitVec.ofNat_toNat, BitVec.ofNat_toNat, BitVec.setWidth_setWidth_of_le _ (by decide), BitVec.setWidth_eq]

/-- A message of an agent that is not under quiesce enters Silt at once (R122). -/
theorem sendDecoded_of_notHeld {src i plot : Nat} {h : BitVec 128} {cls : Cls} {data : List Line} (hh : agentHeld s (mAgent h) = false) :
    sendDecoded s (decodedPacket src i plot h cls data) = inject s (decodedPacket src i plot h cls data) := by
  have hhdr : BitVec.ofNat 128 (decodedPacket src i plot h cls data).hdr.toNat = h := ofNat_toNat_widened h
  simp [sendDecoded, hhdr, hh]

theorem Routable.decodeUnit_addr (hr : Routable s port u d) (ha : fld d 52 47 ≠ 0) (hs : s.silt.sink = false)
    (hh : agentHeld s (mAgent (unitHdr s port d u none)) = false) : decodeUnit s port u =
    inject s (decodedPacket (portNode port) (targetSlice s (portDie port) (mLine (unitHdr s port d u none))) 0
      (unitHdr s port d u none) (decodedCls s (unitHdr s port d u none) (descPayload d u).1.isSome) ((descPayload d u).1.getD [])) := by
  rw [hr.decodeUnit_eq, if_neg ha, if_neg (by simp [hs]), sendDecoded_of_notHeld hh]

end

theorem tagRouted_stray {s : State} {port l : Nat} {d : BitVec 128} {u : MsgUnit} {h : Nat → Nat → BitVec 128} {pay : Option (List Line)}
    (ht : tget none (linkAt s l).tags (unitBits u.bits (fld d 43 35) (fld d 34 31 + 1)) = none) :
    tagRouted s port l d u h pay = raise (modLink s l (fun x => { x with stray := ctrInc x.stray })) (linkSrc l) := by
  simp only [tagRouted, ht]

theorem tagRouted_tracked {s : State} {port l i t g : Nat} {d : BitVec 128} {u : MsgUnit} {h : Nat → Nat → BitVec 128}
    (ht : tget none (linkAt s l).tags (unitBits u.bits (fld d 43 35) (fld d 34 31 + 1)) = some (i, t, g)) :
    tagRouted s port l d u h none = inject (modLink s l (fun x => { x with
        tags := tset none x.tags (unitBits u.bits (fld d 43 35) (fld d 34 31 + 1)) none
        waiting := x.waiting.filter (fun w => decide (w.1 ≠ unitBits u.bits (fld d 43 35) (fld d 34 31 + 1))) }))
      (decodedPacket (portNode port) i 0 (h t g) .rsp []) := by
  simp only [tagRouted, ht]
  rfl

theorem descPayload_none {d : BitVec 128} (hd : fld d 15 14 = 0) (u : MsgUnit) : descPayload d u = (none, 0) := by
  simp only [descPayload, hd]

/-- The descriptor found is a matching one, and none of a lower index matches. -/
theorem findDesc_lowest {b : Bank} {cls : Nat} {u : BitVec 512} {d : BitVec 128} (hd : findDesc b cls u = some d) :
    ∃ i, i < 64 ∧ bkDesc b i = d ∧ descMatches d cls u = true ∧ ∀ j, j < i → descMatches (bkDesc b j) cls u = false := by
  obtain ⟨hm, i, hi, hget, hbefore⟩ := List.find?_eq_some_iff_getElem.mp hd
  simp only [List.length_map, List.length_range] at hi
  simp only [List.getElem_map, List.getElem_range] at hget hbefore
  exact ⟨i, hi, hget, hm, fun j hj => by simpa using hbefore j hj⟩

/-! ### From the link to the decoder -/

theorem takeUnit_taken {s : State} {port : Nat} {u : MsgUnit} (h : decoderHeld s port = false ∨ unitAnswers s port u = true) :
    takeUnit s port u = decodeUnit s port u := if_neg (by rcases h with h | h <;> simp [h])

theorem takeUnit_waits {s : State} {port : Nat} {u : MsgUnit} (hh : decoderHeld s port = true) (ha : unitAnswers s port u = false) :
    takeUnit s port u = modPort s port (fun x => { x with heldUnits := x.heldUnits ++ [u] }) := if_pos (by simp [hh, ha])

theorem exec_decode {s : State} {port : Fin 8} {u : MsgUnit} (hp : portUp s port.val = true)
    (hl : (linkAt s (2 * port.val + u.engine.val)).state = .l0) (hc : carriesClass (linkAt s (2 * port.val + u.engine.val)) u.cls = true) :
    exec (.decode port u) s = .next (linkPump (takeUnit s port.val u) (2 * port.val + u.engine.val)) := if_pos ⟨hp, hl, hc⟩

theorem exec_decode_nothing {s : State} {port : Fin 8} {u : MsgUnit}
    (h : portUp s port.val = false ∨ (linkAt s (2 * port.val + u.engine.val)).state ≠ .l0 ∨
      carriesClass (linkAt s (2 * port.val + u.engine.val)) u.cls = false) : exec (.decode port u) s = .next s := by
  refine if_neg ?_
  rintro ⟨hp, hl, hc⟩
  simp [hp, hl, hc] at h

/-- Settles O54: the row by what stands before the decoder, and the decoder by what the unit's descriptor says. -/
theorem decoders : Obligations.Decoders := by
  refine ⟨?addressed, ?taken, ?waits, fun port u s h => exec_decode_nothing h, ?sink, fun port u s hd => decodeUnit_of_noDesc hd,
    fun port u d s hd hhi => decodeUnit_above hd hhi, ?stray, ?tracked, fun b cls u d hd => findDesc_lowest hd⟩
  case addressed =>
    intro port u d s l h data p hp hl hc hd ha hlo hhi hheld hs hq
    rw [exec_decode hp hl hc, takeUnit_taken (.inl hheld), Routable.decodeUnit_addr ⟨hd, hlo, hhi⟩ ha hs hq]
  case taken =>
    intro port u s hp hl hc h
    rw [exec_decode hp hl hc, takeUnit_taken h]
  case waits =>
    intro port u s hp hl hc hh ha
    rw [exec_decode hp hl hc, takeUnit_waits hh ha]
  case sink =>
    intro port u d s l h hd ha hlo hhi hs hn
    exact Routable.decodeUnit_sink ⟨hd, hlo, hhi⟩ ha hs hn
  case stray =>
    intro port u d s l hd hlo hhi ha ht
    rw [Routable.decodeUnit_tag ⟨hd, hlo, hhi⟩ ha, tagRouted_stray ht]
  case tracked =>
    intro port u d i t g s l tag hd hlo hhi ha hpay ht
    rw [Routable.decodeUnit_tag ⟨hd, hlo, hhi⟩ ha, descPayload_none hpay, tagRouted_tracked ht]

end Machine
end Sys2Proof
end

section
namespace Sys2Proof
namespace Machine

/-! ## Rows of the lanes (R69 to R72, R78, R87, R88) -/

/-! ### Loss of signal and of lock, and return (R71, R72) -/

theorem exec_lossOfSignal {s : State} {f : Fin 160} (hup : laneUp s f.val = true) (hrx : (laneAt s f.val).rxSleep = false) (ns : Nat) :
    exec (.lossOfSignal f ns) s =
      if 2000 ≤ ns then .next (losReport s f.val) else if f.val < 128 then .next (laneCount s f.val 0) else .next s :=
  if_pos (by simp [hup, hrx])

theorem exec_lossOfLock {s : State} {f : Fin 160} (hup : laneUp s f.val = true) (hrx : (laneAt s f.val).rxSleep = false) (ns : Nat) :
    exec (.lossOfLock f ns false) s = if 1000 ≤ ns then .next (lolReport s f.val) else .next s := by
  rw [show exec (.lossOfLock f ns false) s = if 1000 ≤ ns ∧ (laneAt s f.val).rxSleep = false then .next (lolReport s f.val) else .next s
    from if_pos hup]
  simp only [hrx, and_true]

theorem exec_lossOfLock_quad {s : State} {f : Fin 160} (hup : laneUp s f.val = true) (ns : Nat) :
    exec (.lossOfLock f ns true) s = .next (((List.range 4).map (fun i => f.val / 4 * 4 + i)).foldl lolReport s) := if_pos hup

/-- A fabric lane counts its losses of lock in counter 2; a reach lane has no such counter. -/
theorem lolReport_fabric {s : State} {f : Nat} (hf : f < 128) : lolReport s f =
    toRecovery (raise (laneCount (modLane s f (fun x => { x with lol := true, locked := false })) f 2) (laneSrc f)) f := by
  simp only [lolReport, if_pos hf]

/-- The lane works again. -/
def laneBack (s : State) (f : Nat) : State := modLane s f (fun x => { x with los := false, lol := false, locked := true })

/-- Every lane that the link uses has signal and lock. -/
def linkLanesWork (s : State) (l : Nat) : Bool :=
  (usedLanes s l (linkAt s l).width (linkAt s l).reversed).all (fun g => !(laneAt s g).los && !(laneAt s g).lol)

section
variable {s : State} {f : Fin 160} (hup : laneUp s f.val = true) (hrx : (laneAt s f.val).rxSleep = false)
include hup hrx

theorem exec_laneReturn_noLink (hl : linkOfLane (laneBack s f.val) f.val = none) : exec (.laneReturn f) s = .next (laneBack s f.val) := by
  refine (if_pos (by simp [hup, hrx])).trans ?_
  split
  · rfl
  · next h => cases hl.symm.trans h

/-- The link of a lane that is back resumes from Recovery once all of its lanes work. -/
theorem exec_laneReturn_link {l : Nat} (hl : linkOfLane (laneBack s f.val) f.val = some l) : exec (.laneReturn f) s =
    if (linkAt (laneBack s f.val) l).state = .recovery ∧ linkLanesWork (laneBack s f.val) l = true then
      .next (linkPump (modLink (laneBack s f.val) l (fun k => { k with state := upState k, recovery := ctrInc k.recovery })) l)
    else .next (laneBack s f.val) := by
  refine (if_pos (by simp [hup, hrx])).trans ?_
  split
  · next h => cases hl.symm.trans h
  · next h =>
    obtain rfl := Option.some.inj (hl.symm.trans h)
    rfl

end

/-! ### Adaptation and the partner's requests (R69, R70, R78) -/

theorem exec_dfeAdaptationUpdate {s : State} {f : Fin 160} (v : Nat) (ha : (laneAt s f.val).adapt = true)
    (hrx : (laneAt s f.val).rxSleep = false) (hz : (laneAt s f.val).frozen = false) :
    exec (.dfeAdaptationUpdate f v) s = .next (modLane s f.val (fun x => { x with adapted := v })) := if_pos (by simp [ha, hrx, hz])

theorem exec_dfeAdaptationUpdate_still {s : State} {f : Fin 160} (v : Nat)
    (h : (laneAt s f.val).adapt = false ∨ (laneAt s f.val).rxSleep = true ∨ (laneAt s f.val).frozen = true) :
    exec (.dfeAdaptationUpdate f v) s = .next s := if_neg (by rcases h with h | h | h <;> simp [h])

theorem coeffOk_iff (a b c : Nat) : coeffOk a b c = true ↔ a ≤ 12 ∧ a + b + c = 48 ∧ a + c + 12 ≤ b := decide_eq_true_iff

section
variable {s : State} {f : Fin 128} (hup : laneUp s f.val = true) (htx : (laneAt s f.val).txSleep = false)
include hup htx

theorem exec_partnerPresetRequest_preset (n : Nat) : exec (.partnerPresetRequest f (.preset n)) s = .next (modLane s f.val (fun x =>
    if n ≤ 10 then { x with preset := n, refused := false } else { x with refused := true })) := if_pos (by simp [hup, htx])

theorem exec_partnerPresetRequest_coeff (a b c : Nat) : exec (.partnerPresetRequest f (.coeff a b c)) s = .next (modLane s f.val (fun x =>
    if coeffOk a b c then { x with preset := 15, fir := (a, b, c), refused := false } else { x with refused := true })) :=
  if_pos (by simp [hup, htx])

end

theorem linkIsUp_of_l0 {x : Link} (h : x.state = .l0) : linkIsUp x = true := by simp [linkIsUp, h]

theorem exec_partnerMarginRequest {s : State} {f : Fin 128} {l : Nat} (hl : linkOfLane s f.val = some l) (hup : linkIsUp (linkAt s l) = true)
    (v : Word) : exec (.partnerMarginRequest f v) s = .next (modLane s f.val (fun x => { x with margins := x.margins ++ [v] })) := by
  change execPartnerMarginRequest f v s = _
  simp only [execPartnerMarginRequest, hl, if_pos hup]

/-! ### Reach lanes (R87, R88) -/

/-- A reach lane that is awake, in a mode and clocked keeps the packet, or counts it as discarded while its buffer is full (R87, R88, R427). -/
theorem exec_reachReceive {s0 s : State} {j : Fin 32} {b : Bytes} {seen : ReachSeen} (hs : s = countFec s0 j.val seen.corrected seen.uncorrected)
    (hup : laneUp s (128 + j.val) = true) (hrx : (laneAt s (128 + j.val)).rxSleep = false) (hm : (reachAt s j.val).mode ≠ 0)
    (hx : s.sys.xlrefLost = false) : exec (.reachReceive j b seen) s0 =
      if (reachAt s j.val).buf.length < 256 then
        .next (reachPump (modReach s j.val (fun r => { r with
          buf := r.buf ++ [((b ++ zeros 256).take 256, seen.mask, r.seq)], seq := (r.seq + 1) % 65536 })) j.val)
      else .next (
        let t := modReach (laneCount s (128 + j.val) 2) j.val (fun r => { r with seq := (r.seq + 1) % 65536, discardRaised := true })
        if (reachAt s j.val).discardRaised then t else raise t (laneSrc (128 + j.val))) := by
  subst hs
  exact if_pos ⟨hup, hrx, hm, hx⟩

theorem countFec_fec {s : State} {j : Nat} (hm : (reachAt s j).mode = 3) (c u : Nat) : countFec s j c u = modLane s (128 + j) (fun x => { x with
    cnt := tmod {} (tmod {} x.cnt 0 (fun k => ctrAdd k c)) 1 (fun k => ctrAdd k u) }) := if_pos hm

theorem countFec_other {s : State} {j : Nat} (hm : (reachAt s j).mode ≠ 3) (c u : Nat) : countFec s j c u = s := if_neg hm

theorem exec_reachUnderflow {s : State} {j : Fin 32} (hup : laneUp s (128 + j.val) = true) (htx : (laneAt s (128 + j.val)).txSleep = false)
    (hm : (reachAt s j.val).mode ≠ 0) (hx : s.sys.xlrefLost = false) : exec (.reachUnderflow j) s = .next (
      let u := modReach (laneCount s (128 + j.val) 3) j.val (fun r => { r with
        tx := [], underRaised := true, filler := some (if r.mode = 1 then r.fill else idleBlock) })
      if (reachAt s j.val).underRaised then u else raise u (laneSrc (128 + j.val))) := if_pos ⟨hup, htx, hm, hx⟩

theorem exec_reachUnderflow_noClock {s : State} (hx : s.sys.xlrefLost = true) (j : Fin 32) : exec (.reachUnderflow j) s = .next s := by
  refine if_neg ?_
  rintro ⟨-, -, -, h⟩
  cases hx.symm.trans h

/-- Settles O40, row by row from what each answers. -/
theorem lanes : Obligations.Lanes := by
  refine ⟨?signal, ?glitch, ?lock, ?shortLock, fun s f ns hup => exec_lossOfLock_quad hup ns, ?returns,
    fun s f v ha hrx hz => exec_dfeAdaptationUpdate v ha hrx hz, fun s f v h => exec_dfeAdaptationUpdate_still v h, ?presets,
    fun s f l v hl h0 => exec_partnerMarginRequest hl (linkIsUp_of_l0 h0) v, ?receive,
    fun s j c u => ⟨fun hm => countFec_other hm c u, fun hm => countFec_fec hm c u⟩,
    fun s j hup htx hm hx => exec_reachUnderflow hup htx hm hx, fun s j hx => exec_reachUnderflow_noClock hx j⟩
  case signal =>
    intro s f ns hup hrx hns
    exact (exec_lossOfSignal hup hrx ns).trans (if_pos hns)
  case glitch =>
    intro s f ns hup hrx hns hf
    rw [exec_lossOfSignal hup hrx, if_neg (Nat.not_le.mpr hns), if_pos hf]
    rfl
  case lock =>
    intro s f ns hup hrx hns hf
    rw [exec_lossOfLock hup hrx, if_pos hns, lolReport_fabric hf]
  case shortLock =>
    intro s f ns hup hrx hns
    rw [exec_lossOfLock hup hrx, if_neg (Nat.not_le.mpr hns)]
  case returns =>
    intro s f hup hrx t
    refine ⟨fun hl => exec_laneReturn_noLink hup hrx hl, fun l hl hn => ?_, fun l hl hr hgood => ?_⟩
    · exact (exec_laneReturn_link hup hrx hl).trans (if_neg fun h => hn h.1)
    · exact (exec_laneReturn_link hup hrx hl).trans (if_pos ⟨hr, hgood⟩)
  case presets =>
    intro s f hup htx
    refine ⟨fun n hn => ?_, fun n hn => ?_, fun a b c ha hsum hlf => ?_, fun a b c hbad => ?_⟩
    · simp only [exec_partnerPresetRequest_preset hup htx, if_pos hn]
    · simp only [exec_partnerPresetRequest_preset hup htx, if_neg (Nat.not_le.mpr hn)]
    · simp only [exec_partnerPresetRequest_coeff hup htx, if_pos ((coeffOk_iff a b c).mpr ⟨ha, hsum, hlf⟩)]
    · have hno : ¬coeffOk a b c = true := by
        rw [coeffOk_iff]
        rintro ⟨ha, hsum, hlf⟩
        rcases hbad with hbad | hbad | hbad
        · exact Nat.not_le.mpr hbad ha
        · exact hbad hsum
        · exact Nat.not_le.mpr hbad hlf
      simp only [exec_partnerPresetRequest_coeff hup htx, if_neg hno]
  case receive =>
    intro s0 j b v c u s hup hrx hm hx
    have hexec := exec_reachReceive (b := b) (seen := ⟨v, c, u⟩) rfl hup hrx hm hx
    exact ⟨fun hroom => hexec.trans (if_pos hroom), fun hfull => hexec.trans (if_neg (Nat.not_lt.mpr hfull))⟩

end Machine
end Sys2Proof
end

section
namespace Sys2Proof
namespace Machine

/-! ## Rows of the links (R69, R72, R74 to R79, R81, R82, R84, R86) -/

/-! ### Widths, rates and bit fields -/

/-- The width a link takes fits its lanes, and every lane it then uses is good (R74). -/
theorem widest_good {s : State} {l w : Nat} {rev : Bool} {good : Nat → Bool} (h : widest s l rev good = some w) :
    w ≤ (linkLanes s l).length ∧ (usedLanes s l w rev).all good = true := by
  simpa using List.find?_some h

/-- A lane that lost signal in Recovery does not count (R72). -/
theorem stepGood_of_los {s : State} {l f : Nat} (hr : (linkAt s l).state = .recovery) (hf : (laneAt s f).los = true) (t : TrainStep) :
    stepGood s l t f = false := by
  simp [stepGood, hr, hf]

theorem topRateOf_le (x : Link) (p : Nat) (fl cxl : Bool) : topRateOf x p fl cxl ≤ min x.maxRate p := by
  simp only [topRateOf]
  split
  · next h => exact h.1 ▸ Nat.le_succ 5
  · exact le_rfl

/-- 64 GT/s needs flit mode, and under CXL a 256B flit format (R78, R79). -/
theorem topRateOf_ne_six {x : Link} {p : Nat} {fl cxl : Bool} (h : fl = false ∨ (cxl = true ∧ x.flits / 2 % 4 = 0)) :
    topRateOf x p fl cxl ≠ 6 := by
  simp only [topRateOf, h, and_true]
  split
  · decide
  · assumption

theorem fld_setFld_high (w : Word) {v : Nat} (hv : v < 65536) : fld (setFld w 31 16 v) 31 16 = v := by
  have hhigh : fld w 31 16 = w.toNat / 65536 := by
    rw [fld, Nat.shiftRight_eq_div_pow]
    exact Nat.mod_eq_of_lt (Nat.div_lt_of_lt_mul w.isLt)
  have hlow : w.toNat - fld w 31 16 * 65536 = w.toNat % 65536 := by rw [hhigh, Nat.mod_eq_sub_div_mul]
  have hr : w.toNat % 65536 < 65536 := Nat.mod_lt _ (by decide)
  have hset : (setFld w 31 16 v).toNat = w.toNat % 65536 + v * 65536 := by
    rw [setFld, BitVec.toNat_ofNat]
    change (w.toNat - fld w 31 16 * 65536 + v % 65536 * 65536) % 4294967296 = _
    rw [hlow, Nat.mod_eq_of_lt hv]
    exact Nat.mod_eq_of_lt (by omega)
  rw [fld, Nat.shiftRight_eq_div_pow, hset]
  change (w.toNat % 65536 + v * 65536) / 65536 % 65536 = v
  rw [Nat.add_mul_div_right _ _ (by decide), Nat.div_eq_of_lt hr, Nat.zero_add, Nat.mod_eq_of_lt hv]

theorem partCode_lt (p : Part) : partCode p < 65536 := by cases p <;> decide

/-- The device identifier of the hardened configuration space is the part's device code (R75). -/
theorem hardWord_deviceId (s : State) (l : Nat) : fld (hardWord s l 0) 31 16 = partCode s.sys.part := by
  simp only [hardWord, if_true, fld_setFld_high _ (partCode_lt s.sys.part)]

/-! ### Training (R69, R72, R74, R76) -/

section
variable {s : State} {l : Fin 16} {t : TrainStep} (hp : portUp s (l.val / 2) = true)
include hp

theorem exec_linkTraining_recovery (hs : (linkAt s l.val).state = .recovery) :
    exec (.linkTraining l t.rate t.toTrainLanes t.reversed t.toTrainEq) s = .next (retrain s l.val t) := by
  refine (if_pos hp).trans ?_
  simp only [hs]

theorem exec_linkTraining_training (hs : (linkAt s l.val).state = .training) :
    exec (.linkTraining l t.rate t.toTrainLanes t.reversed t.toTrainEq) s =
      if (linkAt s l.val).rate = 0 then .next (if t.rate.val = 1 then trainFirst s l.val t else s)
      else if (linkAt s l.val).settled = false ∧ t.rate.val = nextRate (linkAt s l.val).rate (linkAt s l.val).topRate then
        .next (trainNext s l.val t)
      else .next s := by
  refine (if_pos hp).trans ?_
  simp only [hs]

/-- The first step at 2.5 GT/s (R76). -/
theorem exec_linkTraining_first (hs : (linkAt s l.val).state = .training) (h0 : (linkAt s l.val).rate = 0) :
    exec (.linkTraining l t.rate t.toTrainLanes t.reversed t.toTrainEq) s = .next (if t.rate.val = 1 then trainFirst s l.val t else s) :=
  (exec_linkTraining_training hp hs).trans (if_pos h0)

/-- A further step, at the next rate of the steps up to the final one (R76). -/
theorem exec_linkTraining_next (hs : (linkAt s l.val).state = .training) (h0 : (linkAt s l.val).rate ≠ 0)
    (hset : (linkAt s l.val).settled = false) (ht : t.rate.val = nextRate (linkAt s l.val).rate (linkAt s l.val).topRate) :
    exec (.linkTraining l t.rate t.toTrainLanes t.reversed t.toTrainEq) s = .next (trainNext s l.val t) :=
  (exec_linkTraining_training hp hs).trans ((if_neg h0).trans (if_pos ⟨hset, ht⟩))

end

theorem trainFirst_none {s : State} {l : Nat} {t : TrainStep} (hw : widest s l t.reversed (stepGood s l t) = none) : trainFirst s l t = s := by
  simp only [trainFirst, hw]

theorem trainFirst_some {s : State} {l w : Nat} {t : TrainStep} (hw : widest s l t.reversed (stepGood s l t) = some w) :
    let cxl := t.partnerCxl && decide ((linkAt s l).proto % 2 = 1) && decide (3 ≤ min (linkAt s l).maxRate t.partnerRate.val)
    let top := topRateOf (linkAt s l) t.partnerRate.val t.partnerFlit cxl
    trainFirst s l t = modLink (runLanes s l 1 w t t.reversed false) l (fun x => { x with
      rate := 1, width := w, trainedWidth := w, reversed := t.reversed, flitMode := t.partnerFlit, cxl := cxl, topRate := top
      settled := decide (top ≤ 1) }) := by
  simp only [trainFirst, hw]

theorem retrain_none {s : State} {l : Nat} {t : TrainStep} (hw : widest s l (linkAt s l).reversed (stepGood s l t) = none) :
    retrain s l t = linkFails s l := by
  simp only [retrain, hw]

theorem retrain_some {s : State} {l w : Nat} {t : TrainStep} (hw : widest s l (linkAt s l).reversed (stepGood s l t) = some w) :
    retrain s l t = modLink (runLanes (if w < (linkAt s l).width then raise s (linkSrc l) else s) l (linkAt s l).rate w t
        (linkAt s l).reversed false) l
      (fun x => { x with state := .training, width := w, trainedWidth := w, settled := true, holding := true }) := by
  simp only [retrain, hw]

/-! ### Up and down (R76, R77, R81, R82, R84, R86) -/

theorem exec_linkUp {s : State} {l : Fin 16} (ht : (linkAt s l.val).state = .training) (hs : (linkAt s l.val).settled = true) :
    exec (.linkUp l) s = .next (linkPump (raise (modLink s l.val (fun x => { x with
      state := if x.insecure then .insecure else .l0, holding := false })) (linkSrc l.val)) l.val) := if_pos ⟨ht, hs⟩

theorem exec_trainingTimeout {s : State} {l : Fin 16} (ht : (linkAt s l.val).state = .training) :
    exec (.trainingTimeout l) s = .next (linkFails s l.val) := if_pos ht

theorem exec_trainingRetry {s : State} {l : Fin 16} (hd : (linkAt s l.val).state = .down) :
    exec (.trainingRetry l) s = .next (linkStart s l.val false) := if_pos hd

theorem linkIsUp_iff (x : Link) : linkIsUp x = true ↔ x.state = .l0 ∨ x.state = .insecure := by simp [linkIsUp]

theorem exec_linkDown {s : State} {l : Fin 16} (h : linkIsUp (linkAt s l.val) = true ∨ (linkAt s l.val).state = .recovery) :
    exec (.linkDown l) s = .next (linkFails s l.val) := if_pos h

theorem exec_viralReceived {s : State} {l : Fin 16} (h0 : (linkAt s l.val).state = .l0) (hc : (linkAt s l.val).proto % 2 = 1) :
    exec (.viralReceived l) s = .next (raise (modLink s l.val (fun x => { x with viral := true })) (linkSrc l.val)) := if_pos ⟨h0, hc⟩

theorem exec_ideIntegrityFail {s : State} {l : Fin 16} (h0 : (linkAt s l.val).state = .l0) (hi : (linkAt s l.val).ide = true) :
    exec (.ideIntegrityFail l) s = .next (raise (modLink s l.val (fun x => { x with state := .insecure, insecure := true })) (linkSrc l.val)) :=
  if_pos ⟨h0, hi⟩

/-! ### Flits and power (R78, R82) -/

theorem crosses_iff (old new : Ctr) (t : Nat) : crosses old new t = true ↔ old.n ≤ t ∧ t < new.n := decide_eq_true_iff

theorem exec_flitReplay {s : State} {q : FlitSeen} (hup : linkIsUp (linkAt s q.link.val) = true) : exec (.flitReplay q) s = .next (
    let t := ((usedLanes s q.link.val (linkAt s q.link.val).width (linkAt s q.link.val).reversed).zip q.corrected).foldl
      (fun s fk => countSymbols s fk.1 fk.2) s
    if q.crcFail then countReplay t q.link.val else t) := if_pos hup

/-- L1 and its substate leave the lanes asleep; the active state wakes those of the width (R78). -/
theorem exec_linkPowerStateChange {s : State} {l : Fin 16} (hup : linkIsUp (linkAt s l.val) = true) (w : Fin 17) (pw : LinkPower) :
    exec (.linkPowerStateChange l w pw) s = .next (
      let n := if hasElem [4, 8, 16] w.val && decide (w.val ≤ (linkAt s l.val).trainedWidth) then w.val else (linkAt s l.val).width
      let t := (linkLanes s l.val).foldl sleepLane s
      modLink (if pw ≠ .active then t
        else (usedLanes t l.val n (linkAt s l.val).reversed).foldl (wakeLane · (linkAt s l.val).rate (linkAt s l.val).reversed) t) l.val
        (fun x => { x with power := pw, width := n })) := if_pos hup

/-! ### The configuration space (R75, R78, R293) -/

section
variable {s : State} {l : Fin 16} (h0 : (linkAt s l.val).state = .l0) (hr : (linkAt s l.val).role = 2 ∨ (linkAt s l.val).role = 3)
include h0 hr

/-- What goes to the shell: DOE requests, and configuration requests from offset 0x400. -/
theorem exec_configSpaceForward_shell {req : CfgReq} {off : Fin 4096} (hq : req = .doe ∨ (req = .config ∧ 0x400 ≤ off.val))
    (wr : Option Word) : exec (.configSpaceForward l req off wr) s = .next (forwardCfg s l.val off.val wr) := by
  refine (if_pos ⟨h0, hr⟩).trans ?_
  rcases hq with rfl | ⟨rfl, hoff⟩
  · rfl
  · exact if_pos hoff

theorem exec_configSpaceForward_read {off : Fin 4096} (hoff : off.val < 0x400) : exec (.configSpaceForward l .config off none) s =
    .next (completeCfg s l.val off.val (some (hardWord s l.val off.val).toNat)) :=
  (if_pos ⟨h0, hr⟩).trans (if_neg (Nat.not_le.mpr hoff))

theorem exec_configSpaceForward_write {off : Fin 4096} (hoff : off.val < 0x400) (v : Word) :
    exec (.configSpaceForward l .config off (some v)) s =
      .next (completeCfg (modLink s l.val (fun x => hardWrite x off.val v)) l.val off.val (some 0)) :=
  (if_pos ⟨h0, hr⟩).trans (if_neg (Nat.not_le.mpr hoff))

theorem exec_configSpaceForward_discovery (i : Fin 256) (off : Fin 4096) (wr : Option Word) :
    exec (.configSpaceForward l (.discovery i) off wr) s =
      .next (completeCfg s l.val off.val (some (if i.val = 0 then 1 else (Config.doeProtocol i.val).toNat))) := if_pos ⟨h0, hr⟩

end

/-! ### TLPs (R75, R78, R79, R86) -/

theorem exec_pcieTlpReceive_discards {s : State} {l : Fin 16} (h : (linkAt s l.val).state ≠ .l0) (q : Tlp) :
    exec (.pcieTlpReceive l q) s = .next s := if_neg h

section
variable {s : State} {l : Fin 16} {q : Tlp} (h0 : (linkAt s l.val).state = .l0)
include h0

theorem exec_pcieTlpReceive_malformed (hq : tlpOk q = false) : exec (.pcieTlpReceive l q) s = .next (aerSet s l.val 18) :=
  (if_pos h0).trans (if_pos hq)

variable (hq : tlpOk q = true)
include hq

theorem exec_pcieTlpReceive_hdm {k : Fin 8} {d : HdmRange} (hh : q.hdm = some (k, d)) : exec (.pcieTlpReceive l q) s =
    .next (if (linkAt s l.val).role = 2 ∨ (linkAt s l.val).role = 3 then
      modLink s l.val (fun y => { y with hdm := tset none y.hdm k.val (some d) }) else s) := by
  refine (if_pos h0).trans ((if_neg (by simp [hq])).trans ?_)
  simp only [hh]

theorem exec_pcieTlpReceive_shell (hh : q.hdm = none) (hd : q.toLink = none) : exec (.pcieTlpReceive l q) s =
    .next (modLink s l.val (fun y => { y with tlps := y.tlps ++ [q] })) := by
  refine (if_pos h0).trans ((if_neg (by simp [hq])).trans ?_)
  simp only [hh, hd]

theorem exec_pcieTlpReceive_bridged {d : Fin 16} (hh : q.hdm = none) (hd : q.toLink = some d) : exec (.pcieTlpReceive l q) s =
    if 3 ≤ (linkAt s l.val).role ∧ 3 ≤ (linkAt s d.val).role ∧ (linkAt s l.val).group = (linkAt s d.val).group ∧
        (linkSends (linkAt s d.val) = true ∨ (linkAt s d.val).state = .recovery) then
      .next (modLink s d.val (fun y => { y with tlps := y.tlps ++ [q] }))
    else .next s := by
  refine (if_pos h0).trans ((if_neg (by simp [hq])).trans ?_)
  simp only [hh, hd]

end

theorem linkSends_iff (x : Link) : linkSends x = true ↔ x.state = .l0 ∨ x.state = .insecure := linkIsUp_iff x

theorem tlpOk_eq_false (q : Tlp) : tlpOk q = false ↔ 512 < 4 * q.words.length ∨ 4096 < q.readLen := by
  rw [tlpOk, decide_eq_false_iff_not, not_and_or, Nat.not_le, Nat.not_le]

/-- Settles O39, row by row from what each answers. -/
theorem links : Obligations.Links := by
  refine ⟨?first, ?next, ?retrains, fun s l w rev good h => widest_good h, fun s l t f hr hf => stepGood_of_los hr hf t,
    rfl, rfl, rfl, rfl, rfl, ?topRate, fun s l ht hs => exec_linkUp ht hs, fun s l ht => exec_trainingTimeout ht,
    fun s l hd => exec_trainingRetry hd, ?down, fun s l h0 hc => exec_viralReceived h0 hc, fun s l h0 hi => exec_ideIntegrityFail h0 hi,
    ?replay, ?symbols, ?replays, ?power, ?forward, ?hardened, hardWord_deviceId,
    fun s l i off wr h0 hr => exec_configSpaceForward_discovery h0 hr i off wr, ?insecure, ?malformed, ?ends, ?bridged⟩
  case first =>
    intro s l t hp hs h0
    rw [exec_linkTraining_first hp hs h0]
    refine ⟨fun w h1 hw => ?_, fun h => ?_⟩
    · rw [if_pos h1, trainFirst_some hw]
    · split
      · next h1 => rw [trainFirst_none (h.resolve_left (not_not_intro h1))]
      · rfl
  case next =>
    intro s l t hp hs h0 hset ht
    rw [exec_linkTraining_next hp hs h0 hset ht]
    refine ⟨fun h => congrArg _ (if_pos h), fun h3 heq => congrArg _ (if_neg ?_)⟩
    rintro (hlow | hall)
    · exact Nat.not_le.mpr hlow h3
    · cases heq.symm.trans hall
  case retrains =>
    intro s l t hp hs
    rw [exec_linkTraining_recovery hp hs]
    exact ⟨fun w hw => congrArg _ (retrain_some hw), fun hw => congrArg _ (retrain_none hw)⟩
  case topRate =>
    intro x p fl cxl
    obtain ⟨hmax, hpart⟩ := le_min_iff.mp (topRateOf_le x p fl cxl)
    exact ⟨hmax, hpart, fun hf => topRateOf_ne_six (.inl hf), fun hc hfl => topRateOf_ne_six (.inr ⟨hc, hfl⟩)⟩
  case down =>
    intro s l h
    exact exec_linkDown (by rwa [linkIsUp_iff, or_assoc])
  case replay =>
    intro s l bad fec h
    exact exec_flitReplay (q := ⟨l, bad, fec⟩) ((linkIsUp_iff _).mpr h)
  case symbols =>
    intro s f k
    simp only [countSymbols, crosses_iff]
  case replays =>
    intro s l
    simp only [countReplay, crosses_iff]
  case power =>
    intro s l w pw h0
    rw [exec_linkPowerStateChange (linkIsUp_of_l0 h0)]
    refine ⟨fun hpw => ?_, fun hpw => ?_⟩
    · simp only [if_pos hpw]
    · simp only [hpw, ne_eq, not_true_eq_false, if_false]
  case forward =>
    intro s l req off wr h0 hr hq
    rw [exec_configSpaceForward_shell h0 hr hq]
    exact ⟨fun hc => congrArg _ (if_neg (by simp [hc])), fun hc => congrArg _ (if_pos hc)⟩
  case hardened =>
    intro s l off v h0 hr hoff
    exact ⟨exec_configSpaceForward_read h0 hr hoff, exec_configSpaceForward_write h0 hr hoff v⟩
  case insecure =>
    intro s l q h
    exact exec_pcieTlpReceive_discards (by simp [h]) q
  case malformed =>
    intro s l q h0 h
    exact exec_pcieTlpReceive_malformed h0 ((tlpOk_eq_false q).mpr h)
  case ends =>
    intro s l q h0 hq
    refine ⟨fun k d hh hr => ?_, fun hh hd => exec_pcieTlpReceive_shell h0 hq hh hd⟩
    rw [exec_pcieTlpReceive_hdm h0 hq hh, if_pos hr]
  case bridged =>
    intro s l d q h0 hq hh hd hl hrole hg hup
    rw [exec_pcieTlpReceive_bridged h0 hq hh hd, if_pos ⟨hl, hrole, hg, by rwa [linkSends_iff, or_assoc]⟩]

end Machine
end Sys2Proof
end

section
namespace Sys2Proof
namespace Machine

/-! ## Commands of the slices (R113 to R116, R121, R125, R134, R137, R171) -/

theorem evaluatorFree_of {s : State} {i : Nat} (hr : sliceReady s i = true) (hc : chainPending s i = false) :
    evaluatorFree s i = true := by simp [evaluatorFree, hr, hc]

theorem evaluatorFree_ne_true {s : State} {i : Nat} (h : sliceReady s i = false ∨ chainPending s i = true) : evaluatorFree s i ≠ true := by
  rcases h with h | h <;> simp [evaluatorFree, h]

/-! ### Messages of the intake, and parked requests (R116, R125) -/

theorem exec_evaluate (i : Fin 16) (m : SliceMsg) (s : State)
    (hm : (sliceAt s i.val).intake.find? (fun m => !intakeWaits s i.val m) = some m)
    (hr : sliceReady s i.val = true) (hc : chainPending s i.val = false) : exec (.evaluate i) s =
      .next (handleMsg (modSlice s i.val (fun x => { x with intake := dropFirst x.intake m })) i.val m false) := by
  change execEvaluate i s = _
  dsimp only [execEvaluate]
  generalize List.find? _ _ = o at hm ⊢
  subst hm
  exact if_pos (evaluatorFree_of hr hc)

/-- With nothing in the intake, or with the evaluator not free, EVALUATE takes nothing. -/
theorem exec_evaluate_still (i : Fin 16) (s : State)
    (h : (sliceAt s i.val).intake = [] ∨ sliceReady s i.val = false ∨ chainPending s i.val = true) : exec (.evaluate i) s = .next s := by
  change execEvaluate i s = _
  dsimp only [execEvaluate]
  rcases h with h | h
  · rw [h]
    rfl
  · cases List.find? _ _ with
    | none => rfl
    | some m => exact if_neg (evaluatorFree_ne_true h)

theorem exec_parkedRequestServe_still (i : Fin 16) (s : State) (h : sliceReady s i.val = false ∨ chainPending s i.val = true) :
    exec (.parkedRequestServe i) s = .next s := by
  change execParkedRequestServe i s = _
  dsimp only [execParkedRequestServe]
  cases List.find? _ _ with
  | none => rfl
  | some m => exact if_neg (evaluatorFree_ne_true h)

/-! ### Chains, fetched entries and the queue of a lock (R113, R115, R134) -/

theorem exec_continueChain (i : Fin 16) (t : Fin 1024) (s : State) (hs : (trkAt s i.val t.val).state = .eval)
    (hc : (trkAt s i.val t.val).chain.isSome = true) (hr : sliceReady s i.val = true) :
    exec (.continueChain i t) s = .next (continueOn s i.val t.val) := if_pos ⟨hs, hc, hr⟩

theorem exec_continueChain_still (i : Fin 16) (t : Fin 1024) (s : State)
    (h : (trkAt s i.val t.val).state ≠ .eval ∨ (trkAt s i.val t.val).chain = none ∨ sliceReady s i.val = false) :
    exec (.continueChain i t) s = .next s :=
  if_neg (not_and_or.mpr (h.imp_right (not_and_or.mpr ∘ Or.imp Option.not_isSome_iff_eq_none.mpr ne_true_of_eq_false)))

theorem exec_directoryFetchComplete_ready (i : Fin 16) (t : Fin 1024) (st : Byte) (m : SliceMsg) (h : Nat × HomeEnt) (s s1 : State)
    (hs : (trkAt s i.val t.val).state = .waitMem) (hr : sliceReady s i.val = true) (hc : chainPending s i.val = false)
    (hm : (trkAt s i.val t.val).msg = some m) (hh : homeFor s (trkAt s i.val t.val).line = some h)
    (hroom : makeRoom s i.val (trkAt s i.val t.val).line = .ready s1) (hd : dirCached s1 i.val (trkAt s i.val t.val).line = none) :
    exec (.directoryFetchComplete i t st) s = .next (
      let s2 := placeEntry s1 i.val (trkAt s i.val t.val).line st.toNat h.2
      evalHere (modTrk s2 i.val t.val (fun y => { y with state := .eval })) (waitedEv s2 i.val t.val m)) := by
  refine (if_pos ⟨hs, evaluatorFree_of hr hc⟩).trans ?_
  generalize (trkAt s i.val t.val).msg = o, homeFor s (trkAt s i.val t.val).line = e, makeRoom s i.val (trkAt s i.val t.val).line = r
    at hm hh hroom ⊢
  subst hm hh hroom
  simp only [hd]
  rfl

theorem exec_directoryFetchComplete_wait (i : Fin 16) (t : Fin 1024) (st : Byte) (m : SliceMsg) (h : Nat × HomeEnt) (s s1 : State)
    (hs : (trkAt s i.val t.val).state = .waitMem) (hr : sliceReady s i.val = true) (hc : chainPending s i.val = false)
    (hm : (trkAt s i.val t.val).msg = some m) (hh : homeFor s (trkAt s i.val t.val).line = some h)
    (hroom : makeRoom s i.val (trkAt s i.val t.val).line = .wait s1) :
    exec (.directoryFetchComplete i t st) s = .next (roomWait s1 (waitedEv s1 i.val t.val m)) := by
  refine (if_pos ⟨hs, evaluatorFree_of hr hc⟩).trans ?_
  generalize (trkAt s i.val t.val).msg = o, homeFor s (trkAt s i.val t.val).line = e, makeRoom s i.val (trkAt s i.val t.val).line = r
    at hm hh hroom ⊢
  subst hm hh hroom
  rfl

theorem exec_directoryFetchComplete_still (i : Fin 16) (t : Fin 1024) (st : Byte) (s : State)
    (h : (trkAt s i.val t.val).state ≠ .waitMem ∨ sliceReady s i.val = false ∨ chainPending s i.val = true) :
    exec (.directoryFetchComplete i t st) s = .next s :=
  if_neg (not_and_or.mpr (h.imp_right evaluatorFree_ne_true))

theorem exec_lockQueueHead (i : Fin 16) (t : Fin 1024) (m : SliceMsg) (s : State) (hm : (trkAt s i.val t.val).msg = some m)
    (hs : (trkAt s i.val t.val).state = .waitLock) (ha : hasAhead s i.val t.val = false)
    (hl : lockHolder s i.val (trkAt s i.val t.val).line = none ∨ lockHolder s i.val (trkAt s i.val t.val).line = some t.val)
    (hr : sliceReady s i.val = true) (hc : chainPending s i.val = false) : exec (.lockQueueHead i t) s =
      .next (evalNew (modTrk s i.val t.val (fun y => { y with state := .eval, head := true })) (waitedEv s i.val t.val m)) := by
  change execLockQueueHead i t s = _
  simp only [execLockQueueHead, hm]
  exact if_pos ⟨hs, ha, evaluatorFree_of hr hc, hl⟩

/-- A lock that another tracker holds is neither free nor the tracker's own. -/
theorem not_free_or_own {o : Option Nat} {t : Nat} (h : ∃ k, k ≠ t ∧ o = some k) : ¬ (o = none ∨ o = some t) := by
  obtain ⟨k, hk, rfl⟩ := h
  exact not_or.mpr ⟨Option.some_ne_none k, hk ∘ Option.some.inj⟩

/-- A tracker that does not wait, that is not the head, or whose line another tracker has locked is not evaluated again, nor is any while the
evaluator is not free. -/
theorem exec_lockQueueHead_still (i : Fin 16) (t : Fin 1024) (s : State)
    (h : (trkAt s i.val t.val).state ≠ .waitLock ∨ hasAhead s i.val t.val = true ∨
      (∃ k, k ≠ t.val ∧ lockHolder s i.val (trkAt s i.val t.val).line = some k) ∨
      sliceReady s i.val = false ∨ chainPending s i.val = true) :
    exec (.lockQueueHead i t) s = .next s := by
  change execLockQueueHead i t s = _
  dsimp only [execLockQueueHead]
  cases (trkAt s i.val t.val).msg with
  | none => rfl
  | some m =>
    exact if_neg (not_and_or.mpr (h.imp_right (not_and_or.mpr ∘ Or.imp ne_false_of_eq_true
      (not_and_or.mpr ∘ Or.imp evaluatorFree_ne_true not_free_or_own ∘ Or.symm))))

/-! ### Delivery reports (R114) -/

theorem sliceAt_modSlice_self (s : State) (i : Nat) (f : Slice → Slice) : sliceAt (modSlice s i f) i = f (sliceAt s i) :=
  tget_tmod_self ..

theorem trkAt_modTrk_self (s : State) (i t : Nat) (f : Trk → Trk) : trkAt (modTrk s i t f) i t = f (trkAt s i t) :=
  (congrArg (fun x : Slice => tget ({} : Trk) x.trks t) (sliceAt_modSlice_self s i fun x => { x with trks := tmod {} x.trks t f })).trans
    (tget_tmod_self ..)

/-- A changed tracker has all its deliveries reported when the change leaves it none to wait for. -/
theorem allDelivered_modTrk (s : State) (i t : Nat) (f : Trk → Trk) : allDelivered (trkAt (modTrk s i t f) i t) = true ↔
    (f (trkAt s i t)).deliver = 0 ∧ ((f (trkAt s i t)).chainWait = false ∨ (f (trkAt s i t)).deliverChain = 0) := by
  rw [trkAt_modTrk_self]
  simp only [allDelivered, Bool.and_eq_true, Bool.or_eq_true, Bool.not_eq_true', decide_eq_true_eq]

/-- What a choice answers, said by an equivalent of its condition. -/
theorem next_ite_of_iff {c p : Prop} [Decidable c] {a b : State} {o : Host.Outcome State Fault Refusal}
    (ho : o = .next (if c then a else b)) (hc : c ↔ p) : (¬ p → o = .next b) ∧ (p → o = .next a) :=
  ⟨fun hp => ho.trans (congrArg _ (if_neg (mt hc.mp hp))), fun hp => ho.trans (congrArg _ (if_pos (hc.mpr hp)))⟩

/-- A report counts for the completing word while one of its messages is outstanding, and else for the CONTINUE words (log 162). -/
theorem exec_deliveryReport {i : Fin 16} {t : Fin 1024} {s : State} {chain : Bool} (st : Byte)
    (h : decide ((trkAt s i.val t.val).deliver = 0) = chain) :
    exec (.deliveryReport i t st) s = .next (deliveryReport s i.val t.val st.toNat chain) := h ▸ rfl

/-- The last report of the completing word releases a tracker that waits for it. -/
theorem exec_deliveryReport_word (i : Fin 16) (t : Fin 1024) (st : Byte) (s : State) (h : 0 < (trkAt s i.val t.val).deliver) :
    let s1 := modTrk s i.val t.val (fun y => { y with deliver := y.deliver - 1, pois := y.pois || decide (4 ≤ st.toNat ∧ st.toNat ≤ 6) })
    let x := trkAt s i.val t.val
    let last := x.deliver = 1 ∧ x.state = .waitDeliver ∧ (x.chainWait = false ∨ x.deliverChain = 0)
    (¬ last → exec (.deliveryReport i t st) s = .next s1) ∧
    (last → exec (.deliveryReport i t st) s = .next (releaseTrk s1 i.val t.val)) :=
  next_ite_of_iff ((exec_deliveryReport st (decide_eq_false h.ne')).trans (congrArg _ (if_neg h.ne')))
    ((and_congr_right' ((allDelivered_modTrk ..).trans (and_congr_left' (Nat.sub_eq_iff_eq_add h)))).trans and_left_comm)

/-- The last report of the CONTINUE words releases a tracker that waits for it. -/
theorem exec_deliveryReport_chain (i : Fin 16) (t : Fin 1024) (st : Byte) (s : State) (h0 : (trkAt s i.val t.val).deliver = 0)
    (h : 0 < (trkAt s i.val t.val).deliverChain) :
    let s1 := modTrk s i.val t.val (fun y => { y with
      deliverChain := y.deliverChain - 1, pois := y.pois || decide (4 ≤ st.toNat ∧ st.toNat ≤ 6) })
    let x := trkAt s i.val t.val
    let last := x.state = .waitDeliver ∧ (x.chainWait = false ∨ x.deliverChain = 1)
    (¬ last → exec (.deliveryReport i t st) s = .next s1) ∧
    (last → exec (.deliveryReport i t st) s = .next (releaseTrk s1 i.val t.val)) :=
  next_ite_of_iff ((exec_deliveryReport st (decide_eq_true h0)).trans (congrArg _ (if_neg h.ne')))
    (and_congr_right' ((allDelivered_modTrk ..).trans ((and_iff_right h0).trans (or_congr_right (Nat.sub_eq_iff_eq_add h)))))

theorem exec_deliveryReport_none (i : Fin 16) (t : Fin 1024) (st : Byte) (s : State) (h0 : (trkAt s i.val t.val).deliver = 0)
    (h : (trkAt s i.val t.val).deliverChain = 0) : exec (.deliveryReport i t st) s = .next s :=
  (exec_deliveryReport st (decide_eq_true h0)).trans (congrArg _ (if_pos h))

/-! ### The emission unit (R137) -/

theorem exec_emission_sink (i : Fin 16) (s : State) (h : s.silt.sink = true) : exec (.emission i) s = .next s := if_pos h

theorem exec_emission {i : Fin 16} {s : State} (h : s.silt.sink = false) {es : List Emit} (he : (sliceAt s i.val).emits = es) :
    exec (.emission i) s = .next (refillEmits ((es.take 2).foldl (fun s em => sendEmit s i.val em)
      (modSlice s i.val (fun x => { x with emits := x.emits.drop 2 }))) i.val) := by
  subst he
  exact if_neg (ne_true_of_eq_false h)

/-! ### Ends of an escalation (R121, R171) -/

theorem exec_escalationTimeout (i : Fin 16) (t : Fin 1024) (s : State) (hs : (trkAt s i.val t.val).state = .waitGrain)
    (ht : aEscTo (agentAt s ((trkAt s i.val t.val).agent.getD 0)) ≠ 15) :
    exec (.escalationTimeout i t) s = .next (escalationEnds s i.val t.val 0) := if_pos ⟨hs, ht⟩

theorem exec_escalationTimeout_still (i : Fin 16) (t : Fin 1024) (s : State) (h : (trkAt s i.val t.val).state ≠ .waitGrain ∨
    aEscTo (agentAt s ((trkAt s i.val t.val).agent.getD 0)) = 15) : exec (.escalationTimeout i t) s = .next s :=
  if_neg (not_and_or.mpr (h.imp_right not_not_intro))

theorem exec_dropNotice (i : Fin 16) (t : Fin 1024) (g : Fin 16) (st : Byte) (s : State)
    (hs : (trkAt s i.val t.val).state = .waitGrain) (hg : (trkAt s i.val t.val).gen = g.val) :
    exec (.dropNotice i t g st) s = .next (escalationEnds s i.val t.val st.toNat) := congrArg _ (if_pos ⟨hs, hg⟩)

theorem exec_dropNotice_stray (i : Fin 16) (t : Fin 1024) (g : Fin 16) (st : Byte) (s : State)
    (h : (trkAt s i.val t.val).state ≠ .waitGrain ∨ (trkAt s i.val t.val).gen ≠ g.val) :
    exec (.dropNotice i t g st) s = .next (strayAt s i.val) := congrArg _ (if_neg (not_and_or.mpr h))

/-- Settles O55, row by row from what each answers: where the row is admitted, and where it leaves the slice as it is. -/
theorem sliceCommands : Obligations.SliceCommands := by
  refine ⟨exec_evaluate, exec_evaluate_still, exec_continueChain, exec_continueChain_still,
    exec_directoryFetchComplete_ready, exec_directoryFetchComplete_wait, exec_directoryFetchComplete_still,
    exec_lockQueueHead, exec_lockQueueHead_still,
    exec_deliveryReport_word, exec_deliveryReport_chain, exec_deliveryReport_none,
    ?parked, exec_parkedRequestServe_still,
    exec_emission_sink, fun i e f rest s h he => exec_emission h he, fun i e s h he => exec_emission h he,
    exec_escalationTimeout, exec_escalationTimeout_still, exec_dropNotice, exec_dropNotice_stray⟩
  case parked =>
    intro i s hr hc
    change execParkedRequestServe i s = _
    dsimp only [execParkedRequestServe]
    cases List.find? _ _ with
    | none => rfl
    | some m => exact if_pos (evaluatorFree_of hr hc)

end Machine
end Sys2Proof
end

section
namespace Sys2Proof
namespace Machine

/-! ## Block RAM accesses and the regions' event outputs (R271 to R274, R381, R423) -/

/-- Settles O49, row by row: a region that is clocked acts, one that is not does nothing, and an output that is high already does not rise. -/
theorem blockRamAndRegionEvents : Obligations.BlockRamAndRegionEvents := by
  refine ⟨fun _ _ _ _ _ _ h => if_pos h, fun _ _ _ _ _ _ h => if_neg (ne_true_of_eq_false h), ?rise, ?still, fun _ _ _ => rfl,
    fun _ _ _ h => if_pos h, fun _ _ _ h => if_pos h, ?unclocked⟩
  case rise => exact fun p r s hclocked hlow => if_pos (congr (congrArg and hclocked) (congrArg not hlow))
  case still =>
    intro p r s h
    exact if_neg (ne_true_of_eq_false (Bool.and_eq_false_iff.mpr (h.imp_right (congrArg not))))
  case unclocked =>
    intro p r s h
    exact ⟨if_neg (ne_true_of_eq_false h), if_neg (ne_true_of_eq_false h)⟩

end Machine
end Sys2Proof
end
